-- ==== Sys2Proof/Word.lean ====
section
/-!
DEFINITION. The words of the K96 (R8 widths) and the plain arithmetic on them that nothing
else depends on: names of the widths, and the exact dyadic numbers that every number
format of chapter 02 denotes.
-/

namespace Sys2Proof

abbrev Byte := BitVec 8
abbrev Half := BitVec 16
abbrev Word := BitVec 32
abbrev DWord := BitVec 64
abbrev QWord := BitVec 128

/-- A logical core number (R19). -/
abbrev CoreIx := Fin 256
/-- A cluster index (R16). -/
abbrev ClusterIx := Fin 32
/-- A physical site, and the stall beneath it (R17). -/
abbrev SiteIx := Fin 288
/-- A logical stall (R19). -/
abbrev StallIx := Fin 256
/-- An HBM stack (R15): 0 to 7 are HW0 to HW7, 8 to 15 are HE0 to HE7. -/
abbrev StackIx := Fin 16
/-- A partition P0 to P3 (R23). -/
abbrev PartIx := Fin 4
/-- A quarter Q0 to Q3 (R23). -/
abbrev QuarterIx := Fin 4

end Sys2Proof

namespace Sys2Proof.Machine
open Sys2Proof

/-- The 2-bit tag of an accumulator element (R40). -/
inductive AccTag where
  | fin | posInf | negInf | nan
  deriving DecidableEq, Repr

/-- One accumulator element: the 96-bit integer and its tag (R36). -/
structure AccElem where
  a : BitVec 96
  tag : AccTag
  deriving DecidableEq, Repr

/-- What a fold-in operand is (R48, R50, R51). -/
inductive FoldOperand where
  /-- an accumulator element with its bank's anchor -/
  | acc (el : AccElem) (anchor : Int)
  | fp32 (x : Word)
  | bf16 (x : Half)
  | int (x : Int)
  /-- an exact sum on the grid of an anchor (R287, R444) -/
  | grid (x : Int) (anchor : Int)
  /-- an anchored-128 element of the page's own anchor -/
  | anch (b : QWord)
  deriving DecidableEq, Repr

end Sys2Proof.Machine
end

