-- ==== Sys2Proof/Syntax.lean ====
section
/-!
DEFINITION. The commands: everything that makes the block change state, as spec/opcode_table.json lists them.
Indices are `Fin` of what the part has; addresses, lengths and values that come from outside are `Nat`
or words of their width.
-/

namespace Sys2Proof.Machine
open Sys2Proof

/-- What a request to the market carries: its epoch mask M, whether it is LDL, the page's use count U (0: not
stale-on-last-use) and anchor, for a MIR page its context and the virtual address that a device-local address of it stands for,
its regulation class and deadline, its source kind (bits of Table 12-7; 6: scrub, pager and scheduler). -/
structure Acc where
  taint : Half
  ldl : Bool
  pageU : Nat
  anchor : Option Int
  mir : Option (Nat × Nat × Nat)
  cls : Nat
  deadline : Nat
  src : Nat
  deriving DecidableEq, Repr

/-- The atomic operations a request may carry (Table 5-9's operations, R141). -/
inductive AtomOp where
  | add | min | max | minu | maxu | fmin | fmax | and' | or' | xor | xchg | cas | fadd
  deriving DecidableEq, Repr

/-- What a boot step finds (Tables 21-2, 21-3, 21-5): whether the step itself succeeds, its duration in ms since PWRGOOD or the reset; sensors whose
calibration fails; failing banks (physical stall, bank); groups of bonds (unit 0 to 287 a site's vertical port, 288 + k the copy engine and control core
of cluster k; group; failing bonds); stacks that trained (stack, rate in Mb/s or 0, lanes repaired); sites, stalls, clusters and runners that fail their
tests or known-answer runs; stacks, Gwengo engines (0 west, 1 east) and the PCIe endpoint whose crypto engine fails. -/
structure BootOutcome where
  ok : Bool
  ms : Nat
  sensors : List Nat
  banks : List (Nat × Nat)
  bonds : List (Nat × Nat × Nat)
  stks : List (Nat × Nat × Nat)
  sites : List Nat
  stalls : List Nat
  clusters : List Nat
  runners : List Nat
  cryptoStacks : List Nat
  cryptoEngines : List Nat
  cryptoPcie : Bool
  deriving DecidableEq, Repr

/-- Where a dictionary frame comes from (R619 to R621): function ring 0 (the frame stands in its next slot), a source EID on PCIe or I3C MCTP, a source
address and UDP port, an SPDM session with the verdict on its tag. -/
inductive FrameSrc where
  | ring
  | pcie (eid : Fin 256)
  | i3c (eid : Fin 256)
  | udp (addr : QWord) (port : Half)
  | session (n : Fin 8) (ok : Bool)
  deriving DecidableEq, Repr

/-- What a write finds outside the block, for the two commands that ask: whether the starter partner's hosting partition is sealed for the same tenant
(FS_CMD START), the image type whose fuses fail with the count reached (AR_CMD COMMIT). -/
structure WriteFound where
  partnerOk : Bool
  fuse : Option (Fin 4 × Fin 65)
  deriving DecidableEq, Repr

/-- A register that a write without behaviour of its own reaches: a subindex of the dictionary for a requester; bytes of BAR0; bytes of a core's window or
of a cluster's window, written by a firmware processor (0 to 31 control cores, 32 scheduler core, 33 security core); BEAT of a processor's status
word; CTXSEL of a control core. -/
inductive RegTarget where
  | sub (who : Fin 16) (index : Fin 65536) (sub : Fin 256)
  | bar0 (offset : Fin 16777216)
  | core (by' : Fin 34) (core : CoreIx) (offset : Fin 1048576)
  | cluster (by' : Fin 34) (cluster : ClusterIx) (offset : Fin 65536)
  | beat (proc : Fin 64)
  | ctxsel (cluster : ClusterIx)
  deriving DecidableEq, Repr

end Sys2Proof.Machine

namespace Sys2Proof
open Sys2Proof.Machine

/-- The commands of the K96, one constructor for every row of the table of operations and events. -/
inductive Instr where
  /-- PASS (R68): a PASS descriptor (Table 6-6) with its stored CRC reaches the sequencer. -/
  | pass (core : CoreIx) (payload : BitVec 92) (crc : Word)
  /-- ANCHOR_SCAN (R80): the scan of the first queued automatic-anchor descriptor ends (R80). -/
  | anchorScan (core : CoreIx)
  /-- PASS_COMPLETE (R78): the first descriptor of the array's queue completes (R78). -/
  | passComplete (core : CoreIx)
  /-- ARRAY_ABORT (R82): the array aborts its failed descriptor (R82). -/
  | arrayAbort (core : CoreIx)
  /-- RAMP_DOWN (R85): the array begins its ramp-down (R84, R85). -/
  | rampDown (core : CoreIx)
  /-- RUN (R101): a RUN descriptor (Table 6-8, EXPORT 0) with its stored CRC reaches the sequencer. -/
  | run (core : CoreIx) (payload : BitVec 92) (crc : Word)
  /-- EXPORT_RUN (R104): a RUN descriptor with EXPORT 1 reaches the sequencer. -/
  | exportRun (core : CoreIx) (payload : BitVec 92) (crc : Word)
  /-- SUMMARY_DELIVER (R115): the records of the run held at its end enter the summary queue. -/
  | summaryDeliver (core : CoreIx)
  /-- TLD (R186): a TMOVE descriptor with OP 00 reaches the sequencer. -/
  | tld (core : CoreIx) (payload : BitVec 92) (crc : Word)
  /-- TST (R186): a TMOVE descriptor with OP 01 reaches the sequencer. -/
  | tst (core : CoreIx) (payload : BitVec 92) (crc : Word)
  /-- TCPY (R186): a TMOVE descriptor with OP 10 reaches the sequencer. -/
  | tcpy (core : CoreIx) (payload : BitVec 92) (crc : Word)
  /-- LAUNCH (R124): a LAUNCH descriptor (Table 6-11) with its stored CRC reaches the sequencer. -/
  | launch (core : CoreIx) (payload : BitVec 92) (crc : Word)
  /-- TRAY_START (R127): a tray starts in the named free slot. -/
  | trayStart (core : CoreIx) (slot : Fin 16)
  /-- TRAY_END (R159): the tray of a slot, whose lanes have exited, ends. -/
  | trayEnd (core : CoreIx) (slot : Fin 16)
  /-- LIVELOCK (R155): the tray's progress counter reaches 2^20 cycles. -/
  | livelock (core : CoreIx) (slot : Fin 16)
  /-- ADD (R173): the tray in a slot issues this instruction; p is bits [53:0] of its word. -/
  | tAdd (core : CoreIx) (slot : Fin 16) (p : BitVec 54)
  /-- SUB (R173): the tray in a slot issues this instruction; p is bits [53:0] of its word. -/
  | tSub (core : CoreIx) (slot : Fin 16) (p : BitVec 54)
  /-- MUL (R173): the tray in a slot issues this instruction; p is bits [53:0] of its word. -/
  | tMul (core : CoreIx) (slot : Fin 16) (p : BitVec 54)
  /-- MIN (R173): the tray in a slot issues this instruction; p is bits [53:0] of its word. -/
  | tMin (core : CoreIx) (slot : Fin 16) (p : BitVec 54)
  /-- MAX (R173): the tray in a slot issues this instruction; p is bits [53:0] of its word. -/
  | tMax (core : CoreIx) (slot : Fin 16) (p : BitVec 54)
  /-- MINU (R173): the tray in a slot issues this instruction; p is bits [53:0] of its word. -/
  | tMinu (core : CoreIx) (slot : Fin 16) (p : BitVec 54)
  /-- MAXU (R173): the tray in a slot issues this instruction; p is bits [53:0] of its word. -/
  | tMaxu (core : CoreIx) (slot : Fin 16) (p : BitVec 54)
  /-- AND (R173): the tray in a slot issues this instruction; p is bits [53:0] of its word. -/
  | tAnd (core : CoreIx) (slot : Fin 16) (p : BitVec 54)
  /-- OR (R173): the tray in a slot issues this instruction; p is bits [53:0] of its word. -/
  | tOr (core : CoreIx) (slot : Fin 16) (p : BitVec 54)
  /-- XOR (R173): the tray in a slot issues this instruction; p is bits [53:0] of its word. -/
  | tXor (core : CoreIx) (slot : Fin 16) (p : BitVec 54)
  /-- SHL (R173): the tray in a slot issues this instruction; p is bits [53:0] of its word. -/
  | tShl (core : CoreIx) (slot : Fin 16) (p : BitVec 54)
  /-- SHR (R173): the tray in a slot issues this instruction; p is bits [53:0] of its word. -/
  | tShr (core : CoreIx) (slot : Fin 16) (p : BitVec 54)
  /-- SAR (R173): the tray in a slot issues this instruction; p is bits [53:0] of its word. -/
  | tSar (core : CoreIx) (slot : Fin 16) (p : BitVec 54)
  /-- MOV (R173): the tray in a slot issues this instruction; p is bits [53:0] of its word. -/
  | tMov (core : CoreIx) (slot : Fin 16) (p : BitVec 54)
  /-- SEL (R170): the tray in a slot issues this instruction; p is bits [53:0] of its word. -/
  | tSel (core : CoreIx) (slot : Fin 16) (p : BitVec 54)
  /-- ADD64 (R173): the tray in a slot issues this instruction; p is bits [53:0] of its word. -/
  | tAdd64 (core : CoreIx) (slot : Fin 16) (p : BitVec 54)
  /-- SUB64 (R173): the tray in a slot issues this instruction; p is bits [53:0] of its word. -/
  | tSub64 (core : CoreIx) (slot : Fin 16) (p : BitVec 54)
  /-- MIN64 (R173): the tray in a slot issues this instruction; p is bits [53:0] of its word. -/
  | tMin64 (core : CoreIx) (slot : Fin 16) (p : BitVec 54)
  /-- MAX64 (R173): the tray in a slot issues this instruction; p is bits [53:0] of its word. -/
  | tMax64 (core : CoreIx) (slot : Fin 16) (p : BitVec 54)
  /-- LT (R170): the tray in a slot issues this instruction; p is bits [53:0] of its word. -/
  | tLt (core : CoreIx) (slot : Fin 16) (p : BitVec 54)
  /-- LE (R170): the tray in a slot issues this instruction; p is bits [53:0] of its word. -/
  | tLe (core : CoreIx) (slot : Fin 16) (p : BitVec 54)
  /-- EQ (R170): the tray in a slot issues this instruction; p is bits [53:0] of its word. -/
  | tEq (core : CoreIx) (slot : Fin 16) (p : BitVec 54)
  /-- LTU (R173): the tray in a slot issues this instruction; p is bits [53:0] of its word. -/
  | tLtu (core : CoreIx) (slot : Fin 16) (p : BitVec 54)
  /-- LEU (R173): the tray in a slot issues this instruction; p is bits [53:0] of its word. -/
  | tLeu (core : CoreIx) (slot : Fin 16) (p : BitVec 54)
  /-- LT64 (R173): the tray in a slot issues this instruction; p is bits [53:0] of its word. -/
  | tLt64 (core : CoreIx) (slot : Fin 16) (p : BitVec 54)
  /-- EQ64 (R173): the tray in a slot issues this instruction; p is bits [53:0] of its word. -/
  | tEq64 (core : CoreIx) (slot : Fin 16) (p : BitVec 54)
  /-- PAND (R170): the tray in a slot issues this instruction; p is bits [53:0] of its word. -/
  | tPand (core : CoreIx) (slot : Fin 16) (p : BitVec 54)
  /-- POR (R170): the tray in a slot issues this instruction; p is bits [53:0] of its word. -/
  | tPor (core : CoreIx) (slot : Fin 16) (p : BitVec 54)
  /-- PNOT (R170): the tray in a slot issues this instruction; p is bits [53:0] of its word. -/
  | tPnot (core : CoreIx) (slot : Fin 16) (p : BitVec 54)
  /-- FADD (R131): the tray in a slot issues this instruction; p is bits [53:0] of its word. -/
  | tFadd (core : CoreIx) (slot : Fin 16) (p : BitVec 54)
  /-- FSUB (R131): the tray in a slot issues this instruction; p is bits [53:0] of its word. -/
  | tFsub (core : CoreIx) (slot : Fin 16) (p : BitVec 54)
  /-- FMUL (R131): the tray in a slot issues this instruction; p is bits [53:0] of its word. -/
  | tFmul (core : CoreIx) (slot : Fin 16) (p : BitVec 54)
  /-- FFMA (R131): the tray in a slot issues this instruction; p is bits [53:0] of its word. -/
  | tFfma (core : CoreIx) (slot : Fin 16) (p : BitVec 54)
  /-- FMIN (R131): the tray in a slot issues this instruction; p is bits [53:0] of its word. -/
  | tFmin (core : CoreIx) (slot : Fin 16) (p : BitVec 54)
  /-- FMAX (R131): the tray in a slot issues this instruction; p is bits [53:0] of its word. -/
  | tFmax (core : CoreIx) (slot : Fin 16) (p : BitVec 54)
  /-- FABS (R131): the tray in a slot issues this instruction; p is bits [53:0] of its word. -/
  | tFabs (core : CoreIx) (slot : Fin 16) (p : BitVec 54)
  /-- FNEG (R131): the tray in a slot issues this instruction; p is bits [53:0] of its word. -/
  | tFneg (core : CoreIx) (slot : Fin 16) (p : BitVec 54)
  /-- FRCP (R131): the tray in a slot issues this instruction; p is bits [53:0] of its word. -/
  | tFrcp (core : CoreIx) (slot : Fin 16) (p : BitVec 54)
  /-- FSQRT (R131): the tray in a slot issues this instruction; p is bits [53:0] of its word. -/
  | tFsqrt (core : CoreIx) (slot : Fin 16) (p : BitVec 54)
  /-- FRSQRT (R131): the tray in a slot issues this instruction; p is bits [53:0] of its word. -/
  | tFrsqrt (core : CoreIx) (slot : Fin 16) (p : BitVec 54)
  /-- FEXP2 (R131): the tray in a slot issues this instruction; p is bits [53:0] of its word. -/
  | tFexp2 (core : CoreIx) (slot : Fin 16) (p : BitVec 54)
  /-- FLOG2 (R131): the tray in a slot issues this instruction; p is bits [53:0] of its word. -/
  | tFlog2 (core : CoreIx) (slot : Fin 16) (p : BitVec 54)
  /-- FTANH (R131): the tray in a slot issues this instruction; p is bits [53:0] of its word. -/
  | tFtanh (core : CoreIx) (slot : Fin 16) (p : BitVec 54)
  /-- FLOGISTIC (R131): the tray in a slot issues this instruction; p is bits [53:0] of its word. -/
  | tFlogistic (core : CoreIx) (slot : Fin 16) (p : BitVec 54)
  /-- FRINT (R131): the tray in a slot issues this instruction; p is bits [53:0] of its word. -/
  | tFrint (core : CoreIx) (slot : Fin 16) (p : BitVec 54)
  /-- FLT (R131): the tray in a slot issues this instruction; p is bits [53:0] of its word. -/
  | tFlt (core : CoreIx) (slot : Fin 16) (p : BitVec 54)
  /-- FLE (R131): the tray in a slot issues this instruction; p is bits [53:0] of its word. -/
  | tFle (core : CoreIx) (slot : Fin 16) (p : BitVec 54)
  /-- FEQ (R131): the tray in a slot issues this instruction; p is bits [53:0] of its word. -/
  | tFeq (core : CoreIx) (slot : Fin 16) (p : BitVec 54)
  /-- F2X (R170): the tray in a slot issues this instruction; p is bits [53:0] of its word. -/
  | tF2x (core : CoreIx) (slot : Fin 16) (p : BitVec 54)
  /-- X2F (R170): the tray in a slot issues this instruction; p is bits [53:0] of its word. -/
  | tX2f (core : CoreIx) (slot : Fin 16) (p : BitVec 54)
  /-- MOVS (R170): the tray in a slot issues this instruction; p is bits [53:0] of its word. -/
  | tMovs (core : CoreIx) (slot : Fin 16) (p : BitVec 54)
  /-- JMP (R135): the tray in a slot issues this instruction; p is bits [53:0] of its word. -/
  | tJmp (core : CoreIx) (slot : Fin 16) (p : BitVec 54)
  /-- JMPI (R135): the tray in a slot issues this instruction; p is bits [53:0] of its word. -/
  | tJmpi (core : CoreIx) (slot : Fin 16) (p : BitVec 54)
  /-- SSY (R134): the tray in a slot issues this instruction; p is bits [53:0] of its word. -/
  | tSsy (core : CoreIx) (slot : Fin 16) (p : BitVec 54)
  /-- BRD (R134): the tray in a slot issues this instruction; p is bits [53:0] of its word. -/
  | tBrd (core : CoreIx) (slot : Fin 16) (p : BitVec 54)
  /-- BRK (R134): the tray in a slot issues this instruction; p is bits [53:0] of its word. -/
  | tBrk (core : CoreIx) (slot : Fin 16) (p : BitVec 54)
  /-- SYNC (R134): the tray in a slot issues this instruction; p is bits [53:0] of its word. -/
  | tSync (core : CoreIx) (slot : Fin 16) (p : BitVec 54)
  /-- EXIT (R134): the tray in a slot issues this instruction; p is bits [53:0] of its word. -/
  | tExit (core : CoreIx) (slot : Fin 16) (p : BitVec 54)
  /-- PROGRESS (R154): the tray in a slot issues this instruction; p is bits [53:0] of its word. -/
  | tProgress (core : CoreIx) (slot : Fin 16) (p : BitVec 54)
  /-- LD (R137): the tray in a slot issues this instruction; p is bits [53:0] of its word. -/
  | tLd (core : CoreIx) (slot : Fin 16) (p : BitVec 54)
  /-- LDL (R245): the tray in a slot issues this instruction; p is bits [53:0] of its word. -/
  | tLdl (core : CoreIx) (slot : Fin 16) (p : BitVec 54)
  /-- ST (R138): the tray in a slot issues this instruction; p is bits [53:0] of its word. -/
  | tSt (core : CoreIx) (slot : Fin 16) (p : BitVec 54)
  /-- FOLD (R251): the tray in a slot issues this instruction; p is bits [53:0] of its word. -/
  | tFold (core : CoreIx) (slot : Fin 16) (p : BitVec 54)
  /-- TRAY_FENCE (R139): the tray in a slot issues this instruction; p is bits [53:0] of its word. -/
  | trayFence (core : CoreIx) (slot : Fin 16) (p : BitVec 54)
  /-- ATOM_ADD (R142): the tray in a slot issues this instruction; p is bits [53:0] of its word. -/
  | atomAdd (core : CoreIx) (slot : Fin 16) (p : BitVec 54)
  /-- ATOM_MIN (R142): the tray in a slot issues this instruction; p is bits [53:0] of its word. -/
  | atomMin (core : CoreIx) (slot : Fin 16) (p : BitVec 54)
  /-- ATOM_MAX (R142): the tray in a slot issues this instruction; p is bits [53:0] of its word. -/
  | atomMax (core : CoreIx) (slot : Fin 16) (p : BitVec 54)
  /-- ATOM_MINU (R142): the tray in a slot issues this instruction; p is bits [53:0] of its word. -/
  | atomMinu (core : CoreIx) (slot : Fin 16) (p : BitVec 54)
  /-- ATOM_MAXU (R142): the tray in a slot issues this instruction; p is bits [53:0] of its word. -/
  | atomMaxu (core : CoreIx) (slot : Fin 16) (p : BitVec 54)
  /-- ATOM_FMIN (R142): the tray in a slot issues this instruction; p is bits [53:0] of its word. -/
  | atomFmin (core : CoreIx) (slot : Fin 16) (p : BitVec 54)
  /-- ATOM_FMAX (R142): the tray in a slot issues this instruction; p is bits [53:0] of its word. -/
  | atomFmax (core : CoreIx) (slot : Fin 16) (p : BitVec 54)
  /-- ATOM_AND (R142): the tray in a slot issues this instruction; p is bits [53:0] of its word. -/
  | atomAnd (core : CoreIx) (slot : Fin 16) (p : BitVec 54)
  /-- ATOM_OR (R142): the tray in a slot issues this instruction; p is bits [53:0] of its word. -/
  | atomOr (core : CoreIx) (slot : Fin 16) (p : BitVec 54)
  /-- ATOM_XOR (R142): the tray in a slot issues this instruction; p is bits [53:0] of its word. -/
  | atomXor (core : CoreIx) (slot : Fin 16) (p : BitVec 54)
  /-- XCHG (R142): the tray in a slot issues this instruction; p is bits [53:0] of its word. -/
  | xchg (core : CoreIx) (slot : Fin 16) (p : BitVec 54)
  /-- CAS (R142): the tray in a slot issues this instruction; p is bits [53:0] of its word. -/
  | cas (core : CoreIx) (slot : Fin 16) (p : BitVec 54)
  /-- ATOM_FADD (R142): the tray in a slot issues this instruction; p is bits [53:0] of its word. -/
  | atomFadd (core : CoreIx) (slot : Fin 16) (p : BitVec 54)
  /-- LOCK (R147): the tray in a slot issues this instruction; p is bits [53:0] of its word. -/
  | tLock (core : CoreIx) (slot : Fin 16) (p : BitVec 54)
  /-- UNLOCK (R147): the tray in a slot issues this instruction; p is bits [53:0] of its word. -/
  | tUnlock (core : CoreIx) (slot : Fin 16) (p : BitVec 54)
  /-- ACP (R156): the tray in a slot issues this instruction; p is bits [53:0] of its word. -/
  | acp (core : CoreIx) (slot : Fin 16) (p : BitVec 54)
  /-- ACP_COMPLETE (R157): an asynchronous copy of the tray in a slot completes; id numbers the core's copies in order of issue. -/
  | acpComplete (core : CoreIx) (slot : Fin 16) (id : Nat)
  /-- WAITA (R157): the tray in a slot issues this instruction; p is bits [53:0] of its word. -/
  | waita (core : CoreIx) (slot : Fin 16) (p : BitVec 54)
  /-- TSPLIT (R166): the tray in a slot issues this instruction; p is bits [53:0] of its word. -/
  | tsplit (core : CoreIx) (slot : Fin 16) (p : BitVec 54)
  /-- TPACK (R167): the tray in a slot issues this instruction; p is bits [53:0] of its word. -/
  | tpack (core : CoreIx) (slot : Fin 16) (p : BitVec 54)
  /-- TASK_START (R176): the idle sequencer begins its next task. -/
  | taskStart (core : CoreIx)
  /-- DESCRIPTOR_FETCH (R177): the next block of the descriptor stream arrives. -/
  | descriptorFetch (core : CoreIx)
  /-- OPD (R183): an OPD descriptor (Table 6-7) reaches the sequencer. -/
  | opd (core : CoreIx) (payload : BitVec 92) (crc : Word)
  /-- OPS (R183): an OPS descriptor (Table 6-7) reaches the sequencer. -/
  | ops (core : CoreIx) (payload : BitVec 92) (crc : Word)
  /-- BIND (R185): a BIND descriptor (Table 6-9) reaches the sequencer. -/
  | bind (core : CoreIx) (payload : BitVec 92) (crc : Word)
  /-- BINDX (R185): a BINDX descriptor reaches the sequencer. -/
  | bindx (core : CoreIx) (payload : BitVec 92) (crc : Word)
  /-- VARG_X (R186): a VARG descriptor with SEL 0 reaches the sequencer. -/
  | vargX (core : CoreIx) (payload : BitVec 92) (crc : Word)
  /-- VARG_STREAM (R186): a VARG descriptor with SEL 1 reaches the sequencer. -/
  | vargStream (core : CoreIx) (payload : BitVec 92) (crc : Word)
  /-- VARG_DRAW (R186): a VARG descriptor with SEL 2 reaches the sequencer. -/
  | vargDraw (core : CoreIx) (payload : BitVec 92) (crc : Word)
  /-- COPY_LINEAR (R238): a COPY descriptor (Table 6-12) with MODE 0 reaches the sequencer. -/
  | copyLinear (core : CoreIx) (payload : BitVec 92) (crc : Word)
  /-- COPY_STRIDED (R238): a COPY descriptor with MODE 1 reaches the sequencer. -/
  | copyStrided (core : CoreIx) (payload : BitVec 92) (crc : Word)
  /-- COPY_TRANSPOSE8 (R238): a COPY descriptor with MODE 2 reaches the sequencer. -/
  | copyTranspose8 (core : CoreIx) (payload : BitVec 92) (crc : Word)
  /-- COPY_TRANSPOSE16 (R238): a COPY descriptor with MODE 3 reaches the sequencer. -/
  | copyTranspose16 (core : CoreIx) (payload : BitVec 92) (crc : Word)
  /-- COPY_FILL (R238): a COPY descriptor with MODE 4 reaches the sequencer. -/
  | copyFill (core : CoreIx) (payload : BitVec 92) (crc : Word)
  /-- COPY_PREFETCH (R238): a COPY descriptor with MODE 5 reaches the sequencer. -/
  | copyPrefetch (core : CoreIx) (payload : BitVec 92) (crc : Word)
  /-- COPY_COMPLETE (R239): the first copy of the core's queue completes. -/
  | copyComplete (core : CoreIx)
  /-- WAIT (R189): a WAIT descriptor reaches the sequencer. -/
  | waitDesc (core : CoreIx) (payload : BitVec 92) (crc : Word)
  /-- PHASE (R198): a PHASE descriptor reaches the sequencer. -/
  | phaseDesc (core : CoreIx) (payload : BitVec 92) (crc : Word)
  /-- FENCE (R192): a FENCE descriptor reaches the sequencer. -/
  | fenceDesc (core : CoreIx) (payload : BitVec 92) (crc : Word)
  /-- BCLR (R197): a BCLR descriptor reaches the sequencer. -/
  | bclr (core : CoreIx) (payload : BitVec 92) (crc : Word)
  /-- END (R193): a CTRL descriptor with OP 0 reaches the sequencer. -/
  | endTask (core : CoreIx) (payload : BitVec 92) (crc : Word)
  /-- JUMP (R189): a CTRL descriptor with OP 1 reaches the sequencer. -/
  | jumpDesc (core : CoreIx) (payload : BitVec 92) (crc : Word)
  /-- NOP (R189): a CTRL descriptor with OP 2 reaches the sequencer. -/
  | nopDesc (core : CoreIx) (payload : BitVec 92) (crc : Word)
  /-- TRAP_RESUME (R201): the control core replies to the record of a core and slot. -/
  | trapResume (core : CoreIx) (slot : Fin 16)
  /-- TRAP_SKIP (R201): the control core replies to the record of a core and slot. -/
  | trapSkip (core : CoreIx) (slot : Fin 16)
  /-- TRAP_ABORT (R201): the control core replies to the record of a core and slot. -/
  | trapAbort (core : CoreIx) (slot : Fin 16)
  /-- SUMHEAD_READ (R207): the control core reads SUMHEAD. -/
  | sumheadRead (cluster : ClusterIx)
  /-- SUMACK (R203): the control core writes n to SUMACK. -/
  | sumack (cluster : ClusterIx) (n : Nat)
  /-- TRAPACK (R203): the control core writes n to TRAPACK. -/
  | trapack (cluster : ClusterIx) (n : Nat)
  /-- COMPACK (R203): the control core writes n to COMPACK. -/
  | compack (cluster : ClusterIx) (n : Nat)
  /-- TASKPORT (R205): the control core writes a task word to the port of a rank. -/
  | taskport (cluster : ClusterIx) (rank : Fin 8) (word : QWord)
  /-- COMPLETION_RECORD_ENTER (R206): a record held at the core enters the completion queue. -/
  | completionRecordEnter (core : CoreIx)
  /-- OPEN (R260): a requester (control core 0 to 31, 32 scheduler core, 33 security core) writes EPCMD [27:0] with OP 1. -/
  | openEpoch (who : Fin 34) (word : BitVec 28)
  /-- JOIN (R260): a requester writes EPCMD with OP 2. -/
  | join (who : Fin 34) (word : BitVec 28)
  /-- COMMIT (R265): a requester writes EPCMD with OP 3. -/
  | commit (who : Fin 34) (word : BitVec 28)
  /-- COMMIT_COMPLETE (R265): every stall has finished the COMMIT of a mask. -/
  | commitComplete (mask : Half)
  /-- CANCEL (R266): a requester writes EPCMD with OP 4. -/
  | cancel (who : Fin 34) (word : BitVec 28)
  /-- CANCEL_COMPLETE (R266): every stall and core has finished the CANCEL of a mask. -/
  | cancelComplete (mask : Half)
  /-- DRAFT_FULL (R267): a draft access to a sector has waited 2 bells for a shadow way. -/
  | draftFull (sector : Nat) (taint : Half)
  /-- MARKET_READ (R220): a unit reads n bytes of one line by device-local address, for a core or another unit. -/
  | marketRead (acc : Acc) (addr n : Nat) (core : Option CoreIx)
  /-- MARKET_WRITE (R219): a unit writes bytes of one line. -/
  | marketWrite (acc : Acc) (addr : Nat) (bytes : List Byte) (poison : Bool)
  /-- STALL_ATOMIC (R143): a unit sends one atomic request of lanes (operand, compare value) to a word of 4 or 8 bytes. -/
  | stallAtomic (acc : Acc) (op : AtomOp) (wide : Bool) (addr : Nat) (lanes : List (Nat × Nat))
  /-- FOLD_IN_ARRIVE (R252): a fold-in request reaches the stall of a sector. -/
  | foldInArrive (acc : Acc) (sector fmt : Nat) (elems : List (Nat × FoldOperand)) (source : Nat)
  /-- FOLD_APPLY (R252): the fold unit of a stall applies its oldest request. -/
  | foldUnitApply (stall : StallIx)
  /-- CACHE_FILL (R219): a sector fetched for a miss arrives. -/
  | cacheFill (acc : Acc) (sector : Nat)
  /-- EVICTION (R257): the way of a line is evicted. -/
  | eviction (line : Nat)
  /-- WRITEBACK_ACCEPT (R257): the HBM controller accepts the write-back of a closed way. -/
  | writebackAccept (line : Nat)
  /-- RSV_APPLY (R226): a requester writes a nonzero RSV_KIND. -/
  | rsvApply (who : Fin 16) (entry : Fin 16) (kind : Nat)
  /-- RSV_RELEASE (R226): a requester writes RSV_KIND 0. -/
  | rsvRelease (who : Fin 16) (entry : Fin 16)
  /-- RB_BIND (R274): a requester's RB_CMD write of 1. -/
  | rbBind (who : Fin 16)
  /-- RB_UNBIND (R274): a requester's RB_CMD write of 2. -/
  | rbUnbind (who : Fin 16)
  /-- RING_TAIL_REPORT (R276): the stall that holds a ring's header reports a new TAIL with the writer's mask. -/
  | ringTailReport (unit : Fin 18) (chan : Fin 256) (tail : DWord) (mask : Half)
  /-- POOL (R284): the runner runs the POOL job at the head of a channel. -/
  | pool (runner : StackIx) (chan : Fin 64)
  /-- SPMV (R288): the runner runs the SPMV job at the head of a channel. -/
  | spmv (runner : StackIx) (chan : Fin 64)
  /-- SPMTV (R289): the runner runs the SPMTV job at the head of a channel. -/
  | spmtv (runner : StackIx) (chan : Fin 64)
  /-- PREFETCH (R280): the runner runs the PREFETCH job at the head of a channel. -/
  | prefetchJob (runner : StackIx) (chan : Fin 64)
  /-- RUNNER_JOB_DONE (R278): a job whose outputs are accepted is recorded. -/
  | runnerJobDone (runner : StackIx) (chan : Fin 64)
  /-- RUNNER_HALT (R299): a job that cannot go on halts its channel. -/
  | runnerHalt (runner : StackIx) (chan : Fin 64)
  /-- RING_RESUME (R300): a CTRL write of RESUME with the writer's mask. -/
  | ringResume (unit : Fin 18) (chan : Fin 256) (mask : Half)
  /-- RING_SKIP (R300): a CTRL write of SKIP with the writer's mask. -/
  | ringSkip (unit : Fin 18) (chan : Fin 256) (mask : Half)
  /-- RING_ABORT (R300): a CTRL write of ABORT with the writer's mask. -/
  | ringAbort (unit : Fin 18) (chan : Fin 256) (mask : Half)
  /-- CX_CREATE (R306): a requester's CX_CMD write of 1. -/
  | cxCreate (who : Fin 16)
  /-- CX_SET (R306): a requester's CX_CMD write of 2. -/
  | cxSet (who : Fin 16)
  /-- CX_SETKEY (R306): a requester's CX_CMD write of 3. -/
  | cxSetkey (who : Fin 16)
  /-- CX_DESTROY (R306): a requester's CX_CMD write of 4. -/
  | cxDestroy (who : Fin 16)
  /-- CX_SELECT (R306): a requester's CX_CMD write of 5. -/
  | cxSelect (who : Fin 16)
  /-- RG_MAP (R310): a requester's RG_CMD write of 1. -/
  | rgMap (who : Fin 16)
  /-- RG_ALIAS (R310): a requester's RG_CMD write of 2. -/
  | rgAlias (who : Fin 16)
  /-- RG_FREE (R310): a requester's RG_CMD write of 3. -/
  | rgFree (who : Fin 16)
  /-- RG_PIN (R310): a requester's RG_CMD write of 4. -/
  | rgPin (who : Fin 16)
  /-- RG_UNPIN (R310): a requester's RG_CMD write of 5. -/
  | rgUnpin (who : Fin 16)
  /-- RG_SELECT (R310): a requester's RG_CMD write of 6. -/
  | rgSelect (who : Fin 16)
  /-- WALK (R317): a translation-cache miss of a core's unit, or of another unit at a node, reaches its walker set. -/
  | walk (core : Option CoreIx) (cluster : ClusterIx) (ctx : Fin 4096) (va : Nat) (write : Bool)
  /-- DEMAND_ALLOC (R319): a walk has reached a DEM entry. -/
  | demandAlloc (core : Option CoreIx) (cluster : ClusterIx) (ctx : Fin 4096) (va : Nat) (write : Bool)
  /-- SHOOTDOWN_COMPLETE (R318): every translation cache has acknowledged a shootdown. -/
  | shootdownComplete
  /-- HEAT_FLUSH (R325): a translation cache (a core's, or 256 + cluster for the others of a node) evicts an entry. -/
  | heatFlush (cache : Fin 288) (ctx : Fin 4096) (va : Nat)
  /-- PAGER_INTERVAL (R327): a bell that is a multiple of PG_INTERVAL. -/
  | pagerInterval
  /-- PROMOTE (R328): the pager promotes the page of a context at a page start. -/
  | promote (ctx : Fin 4096) (va : Nat)
  /-- DEMOTE (R328): the pager demotes the page of a context at a page start. -/
  | demote (ctx : Fin 4096) (va : Nat)
  /-- DOORBELL (R341): a doorbell write by the host (0), the fabric (1) or a local producer (2). -/
  | doorbell (path : Fin 3) (who : Fin 34) (queue : Fin 1048576) (tail : DWord) (whole : Bool)
  /-- ENTRY_CHECK (R337): the head entry of a queue is read and checked, with the verdict of its seal tag. -/
  | entryCheck (queue : Fin 1048576) (tagOk : Bool)
  /-- BARRIER_COMPLETE (R338): the BARRIER at the head of a queue completes. -/
  | barrierComplete (queue : Fin 1048576)
  /-- SELECTION (R351): one run of the selection procedure, with the dispatch time measured. -/
  | selection (ns : Nat)
  /-- COMPLETION_WRITE (R345): the next completion of a queue is written. -/
  | completionWrite (queue : Fin 1048576)
  /-- WQ_CREATE (R364): a requester's WQ_CMD write of 1. -/
  | wqCreate (who : Fin 16)
  /-- WQ_SET (R364): a requester's WQ_CMD write of 2. -/
  | wqSet (who : Fin 16)
  /-- WQ_PAUSE (R364): a requester's WQ_CMD write of 3. -/
  | wqPause (who : Fin 16)
  /-- WQ_ENABLE (R364): a requester's WQ_CMD write of 4. -/
  | wqEnable (who : Fin 16)
  /-- WQ_DRAIN (R334): a requester's WQ_CMD write of 5. -/
  | wqDrain (who : Fin 16)
  /-- WQ_DESTROY (R364): a requester's WQ_CMD write of 6. -/
  | wqDestroy (who : Fin 16)
  /-- WQ_SELECT (R364): a requester's WQ_CMD write of 7. -/
  | wqSelect (who : Fin 16)
  /-- QUEUE_MIRROR (R360): a bell that is a multiple of WQ_MIRROR_PERIOD. -/
  | queueMirror
  /-- HBM_ARBITRATE (R389): a pseudo-channel (channel × 2 + half) chooses its next request, with the percentages of transfers that classes 8 and 9 received. -/
  | hbmArbitrate (stack : Fin 16) (pc : Fin 64) (share8 share9 : Nat)
  /-- HBM_READ_COMPLETE (R388): the read that a pseudo-channel issued first completes, measured in ns. -/
  | hbmReadComplete (stack : Fin 16) (pc : Fin 64) (ns : Nat)
  /-- REFRESH (R375): a per-bank refresh falls due. -/
  | refresh (stack : Fin 16) (pc bank : Fin 64)
  /-- STACK_TEMP_READ (R374): the controller reads its stack's sensor in °C; none: no answer. -/
  | stackTempRead (stack : Fin 16) (reading : Option Int)
  /-- POWER_DOWN_ENTRY (R372): a pseudo-channel has been idle for so many MCLK. -/
  | powerDownEntry (stack : Fin 16) (pc : Fin 64) (idle : Nat)
  /-- PHASE_RETRAIN (R379): a pseudo-channel retrains its phase every 1 ms. -/
  | phaseRetrain (stack : Fin 16) (pc : Fin 64) (ok : Bool)
  /-- PARITY_ERROR (R379): a command fails with a parity error for the attempt-th time. -/
  | parityError (stack : Fin 16) (pc : Fin 64) (attempt : Fin 5) (retrainOk : Bool)
  /-- MERGE (R380): the merge unit of a stack performs its oldest merge. -/
  | merge (stack : Fin 16)
  /-- CONGESTION_LEVEL (R391): a controller's occupancy crosses a threshold. -/
  | congestionLevel (stack : Fin 16)
  /-- LEVEL_BROADCAST (R390): the controllers broadcast their class levels. -/
  | levelBroadcast
  /-- RW_ENABLE (R386): a requester's RW_CMD write of 1. -/
  | rwEnable (who : Fin 16) (window : Fin 64)
  /-- RW_DISABLE (R386): a requester's RW_CMD write of 2. -/
  | rwDisable (who : Fin 16) (window : Fin 64)
  /-- CORRECTING_WRITEBACK (R401): a correcting write-back reaches its memory (0 market sector, 1 HBM sector, 2 word of a core's bench, 3 shadow of a market sector) with what its correcting read found. -/
  | correctingWriteback (place : Fin 4) (unit addr : Nat) (was : BitVec 256) (chk : Half)
  /-- SCRUB_READ (R405): the patrol of the market or of HBM reads its next sector. -/
  | scrubRead (hbm : Bool)
  /-- RT_RETIRE (R409): a requester's RT_CMD write of 1. -/
  | rtRetire (who : Fin 16)
  /-- RT_SELECT (R409): a requester's RT_CMD write of 2. -/
  | rtSelect (who : Fin 16)
  /-- TS_WRITE_DATA (R411): a requester's TS_CMD write of 1. -/
  | tsWriteData (who : Fin 16)
  /-- TS_WRITE_CHECK (R411): a requester's TS_CMD write of 2. -/
  | tsWriteCheck (who : Fin 16)
  /-- TS_WRITE_BOTH (R411): a requester's TS_CMD write of 3. -/
  | tsWriteBoth (who : Fin 16)
  /-- TS_READ_RAW (R411): a requester's TS_CMD write of 4. -/
  | tsReadRaw (who : Fin 16)
  /-- BOND_ERROR (R609): a transfer error at one wire of a bond group of a site (0 to 287) or of cluster k's copy engine and control core (288 + k). -/
  | bondError (unit : Fin 320) (group : Fin 256) (wire : Fin 34)
  /-- PORT_FAILURE (R419): A port loses alignment or exceeds its FEC limit and retrains. -/
  | portFailure (port : Fin 18)
  /-- PORT_RETRY_TRAIN (R418): A FENCED port tries to train again every 10 s. -/
  | portRetryTrain (port : Fin 18)
  /-- FP_RETRAIN (R418): FP_CMD RETRAIN retrains a port. -/
  | fpRetrain (who : Fin 16) (port : Fin 18)
  /-- FRAME_RECEIVE (R424): a Gwengo frame arrives on a port with its header, poison map, tag and deciphered payload, the verdicts of the frame check and of the tag, and the CE mark. -/
  | frameReceive (port : Fin 18) (hdr : BitVec 512) (pmap tag : QWord) (payload : List Byte) (fcsOk tagOk ce : Bool)
  /-- PUT_FRAME (R425): an engine applies the PUT frame it admitted first. -/
  | putFrame (engine : Fin 2)
  /-- GETREQ (R425): an engine answers the GETREQ frame it admitted first with its next GETRESP. -/
  | getreq (engine : Fin 2)
  /-- GETRESP (R425): an engine writes the GETRESP frame it admitted first. -/
  | getresp (engine : Fin 2)
  /-- FOLD_FRAME (R425): an engine applies the FOLD frame it admitted first. -/
  | foldFrame (engine : Fin 2)
  /-- DONE_FRAME (R432): an engine takes the DONE frame it admitted first. -/
  | doneFrame (engine : Fin 2)
  /-- MIRROR_FRAME (R453): an engine logs the starter records of the MIRROR frame that is next in its flow. -/
  | mirrorFrame (engine : Fin 2)
  /-- CUT_APPLY (R453): a hosting partition applies its log up to the latest CUT that came from both engines. -/
  | cutApply (part : PartIx)
  /-- REDIRECT_FRAME (R457): an engine takes the REDIRECT frame it admitted first. -/
  | redirectFrame (engine : Fin 2)
  /-- ACK (R436): an engine takes the ACK frame it received first. -/
  | ack (engine : Fin 2)
  /-- NACK (R440): an engine takes the NACK frame it received first. -/
  | nack (engine : Fin 2)
  /-- BEAT (R446): an engine takes the BEAT frame it received first. -/
  | beat (engine : Fin 2)
  /-- ACK_TIMER (R434): 2 µs after the oldest unacknowledged acceptance of a flow an ACK is sent. -/
  | ackTimer (engine : Fin 2) (peer : Fin 65536)
  /-- RTO_EXPIRY (R436): the retransmission timeout of a flow's oldest frame expires. -/
  | rtoExpiry (engine : Fin 2) (peer : Fin 65536)
  /-- NOTREADY_RESEND (R440): 2 µs after NACK NOTREADY frames of a flow are sent again. -/
  | notreadyResend (engine : Fin 2) (peer : Fin 65536)
  /-- MSG_TIMEOUT (R432): messages of an engine whose FB_MSG_TIMEOUT has passed end. -/
  | msgTimeout (engine : Fin 2)
  /-- BEAT_SEND (R446): an engine sends a BEAT to every device of the beat list. -/
  | beatSend (engine : Fin 2)
  /-- PEER_LOST (R448): nothing was heard from a peer for FB_BEAT_TIMEOUT. -/
  | peerLost (peer : Fin 65536)
  /-- SEND_PUT (R429): a channel's PUT job sends its next frame. -/
  | sendPut (engine : Fin 2) (chan : Fin 256)
  /-- SEND_GET (R429): a channel's GET job sends its request. -/
  | sendGet (engine : Fin 2) (chan : Fin 256)
  /-- SEND_FOLD (R429): a channel's FOLD job sends its next frame. -/
  | sendFold (engine : Fin 2) (chan : Fin 256)
  /-- ALLREDUCE (R442): a channel's ALLREDUCE job takes its next step. -/
  | allreduce (engine : Fin 2) (chan : Fin 256)
  /-- REDUCESCATTER (R442): a channel's REDUCESCATTER job takes its next step. -/
  | reducescatter (engine : Fin 2) (chan : Fin 256)
  /-- ALLGATHER (R442): a channel's ALLGATHER job takes its next step. -/
  | allgather (engine : Fin 2) (chan : Fin 256)
  /-- SEND_START (R497): the start bell of a channel's job has come. -/
  | sendStart (engine : Fin 2) (chan : Fin 256)
  /-- SEND_COMPLETE (R432): a channel's job has completed and its record is written. -/
  | sendComplete (engine : Fin 2) (chan : Fin 256)
  /-- KEY_SWITCH (R557): the keys that a flow has spent give way to their successors. -/
  | keySwitch (engine : Fin 2) (peer : Fin 65536)
  /-- KEY_RETIRE (R557): a RETIRING key is destroyed. -/
  | keyRetire (keyid : Fin 65536)
  /-- SC_BIND (R428): SC_CMD BIND binds a send channel. -/
  | scBind (who : Fin 16)
  /-- SC_UNBIND (R428): SC_CMD UNBIND unbinds a send channel. -/
  | scUnbind (who : Fin 16)
  /-- WN_CREATE (R422): WN_CMD CREATE creates a window. -/
  | wnCreate (who : Fin 16)
  /-- WN_DESTROY (R422): WN_CMD DESTROY removes a window once admitted frames are applied. -/
  | wnDestroy (who : Fin 16)
  /-- WN_SELECT (R422): WN_CMD SELECT loads a window's fields. -/
  | wnSelect (who : Fin 16)
  /-- GR_DEFINE (R442): GR_CMD DEFINE defines a collective group. -/
  | grDefine (who : Fin 16)
  /-- GR_DELETE (R442): GR_CMD DELETE deletes a group. -/
  | grDelete (who : Fin 16)
  /-- GR_SELECT (R442): GR_CMD SELECT loads a group's members. -/
  | grSelect (who : Fin 16)
  /-- FS_START (R451): FS_CMD START; `partnerOk`: the partner's hosting partition is SEALED for the same tenant. -/
  | fsStart (who : Fin 16) (part : PartIx) (partnerOk : Bool)
  /-- FS_STOP (R455): FS_CMD STOP stops the starter. -/
  | fsStop (who : Fin 16) (part : PartIx)
  /-- CUT_SEND (R453): a source engine sends the starter records of a partition, with a CUT at each FS_PERIOD bell. -/
  | cutSend (engine : Fin 2) (part : PartIx)
  /-- TAKEOVER (R456): a takeover that has begun runs its steps. -/
  | takeover (part : PartIx)
  /-- FH_TAKEOVER (R456): FH_CMD TAKEOVER starts a takeover. -/
  | fhTakeover (who : Fin 16) (part : PartIx)
  /-- FH_DISCARD (R460): FH_CMD DISCARD discards the hosted starter. -/
  | fhDiscard (who : Fin 16) (part : PartIx)
  /-- REDIRECT_COMPLETE (R456): every REDIRECT is acknowledged or FH_REDIRECT_WAIT passes, and mirrored queues are enabled. -/
  | redirectComplete (part : PartIx)
  /-- RD_SET (R457): RD_CMD SET installs a redirect. -/
  | rdSet (who : Fin 16)
  /-- RD_CLEAR (R458): RD_CMD CLEAR clears a redirect. -/
  | rdClear (who : Fin 16)
  /-- RD_SELECT (R460): RD_CMD SELECT loads a redirect's bell. -/
  | rdSelect (who : Fin 16)
  /-- BAR4_READ (R467): a host read of BAR4. -/
  | bar4Read (offset : Fin 67108864) (len : Fin 4097)
  /-- BAR4_WRITE (R467): a host posted write to BAR4, and whether its TLP is poisoned. -/
  | bar4Write (offset : Fin 67108864) (bytes : List Byte) (poisoned : Bool)
  /-- RQ_TAIL (R476): a host write of RQ_TAIL. -/
  | rqTail (ring : Fin 4) (value : Word)
  /-- FR_WAIT (R590): ring 1 WAIT asks for event records from FROM. -/
  | frWait
  /-- FR_WAIT_TIMEOUT (R590): A waiting WAIT times out with STATUS TIMEOUT. -/
  | frWaitTimeout
  /-- FR_STATUS (R589): ring 2 STATUS returns firmware versions and states. -/
  | frStatus
  /-- FR_DUMP (R591): ring 3 DUMP returns a processor's fault dump. -/
  | frDump
  /-- MSIX_SEND (R477): a vector sends its message, so many ns after its last. -/
  | msixSend (vector : Fin 2048) (ns : Nat)
  /-- FLR (R479): A function-level reset resets the host interface. -/
  | flr
  /-- PERST_N (R662): PERST_N is asserted, or a hot reset arrives. -/
  | perstN
  /-- LINK_LOSS (R479): the PCIe link goes down. -/
  | linkLoss
  /-- LINK_UP (R469): the PCIe link trains at a width and a speed in MT/s. -/
  | linkUp (lanes : Fin 17) (mts : Nat)
  /-- D3HOT_ENTRY (R479): the endpoint enters or leaves D3hot. -/
  | d3hotEntry (enter : Bool)
  /-- PTP_MEASUREMENT (R486): a valid PTP measurement of source `src` (1 the management port, 2 + i port i): local minus source time in ns, and the source's time in whole µs. -/
  | ptpMeasurement (src : Fin 20) (offset : Int) (time : DWord)
  /-- PPS_EDGE (R484): a BELL_PPS_IN edge, with its distance in ns from the second PTP gives; none: the edge of a second is missing. -/
  | ppsEdge (dev : Option Int)
  /-- SOURCE_LOSS (R486): no valid measurement for BT_LOSS_TIMEOUT moves the time base to HOLDOVER. -/
  | sourceLoss
  /-- HOLDOVER_EXPIRY (R486): BT_HOLDOVER_MAX passes and the time base enters FREERUN. -/
  | holdoverExpiry
  /-- BT_STEP (R488): BT_CMD STEP steps the bell forward and marks events STEPPED. -/
  | btStep (who : Fin 16)
  /-- SE_ARM (R498): SE_CMD ARM arms a GPIO or RECORD event. -/
  | seArm (who : Fin 16)
  /-- SE_CANCEL (R498): SE_CMD CANCEL cancels a GPIO or RECORD event. -/
  | seCancel (who : Fin 16)
  /-- SE_SELECT (R498): SE_CMD SELECT loads a slot's record. -/
  | seSelect (who : Fin 16)
  /-- SCHEDULED_EVENT (R494): the table hands the events of the present bell to their owners, with each domain's highest current of the bell before in mA. -/
  | scheduledEvent (peaks : List (Nat × Nat))
  /-- POWERUP_RETRY (R510): deferred power-ups are tried again, with each domain's highest current of the bell before in mA (compute cluster k, market group g as 32 + g). -/
  | powerupRetry (peaks : List (Nat × Nat))
  /-- POWER_SAMPLE (R514): a 20 µs sample of VIN_CORE in mV and of the estimated package power in W; bit k of `over`: the current of compute domain k exceeds its limit. -/
  | powerSample (vin watts : Nat) (ovr : Word)
  /-- CLUSTER_OVERCURRENT (R503): A domain above its limit for 10 µs raises level 2 with cause CLUSTER. -/
  | clusterOvercurrent (cluster : ClusterIx)
  /-- REGULATOR_FAIL (R504): A regulator is declared failed and leaves its grid. -/
  | regulatorFail (reg : Fin 352)
  /-- DROOP (R511): a detector crosses DR_TH1 or (`second`) DR_TH2 and reads so many mV. -/
  | droop (cluster : ClusterIx) (second : Bool) (mv : Fin 65536)
  /-- DROOP_RECOVER (R511): all detectors above DR_TH1 for 16 cycles end the stretch. -/
  | droopRecover (cluster : ClusterIx)
  /-- LEVEL2_RELEASE (R515): 100 bells without a level-2 cause let the level fall. -/
  | level2Release
  /-- FG_SCHEDULE (R519): FG_CMD SCHEDULE arms a FREQ event for the group. -/
  | fgSchedule (who : Fin 16)
  /-- PHASE_EVAL (R521): every PH_EVAL bells the power core computes demand and may arm a FREQ event. -/
  | phaseEval
  /-- AGEING_TRIM (R522): the power core measures replica slack; bit k of `low`: a replica of cluster k lies below its guard band. -/
  | ageingTrim (low : Word)
  /-- DR_CLEAR (R512): DR_CLEAR clears DR_MIN. -/
  | drClear (who : Fin 16)
  /-- THERMAL_SAMPLE (R529): a 20 µs sample: sensors whose reading changed (0.25 °C), sites whose θ_s × P_s changed (0.25 °C). -/
  | thermalSample (readings : List (Nat × Int)) (rise : List (Nat × Nat))
  /-- THERMAL_TRIP (R537): two consecutive samples of a sensor in 0.25 °C reach the trip comparator. -/
  | thermalTrip (sensor : Fin 1040) (first second : Int)
  /-- THERMAL_CYCLE_SAMPLE (R539): a second ends, with this mean of the hottest healthy compute-site sensor in 0.25 °C. -/
  | thermalCycleSample (t : Int)
  /-- TP_ENABLE (R541): TP_CMD ENABLE enables a telemetry profile. -/
  | tpEnable (who : Fin 16) (profile : Fin 4)
  /-- TP_DISABLE (R541): TP_CMD DISABLE disables a telemetry profile. -/
  | tpDisable (who : Fin 16) (profile : Fin 4)
  /-- TELEMETRY_PERIOD (R541): A profile's period ends and TP_DATA is updated. -/
  | telemetryPeriod (profile : Fin 4)
  /-- GET_VERSION (R549): SPDM GET_VERSION of a requester. -/
  | getVersion (peer : Fin 65536)
  /-- GET_CAPABILITIES (R549): SPDM GET_CAPABILITIES of a requester. -/
  | getCapabilities (peer : Fin 65536)
  /-- NEGOTIATE_ALGORITHMS (R549): SPDM NEGOTIATE_ALGORITHMS; `common`: it offers every algorithm of Table 19-2. -/
  | negotiateAlgorithms (peer : Fin 65536) (common : Bool)
  /-- GET_DIGESTS (R549): SPDM GET_DIGESTS. -/
  | getDigests (peer : Fin 65536)
  /-- GET_CERTIFICATE (R549): SPDM GET_CERTIFICATE of a portion of a slot's chain. -/
  | getCertificate (peer : Fin 65536) (slot : Fin 8) (offset length : Fin 65536)
  /-- CHALLENGE (R549): SPDM CHALLENGE. -/
  | challenge (peer : Fin 65536) (slot : Fin 8)
  /-- GET_MEASUREMENTS (R550): SPDM GET_MEASUREMENTS of one block, their number (0) or all (0xFF). -/
  | getMeasurements (peer : Fin 65536) (index : Fin 256)
  /-- KEY_EXCHANGE (R549): SPDM KEY_EXCHANGE. -/
  | keyExchange (peer : Fin 65536) (slot : Fin 8)
  /-- FINISH (R551): SPDM FINISH with the hashes of the requester's leaf key and of the key its chain ends in, and whether it verifies. -/
  | finish (session : Fin 8) (leaf root : Nat) (ok : Bool)
  /-- HEARTBEAT (R549): SPDM HEARTBEAT in a session, and whether its tag verifies. -/
  | heartbeat (session : Fin 8) (ok : Bool)
  /-- KEY_UPDATE (R549): SPDM KEY_UPDATE in a session, and whether its tag verifies. -/
  | keyUpdate (session : Fin 8) (ok : Bool)
  /-- END_SESSION (R549): SPDM END_SESSION in a session, and whether its tag verifies. -/
  | endSession (session : Fin 8) (ok : Bool)
  /-- PS_SEAL (R554): PS_CMD SEAL clears storage, draws an HBM key and seals the partition. -/
  | psSeal (who : Fin 16) (part : PartIx)
  /-- PS_UNSEAL (R555): PS_CMD UNSEAL resets the partition and destroys its keys. -/
  | psUnseal (who : Fin 16) (part : PartIx)
  /-- SK_INSTALL (R556): SK_CMD INSTALL installs a tenant key. -/
  | skInstall (who : Fin 16)
  /-- SK_DESTROY (R556): SK_CMD DESTROY destroys a key. -/
  | skDestroy (who : Fin 16)
  /-- SK_SELECT (R567): SK_CMD SELECT loads a key's state. -/
  | skSelect (who : Fin 16)
  /-- AR_COMMIT (R565): AR_CMD COMMIT; `fails`: the image type whose fuse blowing fails, with the count it reaches. -/
  | arCommit (who : Fin 16) (fails : Option (Fin 4 × Fin 65))
  /-- DBG_TOKEN (R566): a write of DBG_TOKEN. -/
  | dbgToken (who : Fin 16) (token : List Byte)
  /-- SEC_OP_ROOTS (R633): a write of SEC_OP_ROOTS. -/
  | secOpRoots (who : Fin 16) (bytes : List Byte)
  /-- SEC_CERT (R548): a write of SEC_CERT. -/
  | secCert (who : Fin 16) (chain : List Byte)
  /-- FW_STAGE (R581): FW_CMD STAGE loads and verifies a set into STAGED. -/
  | fwStage (who : Fin 16)
  /-- FW_DISCARD (R581): FW_CMD DISCARD empties STAGED. -/
  | fwDiscard (who : Fin 16)
  /-- STAGE_COMPLETE (R581): staging ends READY or REFUSED. -/
  | stageComplete
  /-- PC_SCHEDULE (R582): PC_CMD SCHEDULE arms an ACTIVATE event and preloads the idle banks. -/
  | pcSchedule (who : Fin 16)
  /-- PC_CANCEL (R583): PC_CMD CANCEL frees the activation slot. -/
  | pcCancel (who : Fin 16)
  /-- ACTIVATION_REARM (R584): when the level falls below 2, a deferred activation is re-armed 1,000,000 bells later. -/
  | activationRearm
  /-- HEALTHY (R571): the image of a processor (0 security, 1 power, 2 scheduler, 32 + k control core k) writes HEALTHY. -/
  | healthy (proc : Fin 64)
  /-- HEALTH_DEADLINE (R587): 5 s after activation without every HEALTHY, the set rolls back. -/
  | healthDeadline
  /-- WATCHDOG_EXPIRY (R572): the watchdog of a processor expires, with its fault dump and whether the stored image is poison. -/
  | watchdogExpiry (proc : Fin 64) (dump : List Byte) (poisoned : Bool)
  /-- FW_ACCESS_FAULT (R573): a processor takes an access fault at an address, or one in its trap handler. -/
  | fwAccessFault (proc : Fin 64) (addr : Nat) (inHandler : Bool)
  /-- SOLICIT_RETRY (R578): every 1 s without an OFFER the loader sends SOLICIT. -/
  | solicitRetry
  /-- OFFER (R578): a loader OFFER message arrives. -/
  | offer (msg : List Byte)
  /-- DATA (R578): a loader DATA message arrives. -/
  | data (msg : List Byte)
  /-- LOADER_ERROR (R577): a loader ERROR message arrives. -/
  | loaderError (msg : List Byte)
  /-- READ_RETRY (R578): A block missing 20 ms after its READ is requested again. -/
  | readRetry
  /-- LOADER_RESTART (R578): 2 s without DATA restarts the transfer with a new SOLICIT. -/
  | loaderRestart
  /-- COLD_BOOT (R594): PWRGOOD asserted starts a cold boot through steps 1–7. -/
  | coldBoot
  /-- PWRGOOD_DEASSERT (R661): PWRGOOD deasserted switches regulators off and the device becomes COLD. -/
  | pwrgoodDeassert
  /-- BROWNOUT (R671): an always-on rail below 90 % acts as PWRGOOD deasserted. -/
  | brownout
  /-- DEV_WARM_RESET (R600): DEV_CMD WARM_RESET runs the warm fast path. -/
  | devWarmReset (who : Fin 16)
  /-- US_FENCE (R614): US_CMD FENCE fences a unit. -/
  | usFence (who : Fin 16)
  /-- US_UNFENCE (R614): US_CMD UNFENCE returns a fenced unit to service. -/
  | usUnfence (who : Fin 16)
  /-- US_RESET (R605): US_CMD RESET resets a core or cluster by drain and absorb. -/
  | usReset (who : Fin 16)
  /-- US_RETIRE (R614): US_CMD RETIRE retires a unit. -/
  | usRetire (who : Fin 16)
  /-- US_CLEARMM (R612): US_CMD CLEARMM clears MISMATCH. -/
  | usClearmm (who : Fin 16)
  /-- PT_ASSIGN (R607): PT_CMD ASSIGN resets the partitions concerned and moves quarters. -/
  | ptAssign (who : Fin 16)
  /-- PT_RESET (R605): PT_CMD RESET resets a partition. -/
  | ptReset (who : Fin 16)
  /-- DRAIN_END (R605): a 10 µs drain ends; scope 0 a lost core, 1 a core's reset, 2 a cluster's, 3 a partition's, 5 a unit to be fenced (index kind × 1024 + unit), 6 a unit's reset, 7 entry to SAFE, 8 a lost cluster. -/
  | drainEnd (scope : Fin 9) (index : Nat)
  /-- CORE_LOSS (R608): a core is lost for a reason of the unit record. -/
  | coreLoss (core : CoreIx) (reason : Fin 16)
  /-- STALL_COPY_COMPLETE (R608): the copy of a home stall to the spare's stall completes. -/
  | stallCopyComplete (core : CoreIx)
  /-- MOVE_COMPLETE (R608): the known-answer run at the spare site ends. -/
  | moveComplete (core : CoreIx) (pass : Bool)
  /-- CLUSTER_FAIL (R22): A failed control core or copy engine fences the cluster and retires its cores. -/
  | clusterFail (cluster : ClusterIx)
  /-- FENCE_RECONCILE (R612): once per bell the security core compares the two views of unit state. -/
  | fenceReconcile
  /-- READ (R624): a dictionary READ frame arrives. -/
  | odRead (src : FrameSrc) (bytes : List Byte)
  /-- WRITE (R625): a dictionary WRITE frame arrives. -/
  | odWrite (src : FrameSrc) (bytes : List Byte) (found : WriteFound)
  /-- SEG (R625): a dictionary SEG frame arrives. -/
  | odSeg (src : FrameSrc) (bytes : List Byte)
  /-- NEXT (R624): a dictionary NEXT frame arrives. -/
  | odNext (src : FrameSrc) (bytes : List Byte)
  /-- ABORT (R626): a requester's ABORT frame arrives. -/
  | odAbort (src : FrameSrc) (bytes : List Byte)
  /-- REGISTER_WRITE (R628): bytes are written to a register or subindex with no behaviour of its own. -/
  | registerWrite (target : RegTarget) (bytes : List Byte)
  /-- TRANSACTION_TIMEOUT (R626): A transaction idle for 2 s is abandoned with ABORT TIMEOUT. -/
  | transactionTimeout (who : Fin 16) (tid : Fin 256)
  /-- REQUESTER_EXPIRY (R621): A requester silent for 60 s loses its state. -/
  | requesterExpiry (who : Fin 16)
  /-- OD_DEFAULTS (R637): OD_CMD DEFAULTS resets persistent values at the next warm reset. -/
  | odDefaults (who : Fin 16)
  /-- PERSIST_RETRY (R636): every 60 s a failed persistent record is written again. -/
  | persistRetry
  /-- RECORD_FLASH_WRITE (R648): the next queued record is programmed (0), fails twice (1), or the flash does not answer (2). -/
  | recordFlashWrite (flash : Fin 3)
  /-- ER_CLEAR (R652): ER_CMD CLEAR writes a CLEAR record and makes earlier records unreadable. -/
  | erClear (who : Fin 16)
  /-- OPTIME_PERSIST (R644): every 60 s the operating time is written to the persistent store. -/
  | optimePersist
  /-- GP_FUNC (R667): a write of GP_FUNCn. -/
  | gpFunc (who : Fin 16) (pin : Fin 8) (code : Fin 256)
  /-- GP_PERIOD (R667): a write of GP_PERIOD. -/
  | gpPeriod (who : Fin 16) (value : Word)
  /-- TRIGGER_IN (R666): A rising edge on a TRIGGER_IN pin writes a marker record. -/
  | triggerIn (pin : Fin 8)
  /-- BELL_OUT (R666): A BELL_OUT pin toggles at its period's bells. -/
  | bellOut (pin : Fin 8)
  /-- BOOT_STEP_END (R594): the step of a cold boot or warm reset in progress ends with what it found. -/
  | bootStepEnd (outcome : BootOutcome)
  /-- RESET_END (R605): a reset's scope returns to service; scopes as for the drain, and the outcome of its tests. -/
  | resetEnd (scope : Fin 9) (index : Nat) (pass : Bool)
  /-- PORT_TRAINING_END (R418): a port's training ends; bit per lane that trained. -/
  | portTrainingEnd (port : Fin 18) (lanes : Fin 16)
  /-- STACK_NOT_ANSWERING (R379): a stack stops answering. -/
  | stackNotAnswering (stack : Fin 16)
  /-- RS_HEAD (R476): a host write of RS_HEAD. -/
  | rsHead (ring : Fin 4) (value : Word)
  /-- NEIGHBOR_SOLICITATION (R415): a Neighbor Solicitation for an address arrives on a fabric port or the management port (18). -/
  | neighborSolicitation (port : Fin 19) (target : Nat)
  /-- NEIGHBOR_ADVERTISEMENT (R416): a Neighbor Advertisement of an address arrives. -/
  | neighborAdvertisement (port : Fin 19) (target : Nat) (mac : BitVec 48)
  /-- ECHO_REQUEST (R415): an ICMPv6 Echo Request with its body arrives on a fabric port. -/
  | echoRequest (port : Fin 18) (src : Nat) (body : List Byte)
  /-- MCTP_CONTROL (R595): an MCTP control message arrives over PCIe or I3C, with the identifier it assigns, if any. -/
  | mctpControl (pcie : Bool) (eid : Option (Fin 256))
  deriving DecidableEq, Repr

end Sys2Proof
end

