-- ==== Sys2Proof/Config.lean ====
section
/-!
DEFINITION. What an implementation fixes and the spec leaves open: constants without a body, so that no
proof can see their values, and constants the spec gives.
-/

namespace Sys2Proof

/-- A fresh free value (the spec states that a value results and not which); `State.freeCtr` numbers them. -/
opaque Config.freeNat : Nat → Nat

/-- The 16 check bits of a sector (R395 gives the code's properties, not its matrix). -/
opaque Config.sectorCheck : BitVec 256 → Half
/-- The symbol (0 to 67) and the error pattern that a syndrome names; none: uncorrectable (R395, R397). -/
opaque Config.sectorSymbol : Half → Option (Nat × Nat)
/-- AES-256-XTS of a sector under an HBM key (R367): key, sector number, plaintext; and its inverse. -/
opaque Config.xts : Nat → Nat → BitVec 256 → BitVec 256
opaque Config.xtsInverse : Nat → Nat → BitVec 256 → BitVec 256
/-- The tag of a SEALED frame (R427): key, IV, authenticated data. -/
opaque Config.gcmTag : Nat → Nat → List Byte → Nat
/-- AES-256 counter mode over a payload (R427): key, IV, plaintext. -/
opaque Config.counterMode : Nat → Nat → List Byte → List Byte
/-- The 128-bit block of AES-256 counter mode (R474): key, counter block. -/
opaque Config.bulkPad : Nat → Nat → Nat
/-- The 8 check bits of a 64-bit word of the bench, of the register files and of the firmware memories (R396). -/
opaque Config.wordCheck : DWord → Byte
/-- The bit (0 to 71) that a word's syndrome names; none: uncorrectable (R396). -/
opaque Config.wordBit : Byte → Option Nat

/-- SHA-384 (R547, R549, R574) of bytes, as a number. -/
opaque Config.sha384 : List Byte → Nat
/-- The SHA-384 hash of the DeviceID public key that the fused secret gives (R547). -/
opaque Config.deviceIdHash : Nat
/-- The certificate of the Alias key that a measurement of the security image gives (R547). -/
opaque Config.aliasCert : Nat → List Byte
/-- Of a certificate chain (R548): the hash of its leaf key; the fused root slot it chains to by valid signatures, if any. -/
opaque Config.certLeaf : List Byte → Nat
opaque Config.certRoot : List Byte → Option Nat
/-- The level that a debug token grants where its signature over serial number, challenge and level verifies (R566). -/
opaque Config.debugToken : List Byte → Nat → Nat → Option Nat
/-- The signature of an image verifies under its chain, whose root is the given slot (R564, R574): header, chain. -/
opaque Config.imageSigned : List Byte → List Byte → Nat → Bool
/-- The SHA-384 hash of the fused Brynron root key of a slot (R548). -/
opaque Config.rootHash : Nat → Nat
/-- The measurement of the boot ROM (Table 19-3). -/
opaque Config.romDigest : Nat

/-- The poison pattern of a sector (R397). -/
def Config.poison : Half := 0x9E37#16
/-- The poison pattern of a word (R397): all check bits inverted. -/
def Config.wordPoison : Byte := 0xFF#8

end Sys2Proof
end

