-- ==== Sys2Proof/Machine/Tab.lean ====
section
/-!
DEFINITION. Sparse tables in one canonical form: a list of (key, value) pairs, keys strictly
rising, no entry equal to what an unlisted key reads as. Every memory of the model (the bench,
market direct space, HBM) and every numbered set of units is one of these, so that equal
contents are equal data.
-/

namespace Sys2Proof.Machine

/-- A sparse table; with bytes as values this is a list of `Host.Cell`. -/
abbrev Tab (α : Type) := List (Nat × α)

/-- What key `k` holds; `d` is what an unlisted key reads as. -/
def Tab.get {α : Type} (d : α) : Tab α → Nat → α
  | [], _ => d
  | (k', v) :: r, k => if k = k' then v else if k < k' then d else Tab.get d r k

/-- `k` now holds `v`; writing what an unlisted key reads as removes the entry. -/
def Tab.set {α : Type} [DecidableEq α] (d : α) : Tab α → Nat → α → Tab α
  | [], k, v => if v = d then [] else [(k, v)]
  | (k', v') :: r, k, v =>
    if k < k' then (if v = d then (k', v') :: r else (k, v) :: (k', v') :: r)
    else if k = k' then (if v = d then r else (k, v) :: r)
    else (k', v') :: Tab.set d r k v

/-- Every key is above `lo` (when given), keys strictly rise, no value is the unlisted one. -/
def Tab.wfFrom {α : Type} [DecidableEq α] (d : α) : Option Nat → Tab α → Bool
  | _, [] => true
  | lo, (k, v) :: r =>
    (match lo with | none => true | some b => decide (b < k)) && decide (v ≠ d) && Tab.wfFrom d (some k) r

/-- The canonical form. -/
def Tab.wf {α : Type} [DecidableEq α] (d : α) (t : Tab α) : Bool := Tab.wfFrom d none t

/-- `f` applied to what key `k` holds. -/
def Tab.modify {α : Type} [DecidableEq α] (d : α) (t : Tab α) (k : Nat) (f : α → α) : Tab α :=
  Tab.set d t k (f (Tab.get d t k))

/-- Keeps only the entries that `p` allows. -/
def Tab.keep {α : Type} (p : Nat → α → Bool) (t : Tab α) : Tab α := t.filter (fun e => p e.1 e.2)

/-- Applies `f` to every listed value; a value that `f` turns into the unlisted one goes. -/
def Tab.mapVals {α : Type} [DecidableEq α] (d : α) (f : Nat → α → α) (t : Tab α) : Tab α :=
  (t.map (fun e => (e.1, f e.1 e.2))).filter (fun e => decide (e.2 ≠ d))

/-- Applies `f` to the keys `lo`, …, `lo + n - 1` in turn. -/
def Tab.modifyRange {α : Type} [DecidableEq α] (d : α) (f : Nat → α → α) : Nat → Nat → Tab α → Tab α
  | 0, _, t => t
  | n + 1, lo, t => Tab.modifyRange d f n (lo + 1) (Tab.modify d t lo (f lo))

/-- The lowest of the `n` keys from `lo` whose value satisfies `p`. -/
def Tab.findFrom {α : Type} (d : α) (p : α → Bool) (t : Tab α) : Nat → Nat → Option Nat
  | 0, _ => none
  | n + 1, lo => if p (Tab.get d t lo) then some lo else Tab.findFrom d p t n (lo + 1)

/-! Byte memories: unlisted bytes read as `d`. -/

/-- `n` bytes from address `a`. -/
def Tab.bytes (d : Byte) (t : Tab Byte) (a : Nat) : Nat → List Byte
  | 0 => []
  | n + 1 => Tab.get d t a :: Tab.bytes d t (a + 1) n

/-- Writes a list of bytes from address `a` on. -/
def Tab.setBytes (d : Byte) (t : Tab Byte) (a : Nat) : List Byte → Tab Byte
  | [] => t
  | b :: r => Tab.setBytes d (Tab.set d t a b) (a + 1) r

/-- The number that little-endian bytes hold (R8). -/
def leNat : List Byte → Nat
  | [] => 0
  | b :: r => b.toNat + 256 * leNat r

/-- The `n` little-endian bytes of a number (R8). -/
def leBytes : Nat → Nat → List Byte
  | 0, _ => []
  | n + 1, v => BitVec.ofNat 8 v :: leBytes n (v / 256)

/-- `n` bytes from `a`, little-endian, as a number. -/
def Tab.le (d : Byte) (t : Tab Byte) (a n : Nat) : Nat := leNat (Tab.bytes d t a n)

/-- Writes the `n` little-endian bytes of `v` at `a`. -/
def Tab.setLe (d : Byte) (t : Tab Byte) (a n v : Nat) : Tab Byte := Tab.setBytes d t a (leBytes n v)

end Sys2Proof.Machine
end

