-- ==== Sys2Proof/Machine/Arith.lean ====
section
/-!
DEFINITION. Chapter 02: the number formats (R30 to R34), anchored accumulation (R36 to R45), the
anchored-128 format (R47 to R51), the conversions (R52 to R55) and the sampling generator
(R58, R59), as exact integer functions.
-/

namespace Sys2Proof.Machine
open Sys2Proof

/-! ## Values -/

/-- The value of a floating-point datum: an exact dyadic with its sign kept (so that the two
zeros differ), an infinity, or a NaN with its sign (R31). `fin n m e` is ± m × 2^e. -/
inductive FVal where
  | fin (neg : Bool) (mag : Nat) (exp : Int)
  | inf (neg : Bool)
  | nan (neg : Bool)
  deriving DecidableEq, Repr

/-! ## Integers and rounding -/

/-- Number of bits of `n`: the least `b` with `n < 2^b`. -/
def bitLen (n : Nat) : Nat := if n = 0 then 0 else Nat.log2 n + 1

/-- `⌈log₂ n⌉`, 0 for 0 and 1 (R44's L). -/
def ceilLog2 (n : Nat) : Nat := if n ≤ 1 then 0 else bitLen (n - 1)

/-- The greatest `r` below `2^bits` with `r * r ≤ n`, found bit by bit from the top. -/
def isqrtBits (n : Nat) : Nat → Nat → Nat
  | 0, r => r
  | b + 1, r => if (r + 2 ^ b) * (r + 2 ^ b) ≤ n then isqrtBits n b (r + 2 ^ b) else isqrtBits n b r

/-- The integer square root. -/
def isqrt (n : Nat) : Nat := isqrtBits n (bitLen n / 2 + 1) 0

/-- A signed number within `[-(2^(b-1)), 2^(b-1) - 1]`, saturated to the bound it passes; the
flag says that it did (R39, R49). -/
def satTo (b : Nat) (x : Int) : Int × Bool :=
  if x > 2 ^ (b - 1) - 1 then (2 ^ (b - 1) - 1, true)
  else if x < -(2 ^ (b - 1)) then (-(2 ^ (b - 1)), true)
  else (x, false)

/-- ± mag × 2^e truncated toward zero to a multiple of 2^g, in units of 2^g; the flag says that a
nonzero bit was lost (R37, R38, R48). -/
def toGrid (neg : Bool) (mag : Nat) (e g : Int) : Int × Bool :=
  let sgn (n : Nat) : Int := if neg then -(n : Int) else n
  if e ≥ g then (sgn (mag <<< (e - g).toNat), false)
  else
    let k := (g - e).toNat
    if k > bitLen mag then (0, decide (mag ≠ 0))
    else (sgn (mag >>> k), decide (mag % 2 ^ k ≠ 0))

/-- ± mag / 2^k rounded to nearest, ties to even; `sticky` says that a smaller nonzero part lies
below `mag`. -/
def rneShift (mag k : Nat) (sticky : Bool) : Nat :=
  if k = 0 then mag
  else if k > bitLen mag + 1 then 0
  else
    let n := mag >>> k
    let r := mag % 2 ^ k
    let h := 2 ^ (k - 1)
    if r > h || (r = h && (sticky || n % 2 = 1)) then n + 1 else n

/-! ## Floating-point layouts (Table 2-2) -/

/-- What the top exponent of a layout means (Table 2-2). -/
inductive TopExp where
  /-- infinity for a zero mantissa, NaN otherwise -/
  | ieee
  /-- only the all-ones mantissa is special: NaN (E4M3) -/
  | nanOnly
  /-- an ordinary exponent -/
  | none
  deriving DecidableEq, Repr

/-- A floating-point layout: exponent bits, mantissa bits, bias, meaning of the top exponent. -/
structure Layout where
  eb : Nat
  mb : Nat
  bias : Nat
  top : TopExp
  deriving DecidableEq, Repr

def fp32 : Layout := ⟨8, 23, 127, .ieee⟩
def bf16 : Layout := ⟨8, 7, 127, .ieee⟩
def fp16 : Layout := ⟨5, 10, 15, .ieee⟩
def e4m3 : Layout := ⟨4, 3, 7, .nanOnly⟩
def e5m2 : Layout := ⟨5, 2, 15, .ieee⟩
def e3m2 : Layout := ⟨3, 2, 3, .none⟩
def e2m3 : Layout := ⟨2, 3, 1, .none⟩
def e2m1 : Layout := ⟨2, 1, 1, .none⟩

/-- The magnitude bits of the largest finite number of a layout. -/
def Layout.maxFinite (f : Layout) : Nat :=
  match f.top with
  | .ieee => (2 ^ f.eb - 1) * 2 ^ f.mb - 1
  | .nanOnly => 2 ^ (f.eb + f.mb) - 2
  | .none => 2 ^ (f.eb + f.mb) - 1

/-- The value of a bit pattern of a layout (R31); subnormals are values like any other. -/
def Layout.value (f : Layout) (bits : Nat) : FVal :=
  let neg := bits.testBit (f.eb + f.mb)
  let ex := (bits >>> f.mb) % 2 ^ f.eb
  let mant := bits % 2 ^ f.mb
  let ordinary : FVal :=
    if ex = 0 then .fin neg mant (1 - (f.bias : Int) - f.mb)
    else .fin neg (mant + 2 ^ f.mb) ((ex : Int) - f.bias - f.mb)
  match f.top with
  | .ieee => if ex = 2 ^ f.eb - 1 then (if mant = 0 then .inf neg else .nan neg) else ordinary
  | .nanOnly => if ex = 2 ^ f.eb - 1 ∧ mant = 2 ^ f.mb - 1 then .nan neg else ordinary
  | .none => ordinary

/-- Magnitude bits of mag × 2^e rounded to nearest, ties to even, with gradual underflow. The result
may pass `maxFinite`: the caller says what an overflow becomes. -/
def Layout.roundMag (f : Layout) (mag : Nat) (e : Int) (sticky : Bool) : Nat :=
  if mag = 0 then 0
  else
    let top : Int := (Nat.log2 mag : Int) + e
    let emin : Int := 1 - f.bias
    let q : Int := (if top < emin then emin else top) - f.mb
    let n := if e ≥ q then mag <<< (e - q).toNat else rneShift mag (q - e).toNat sticky
    ((q + f.mb + f.bias - 1).toNat) * 2 ^ f.mb + n

/-- The sign bit of a layout, as a number to add. -/
def Layout.signBit (f : Layout) (neg : Bool) : Nat := if neg then 2 ^ (f.eb + f.mb) else 0

/-- Rounds ± mag × 2^e to the layout; an overflow gives the infinity of its sign where the layout has
one and `sat` is off, NaN of its sign in E4M3 with `sat` off, otherwise the largest finite number
of its sign (Table 2-7). -/
def Layout.round (f : Layout) (sat neg : Bool) (mag : Nat) (e : Int) (sticky : Bool) : Nat :=
  let r := f.roundMag mag e sticky
  let ovr := f.signBit neg +
    (if sat then f.maxFinite
     else match f.top with
       | .ieee => (2 ^ f.eb - 1) * 2 ^ f.mb
       | .nanOnly => 2 ^ (f.eb + f.mb) - 1
       | .none => f.maxFinite)
  if r > f.maxFinite then ovr else f.signBit neg + r

/-! ## FP32 arithmetic (IEEE 754-2019, round to nearest even, canonical NaN of R31) -/

/-- The canonical NaN in FP32 (R31). -/
def nan32 : Word := 0x7FC00000#32

def fval (x : Word) : FVal := fp32.value x.toNat

/-- FP32 bits of ± mag × 2^e, rounded once. -/
def round32 (neg : Bool) (mag : Nat) (e : Int) (sticky : Bool) : Word :=
  BitVec.ofNat 32 (fp32.round false neg mag e sticky)

def inf32 (neg : Bool) : Word := if neg then 0xFF800000#32 else 0x7F800000#32
def zero32 (neg : Bool) : Word := if neg then 0x80000000#32 else 0#32

/-- Rounds a value to FP32; every NaN becomes the canonical one. -/
def FVal.toWord : FVal → Word
  | .fin n m e => round32 n m e false
  | .inf n => inf32 n
  | .nan _ => nan32

/-- A signed integer times 2^e as a value; zero is +0. -/
def ofIntExp (x e : Int) : FVal := .fin (decide (x < 0)) x.natAbs e

def FVal.neg : FVal → FVal
  | .fin n m e => .fin (!n) m e
  | .inf n => .inf (!n)
  | .nan n => .nan n

/-- ± mag as an integer in units of 2^g, for g at most the exponent. -/
def unitsAt (n : Bool) (m : Nat) (e g : Int) : Int :=
  let v : Int := (m <<< (e - g).toNat : Nat)
  if n then -v else v

/-- Exact sum, with IEEE 754's sign of a zero sum under round to nearest. -/
def FVal.add : FVal → FVal → FVal
  | .nan _, _ => .nan false
  | _, .nan _ => .nan false
  | .inf a, .inf b => if a = b then .inf a else .nan false
  | .inf a, .fin _ _ _ => .inf a
  | .fin _ _ _, .inf b => .inf b
  | .fin n1 m1 e1, .fin n2 m2 e2 =>
    let g := if e1 ≤ e2 then e1 else e2
    let x := unitsAt n1 m1 e1 g + unitsAt n2 m2 e2 g
    if x = 0 then .fin (n1 && n2 && decide (m1 = 0) && decide (m2 = 0)) 0 0 else ofIntExp x g

/-- Exact product. -/
def FVal.mul : FVal → FVal → FVal
  | .nan _, _ => .nan false
  | _, .nan _ => .nan false
  | .inf a, .inf b => .inf (a != b)
  | .inf a, .fin b m _ => if m = 0 then .nan false else .inf (a != b)
  | .fin a m _, .inf b => if m = 0 then .nan false else .inf (a != b)
  | .fin n1 m1 e1, .fin n2 m2 e2 => .fin (n1 != n2) (m1 * m2) (e1 + e2)

/-- Scales by a power of two, exactly. -/
def FVal.scale (t : Int) : FVal → FVal
  | .fin n m e => .fin n m (e + t)
  | v => v

def FVal.isNan : FVal → Bool | .nan _ => true | _ => false
def FVal.isInf : FVal → Bool | .inf _ => true | _ => false
def FVal.isFin : FVal → Bool | .fin _ _ _ => true | _ => false
def FVal.isZero : FVal → Bool | .fin _ m _ => decide (m = 0) | _ => false
def FVal.isNeg : FVal → Bool | .fin n _ _ => n | .inf n => n | .nan n => n

/-- Ordered comparison of two finite values or infinities: `a < b`; false with a NaN. -/
def FVal.lt : FVal → FVal → Bool
  | .nan _, _ => false
  | _, .nan _ => false
  | .inf a, .inf b => a && !b
  | .inf a, .fin _ _ _ => a
  | .fin _ _ _, .inf b => !b
  | .fin n1 m1 e1, .fin n2 m2 e2 =>
    let g := if e1 ≤ e2 then e1 else e2
    decide (unitsAt n1 m1 e1 g < unitsAt n2 m2 e2 g)

/-- Equality of values (+0 equals −0); false with a NaN. -/
def FVal.eqv : FVal → FVal → Bool
  | .nan _, _ => false
  | _, .nan _ => false
  | a, b => !(FVal.lt a b) && !(FVal.lt b a)

def fadd32 (a b : Word) : Word := ((fval a).add (fval b)).toWord
def fsub32 (a b : Word) : Word := ((fval a).add (fval b).neg).toWord
def fmul32 (a b : Word) : Word := ((fval a).mul (fval b)).toWord
/-- a × b + c with one rounding. -/
def ffma32 (a b c : Word) : Word := (((fval a).mul (fval b)).add (fval c)).toWord

/-- n / d × 2^e rounded once to FP32, d > 0: the quotient is taken to 64 bits beyond FP32's need. -/
def quot32 (neg : Bool) (n d : Nat) (e : Int) : Word :=
  let k := 64 + bitLen d
  let q := (n <<< k) / d
  round32 neg q (e - k) (decide ((n <<< k) % d ≠ 0))

/-- The FP32 square root of mag × 2^e rounded once, mag > 0. -/
def sqrt32 (mag : Nat) (e : Int) : Word :=
  let odd := decide (e % 2 ≠ 0)
  let m := if odd then 2 * mag else mag
  let e' := if odd then e - 1 else e
  let k := 64
  let s := isqrt (m <<< (2 * k))
  round32 false s (e' / 2 - k) (decide (s * s ≠ m <<< (2 * k)))

/-- The FP32 reciprocal square root of mag × 2^e rounded once, mag > 0: the root of
2^(2k) / m taken below, sticky unless exact. -/
def rsqrt32 (mag : Nat) (e : Int) : Word :=
  let odd := decide (e % 2 ≠ 0)
  let m := if odd then 2 * mag else mag
  let e' := if odd then e - 1 else e
  let k := 64 + bitLen m
  let s := isqrt ((1 <<< (2 * k)) / m)
  round32 false s (-(e' / 2) - k) (decide (s * s * m ≠ 1 <<< (2 * k)))

/-! ## Format codes (R30) -/

/-- The class columns of Table 2-3. -/
inductive PairClass where
  | narrow | integer | wide
  deriving DecidableEq, Repr

/-- The operand class of a format code, for the codes whose matrix-array column reads yes. -/
def fmtClass (c : Nat) : Option PairClass :=
  if c = 0 ∨ c = 1 then some .integer
  else if c ≤ 9 then some .narrow
  else if c = 0xA ∨ c = 0xB then some .wide
  else none

/-- MX formats carry a scale array (R30, R34). -/
def fmtIsMx (c : Nat) : Bool := decide (4 ≤ c ∧ c ≤ 9)

/-- Bits per element (Table 2-1). -/
def fmtBits (c : Nat) : Nat :=
  match c with
  | 0 => 8 | 1 => 4 | 2 => 8 | 3 => 8 | 4 => 8 | 5 => 8 | 6 => 6 | 7 => 6 | 8 => 4 | 9 => 8
  | 0xA => 16 | 0xB => 16 | 0xC => 32 | 0xD => 32 | 0xE => 64 | _ => 128

/-- The pair belongs to one class of Table 2-3 (R35); INT4 × INT8 is not listed but INT8 × INT4 and
INT4 × INT4 are one class, so either order belongs to it. -/
def pairClass (a b : Nat) : Option PairClass :=
  match fmtClass a, fmtClass b with
  | some x, some y => if x = y then some x else none
  | _, _ => none

/-- Two's complement of the low `b` bits. -/
def sext (b : Nat) (n : Nat) : Int :=
  let m := n % 2 ^ b
  if m < 2 ^ (b - 1) then m else (m : Int) - 2 ^ b

/-- The value of one element of a format before any block scale (R31, R32). -/
def fmtValue (c : Nat) (bits : Nat) : FVal :=
  match c with
  | 0 => ofIntExp (sext 8 bits) 0
  | 1 => ofIntExp (sext 4 bits) 0
  | 2 => e4m3.value bits | 3 => e5m2.value bits
  | 4 => e4m3.value bits | 5 => e5m2.value bits
  | 6 => e3m2.value bits | 7 => e2m3.value bits | 8 => e2m1.value bits
  | 9 => ofIntExp (sext 8 bits) (-6)
  | 0xA => bf16.value bits | 0xB => fp16.value bits | 0xC => fp32.value bits
  | 0xD => ofIntExp (sext 32 bits) 0
  | 0xE => ofIntExp (sext 64 bits) 0
  | _ => ofIntExp (sext 128 bits) 0

/-- The E8M0 scale s: none is the NaN scale 0xFF, otherwise the exponent s − 127 (R33). -/
def scaleExp (s : Nat) : Option Int := if s % 256 = 255 then none else some ((s % 256 : Nat) - 127)

/-- An element with its block scale (R33). -/
def scaled (s : Nat) (v : FVal) : FVal :=
  match scaleExp s with
  | none => .nan false
  | some t => v.scale t

/-- Bit offset of element `j` in a packed array of a format: back to back, little-endian (R34). The four
6-bit elements of a 24-bit group lie in rising bit order, so the packing is plain. -/
def elemBitOffset (c j : Nat) : Nat := j * fmtBits c

/-- Element `j` of packed little-endian bytes (R34). -/
def unpackElem (c : Nat) (bytes : List Byte) (j : Nat) : Nat :=
  (leNat bytes >>> elemBitOffset c j) % 2 ^ fmtBits c

/-! ## The anchored accumulator (R36 to R45) -/

/-- R40's tag of a sum. -/
def tagSum : AccTag → AccTag → AccTag
  | .fin, x => x
  | x, .fin => x
  | .posInf, .posInf => .posInf
  | .negInf, .negInf => .negInf
  | _, _ => .nan

def AccElem.zero : AccElem := ⟨0#96, .fin⟩

/-- A product on the grid of anchor A: the truncated integer, its tag, whether a bit was lost
(R37, R38, R40). Integer pairs use A = 64, so the grid is the integers. -/
def gridProduct (anchor : Int) (x y : FVal) : Int × AccTag × Bool :=
  match x.mul y with
  | .fin n m e => let r := toGrid n m e (anchor - 64); (r.1, .fin, r.2)
  | .inf n => (0, if n then .negInf else .posInf, false)
  | .nan _ => (0, .nan, false)

/-- Adds an exact integer and a tag into an element, saturating at 96 bits (R39); the flag is SAT. -/
def AccElem.add (el : AccElem) (x : Int) (t : AccTag) : AccElem × Bool :=
  let r := satTo 96 (el.a.toInt + x)
  (⟨BitVec.ofInt 96 r.1, tagSum el.tag t⟩, r.2)

/-- R43's realignment of one element from anchor A to A': the new element, SAT, LOSTLOW. -/
def AccElem.realign (el : AccElem) (a a' : Int) : AccElem × Bool × Bool :=
  let x := el.a.toInt
  if a' ≤ a then
    let r := satTo 96 (x * 2 ^ (a - a').toNat)
    (⟨BitVec.ofInt 96 r.1, el.tag⟩, r.2, false)
  else
    let k := (a' - a).toNat
    let r := toGrid (decide (x < 0)) x.natAbs 0 k
    (⟨BitVec.ofInt 96 r.1, el.tag⟩, false, r.2)

/-- The format magnitude M of Table 2-6. -/
def fmtMagnitude (c : Nat) : Int :=
  match c with
  | 2 => 9 | 4 => 9 | 3 => 16 | 5 => 16 | 6 => 5 | 7 => 3 | 8 => 3 | 9 => 1 | _ => 0

/-- The largest remaining scale exponent of a list of scale bytes; 0 when none remains (R44). -/
def maxScale (scales : List Byte) : Int :=
  match scales.filterMap (fun b => scaleExp b.toNat) with
  | [] => 0
  | x :: r => r.foldl (fun m y => if y > m then y else m) x

/-- Clamps an anchor into −1,024 … 1,023 (R44). -/
def clampAnchor (a : Int) : Int := if a < -1024 then -1024 else if a > 1023 then 1023 else a

/-- The automatic anchor (R44). -/
def autoAnchor (fmtA fmtB k head : Nat) (scalesA scalesB : List Byte) : Int :=
  clampAnchor (maxScale scalesA + maxScale scalesB + fmtMagnitude fmtA + fmtMagnitude fmtB
    + (ceilLog2 k : Int) - 31 + head)

/-! ## Reading results (R52 to R55) -/

/-- An accumulator element as FP32 with scale t (R52); a zero reads as +0. -/
def accToFp32 (el : AccElem) (anchor t : Int) : Word :=
  match el.tag with
  | .posInf => inf32 false
  | .negInf => inf32 true
  | .nan => nan32
  | .fin => (ofIntExp el.a.toInt (anchor - 64 + t)).toWord

/-- An anchored-128 element as FP32 (R52). -/
def anch128ToFp32 (b : QWord) (ap t : Int) : Word := (ofIntExp b.toInt (ap - 64 + t)).toWord

/-- An integer-bank element read as a `w`-bit integer: the value, SAT, and INV with NAN_IN (R53). -/
def accToInt (w : Nat) (el : AccElem) : Int × Bool × Bool :=
  match el.tag with
  | .fin => let r := satTo w el.a.toInt; (r.1, r.2, false)
  | _ => (0, false, true)

/-- A value rounded to an integer, nearest, ties to even. -/
def rneInt (n : Bool) (m : Nat) (e : Int) : Int :=
  let r := if e ≥ 0 then m <<< e.toNat else rneShift m (-e).toNat false
  if n then -(r : Int) else r

/-- A conversion to a `w`-bit integer: the value, SAT, INV (R54). -/
def fvalToInt (w : Nat) : FVal → Int × Bool × Bool
  | .nan _ => (0, false, true)
  | .inf n => (if n then -(2 ^ (w - 1)) else 2 ^ (w - 1) - 1, true, false)
  | .fin n m e => let r := satTo w (rneInt n m e); (r.1, r.2, false)

/-- FP32 narrowed to a floating-point layout (R54, Table 2-7): the bits and whether a finite value
overflowed. The NaN keeps its sign in the FP8 formats and is the canonical one elsewhere. -/
def narrowFloat (f : Layout) (sat : Bool) (v : FVal) : Nat × Bool :=
  match v with
  | .nan n =>
    match f.top with
    | .nanOnly => (f.signBit n + (2 ^ (f.eb + f.mb) - 1), false)
    | .ieee =>
      let q := (2 ^ f.eb - 1) * 2 ^ f.mb + 2 ^ (f.mb - 1)
      (if f.mb = 2 then f.signBit n + q else q, false)
    | .none => (0, false)
  | .inf n =>
    match f.top with
    | .ieee => (f.signBit n + (2 ^ f.eb - 1) * 2 ^ f.mb, false)
    | .nanOnly => (f.signBit n + (if sat then f.maxFinite else 2 ^ (f.eb + f.mb) - 1), false)
    | .none => (f.signBit n + f.maxFinite, false)
  | .fin n m e => (f.round sat n m e false, decide (f.roundMag m e false > f.maxFinite))

/-- `⌊log₂ (m × 2^e)⌋` for m > 0. -/
def floorLog2 (m : Nat) (e : Int) : Int := (Nat.log2 m : Int) + e

/-- The magnitude of a finite value is larger. -/
def magLt (m1 : Nat) (e1 : Int) (m2 : Nat) (e2 : Int) : Bool :=
  FVal.lt (.fin false m1 e1) (.fin false m2 e2)

/-- The element layout of an MX format code. -/
def mxLayout (c : Nat) : Layout :=
  match c with
  | 4 => e4m3 | 5 => e5m2 | 6 => e3m2 | 7 => e2m3 | _ => e2m1

/-- R55 step 4's e. -/
def mxE (c : Nat) : Int := match c with | 4 => 8 | 5 => 15 | 6 => 4 | 7 => 2 | 8 => 2 | _ => 0

/-- One element of an MX block from a value already divided by the scale (R55 steps 5 and 6). -/
def mxElem (c : Nat) (v : FVal) : Nat :=
  if c = 9 then
    match v with
    | .fin n m e => ((satTo 8 (rneInt n m (e + 6))).1 % 256).toNat
    | .inf n => if n then 128 else 127
    | .nan _ => 0
  else
    match v with
    | .fin n m e => (mxLayout c).round true n m e false
    | .inf n => (mxLayout c).signBit n + (mxLayout c).maxFinite
    | .nan _ => 0

/-- R55: 32 values to one MX block: the scale byte and the elements' bits. -/
def mxQuantise (c : Nat) (vs : List FVal) : Nat × List Nat :=
  if vs.any FVal.isNan then (0xFF, vs.map (fun _ => 0))
  else
    let amax := vs.foldl (fun (b : Nat × Int) v =>
      match v with
      | .fin _ m e => if magLt b.1 b.2 m e then (m, e) else b
      | _ => b) (0, 0)
    let ex : Int := if amax.1 = 0 then 0
      else
        let x := floorLog2 amax.1 amax.2 - mxE c
        if x < -127 then -127 else if x > 127 then 127 else x
    ((ex + 127).toNat, vs.map (fun v => mxElem c (v.scale (-ex))))

/-! ## Fold-in arithmetic (R47 to R51) -/

/-- The flags of a fold-in's completion (R49, R51). -/
structure FoldFlags where
  sat : Bool
  lostlow : Bool
  nan : Bool
  deriving DecidableEq, Repr

def FoldFlags.none : FoldFlags := ⟨false, false, false⟩
def FoldFlags.or (a b : FoldFlags) : FoldFlags := ⟨a.sat || b.sat, a.lostlow || b.lostlow, a.nan || b.nan⟩

/-- The operand on the grid of A_p, its LOSTLOW; none for an infinity or NaN (R48, R49). -/
def foldToGrid (ap : Int) : FoldOperand → Option (Int × Bool)
  | .acc el anchor =>
    if el.tag = .fin then some (toGrid (decide (el.a.toInt < 0)) el.a.toInt.natAbs (anchor - 64) (ap - 64))
    else none
  | .fp32 x =>
    match fval x with
    | .fin n m e => some (toGrid n m e (ap - 64))
    | _ => none
  | .bf16 x =>
    match Machine.bf16.value x.toNat with
    | .fin n m e => some (toGrid n m e (ap - 64))
    | _ => none
  | .int x => some (toGrid (decide (x < 0)) x.natAbs 0 (ap - 64))
  | .grid x anchor => some (toGrid (decide (x < 0)) x.natAbs (anchor - 64) (ap - 64))
  | .anch b => some (b.toInt, false)

/-- An anchored-128 fold-in (R48, R49). -/
def foldAnch128 (ap : Int) (b : QWord) (op : FoldOperand) : QWord × FoldFlags :=
  match foldToGrid ap op with
  | none => (b, ⟨false, false, true⟩)
  | some (x, lost) =>
    let r := satTo 128 (b.toInt + x)
    (BitVec.ofInt 128 r.1, ⟨r.2, lost, false⟩)

def isFinite32 (x : Word) : Bool := (fval x).isFin

/-- An FP32 fold-in (R51). -/
def foldFp32 (old x : Word) : Word × FoldFlags :=
  let r := fadd32 old x
  (r, ⟨false, false, !(isFinite32 x) || !(isFinite32 r)⟩)

/-- BF16 widened to FP32. -/
def widenBf16 (x : Half) : Word := BitVec.ofNat 32 (x.toNat * 65536)

/-- FP32 rounded to BF16. -/
def toBf16 (x : Word) : Half := BitVec.ofNat 16 (narrowFloat bf16 false (fval x)).1

/-- A BF16 fold-in, staged in FP32 (R51). -/
def foldBf16 (old : Half) (x : Word) : Half × FoldFlags :=
  let r := toBf16 (fadd32 (widenBf16 old) x)
  (r, ⟨false, false, !(isFinite32 x) || !(isFinite32 (widenBf16 r))⟩)

/-- An INT32 or INT64 fold-in adds modulo 2^w (R50). -/
def foldInt (w old : Nat) (x : Int) : Nat := (((old : Int) + x) % 2 ^ w).toNat

/-! ## The sampling generator (R58, R59) -/

/-- One round of Philox-4×32. -/
def philoxRound (c : Word × Word × Word × Word) (k0 k1 : Word) : Word × Word × Word × Word :=
  let p0 := 0xD2511F53 * c.1.toNat
  let p1 := 0xCD9E8D57 * c.2.2.1.toNat
  (BitVec.ofNat 32 (p1 / 2 ^ 32) ^^^ c.2.1 ^^^ k0, BitVec.ofNat 32 p1,
   BitVec.ofNat 32 (p0 / 2 ^ 32) ^^^ c.2.2.2 ^^^ k1, BitVec.ofNat 32 p0)

/-- `n` rounds, the key words bumped between rounds by the published constants. -/
def philoxRounds : Nat → Word × Word × Word × Word → Word → Word → Word × Word × Word × Word
  | 0, c, _, _ => c
  | n + 1, c, k0, k1 => philoxRounds n (philoxRound c k0 k1) (k0 + 0x9E3779B9#32) (k1 + 0xBB67AE85#32)

/-- Philox-4×32-10 (R58): r0 to r3. -/
def philox (key : DWord) (ctr : QWord) : Word × Word × Word × Word :=
  philoxRounds 10
    (ctr.extractLsb' 0 32, ctr.extractLsb' 32 32, ctr.extractLsb' 64 32, ctr.extractLsb' 96 32)
    (key.extractLsb' 0 32) (key.extractLsb' 32 32)

/-- The draw of element index e (R59): counter = stream : ⌊e/4⌋, word e mod 4. -/
def draw (key stream : DWord) (e : Nat) : Word :=
  let r := philox key (stream ++ BitVec.ofNat 64 (e / 4))
  match e % 4 with
  | 0 => r.1
  | 1 => r.2.1
  | 2 => r.2.2.1
  | _ => r.2.2.2

/-- The uniform draw in [0, 1): (r >> 8) × 2^−24 (R59). -/
def uniformHalfOpen (r : Word) : Word := round32 false (r.toNat / 256) (-24) false
/-- The uniform draw in (0, 1]: ((r >> 8) + 1) × 2^−24 (R59). -/
def uniformOpenHalf (r : Word) : Word := round32 false (r.toNat / 256 + 1) (-24) false

end Sys2Proof.Machine
end

