-- ==== Sys2Proof/Machine/State.lean ====
section
/-!
DEFINITION. The state of the K96 as plain data: every register, queue, buffer, counter, mode and
pin that chapters 01 to 24 name, and the queue of commands that are waiting. Field names follow
the spec's. The `reset` values beside the structures are the values of cold power: each register
at the value the spec gives, otherwise the value that notes/assumptions names.
-/

namespace Sys2Proof.Machine
open Sys2Proof

/-- Where something that leaves the block goes: the sender of the command, the dictionary requester, the
host, a fabric port, a firmware processor, the management network, a core unit, a package pin. -/
inductive OutPort where
  | sender | dict | host | fabric | firmware | mgmt | core | pin | runner
  deriving DecidableEq, Repr

/-- One thing that left the block, oldest first in `State.out` (the model's own field): a code and the
values that go with it. -/
structure Out where
  port : OutPort
  code : Nat
  vals : List Nat
  deriving DecidableEq, Repr

/-! ## Runners and rings (chapter 9; the send channels of chapter 14 use the same rings) -/

/-- An output a draft job holds (R295): a write of bytes, or a fold-in of elements in a format. -/
structure HeldOut where
  fold : Bool
  addr : Nat
  bytes : List Byte
  fmt : Nat
  elems : List (Nat × FoldOperand)
  deriving DecidableEq, Repr

/-- A runner's job (R277 to R302): its number, descriptor, mask, whether it was a draft job; the bag to continue with and the
stream position of the record; bags complete, hits, misses, the flag bits [219:213] of the record; the status it ended with and
whether it has ended; whether a full hold buffer stopped it; what it holds. -/
structure RunJob where
  num : Nat
  desc : BitVec 512
  mask : Half
  tainted : Bool
  bag : Nat
  pos : Nat
  bags : Nat
  hits : Nat
  misses : Nat
  flags : Nat
  status : Nat
  ended : Bool
  full : Bool
  held : List HeldOut
  deriving DecidableEq, Repr

/-- A channel (R274 to R278, R428): its ring, the state shown in its header (Table 9-1), the next job DONE, the jobs that reports
have announced (numbers below a TAIL, with the mask of the report, oldest first), the reports that wait (R298), the bell of each report (Table 14-4), whether it halted
beyond its ring (R276), its job. -/
structure Chan where
  bound : Bool
  ctx : Nat
  ring : Nat
  ent : Nat
  st : Nat
  done : Nat
  ann : List (Nat × Half)
  waiting : List (Nat × Half)
  reps : List (Nat × Nat)
  ovr : Bool
  run : Option RunJob
  deriving DecidableEq, Repr

/-- Counters of a runner (Table 9-9). -/
structure Runner where
  indices : Nat
  hits : Nat
  misses : Nat
  halts : Nat
  stale : Nat
  deriving DecidableEq, Repr

def Chan.blank : Chan := ⟨false, 0, 0, 0, 0, 0, [], [], [], false, none⟩
def Runner.blank : Runner := ⟨0, 0, 0, 0, 0⟩

/-! ## The market, HBM and stored-data protection (chapters 07, 08, 12, 13) -/

/-- Role state of a market frame (R213). -/
inductive FrameRole where
  | cache | placed | landing | absent
  deriving DecidableEq, Repr

/-- Base state of a sector (Table 8-1). -/
inductive SecBase where
  | absent | valid | partl | dead
  deriving DecidableEq, Repr

/-- Shadow state of a sector (Table 8-2). -/
inductive ShKind where
  | none | value | delta | dead
  deriving DecidableEq, Repr

/-- The shadow of a sector: its kind, epoch mask S, content, and for a DELTA the format and the mask of
elements that received a fold-in (R244, R255). `chk` is the stored check bits XOR the correct ones. -/
structure Shadow where
  kind : ShKind
  mask : Half
  data : BitVec 256
  chk : Half
  fmt : Nat
  elems : Half
  deriving DecidableEq, Repr

/-- A market sector (R243): base state, content, dirty bit (R219), uses since the last write (R245),
format and element mask of a PARTIAL (R255), the stored check bits XOR the correct ones (R397: zero is
clean, 0x9E37 is poison), the page's use count U, anchor A_p and, for a MIR page, its context and virtual address, as last carried
by a request, the shadow. -/
structure Sector where
  base : SecBase
  data : BitVec 256
  chk : Half
  dirty : Bool
  used : Nat
  fmt : Nat
  elems : Half
  pageU : Nat
  anchor : Option Int
  mir : Option (Nat × Nat)
  sh : Shadow
  deriving DecidableEq, Repr

/-- A sector as HBM stores it: content and check bits XOR the correct ones (R395, R397). -/
structure HbmSector where
  data : BitVec 256
  chk : Half
  deriving DecidableEq, Repr

/-- Where a line of HBM space is cached: frame row plus one (0: not cached), last-use stamp, and whether
an eviction has closed the way (R218, R257). -/
structure LineRec where
  row1 : Nat
  stamp : Nat
  deriving DecidableEq, Repr

/-- A way closed by an eviction whose write-back is not accepted yet (R257): the line, its stall, set and frame row, and the base
sectors it holds. -/
structure ClosedWay where
  line : Nat
  stall : Nat
  set : Nat
  row : Nat
  secs : List Sector
  deriving DecidableEq, Repr

/-- A fold-in request to one sector (R250): sector number, format code, elements, epoch mask, the page's
use count and anchor, the issuer. -/
structure FoldReq where
  sector : Nat
  fmt : Nat
  elems : List (Nat × FoldOperand)
  taint : Half
  pageU : Nat
  anchor : Option Int
  mir : Option (Nat × Nat × Nat)
  source : Nat
  deriving DecidableEq, Repr

/-- A reservation entry 0x4010 + n in force (R222, Table 7-4): its kind (0 none), partition, quarter, first row and rows,
base and present bytes. -/
structure Rsv where
  kind : Nat
  part : Nat
  quarter : Nat
  row0 : Nat
  rows : Nat
  base : Nat
  bytes : Nat
  deriving DecidableEq, Repr

/-- A COMMIT or CANCEL that is not complete (R260): its mask, whether it cancels, who sent it (a control core 0 to 31, 32 the
scheduler core, 33 the security core, 34 the K96 itself). -/
structure Closing where
  mask : Half
  cancel : Bool
  who : Nat
  deriving DecidableEq, Repr

/-- Draft epoch (R259): 0 FREE, 1 OPEN, 2 CLOSING; the partition; cause of the last cancellation;
whether CLOSING is by CANCEL. -/
structure Epoch where
  st : Nat
  part : Nat
  cause : Nat
  cancelling : Bool
  deriving DecidableEq, Repr

/-- Counters of Table 8-8. -/
structure MktCounters where
  staleReads : Nat
  staleDropped : Nat
  staleTraps : Nat
  foldApplied : Nat
  foldRefused : Nat
  foldSat : Nat
  foldLostlow : Nat
  foldMerges : Nat
  commits : Nat
  cancels : Nat
  full : Nat
  deriving DecidableEq, Repr

/-- The market (R209 to R271). Keys: `frames` quarter × 20480 + frame (R212), `sectors` device-local address
/ 32, `lines` device-local address / 128, `shWays` line ↦ frame row plus one of its shadow way (R261), `foldQ`
logical stall, `stallBand` and `stallCap` physical stall (cap in eighths, 0: none). -/
structure Market where
  frames : Tab FrameRole
  sectors : Tab Sector
  lines : Tab LineRec
  shWays : Tab Nat
  closed : List ClosedWay
  stamp : Nat
  foldQ : Tab (List FoldReq)
  rsv : Tab Rsv
  stallBand : Tab Nat
  stallCap : Tab Nat
  epochs : Tab Epoch
  closings : List Closing
  epres : Tab Word
  cnt : MktCounters
  deriving DecidableEq, Repr

/-- A request held by a stack's controller (R371): number in acceptance order, device-local address of the
sector, 0 read / 1 write, regulation class, carried deadline in bells (0xFFFF: none), the
bell at which it entered (R387). -/
structure HbmReq where
  seq : Nat
  addr : Nat
  kind : Nat
  cls : Nat
  deadline : Nat
  bell : Nat
  deriving DecidableEq, Repr

/-- A PARTIAL sector that a controller's merge unit holds (R380): its number in acceptance order, the sector number, the sector as
written back, the request it goes under. -/
structure MergeReq where
  seq : Nat
  sector : Nat
  part : Sector
  acc : Acc
  deriving DecidableEq, Repr

/-- One stack and its controller (Table 12-8; R371, R375, R379, R388, R389, R391). Keys of the tables:
`lat` class (the value in units of 2^-16 ns), `postponed` and `rowOpen` (row plus one) pseudo-channel × 64 + bank, `poweredDown`,
`parityRun`, `passes` and `rr7` pseudo-channel. -/
structure Stack where
  rate : Nat
  repairs : Nat
  temp : Int
  band : Nat
  reads : Nat
  writes : Nat
  merges : Nat
  mergeSat : Nat
  mergeLost : Nat
  parity : Nat
  retrains : Nat
  refPostponed : Nat
  occMax : Nat
  readQ : List HbmReq
  writeQ : List HbmReq
  mergeQ : List MergeReq
  inService : List HbmReq
  lat : Tab Nat
  level : Nat
  hotRequest : Bool
  postponed : Tab Nat
  poweredDown : Tab Bool
  parityRun : Tab Nat
  rowOpen : Tab Nat
  passes : Tab Nat
  rr7 : Tab Nat
  deriving DecidableEq, Repr

/-- A regulation window (Table 12-9): whether it is enabled and the values enabled. -/
structure RegWindow where
  enabled : Bool
  base : Nat
  stop : Nat
  sources : Nat
  cls : Nat
  deriving DecidableEq, Repr

/-- HBM and regulation (Tables 12-8 and 12-9). -/
structure Hbm where
  sectors : Tab HbmSector
  stks : Tab Stack
  windows : Tab RegWindow
  held : Nat
  netLevel : Tab Nat
  seq : Nat
  lat5 : Tab Nat
  deriving DecidableEq, Repr

/-- One record of the error log (Table 13-3). -/
structure EccRec where
  kind : Nat
  mem : Nat
  unit : Nat
  symbol : Nat
  count : Nat
  addr : Nat
  bell : Nat
  deriving DecidableEq, Repr

/-- Stored-data protection (Table 13-5): mode, periods, counters by memory, the log, retirement, the
split-write port, the scrub position, and the places already corrected and written back (R407). -/
structure Ecc where
  ce : Tab Nat
  ue : Tab Nat
  refetched : Nat
  poisonRead : Nat
  corrWb : Nat
  scrubPasses : Nat
  log : List EccRec
  fixedAt : List (Nat × Nat × Nat × Nat)
  retBlocks : List Nat
  retFrames : List Nat
  bankMap : List (Nat × Nat)
  scrubStall : Nat
  scrubLine : Nat
  scrubQuarter : Nat
  scrubAddr : Nat
  deriving DecidableEq, Repr

/-- No shadow (Table 8-2). -/
def Shadow.none : Shadow := ⟨.none, 0#16, 0#256, 0#16, 0, 0#16⟩
/-- A sector the market does not list: ABSENT in the cache role; in market direct space it stands for a
VALID sector of zeros. -/
def Sector.blank : Sector := ⟨.absent, 0#256, 0#16, false, 0, 0, 0#16, 0, Option.none, Option.none, Shadow.none⟩
def HbmSector.blank : HbmSector := ⟨0#256, 0#16⟩
def LineRec.blank : LineRec := ⟨0, 0⟩
def Rsv.blank : Rsv := ⟨0, 0, 0, 0, 0, 0, 0⟩
def Epoch.blank : Epoch := ⟨0, 0, 0, false⟩
def Market.reset : Market :=
  { frames := [], sectors := [], lines := [], shWays := [], closed := [], stamp := 0, foldQ := [], rsv := [],
    stallBand := [], stallCap := [], epochs := [], closings := [], epres := [],
    cnt := ⟨0, 0, 0, 0, 0, 0, 0, 0, 0, 0, 0⟩ }
def Stack.blank : Stack :=
  { rate := 0, repairs := 0, temp := 0, band := 0, reads := 0, writes := 0, merges := 0, mergeSat := 0,
    mergeLost := 0, parity := 0, retrains := 0, refPostponed := 0, occMax := 0, readQ := [], writeQ := [],
    mergeQ := [], inService := [], lat := [], level := 0, hotRequest := false, postponed := [],
    poweredDown := [], parityRun := [], rowOpen := [], passes := [], rr7 := [] }
def RegWindow.blank : RegWindow := ⟨false, 0, 0, 0, 0⟩
def Hbm.reset : Hbm :=
  { sectors := [], stks := [], windows := [], held := 0, netLevel := [], seq := 0, lat5 := [] }
def Ecc.reset : Ecc :=
  { ce := [], ue := [], refetched := 0, poisonRead := 0, corrWb := 0,
    scrubPasses := 0, log := [], fixedAt := [], retBlocks := [], retFrames := [], bankMap := [], scrubStall := 0, scrubLine := 0, scrubQuarter := 0, scrubAddr := 0 }

/-! ## Work queues (chapter 11) -/

/-- A work entry that a doorbell has announced and whose completion is not written (R336 to R358): its number, arrival bell and
arrival number, draft mask (0: a base entry), where it stands (0 not read, 1 checked at the head, 2 its task in flight, 3 finished,
4 to be dispatched once more), the 64 bytes read, completion status, core, dispatch and end bells, RESULT, the mask that holds its
completion back, whether it was dispatched twice, whether a cancellation has discarded it while its task drains, the order in which it
finished, whether its result came from a task. -/
structure QEntry where
  num : Nat
  arrB : Nat
  arrN : Nat
  mask : Half
  st : Nat
  word : BitVec 512
  status : Nat
  lcore : Nat
  dispB : Nat
  endB : Nat
  result : Nat
  taint : Half
  retried : Bool
  dropped : Bool
  fin : Nat
  deriving DecidableEq, Repr

/-- A doorbell that waits (R354, R361): TAIL and the writer's mask. -/
structure WaitBell where
  tail : Nat
  mask : Half
  deriving DecidableEq, Repr

/-- A queue descriptor (Table 11-1) and what the scheduler keeps beside it: the entries announced, doorbells that wait, the weight
account of R351, whether it was eligible at the last selection, the last accepted seal counter (R473), whether the loss of its clusters
is recorded (R359). State: 0 FREE, 1 ENABLED, 2 PAUSED, 3 DRAINING, 4 MIGRATING. -/
structure Queue where
  st : Nat
  prod : Nat
  cls : Nat
  rcls : Nat
  order : Bool
  latedrop : Bool
  sealed : Bool
  logsz : Nat
  maxinfl : Nat
  weight : Nat
  ctx : Nat
  ebench64 : Nat
  msix : Nat
  retry : Bool
  mirq : Bool
  clmask : Word
  sq : Nat
  cq : Nat
  arrived : Nat
  taken : Nat
  completed : Nat
  infl : Nat
  draftn : Nat
  lastbell : Nat
  entries : List QEntry
  waiting : List WaitBell
  v : Nat
  elig : Bool
  ctr : Nat
  lostRec : Bool
  deriving DecidableEq, Repr

/-- The hardware scheduler: queues by number; the next arrival and finish numbers; credit of each partition in hundredths (R351); the
queue of the last IDLE dispatch; the counters of Table 11-8; the doorbells ignored in the present bell (R363). -/
structure Sched where
  queues : Tab Queue
  arrNext : Nat
  finNext : Nat
  credit : Tab Nat
  lastIdle : Nat
  doorbells : Nat
  ignored : Nat
  dispatched : Nat
  rejected : Nat
  late : Nat
  expired : Nat
  retried : Nat
  dispMax : Nat
  burstBell : Nat
  burst : Nat
  deriving DecidableEq, Repr

def Queue.blank : Queue :=
  { st := 0, prod := 0, cls := 0, rcls := 0, order := false, latedrop := false, sealed := false, logsz := 0, maxinfl := 0, weight := 0,
    ctx := 0, ebench64 := 0, msix := 0, retry := false, mirq := false, clmask := 0#32, sq := 0, cq := 0, arrived := 0, taken := 0,
    completed := 0, infl := 0, draftn := 0, lastbell := 0, entries := [], waiting := [], v := 0, elig := false, ctr := 0, lostRec := false }
def Sched.reset : Sched :=
  { queues := [], arrNext := 0, finNext := 0, credit := [], lastIdle := 0, doorbells := 0, ignored := 0, dispatched := 0,
    rejected := 0, late := 0, expired := 0, retried := 0, dispMax := 0, burstBell := 0, burst := 0 }

/-! ## The pager (chapter 10) -/

/-- A context (R305): ACTIVE or FREE, partition, home half, quotas in MiB, sampling key, faults. -/
structure Ctx where
  active : Bool
  part : Nat
  half : Nat
  hbmQuota : Nat
  placeMax : Nat
  placeMin : Nat
  key : DWord
  faults : Nat
  deriving DecidableEq, Repr

/-- A range (R309): context, start, length, attribute word; for an alias the owning context and the
start there of the pages it maps. -/
structure Range where
  ctx : Nat
  va : Nat
  bytes : Nat
  attr : Word
  isAlias : Bool
  srcCtx : Nat
  srcVa : Nat
  pinned : Bool
  deriving DecidableEq, Repr

/-- A populated page (Table 10-7): location 0 HBM, 1 PLACED, 2 moving to the market, 3 moving to HBM;
pin by PIN; number of rings that hold it; affinity, heat, home block address, frame; the largest
flush of the interval with its cluster (R326). `v` false: not populated. -/
structure Page where
  v : Bool
  ctx : Nat
  va : Nat
  big : Bool
  attr : Word
  loc : Nat
  pin : Bool
  affinity : Nat
  affSet : Bool
  heat : Nat
  home : Nat
  quarter : Nat
  frame : Nat
  flushMax : Nat
  deriving DecidableEq, Repr

/-- A fault record (Table 10-10). -/
structure FaultRec where
  va : Nat
  ctx : Nat
  cause : Nat
  lcore : Nat
  bell : Nat
  deriving DecidableEq, Repr

/-- Pager policy (Table 10-11). -/
structure PagerPolicy where
  interval : Nat
  promoteMin : Nat
  demoteMax : Nat
  hyst : Nat
  moveBudget : Nat
  placePct : Nat
  pinPct : Nat
  moveClass : Nat
  tableMib : Tab Nat
  deriving DecidableEq, Repr

/-- Pager counters (Table 10-11). -/
structure PagerCounters where
  demand : Nat
  unresolved : Nat
  promotions : Nat
  demotions : Nat
  movedKiB : Nat
  walks : Nat
  shootdowns : Nat
  skipped : Nat
  deriving DecidableEq, Repr

/-- The pager: contexts, ranges, pages by key (context × 2^40 + virtual address / 64 KiB), the policy in effect (R331),
counters, fault logs, heat gathered in the translation caches (page key × 512 + cache: a core's 0 to 255, 256 + cluster for the
others), the requesters of FREE commands that wait for their shootdowns, PIN commands not complete (requester, context, address). -/
structure Pager where
  ctxs : Tab Ctx
  ranges : List Range
  pages : Tab Page
  policy : PagerPolicy
  cnt : PagerCounters
  faultLog : Tab (List FaultRec)
  gathered : Tab Nat
  shootWait : List Nat
  pinWait : List (Nat × Nat × Nat)
  deriving DecidableEq, Repr

def Ctx.blank : Ctx := ⟨false, 0, 0, 0, 0, 0, 0#64, 0⟩
def Page.blank : Page :=
  { v := false, ctx := 0, va := 0, big := false, attr := 0#32, loc := 0, pin := false, affinity := 0, affSet := false,
    heat := 0, home := 0, quarter := 0, frame := 0, flushMax := 0 }
def PagerPolicy.reset : PagerPolicy := ⟨1000, 64, 4, 200, 64, 70, 25, 7, []⟩
def Pager.reset : Pager :=
  { ctxs := [], ranges := [], pages := [], policy := PagerPolicy.reset,
    cnt := ⟨0, 0, 0, 0, 0, 0, 0, 0⟩, faultLog := [], gathered := [], shootWait := [], pinWait := [] }

/-! ## Fabric (chapter 14) -/

/-- A starter record (Table 14-7): KIND, source partition, context, format, anchor, elements present, KEYV, body. -/
structure MirRec where
  kind : Nat
  part : Nat
  ctx : Nat
  fmt : Nat
  anchor : Int
  emask : Half
  keyv : Nat
  body : List Byte
  deriving DecidableEq, Repr

/-- A port (Table 14-11): speed in Gb/s, lanes in use, counters, the next hop's MAC address when it is resolved. -/
structure Port where
  speed : Nat
  lanes : Nat
  fecUncorr : Nat
  tx : Nat
  rx : Nat
  hop : Option Nat
  deriving DecidableEq, Repr

/-- A window (R422). `enabled` false: FREE; `closing`: DESTROY waits for frames already admitted. -/
structure Window where
  enabled : Bool
  closing : Bool
  kind : Nat
  part : Nat
  ctx : Nat
  base : Nat
  bytes : Nat
  perm : Nat
  src : Nat
  keyid : Nat
  deriving DecidableEq, Repr

/-- A peer (R435, R446, R447): PR_STATE, the planes its last BEAT shows up, the bell it was last heard, INCARN, whether a BEAT of it
was ever heard, planes excluded with the bell until which they are. -/
structure Peer where
  st : Nat
  ports : Nat
  lastHeard : Nat
  incarn : Nat
  heard : Bool
  excluded : Tab Nat
  deriving DecidableEq, Repr

/-- A data frame sent and not acknowledged (R436): its base header, poison map, authentication tag, payload as sent, plane, the bell of
its last sending, how often it was sent, the bell plus one at which a NOTREADY frame goes out again. -/
structure TxFrame where
  hdr : BitVec 512
  pmap : QWord
  tag : Nat
  payload : List Byte
  plane : Nat
  sent : Nat
  tries : Nat
  again : Nat
  deriving DecidableEq, Repr

/-- A doorbell that waits for flow order (R438, R439): its queue, DBTAIL, the partition of the landing target plus one (0: none), the
highest PSN of its message. -/
structure FlowBell where
  queue : Nat
  tail : Nat
  part1 : Nat
  psn : Nat
  deriving DecidableEq, Repr

/-- A flow (R433 to R437) between an engine and the engine of the same half of a peer. Sender: the next data PSN, the KEYIDs used since
PSN 2^31 was last reached and those that may not be used again (R557), the control counter, the frames not acknowledged, W and its growth, consecutive timeouts, the bell plus
one W was last halved; by plane: the round-robin weight, the bell until which the weight is halved, consecutive timeouts. Receiver:
CUMPSN, the PSNs accepted above it, frames accepted since the last ACK with the bell of the oldest, a CE to echo, doorbells. -/
structure Flow where
  open' : Bool
  next : Nat
  used : List Nat
  spent : List Nat
  ctl : Nat
  unacked : List TxFrame
  w : Nat
  grow : Nat
  backoff : Nat
  halved : Nat
  spray : Tab Int
  ceUntil : Tab Nat
  planeTo : Tab Nat
  cum : Nat
  got : List Nat
  sinceAck : Nat
  oldest : Nat
  ce : Bool
  bells : List FlowBell
  deriving DecidableEq, Repr

/-- A message at the sender (R428 to R432). Kind: the frame type (0 PUT, 1 GETREQ, 3 FOLD, 5 MIRROR, 6 REDIRECT). `chan` 256 names none.
DST as named, local and remote address, sectors, TKIND, WIN, RCLASS, the bell of its deadline plus one, format and anchor, doorbell
fields (0: none), COLL field plus one, CFLAGS; frames written, acknowledged; sectors of GETRESP written; DONE arrived; flags; poison;
status plus one once it ended; DETAIL; retransmissions; bell plus one of its first frame. -/
structure Msg where
  num : Nat
  engine : Nat
  chan : Nat
  kind : Nat
  dst : Nat
  laddr : Nat
  raddr : Nat
  sectors : Nat
  tkind : Nat
  win : Nat
  rclass : Nat
  deadline : Nat
  fmt : Nat
  anchor : Nat
  db : Nat
  coll : Nat
  cflags : Nat
  sent : Nat
  acked : Nat
  got : Nat
  doneIn : Bool
  flags : Nat
  poison : Bool
  ended : Nat
  detail : Nat
  retx : Nat
  first : Nat
  deriving DecidableEq, Repr

/-- A received message that is still open (R438, R440): engine, peer, its number, kind, sectors accepted and of the whole, flags of its
fold-ins, the NACK it met (code × 256 + detail, 0 none), its highest PSN. -/
structure RxMsg where
  engine : Nat
  peer : Nat
  num : Nat
  kind : Nat
  sectors : Nat
  total : Nat
  flags : Nat
  nack : Nat
  psn : Nat
  deriving DecidableEq, Repr

/-- A frame admitted and not yet applied: the port it came by, its base header, poison map, payload, how many sectors a GETREQ was
answered with, whether IPv6 marked it CE. -/
structure RxFrame where
  port : Nat
  hdr : BitVec 512
  pmap : QWord
  payload : List Byte
  pos : Nat
  ce : Bool
  deriving DecidableEq, Repr

/-- A collective in progress (R442 to R445): engine and channel, group, instance, members, rank, whether it is in the gathering half,
how far its own messages are, fold and put messages of the instance accepted here, flags of the slices, of the own slice, status plus one
when it failed. -/
structure Coll where
  engine : Nat
  chan : Nat
  group : Nat
  inst : Nat
  members : Nat
  rank : Nat
  gather : Bool
  step : Nat
  folds : Nat
  puts : Nat
  flags : Nat
  own : Nat
  status : Nat
  deriving DecidableEq, Repr

/-- A send job that waits for its start bell (R497). -/
structure SendWait where
  engine : Nat
  chan : Nat
  startB : Nat
  deriving DecidableEq, Repr

/-- The starter of a source partition (R451 to R455): FS_STATE, the last CUT sent, writes held, its generation, for each engine the bell
plus one of the last CUT placed in its stream and of the last sent. -/
structure Starter where
  st : Nat
  lastCut : Nat
  held : Nat
  generation : Nat
  placed : Tab Nat
  sent : Tab Nat
  deriving DecidableEq, Repr

/-- A hosted starter (R451 to R460): FH_STATE, the last cut applied, the log with the engine each record came from, the image by
context × 2^51 + sector address / 32, ranges (context, start, length, attributes), mirrored queues with their descriptors, their
COMPLETED and kept counters, windows, the takeover's start, the messages of its REDIRECTs (engine, number). -/
structure Hosted where
  st : Nat
  cut : Nat
  log : List (Nat × MirRec)
  image : Tab (BitVec 256)
  ranges : List (Nat × Nat × Nat × Word)
  queues : Tab Nat
  qdone : Tab Nat
  qctr : Tab Nat
  windows : Tab Window
  started : Nat
  redirects : List (Nat × Nat)
  deriving DecidableEq, Repr

/-- A redirect (R457): NEW plus one (0 none), the bell it was applied. -/
structure Redirect where
  new1 : Nat
  bell : Nat
  deriving DecidableEq, Repr

/-- The fabric. Keys: `ports`, `macs` port, `peers` and `redirects` global identifier, `flows` engine × 65536 + peer, `groups` and
`inst` group, `chans` unit × 256 + channel (units 0 to 15 the runners, 16 and 17 the engines west and east), `out` engine (the
source engine's buffer of starter records, R454). -/
structure Fabric where
  ports : Tab Port
  macs : Tab Nat
  domain : Nat
  device : Nat
  incarn : Nat
  peers : Tab Peer
  flows : Tab Flow
  msgs : List Msg
  msgNext : Tab Nat
  rxQ : List RxFrame
  rxMsgs : List RxMsg
  windows : Tab Window
  groups : Tab (List Nat)
  inst : Tab Nat
  colls : List Coll
  waits : List SendWait
  chans : Tab Chan
  runners : Tab Runner
  starters : Tab Starter
  hosted : Tab Hosted
  out : Tab (List MirRec)
  redirects : Tab Redirect
  aliases : List (Nat × Nat)
  cnt : Tab Nat
  beatSel : Nat
  deriving DecidableEq, Repr

def Port.blank : Port := ⟨0, 0, 0, 0, 0, none⟩
def Window.blank : Window := ⟨false, false, 0, 0, 0, 0, 0, 0, 0, 0⟩
def Peer.blank : Peer := ⟨0, 0, 0, 0, false, []⟩
def Flow.blank : Flow :=
  { open' := false, next := 0, used := [], spent := [], ctl := 0, unacked := [], w := 64, grow := 0, backoff := 0, halved := 0, spray := [],
    ceUntil := [], planeTo := [], cum := 0, got := [], sinceAck := 0, oldest := 0, ce := false, bells := [] }
def Starter.blank : Starter := ⟨0, 0, 0, 0, [], []⟩
def Hosted.blank : Hosted := ⟨0, 0, [], [], [], [], [], [], [], 0, []⟩
def Redirect.blank : Redirect := ⟨0, 0⟩
def Fabric.reset : Fabric :=
  { ports := [], macs := [], domain := 0, device := 0, incarn := 0, peers := [], flows := [], msgs := [], msgNext := [], rxQ := [],
    rxMsgs := [], windows := [], groups := [], inst := [], colls := [], waits := [], chans := [], runners := [], starters := [],
    hosted := [], out := [], redirects := [], aliases := [], cnt := [], beatSel := 0 }

/-! ## Device, units, recorder, bell (chapters 16, 21, 23) -/

/-- One unit (R602, Table 21-10): the state in the data-path fence table and in the management view, the
mismatch mark, the reason, the incarnation count (R145), comparisons in a row at which the views differed (R612). -/
structure UnitRec where
  dstate : Nat
  mstate : Nat
  mismatch : Bool
  reason : Nat
  incarn : Nat
  diffs : Nat
  deriving DecidableEq, Repr

/-- An event record (Table 23-1) with its sequence number. -/
structure EventRec where
  seq : Nat
  cls : Nat
  detail : Nat
  p0 : Nat
  p1 : Nat
  bell : Nat
  pcycles : Nat
  opsec : Nat
  deriving DecidableEq, Repr

/-- The event recorder (R642 to R653): memory queue, flash ring by slot, next sequence number, oldest
readable, drops, pending LOST count, clears, state, operating seconds, power cycles. -/
structure Recorder where
  queue : List EventRec
  ring : Tab (Option EventRec)
  next : Nat
  oldest : Nat
  lost : Nat
  lostPending : Nat
  clears : Nat
  state : Nat
  opsec : Nat
  opsecStored : Nat
  pcycles : Nat
  deriving DecidableEq, Repr

/-- A drain or reset in progress (R605). Scope: 1 core, 2 cluster, 3 partition; 5 a unit that is fenced (index kind × 1024 + unit); 6 a unit that
returns to service; 7 every core, on entry to SAFE; 8 a cluster that is lost (R22). Whether the drain has ended; whether it passes through
TESTING; the requester of Table 23-2 (scope 5: the state the unit ends in). A core that is lost drains under its `MoveRun`. -/
structure ResetRun where
  scope : Nat
  index : Nat
  drained : Bool
  test : Bool
  requester : Nat
  deriving DecidableEq, Repr

/-- A move of a logical core in progress (R608): the core, its old site, the spare site, whether the drain has ended, the
spare is powered, the stall copy is done, the reason. -/
structure MoveRun where
  core : Nat
  oldSite : Nat
  newSite : Nat
  drained : Bool
  powered : Bool
  copied : Bool
  reason : Nat
  deriving DecidableEq, Repr

/-- Bring-up and units (R593, R602, Tables 21-10 and 21-11). `units` is keyed by US_KIND × 1024 + index;
`coreSite` and `stallSite` give logical number ↦ physical site plus one; `quarterPart` quarter ↦
partition plus one; `siteBad` the repair map's unusable sites; `bankRepairs` (stall, bank), `bondRepairs` group ↦ wires
replaced, `bondErrors` wire ↦ errors within the present 1 ms with the bell of the first; the bell at which the boot began, of the last
loader-wait record plus one, at which a warm boot's image was refused plus one; `assign` partitions and quarter masks that ASSIGN will give once the resets
have ended. -/
structure Device where
  st : Nat
  bootStep : Nat
  bootKind : Nat
  bootMs : Nat
  safeCause : Nat
  warmResets : Nat
  reconciled : Nat
  units : Tab UnitRec
  coreSite : Tab Nat
  stallSite : Tab Nat
  quarterPart : Tab Nat
  siteBad : Tab Bool
  bankRepairs : List (Nat × Nat)
  bondRepairs : Tab Nat
  bondErrors : Tab Nat
  ptResets : Nat
  bootStart : Nat
  loaderWait : Nat
  safeWait : Nat
  assign : List (Nat × Nat)
  resets : List ResetRun
  moves : List MoveRun
  deriving DecidableEq, Repr

def UnitRec.blank : UnitRec := ⟨0, 0, false, 0, 0, 0⟩
def Recorder.reset : Recorder :=
  { queue := [], ring := [], next := 0, oldest := 0, lost := 0, lostPending := 0, clears := 0, state := 0, opsec := 0,
    opsecStored := 0, pcycles := 0 }
def Device.reset : Device :=
  { st := 0, bootStep := 1, bootKind := 0, bootMs := 0, safeCause := 0, warmResets := 0, reconciled := 0, units := [],
    coreSite := [], stallSite := [], quarterPart := [], siteBad := [], bankRepairs := [],
    bondRepairs := [], bondErrors := [], ptResets := 0, bootStart := 0, loaderWait := 0, safeWait := 0, assign := [], resets := [], moves := [] }

/-! ## The host interface (chapter 15) -/

/-- An MSI-X vector: the table entry (address, data, mask bit), its pending bit, whether its request awaits sending. -/
structure MsixVec where
  addr : Nat
  data : Nat
  masked : Bool
  pend : Bool
  asked : Bool
  deriving DecidableEq, Repr

/-- A function ring (Table 15-6): pointers modulo 2^32, FR_MSIX, FR_STATE, responses that firmware holds for want of room. -/
structure FnRing where
  rqTail : Nat
  rqHead : Nat
  rsTail : Nat
  rsHead : Nat
  msix : Nat
  st : Nat
  held : List (List Byte)
  deriving DecidableEq, Repr

/-- The PCIe endpoint: lanes (0 down) and speed in MT/s, D3hot, counters, EVTSTAT and EVTMSIX, the vectors, the function rings, the
bytes of their slots by BAR0 offset, the BAR4 map in force (base and bytes of each host-ring reservation, in order), WAIT requests of
ring 1 (frame identifier, FROM, bell of the timeout). -/
structure HostIf where
  lanes : Nat
  speed : Nat
  d3hot : Bool
  wasLost : Bool
  linkdowns : Nat
  ur : Nat
  dropped : Nat
  evtstat : Nat
  evtmsix : Nat
  vectors : Tab MsixVec
  rings : Tab FnRing
  slots : Tab Byte
  bar4 : List (Nat × Nat)
  waits : List (Nat × Nat × Nat)
  deriving DecidableEq, Repr

/-- After reset a vector of an MSI-X table is masked (PCI Express base specification). -/
def MsixVec.blank : MsixVec := ⟨0, 0, true, false, false⟩
def FnRing.blank : FnRing := ⟨0, 0, 0, 0, 0, 0, []⟩
def HostIf.reset : HostIf :=
  { lanes := 0, speed := 0, d3hot := false, wasLost := false, linkdowns := 0, ur := 0, dropped := 0, evtstat := 0, evtmsix := 0,
    vectors := [], rings := [], slots := [], bar4 := [], waits := [] }

/-! ## The bell (chapter 16) -/

/-- A slot of the scheduled-event table (Table 16-3): kind 0 none, 1 FREQ, 2 ACTIVATE, 3 POWERUP, 4 GPIO, 5 RECORD; state 0 FREE,
1 ARMED, 2 PERFORMED, 3 DEFERRED, 4 TIMELOST, 5 CANCELLED, 6 STEPPED, 7 REFUSED; owner; PARAM; BELL; bells it was retried at. -/
structure EvSlot where
  kind : Nat
  st : Nat
  owner : Nat
  param : Nat
  bell : Nat
  tries : Nat
  deriving DecidableEq, Repr

/-- The time base (R481 to R491): the bell, the time state (Table 16-2: 0 UNSET, 1 LOCKING, 2 LOCKED, 3 HOLDOVER, 4 FREERUN), BT_OFFSET
in ns, whether a measurement is valid now, consecutive measurements within and outside BT_LOCK_NS, the bell of the last valid one, whether time was ever acquired
since cold boot, BT_STEPS, BT_PPS_REJECT, consecutive bad and good edges, whether PTP is followed alone (R484), the source in use (0 none, 1 the management port,
2 to 19 a fabric port), BT_PEER_SKEW_MAX; the 64 slots; counts by outcome. -/
structure Bell where
  count : Nat
  st : Nat
  offset : Int
  valid : Bool
  good : Nat
  bad : Nat
  last : Nat
  acquired : Bool
  steps : Nat
  ppsReject : Nat
  ppsBad : Nat
  ppsGood : Nat
  ppsOff : Bool
  src : Nat
  skewMax : Nat
  slots : Tab EvSlot
  performed : Nat
  deferred : Nat
  timelost : Nat
  cancelled : Nat
  deriving DecidableEq, Repr

def EvSlot.blank : EvSlot := ⟨0, 0, 0, 0, 0, 0⟩
def Bell.reset : Bell :=
  { count := 0, st := 0, offset := 0, valid := false, good := 0, bad := 0, last := 0, acquired := false, steps := 0, ppsReject := 0,
    ppsBad := 0, ppsGood := 0, ppsOff := false, src := 0, skewMax := 0, slots := [], performed := 0, deferred := 0, timelost := 0,
    cancelled := 0 }

/-! ## Power (chapter 17) -/

/-- Power delivery and capping. λ values are in 64ths. `cap` λ_cap, `capLow` samples at 16/64 in a row with P₁ above the guard, `causes` the
level-2 and level-3 bits of PW_CAUSES that are active, `level` the emergency level, `lastL2` the bell at which a level-2 cause was last
active, `samples` the last 50 power samples in W, newest first, `vin` in mV, `vinBad` samples in a row beyond 5 %; `failed` the failed compute
regulators in order of failure, `mktFailed` market group ↦ failed regulators, `domCut` cluster ↦ what R503 has taken from its sites' limit; `point`, `fgState`, `changes`,
`demand` (R518 to R521), `phases` the phase identifiers held in this window, `ranTask`; `volt` the fused V_f(n) in mV, `trim` T_k in mV, `trimCap` the
clusters held at 48/64 (R522), `agLast` hours; `stretch` cluster ↦ level in force, `stretch1`, `stretch2`, `drMin` cluster ↦ DR_MIN; power-up
outcomes; `guardHold` the power core's watchdog limit (Table 20-3). -/
structure Power where
  cap : Nat
  capLow : Nat
  causes : Nat
  level : Nat
  lastL2 : Nat
  samples : List Nat
  vin : Nat
  vinBad : Nat
  failed : List Nat
  mktFailed : Tab Nat
  domCut : Tab Nat
  point : Nat
  fgState : Nat
  changes : Nat
  demand : Nat
  phases : Half
  ranTask : Bool
  volt : Tab Nat
  trim : Tab Nat
  trimCap : Tab Bool
  agLast : Nat
  stretch : Tab Nat
  stretch1 : Nat
  stretch2 : Nat
  drMin : Tab Nat
  puAdmitted : Nat
  puDeferred : Nat
  puRefused : Nat
  guardHold : Bool
  deriving DecidableEq, Repr

def Power.reset : Power :=
  { cap := 64, capLow := 0, causes := 0, level := 0, lastL2 := 0, samples := [], vin := 0, vinBad := 0, failed := [], mktFailed := [],
    domCut := [], point := 48, fgState := 0, changes := 0, demand := 0, phases := 0#16, ranTask := false, volt := [], trim := [],
    trimCap := [], agLast := 0, stretch := [], stretch1 := 0, stretch2 := 0, drMin := [], puAdmitted := 0, puDeferred := 0, puRefused := 0,
    guardHold := false }

/-! ## Temperature (chapter 18) -/

/-- A sensor: its last reading in 0.25 °C, whether it has failed, samples in a row beyond 8 °C (R529, R533), samples in a row at or above
TH_EMERG (R535). -/
structure Sensor where
  last : Int
  failed : Bool
  dev : Nat
  hot : Nat
  deriving DecidableEq, Repr

/-- A telemetry profile (R541): whether it is enabled, the sensors and the period applied, the bell at which its period began, minimum,
maximum, sum and number of samples of each sensor, TP_DATA. -/
structure Profile where
  on : Bool
  sensors : Nat
  period : Nat
  start : Nat
  acc : Tab (Int × Int × Int × Nat)
  data : List Byte
  deriving DecidableEq, Repr

/-- Thermal management. `sensors` by number; `rise` physical site ↦ θ_s × P_s in 0.25 °C as last given; `skip` site ↦ samples for which step
2 of R529 is suspended; `cut` site ↦ what λ_th lacks of 64/64; `low` site ↦ samples in a row at 16/64 with T above the setpoint; the values of Table 18-5;
the cycle counter of R539 with its readings in 0.25 °C, and ARMED, PEAK, TROUGH as last written to flash; bond counts (R540). -/
structure Thermal where
  sensors : Tab Sensor
  rise : Tab Nat
  skip : Tab Nat
  cut : Tab Nat
  low : Tab Nat
  max : Int
  maxSensor : Nat
  peak : Int
  peakBell : Nat
  over105 : Nat
  deviations : Nat
  armed : Bool
  cyclePeak : Int
  trough : Int
  saved : Bool × Int × Int
  cycles : Nat
  swingMax : Nat
  bondSpares : Nat
  bondLost : Nat
  profiles : Tab Profile
  deriving DecidableEq, Repr

def Sensor.blank : Sensor := ⟨0, false, 0, 0⟩
def Profile.blank : Profile := ⟨false, 0, 0, 0, [], []⟩
def Thermal.reset : Thermal :=
  { sensors := [], rise := [], skip := [], cut := [], low := [], max := 0, maxSensor := 0, peak := 0, peakBell := 0, over105 := 0,
    deviations := 0, armed := false, cyclePeak := 0, trough := 0, saved := (false, 0, 0), cycles := 0, swingMax := 0, bondSpares := 0, bondLost := 0, profiles := [] }

/-! ## Security (chapter 19) -/

/-- An SPDM session (R549, R551): role 0 none, 1 operator, 2 tenant, 3 root recovery; the tenant's partition; the hash of
the requester's leaf key; failures of authentication; the bell of its last message; whether FINISH has opened it; how often KEY_UPDATE has renewed
its keys. -/
structure Session where
  used : Bool
  finished : Bool
  role : Nat
  part : Nat
  leaf : Nat
  fails : Nat
  bell : Nat
  updates : Nat
  deriving DecidableEq, Repr

/-- What the responder has agreed with one SPDM requester, by requester (R549): GET_VERSION, GET_CAPABILITIES,
NEGOTIATE_ALGORITHMS done. -/
structure SpdmPeer where
  version : Bool
  caps : Bool
  algs : Bool
  deriving DecidableEq, Repr

/-- A partition's seal (Table 19-7): 0 OPEN, 1 SEALED, 2 RESETTING; the TENANT hash; seals since manufacture. -/
structure Seal where
  st : Nat
  tenant : Nat
  seals : Nat
  deriving DecidableEq, Repr

/-- An entry of the key table (R556, R557): state 0 none, 1 ACTIVE, 2 NEXT, 3 RETIRING; use 1 FABRIC, 2 HOSTSEAL,
3 HOSTBULK; the KEYID it follows; when it began to retire. -/
structure KeyRec where
  st : Nat
  part : Nat
  use : Nat
  key : Nat
  pred : Nat
  bell : Nat
  deriving DecidableEq, Repr

/-- Security. `keys` is keyed by KEYID, `ar` by image type (0 security, 1 power, 2 scheduler, 3 cluster), the fuses by
name; ID_STEPPING and the PCI vendor identifier among them; `hbmKeys` counts the HBM keys drawn for a partition, at 4 for the device (the keys themselves never leave the core, R556);
whether the PCIe endpoint's crypto engine failed (R599); whether a debug grant of level 2 waits for its UNSEALs (R566). -/
structure Security where
  sessions : Tab Session
  peers : Tab SpdmPeer
  seals : Tab Seal
  keys : Tab KeyRec
  hbmKeys : Tab Nat
  authFail : Nat
  authEvent : Tab Nat
  serial : Nat
  devidHash : Nat
  rootsPresent : Nat
  rootsRevoked : Nat
  opClosed : Bool
  ar : Tab Nat
  dbgLevel : Nat
  dbgChallenge : Nat
  sealedSinceBoot : Bool
  pcieCryptoBad : Bool
  dbgWaits : Bool
  stepping : Nat
  vendor : Nat
  deriving DecidableEq, Repr

def Session.blank : Session := ⟨false, false, 0, 0, 0, 0, 0, 0⟩
def SpdmPeer.blank : SpdmPeer := ⟨false, false, false⟩
def Seal.blank : Seal := ⟨0, 0, 0⟩
def KeyRec.blank : KeyRec := ⟨0, 0, 0, 0, 0, 0⟩
def Security.reset : Security :=
  { sessions := [], peers := [], seals := [], keys := [], hbmKeys := [], authFail := 0, authEvent := [], serial := 0,
    devidHash := 0, rootsPresent := 0, rootsRevoked := 0, opClosed := false, ar := [], dbgLevel := 0, dbgChallenge := 0,
    sealedSinceBoot := false, pcieCryptoBad := false, dbgWaits := false, stepping := 0, vendor := 0 }

/-! ## Firmware (chapter 20) -/

/-- An image of a set (R574, R580): present, the whole length, VERSION, SVN, MINSEC, ROOT, and its bytes. -/
structure Image where
  present : Bool
  version : Nat
  svn : Nat
  minsec : Nat
  root : Nat
  size : Nat
  bytes : Tab Byte
  deriving DecidableEq, Repr

/-- A firmware processor (Table 20-2, R572): STATE, BANK, HEALTHY, BEAT, the bells of its watchdog restarts, its last fault dump with the bell. -/
structure Proc where
  st : Nat
  bank : Nat
  healthy : Bool
  beat : Nat
  restarts : List Nat
  dump : List Byte
  dumpBell : Nat
  deriving DecidableEq, Repr

/-- A READ that waits for blocks (R578): image type, offset, bytes, the bell it was sent at. -/
structure LoadRead where
  itype : Nat
  offset : Nat
  count : Nat
  bell : Nat
  deriving DecidableEq, Repr

/-- The loader (R576 to R579): 0 idle, 1 soliciting, 2 transferring; for whom (0 the ROM at boot, 1 the security image at boot, 2 STAGE, 3 a
restart under R573); XID; the bell of the last SOLICIT and of the last DATA; the name of the set; the types wanted; the set's images (bytes, VERSION) by type as offered; the reads to
send and outstanding; what has arrived, by type × 2^22 + offset, and its 1,024-byte blocks. -/
structure Loader where
  st : Nat
  use : Nat
  xid : Nat
  solicit : Nat
  lastData : Nat
  name : Nat
  types : List Nat
  offered : List (Nat × Nat)
  todo : List (Nat × Nat × Nat)
  reads : List LoadRead
  buf : Tab Byte
  have' : Tab Bool
  deriving DecidableEq, Repr

/-- Firmware. `procs` by processor number (0 security, 1 power, 2 scheduler, 32 + k control core k), `images` set × 4 + type (sets 0 RUNNING,
1 STAGED, 2 FALLBACK); FW_STG_STATE, FW_REFUSAL; PC_STATE, the slot and the bell of the armed event with the bell first asked for, whether it was armed again after a
deferral (R584); the types already switched with the bell B, the counters; CTXSEL of each control core. -/
structure Firmware where
  procs : Tab Proc
  images : Tab Image
  loader : Loader
  stgState : Nat
  refusal : Nat
  pcState : Nat
  pcSlot : Nat
  pcBell : Nat
  pcFirst : Nat
  pcRearmed : Bool
  pcSwitched : List Nat
  pcStart : Nat
  activations : Nat
  rollbacks : Nat
  deferrals : Nat
  ctxsel : Tab Nat
  deriving DecidableEq, Repr

def Image.blank : Image := ⟨false, 0, 0, 0, 0, 0, []⟩
def Proc.blank : Proc := ⟨0, 0, false, 0, [], [], 0⟩
def Loader.reset : Loader := ⟨0, 0, 0, 0, 0, 0, [], [], [], [], [], []⟩
def Firmware.reset : Firmware :=
  { procs := [], images := [], loader := Loader.reset, stgState := 0, refusal := 0, pcState := 0, pcSlot := 0, pcBell := 0, pcFirst := 0,
    pcRearmed := false, pcSwitched := [], pcStart := 0, activations := 0, rollbacks := 0, deferrals := 0, ctxsel := [] }

/-! ## Package pins (chapter 24) -/

/-- Pins: PWRGOOD, THERMTRIP_N asserted, levels that scheduled and BELL_OUT pins drive, levels the board drives at the GPIO lands, TRIGGER_IN edges
recorded and, by pin, the bell plus one of the last (R666); MG_LINK, MC_EID_I3C and MC_EID_PCIE (Table 22-9). -/
structure Pins where
  pwrgood : Bool
  thermtrip : Bool
  driven : Tab Bool
  board : Tab Bool
  triggers : Nat
  lastTrig : Tab Nat
  mgLink : Nat
  eidI3c : Nat
  eidPcie : Nat
  deriving DecidableEq, Repr

def Pins.reset : Pins :=
  { pwrgood := false, thermtrip := false, driven := [], board := [], triggers := 0, lastTrig := [], mgLink := 0, eidI3c := 0, eidPcie := 0 }

/-! ## Cores and clusters (chapters 03 to 06) -/

/-- An operand register (Table 6-7): element part and scale part. -/
structure OpReg where
  space : Bool
  trans : Bool
  stride8 : Nat
  addr : Nat
  sspace : Bool
  sstride : Nat
  saddr : Nat
  deriving DecidableEq, Repr

/-- A binding register with its extension (Table 6-9). -/
structure Bind where
  kind : Nat
  fmt : Nat
  transpose : Bool
  param : Nat
  addr : Nat
  ext : Bool
  ostride : Nat
  saddr : Nat
  deriving DecidableEq, Repr

/-- A descriptor in the array's queue (R80): shape, arithmetic word, the operand registers as copied at issue, the
completion counter, the task's context, taint and key data, its index; whether its anchor scan and its rows are
done, how it failed, and the flags its own work raised (Table 2-5). -/
structure PassEntry where
  m : Nat
  n : Nat
  k : Nat
  dflow : Bool
  arith : Word
  opA : OpReg
  opB : OpReg
  scen : Bool
  sc : Nat
  ctx : Nat
  taint : Half
  index : Nat
  scanned : Bool
  anchor : Int
  done : Bool
  refused : Bool
  failed : Bool
  failAddr : Nat
  failPoison : Bool
  ownSat : Bool
  ownNan : Bool
  deriving DecidableEq, Repr

/-- A run or tile move at the vector engine (R121): a tile move or a run, its payload, the binding registers and
arguments as copied at issue (R180), the banks it reads (R79), the completion counter, the task's context and mask,
its index. -/
structure VecEntry where
  move : Bool
  payload : BitVec 92
  vbs : Tab Bind
  x0 : Word
  x1 : Word
  indexBase : Word
  draw : Word
  stream : DWord
  banks : List Nat
  scen : Bool
  sc : Nat
  ctx : Nat
  taint : Half
  index : Nat
  deriving DecidableEq, Repr

/-- A run that has ended and whose summary records wait for room (R115), with the traps it raises once they have
gone: code, whether poison caused it, faulting address. -/
structure HeldRun where
  records : List QWord
  scen : Bool
  sc : Nat
  traps : List (Nat × Bool × Nat)
  taint : Half
  index : Nat
  deriving DecidableEq, Repr

/-- A mask-stack entry (Table 5-6). -/
structure MaskEntry where
  mask : DWord
  join : Bool
  pc : Nat
  deriving DecidableEq, Repr

/-- An asynchronous copy of a tray (R156). Spaces: true is a virtual address. -/
structure AcpRec where
  id : Nat
  ctr : Nat
  src : Nat
  dst : Nat
  srcVa : Bool
  dstVa : Bool
  bytes : Nat
  deriving DecidableEq, Repr

/-- A tray in a slot (R124 to R136, R154 to R162). Lane registers, their poison bits (key lane × 64 + register),
predicates (lane ↦ Q7..Q0), carried GLANE plus one (0: TRAYIX × WIDTH + LANE), the mask stack in hardware (top
first) and the number of entries spilled, arrival counters, progress counter, trap code (0: none) with its
address, WAITA wait, TPACK wait, `ending`: its lanes have exited. -/
structure Tray where
  present : Bool
  launch : Nat
  width : Nat
  nreg : Nat
  nctr : Nat
  trayix : Nat
  pc : Nat
  active : DWord
  exited : DWord
  stack : List MaskEntry
  spilled : Nat
  regs : Tab Word
  poison : Tab Bool
  preds : Tab Byte
  glane : Tab Nat
  ctrs : Tab Nat
  taint : Half
  progress : Nat
  trap : Nat
  trapAddr : Nat
  wait : Option (Nat × Nat)
  pack : Option Nat
  ending : Bool
  cancelled : Bool
  faultNext : Option Nat
  copies : List AcpRec
  deriving DecidableEq, Repr

/-- A launch (Table 5-1) with how many trays have started and ended. -/
structure Launch where
  id : Nat
  width : Nat
  nreg : Nat
  nctr : Nat
  ntrays : Nat
  code : Nat
  args : Nat
  dmax : Nat
  spill : Nat
  strict : Bool
  service : Bool
  scen : Bool
  sc : Nat
  ctx : Nat
  taint : Half
  started : Nat
  ended : Nat
  deriving DecidableEq, Repr

/-- A copy in a core's copy queue (R179, R188): mode of Table 7-7, bytes, operand registers as copied. -/
structure CopyEntry where
  mode : Nat
  bytes : Nat
  src : OpReg
  dst : OpReg
  scen : Bool
  sc : Nat
  ctx : Nat
  taint : Half
  index : Nat
  deriving DecidableEq, Repr

/-- The task of a sequencer (R176): source (0 none, 1 scheduler, 2 local), queue and entry for a scheduler's task,
context, tag, taint, RECOVERY, the sampling key at dispatch (R60), regulation class and deadline (the bell of its key plus one, 0: none), where the
stream continues, the index of the next descriptor, whether an epoch of it was cancelled or it is aborted. -/
structure Task where
  source : Nat
  queue : Nat
  entry : Nat
  ctx : Nat
  tag : Nat
  taint : Half
  recovery : Bool
  key : DWord
  cls : Nat
  deadline : Nat
  space : Bool
  addr : Nat
  index : Nat
  cancelled : Bool
  aborted : Bool
  deriving DecidableEq, Repr

/-- What a held sequencer waits for (R189, R192, R193): nothing; counter SC at most BOUND; every earlier
descriptor; the same, then to clear blocks; the same and every tray, then to end. -/
inductive SeqWait where
  | none
  | counter (sc bound : Nat)
  | all
  | fence
  | clear (blk cnt : Nat)
  | finish
  deriving DecidableEq, Repr

/-- A lock of the held-lock table (R150): the word's device-local address, the holder's slot and lane. -/
structure LockRec where
  addr : Nat
  slot : Nat
  lane : Nat
  deriving DecidableEq, Repr

/-- One logical core (R194 Table 6-13, R36, R81, R94, R125, R180, R196 and the rest of chapters 03 to 06). Keys: `banks`
bank × 4096 + 64 × m + c; `tiles` register × 256 + element; `benchChk` 8-byte word index ↦ stored check bits XOR
the correct ones; `blkTaint`, `blkCancel` block; `dispatched` is the task the
scheduler has sent and the sequencer has not begun; `outTraps` lists unit, slot and code of the trap records without a reply yet, oldest first. -/
structure Core where
  banks : Tab AccElem
  bstat : Tab Word
  btaint : Tab Half
  arrQ : List PassEntry
  arrState : Nat
  tiles : Tab Word
  tileTaint : Tab Half
  tilePoison : Tab Bool
  recipes : List (Nat × Nat)
  vstat : Word
  vecQ : List VecEntry
  heldRun : List HeldRun
  trays : Tab Tray
  launches : List Launch
  launchId : Nat
  acpId : Nat
  tstat : Word
  locks : List LockRec
  bench : Tab Byte
  benchChk : Tab Byte
  blkTaint : Tab Half
  blkCancel : Tab Bool
  ors : Tab OpReg
  vbs : Tab Bind
  x0 : Word
  x1 : Word
  indexBase : Word
  draw : Word
  stream : DWord
  sc : Tab Nat
  task : Task
  fetched : List (QWord × Half)
  seqState : Nat
  seqWait : SeqWait
  lastCode : Nat
  crcErr : Bool
  fetchErr : Bool
  malf : Bool
  qfull : Nat
  phase : Nat
  stalecnt : Nat
  lastTrap : QWord
  outTraps : List (Nat × Nat × Nat)
  heldTraps : List QWord
  copyQ : List CopyEntry
  copyHalted : Bool
  dispatched : Option Task
  localQ : List QWord
  localTaint : List Half
  hold : Bool
  overrun : Bool
  heldComp : List DWord
  heldReject : Option DWord
  deriving DecidableEq, Repr

/-- One cluster's window (Table 6-15) and its copy engine's round-robin place. -/
structure Cluster where
  sumQ : List QWord
  trapQ : List QWord
  compQ : List DWord
  events : Word
  dtaint : Half
  epochev : Word
  copyTurn : Nat
  deriving DecidableEq, Repr

def OpReg.blank : OpReg := ⟨false, false, 0, 0, false, 0, 0⟩
def Bind.blank : Bind := ⟨0, 0, false, 0, 0, false, 0, 0⟩
def AccElem.blank : AccElem := AccElem.zero
def Tray.blank : Tray :=
  { present := false, launch := 0, width := 0, nreg := 0, nctr := 0, trayix := 0, pc := 0, active := 0#64, exited := 0#64,
    stack := [], spilled := 0, regs := [], poison := [], preds := [], glane := [], ctrs := [], taint := 0#16,
    progress := 0, trap := 0, trapAddr := 0, wait := none, pack := none, ending := false, cancelled := false,
    faultNext := none, copies := [] }
def Task.blank : Task :=
  { source := 0, queue := 0, entry := 0, ctx := 0, tag := 0, taint := 0#16, recovery := false, key := 0#64, cls := 0,
    deadline := 0, space := false, addr := 0, index := 0, cancelled := false, aborted := false }
def Core.blank : Core :=
  { banks := [], bstat := [], btaint := [], arrQ := [], arrState := 0, tiles := [], tileTaint := [],
    tilePoison := [], recipes := [], vstat := 0#32, vecQ := [], heldRun := [], trays := [], launches := [], launchId := 0, acpId := 0,
    tstat := 0#32, locks := [], bench := [], benchChk := [], blkTaint := [], blkCancel := [], ors := [], vbs := [],
    x0 := 0#32, x1 := 0#32, indexBase := 0#32, draw := 0#32, stream := 0#64, sc := [], task := Task.blank, fetched := [],
    seqState := 0, seqWait := .none, lastCode := 0, crcErr := false, fetchErr := false, malf := false, qfull := 0,
    phase := 0, stalecnt := 0, lastTrap := 0#128, outTraps := [], heldTraps := [], copyQ := [], copyHalted := false,
    dispatched := none, localQ := [], localTaint := [], hold := false, overrun := false, heldComp := [], heldReject := none }
def Cluster.blank : Cluster := ⟨[], [], [], 0#32, 0#16, 0#32, 0⟩

/-! ## The object dictionary (chapter 22) -/

/-- A transaction a requester holds open (R624, R625): whether it writes, index, subindex, total bytes, the snapshot or
the bytes received, the segment due next, the bell of its last frame. -/
structure Trans where
  tid : Nat
  write : Bool
  index : Nat
  sub : Nat
  total : Nat
  buf : List Byte
  seg : Nat
  bell : Nat
  deriving DecidableEq, Repr

/-- A remembered request frame with its response (R627): TID, OP, INDEX, SUB, SEG, CRC; what was answered. -/
structure Memo where
  key : List Nat
  answer : List Nat
  bell : Nat
  deriving DecidableEq, Repr

/-- A requester (R621): path 0 host ring, 1 PCIe MCTP, 2 I3C MCTP, 3 UDP, 4 SPDM session; its source or session number;
its open transactions and remembered responses (oldest first); the bell of its last frame. -/
structure Requester where
  used : Bool
  path : Nat
  source : Nat
  trans : List Trans
  memo : List Memo
  bell : Nat
  deriving DecidableEq, Repr

/-- A frame held while the security core switches images (R639): OP of its row, where it came from, its bytes, what its write would find. -/
structure HeldFrame where
  op : Nat
  src : FrameSrc
  bytes : List Byte
  found : WriteFound
  deriving DecidableEq, Repr

/-- A response that is owed (R630): the requester, the command that waits (RG_CMD's value and, for PIN, context and address), the frame's header fields
TID, INDEX, SUB, SEG and its key for repeats. -/
structure Owed where
  who : Nat
  tag : List Nat
  tid : Nat
  index : Nat
  sub : Nat
  seg : Nat
  key : List Nat
  deriving DecidableEq, Repr

/-- The dictionary's own state. Values are held as 256^length plus the little-endian number, 0: the default. Keys: `vals`
and `store` index × 256 + subindex; `staged` and `selected` requester × 2^24 + that (R629). `store` is the persistent
store (R635), `storeBad` the keys whose record could not be written (R636), `buffered` the frames held while rings are paused (R639), `owed` the
responses owed for commands that wait on device work (R630). -/
structure Dict where
  reqs : Tab Requester
  vals : Tab Nat
  staged : Tab Nat
  selected : Tab Nat
  store : Tab Nat
  storeBad : List Nat
  storeUsed : Nat
  framesBad : Nat
  aborts : Nat
  refused : Nat
  repeats : Nat
  persistFail : Nat
  defaults : Bool
  paused : Bool
  buffered : List HeldFrame
  owed : List Owed
  deriving DecidableEq, Repr

def Requester.blank : Requester := ⟨false, 0, 0, [], [], 0⟩
def Dict.reset : Dict :=
  { reqs := [], vals := [], staged := [], selected := [], store := [], storeBad := [], storeUsed := 0, framesBad := 0,
    aborts := 0, refused := 0, repeats := 0, persistFail := 0, defaults := false, paused := false, buffered := [], owed := [] }

/-! ## The whole state -/

/-- The K96. `pending` is the queue of waiting commands, first in, first out; `out` (the model's own) lists
what left the block; `freeCtr` (the model's own) counts the free values taken. -/
structure State where
  pending : List Instr
  out : List Out
  freeCtr : Nat
  dev : Device
  recorder : Recorder
  bell : Bell
  cores : Tab Core
  clusters : Tab Cluster
  sched : Sched
  host : HostIf
  market : Market
  hbm : Hbm
  ecc : Ecc
  pager : Pager
  fabric : Fabric
  sec : Security
  power : Power
  thermal : Thermal
  fw : Firmware
  pins : Pins
  dict : Dict
  deriving DecidableEq, Repr

/-- The K96 before any power: COLD, nothing queued, every register at its reset value. -/
def State.reset : State :=
  { pending := [], out := [], freeCtr := 0, dev := Device.reset, recorder := Recorder.reset, bell := Bell.reset, cores := [],
    clusters := [], sched := Sched.reset, host := HostIf.reset, market := Market.reset, hbm := Hbm.reset, ecc := Ecc.reset, pager := Pager.reset,
    fabric := Fabric.reset, sec := Security.reset, power := Power.reset, thermal := Thermal.reset, fw := Firmware.reset, pins := Pins.reset,
    dict := Dict.reset }

/-- Reasons a command stops with a fault: none is ever raised (every effect the spec names is a next state). -/
inductive Fault where
  /-- Raised by no command: kept so that the type has a member. Safe. -/
  | unused
  deriving DecidableEq, Repr

/-- Reasons a command is refused. -/
inductive Refusal where
  /-- Raised by `exec`'s arm of a command whose meaning is not written yet. Safe. -/
  | notModelled (mnemonic : String)
  deriving DecidableEq, Repr

end Sys2Proof.Machine
end

