-- ==== Sys2Proof/Machine/Ops.lean ====
section
/-!
DEFINITION. The named operations that every family uses: what leaves the block, event records
(R642, R648), unit states (R602), the partition of a quarter (R23).
-/

namespace Sys2Proof.Machine
open Sys2Proof

/-- The outcome of a command. -/
abbrev Res := Host.Outcome State Fault Refusal

/-- Something leaves the block. -/
def State.emit (s : State) (p : OutPort) (code : Nat) (vals : List Nat) : State :=
  { s with out := s.out ++ [⟨p, code, vals⟩] }

/-- The status of a dictionary command (Table 22-6): 0 is done. -/
def State.answer (s : State) (status : Nat) : State :=
  let s1 := s.emit .dict status []
  if status = 0 ∨ status = 0x0501 then s1 else { s1 with dict := { s1.dict with refused := s1.dict.refused + 1 } }

/-- A command that must wait: nothing changes; the sender is told. -/
def State.waits (s : State) : State := s.emit .sender 1 []

/-- A fresh free value. -/
def State.fresh (s : State) : State × Nat := ({ s with freeCtr := s.freeCtr + 1 }, Config.freeNat s.freeCtr)

/-! ## Values of the dictionary (R616, R618, R629) -/

/-- A value of `len` bytes as the tables hold it, and back. -/
def encVal (len v : Nat) : Nat := 256 ^ len + v % 256 ^ len
def valLen (x : Nat) : Nat := Nat.log2 x / 8
def decVal (x : Nat) : Nat := x - 256 ^ valLen x
def dictKey (index sub : Nat) : Nat := index * 256 + sub

/-- The value of a subindex that the dictionary itself holds; `dflt` is its default. -/
def State.val (s : State) (index sub dflt : Nat) : Nat :=
  match Tab.get 0 s.dict.vals (dictKey index sub) with
  | 0 => dflt
  | x => decVal x

def State.setVal (s : State) (index sub len v : Nat) : State :=
  { s with dict := { s.dict with vals := Tab.set 0 s.dict.vals (dictKey index sub) (encVal len v) } }

/-- Bytes of a record of the persistent store (R635). -/
def recordBytes (len : Nat) : Nat := 60 + 4 * ((len + 3) / 4)

/-- A persistent value is recorded in the store; a full copy is compacted into the other first (R635, R636). -/
def Dict.persist (d : Dict) (key x : Nat) : Dict :=
  let n := recordBytes (valLen x)
  let st := Tab.set 0 d.store key x
  let used := if d.storeUsed + n > 2 ^ 18 then st.foldl (fun a e => a + recordBytes (valLen e.2)) 0 else d.storeUsed + n
  { d with store := st, storeUsed := used, storeBad := d.storeBad.filter (· ≠ key) }

/-- The value a command takes from a staged subindex: the requester's own, else the default (R629). -/
def State.staged (s : State) (who index sub dflt : Nat) : Nat :=
  match Tab.get 0 s.dict.staged (who * 2 ^ 24 + dictKey index sub) with
  | 0 => dflt
  | x => decVal x

def State.stage (s : State) (who index sub len v : Nat) : State :=
  { s with dict := { s.dict with staged := Tab.set 0 s.dict.staged (who * 2 ^ 24 + dictKey index sub) (encVal len v) } }

/-- The staged value is cleared at apply (R629). -/
def State.unstage (s : State) (who index sub : Nat) : State :=
  { s with dict := { s.dict with staged := Tab.set 0 s.dict.staged (who * 2 ^ 24 + dictKey index sub) 0 } }

/-- A command has applied the staged subindices (subindex, bytes, default): they are what a requester without values of its own reads
(R629). -/
def State.applied (s : State) (who index : Nat) (subs : List (Nat × Nat × Nat)) : State :=
  subs.foldl (fun s x => s.setVal index x.1 x.2.1 (s.staged who index x.1 x.2.2)) s

/-- A SELECT's result for the requester. -/
def State.select (s : State) (who index sub len v : Nat) : State :=
  { s with dict := { s.dict with selected := Tab.set 0 s.dict.selected (who * 2 ^ 24 + dictKey index sub) (encVal len v) } }

/-- ECC_K64 (R400). -/
def State.k64 (s : State) : Bool := decide (s.val 0x4400 1 0 ≠ 0)

/-! ## Event records -/

/-- The sequence number after `n`: 0xFFFF_FFFF is skipped (R646). -/
def nextSeq (n : Nat) : Nat := (n + 1) % 0xFFFFFFFF

/-- Puts one record into the memory queue, which has room (R648). -/
def Recorder.push (r : Recorder) (bell cls detail p0 p1 : Nat) : Recorder :=
  { r with
    queue := r.queue ++ [⟨r.next, cls, detail, p0 % 2 ^ 32, p1 % 2 ^ 32, bell, r.pcycles, r.opsec⟩]
    next := nextSeq r.next }

/-- An event enters the recorder (R648): dropped and counted when the queue holds 512; after drops the first
record is LOST with their count. A FAILED recorder keeps the newest 512. -/
def Recorder.event (r : Recorder) (bell cls detail p0 p1 : Nat) : Recorder :=
  if r.state = 2 then (if r.queue.length ≥ 512 then { r with queue := r.queue.drop 1 } else r).push bell cls detail p0 p1
  else if r.queue.length ≥ 512 then { r with lost := r.lost + 1, lostPending := r.lostPending + 1 }
  else if r.lostPending = 0 then r.push bell cls detail p0 p1
  else
    let r1 := { r.push bell 1 2 r.lostPending 0 with lostPending := 0 }
    if r1.queue.length ≥ 512 then { r1 with lost := r1.lost + 1, lostPending := 1 }
    else r1.push bell cls detail p0 p1

/-- The event is recorded at the present bell. -/
def State.event (s : State) (cls detail p0 p1 : Nat) : State :=
  { s with recorder := s.recorder.event s.bell.count cls detail p0 p1 }

/-- A persistent subindex takes a value, which is recorded in the store; while the flash does not answer, the value stays in force and the record is
owed (R636). -/
def State.keepVal (s : State) (index sub len v : Nat) : State :=
  let s1 := s.setVal index sub len v
  let k := dictKey index sub
  if s.recorder.state = 1 then
    { s1 with dict := { s1.dict with
      storeBad := s1.dict.storeBad.filter (· ≠ k) ++ [k], persistFail := s1.dict.persistFail + 1 } }.event 1 4 s.recorder.state 0
  else { s1 with dict := s1.dict.persist k (encVal len v) }

/-! ## Units (R602) -/

def ukCore : Nat := 1
def ukStall : Nat := 2
def ukCluster : Nat := 3
def ukRunner : Nat := 4
def ukPort : Nat := 5
def ukStack : Nat := 6

def usOff : Nat := 0
def usFenced : Nat := 1
def usDraining : Nat := 2
def usResetting : Nat := 3
def usTesting : Nat := 4
def usReady : Nat := 5
def usDegraded : Nat := 6
def usRetired : Nat := 7

def unitKey (kind i : Nat) : Nat := kind * 1024 + i

def State.unitRec (s : State) (kind i : Nat) : UnitRec := Tab.get UnitRec.blank s.dev.units (unitKey kind i)

/-- The state that governs traffic: the data-path fence table's (R612). -/
def State.unit (s : State) (kind i : Nat) : Nat := (s.unitRec kind i).dstate

def State.inService (s : State) (kind i : Nat) : Bool :=
  s.unit kind i = usReady || s.unit kind i = usDegraded

/-- The record of a unit (Table 21-10) as 64 bits. -/
def State.unitWord (s : State) (kind i : Nat) : Nat :=
  let r := s.unitRec kind i
  let phys := if kind = ukCore then Tab.get 0 s.dev.coreSite i - 1 else i
  let logical :=
    if kind = ukStall then
      ((List.range 256).find? (fun n => Tab.get 0 s.dev.stallSite n = i + 1)).getD 0xFFFF
    else i
  r.dstate * 2 ^ 60 + r.mstate * 2 ^ 56 + (if r.mismatch then 2 ^ 55 else 0) + r.reason % 128 * 2 ^ 48
    + (if kind = ukCore then r.incarn % 256 * 2 ^ 40 else 0) + logical % 65536 * 2 ^ 16 + phys % 65536

def State.setUnit (s : State) (kind i : Nat) (r : UnitRec) : State :=
  { s with dev := { s.dev with units := Tab.set UnitRec.blank s.dev.units (unitKey kind i) r } }

/-- A unit's state changes in both views, and the change is recorded (R612, Table 23-2). -/
def State.moveUnit (s : State) (kind i st reason : Nat) : State :=
  let r := s.unitRec kind i
  let s1 := s.setUnit kind i { r with dstate := st, mstate := st, reason := reason }
  s1.event 0x12 (kind * 4096 + i) (s1.unitWord kind i % 2 ^ 32) (s1.unitWord kind i / 2 ^ 32)

/-! ## Partitions (R23) -/

/-- The partition of a quarter, if any. -/
def State.quarterPart (s : State) (q : Nat) : Option Nat :=
  match Tab.get 0 s.dev.quarterPart q with
  | 0 => none
  | p + 1 => some p

/-- The quarter mask of a partition. -/
def State.partQuarters (s : State) (p : Nat) : List Nat :=
  (List.range 4).filter (fun q => s.quarterPart q = some p)

/-- The partition of a core: that of its quarter (R176). -/
def State.corePart (s : State) (c : Nat) : Option Nat := s.quarterPart (c / 64)

/-- The partition of a cluster. -/
def State.clusterPart (s : State) (k : Nat) : Option Nat := s.quarterPart (k / 8)

/-- The half of a quarter or of a cluster's quarter: 0 west, 1 east. -/
def quarterHalf (q : Nat) : Nat := q / 2

/-- A stall is present after boot (R20). -/
def State.stallPresent (s : State) (n : Nat) : Bool := Tab.get 0 s.dev.stallSite n ≠ 0

/-- Bits [1:0] of PW_CAUSES: λ_cap, or a thermal limit, below 64/64. -/
def State.softCauses (s : State) : Nat := (if s.power.cap < 64 then 1 else 0) + (if s.thermal.cut.isEmpty then 0 else 2)

/-- Bit [12]: a stack above 105 °C (R376). -/
def State.hotStacks (s : State) : Nat := if s.hbm.stks.any (fun e => e.2.hotRequest) then 4096 else 0

/-- PW_CAUSES (Table 17-4). -/
def State.causes (s : State) : Nat := s.power.causes ||| s.hotStacks ||| s.softCauses

/-- The level that causes ask for (R515). -/
def causeLevel (c : Nat) : Nat := if Nat.testBit c 16 then 3 else if c / 256 % 32 ≠ 0 then 2 else if c % 4 ≠ 0 then 1 else 0

/-- An activation armed again after a deferral is cancelled and waits for the next fall when level 2 comes back (R584). -/
def State.holdActivation (s : State) : State :=
  if s.fw.pcState = 1 ∧ s.fw.pcRearmed then
    { s with
      fw := { s.fw with pcState := 2 }
      bell := { s.bell with slots := Tab.mapVals EvSlot.blank (fun _ x => if x.kind = 2 ∧ x.st = 1 then { x with st := 3 } else x) s.bell.slots } }
  else s

/-- The emergency level after a change of causes: level 2 and 3 do not fall here (R515, R516). Entering and leaving them is recorded. -/
def State.settleLevel (s : State) : State :=
  let want := causeLevel s.causes
  let now := s.power.level
  let new := if now ≥ 2 ∧ want < now then now else want
  let s0 := { s with power := { s.power with level := new, lastL2 := if want ≥ 2 then s.bell.count else s.power.lastL2 } }
  let s1 := if new ≥ 2 ∧ now < 2 then s0.holdActivation else s0
  if new = now ∨ (new < 2 ∧ now < 2) then s1 else s1.event 0x20 (256 + new) s1.causes 0

/-- No unit starts new work: emergency level 2 or higher (R516), or the device is SAFE (R604). -/
def State.noNewWork (s : State) : Bool := decide (2 ≤ s.power.level) || decide (s.dev.st = 4)

/-- Bit `i` of a 16-bit mask. -/
def bit16 (i : Nat) : Half := BitVec.ofNat 16 (2 ^ i)

def Half.has (m : Half) (i : Nat) : Bool := m.getLsbD i

end Sys2Proof.Machine
end

