-- ==== Sys2Proof/Machine/Command.lean ====
section
/-!
DEFINITION. What every dictionary command checks before its own rules: the service of Table 22-8 and the authorisation of
R551, R552 and R633.
-/

namespace Sys2Proof.Machine
open Sys2Proof

def devCold : Nat := 0
def devBooting : Nat := 1
def devReady : Nat := 2
def devDegraded : Nat := 3
def devSafe : Nat := 4
def devLatched : Nat := 5

/-- Paths of a requester (R619, R621). -/
def pathRing : Nat := 0
def pathPcie : Nat := 1
def pathI3c : Nat := 2
def pathUdp : Nat := 3
def pathSession : Nat := 4

def State.requester (s : State) (who : Nat) : Requester := Tab.get Requester.blank s.dict.reqs who
def State.setRequester (s : State) (who : Nat) (r : Requester) : State :=
  { s with dict := { s.dict with reqs := Tab.set Requester.blank s.dict.reqs who r } }
def State.session (s : State) (n : Nat) : Session := Tab.get Session.blank s.sec.sessions n
def State.setSession (s : State) (n : Nat) (x : Session) : State :=
  { s with sec := { s.sec with sessions := Tab.set Session.blank s.sec.sessions n x } }
def State.seal (s : State) (p : Nat) : Seal := Tab.get Seal.blank s.sec.seals p

/-- The session a requester is, once FINISH has opened it. -/
def State.sessionOf (s : State) (who : Nat) : Option Session :=
  let r := s.requester who
  if r.used ∧ r.path = pathSession ∧ (s.session r.source).used ∧ (s.session r.source).finished then some (s.session r.source) else none

/-- The role of a requester's session: 0 none, 1 operator, 2 tenant, 3 root recovery (R551). -/
def State.role (s : State) (who : Nat) : Nat := match s.sessionOf who with | some x => x.role | none => 0

/-- Bytes of SEC_OP_ROOTS (R633). -/
def State.opRoots (s : State) : Nat := valLen (Tab.get 0 s.dict.vals (dictKey 0x7000 5))

/-- The opening of R552: no operator root was ever set. -/
def State.opening (s : State) : Bool := !s.sec.opClosed && decide (s.opRoots = 0)

/-- A frame outside a session on the management path. -/
def State.onMgmt (s : State) (who : Nat) : Bool :=
  let r := s.requester who
  r.used && decide (r.path = pathI3c ∨ r.path = pathUdp)

/-- OPCLOSED is blown and no operator root is held: only root recovery may write (R633). -/
def State.recovering (s : State) : Bool := s.sec.opClosed && decide (s.opRoots = 0)

/-- An RW-AUTH write of this requester is authorised (R552). -/
def State.authPlain (s : State) (who : Nat) : Bool := decide (s.role who = 1) && !s.recovering || (s.opening && s.onMgmt who)

/-- The requester is the tenant's session of a partition. -/
def State.tenantOf (s : State) (who p : Nat) : Bool :=
  match s.sessionOf who with | some x => decide (x.role = 2 ∧ x.part = p) && !s.recovering | none => false

/-- A tenant-scoped write that acts on partition `p` (R552). -/
def State.authTenant (s : State) (who p : Nat) : Bool :=
  if (s.seal p).st = 1 then s.tenantOf who p else s.authPlain who

/-- A write of a staged subindex of a tenant-scoped entry (R552). -/
def State.authStage (s : State) (who : Nat) : Bool := decide (s.role who = 2) && !s.recovering || s.authPlain who

/-- An authentication failure is counted; at most one record per source and per second (R561). Sources: 2^32 × kind + index, kind 1 a
queue, 2 a device, 3 a session, 4 an image. -/
def State.authFailed (s : State) (source part : Nat) : State :=
  let n := s.sec.authFail + 1
  let last := Tab.get 0 s.sec.authEvent source
  let s1 := { s with sec := { s.sec with authFail := n } }
  if last = 0 ∨ s.bell.count ≥ last - 1 + 1000000 then
    { s1 with sec := { s1.sec with authEvent := Tab.set 0 s1.sec.authEvent source (s.bell.count + 1) } }.event 0x70 3 part n
  else s1

/-- The step of a boot as Table 22-8 counts it: the warm steps W1 to W6 are 0x11 to 0x16 (R638). -/
def State.stepNo (s : State) : Nat := if s.dev.bootStep > 16 then s.dev.bootStep - 16 else s.dev.bootStep

def State.proc (s : State) (p : Nat) : Proc := Tab.get Proc.blank s.fw.procs p

/-- After a third watchdog restart of the security core the ROM runs the loader only, as for a cold boot (Table 20-3). -/
def State.romOnly (s : State) : Bool := decide (s.dev.st = devSafe ∧ (s.proc 0).st = 0)

/-- A path is served in the present device state (Table 22-8). -/
def State.pathServed (s : State) (p : Nat) : Bool :=
  if s.dev.st = devCold then false
  else if s.romOnly then decide (p = pathI3c)
  else if s.dev.st = devBooting then
    if s.stepNo ≤ 3 then decide (p = pathI3c)
    else if s.stepNo = 4 then decide (p = pathI3c ∨ p = pathUdp ∨ p = pathSession)
    else true
  else if s.dev.st = devLatched then decide (p = pathI3c ∨ p = pathUdp ∨ p = pathSession)
  else true

/-- The path of the requester is served. -/
def State.served (s : State) (who : Nat) : Bool := s.pathServed (s.requester who).path

/-- A write of an index is served in the present device state (Table 22-8). -/
def State.writable (s : State) (index : Nat) : Bool :=
  if s.romOnly then false
  else if s.dev.st = devReady ∨ s.dev.st = devDegraded ∨ s.dev.st = devSafe then true
  else decide (s.dev.st = devBooting ∧ 4 ≤ s.stepNo ∧ (0x1000 ≤ index ∧ index ≤ 0x1FFF ∨ 0x7000 ≤ index ∧ index ≤ 0x7FFF))

/-- Steps 1 to 3 of a boot: every request but the reads of DEV_STATE and DEV_BOOT_STEP is refused (R595). -/
def State.earlyBoot (s : State) : Bool := s.romOnly || decide (s.dev.st = devBooting ∧ s.stepNo ≤ 3)

/-- A write of an entry: an unserved path gets no answer; steps 1 to 3 of a boot refuse every write (R595); then the authorisation, the device
state (Table 22-8), the write. -/
def State.admitWrite (s : State) (who index : Nat) (auth : Bool) (k : State → State) : State :=
  if !s.served who then s
  else if s.earlyBoot then s.answer 0x0402
  else if !auth then s.answer 0x0203
  else if !s.writable index then s.answer 0x0402
  else k s

/-- A command write of an entry. Commands on 0x6800 wait while the scheduler core is not in service (Table 20-3, R585). -/
def State.command (s : State) (who index : Nat) (auth : Bool) (k : State → State) : State :=
  s.admitWrite who index auth (fun s => if index = 0x6800 ∧ (s.proc 2).st ≠ 2 then s.waits else k s)

/-- The staged values of a command whose last answer is 0 are the last applied (R629). -/
def State.appliedIf (t : State) (who index : Nat) (subs : List (Nat × Nat × Nat)) : State :=
  if t.out.getLast? = some ⟨.dict, 0, []⟩ then t.applied who index subs else t

end Sys2Proof.Machine
end

