-- ==== Sys2Proof/Machine/Mem.lean ====
section
/-!
DEFINITION. The market's one access path (chapters 07, 08, 13): where an address lies, stored-data
checks, the cache role, base and shadow states of a sector, and the six kinds of access every unit
uses: read, whole-sector write, part-sector write, atomic, fold-in, commit and cancel of drafts.
-/

namespace Sys2Proof.Machine
open Sys2Proof

/-! ## Addresses (R26, R212, R217, R368, R369) -/

def directBase : Nat := 0x010000000000
def directEnd : Nat := 0x010140000000
def quarterDirect : Nat := 0x50000000
/-- Installed bytes of a quarter's HBM window (R368). -/
def quarterHbm : Nat := 256000000000

def isHbmAddr (a : Nat) : Bool := a < 2 ^ 40
def isDirectAddr (a : Nat) : Bool := directBase ≤ a ∧ a < directEnd

/-- The quarter of a direct address and its frame there (R212). -/
def directQuarter (a : Nat) : Nat := (a - directBase) / quarterDirect
def directFrame (a : Nat) : Nat := (a - directBase) % quarterDirect / 0x10000
def frameKey (q f : Nat) : Nat := q * 20480 + f
def frameStall (q f : Nat) : Nat := 64 * q + f % 64
def frameRow (f : Nat) : Nat := f / 64
def frameAddr (q f : Nat) : Nat := directBase + q * quarterDirect + f * 0x10000
/-- Stall-local line number L of a direct address (R212). -/
def directLine (a : Nat) : Nat := 512 * frameRow (directFrame a) + (a - directBase) % 0x10000 / 128

/-- The stack that serves an HBM address (R368, Table 12-2): 4 × quarter + j. -/
def stackOf (a : Nat) : Nat :=
  let k := a % 2 ^ 38 / 128
  4 * (a / 2 ^ 38) + ((k / 4 % 4) ^^^ (k / 2 ^ 16 % 4) ^^^ (k / 2 ^ 24 % 4))

/-- Channel × 2 + pseudo-channel, bank and row of an HBM address (Table 12-2). -/
def hbmPc (a : Nat) : Nat := let k := a % 2 ^ 38 / 128; (k / 16 % 32) * 2 + k / 512 % 2
def hbmBank (a : Nat) : Nat := a % 2 ^ 38 / 128 / 1024 % 64
def hbmRow (a : Nat) : Nat := a % 2 ^ 38 / 128 / 2 ^ 17 % 2 ^ 14

/-- The stall index within the quarter and the set of an HBM line (R217); `lam` is address bits [39:7]. -/
def cacheIx (lam : Nat) : Nat :=
  (lam % 64) ^^^ (lam / 2 ^ 6 % 64) ^^^ (lam / 2 ^ 12 % 64) ^^^ (lam / 2 ^ 18 % 64) ^^^ (lam / 2 ^ 24 % 64)
    ^^^ (lam / 2 ^ 30 % 8)
def cacheSet (lam : Nat) : Nat :=
  (lam / 2 ^ 7 % 256 * 2 + lam / 64 % 2) ^^^ (lam / 2 ^ 15 % 512) ^^^ (lam / 2 ^ 24 % 512)

/-- The stall that caches an HBM line: the next present one from its index, wrapping in the quarter (R217). -/
def State.cacheStall (s : State) (lam : Nat) : Option Nat :=
  ((List.range 64).map (fun i => 64 * (lam / 2 ^ 31) + (cacheIx lam + i) % 64)).find? (fun n => s.stallPresent n)

/-- A frame's role: ABSENT without its stall (R213). -/
def State.frameRole (s : State) (q f : Nat) : FrameRole :=
  if s.stallPresent (frameStall q f) then Tab.get FrameRole.cache s.market.frames (frameKey q f) else .absent

def State.setFrame (s : State) (q f : Nat) (r : FrameRole) : State :=
  { s with market := { s.market with frames := Tab.set FrameRole.cache s.market.frames (frameKey q f) r } }

/-- The quarter's HBM space is installed: no stack of it is OFF or RETIRED and some stall is present (R217, R370). -/
def State.hbmInstalled (s : State) (q : Nat) : Bool :=
  (List.range 4).all (fun j => s.unit ukStack (4 * q + j) ≠ usOff ∧ s.unit ukStack (4 * q + j) ≠ usRetired)
    && (List.range 64).any (fun i => s.stallPresent (64 * q + i))

/-- The address exists (R26, R215, R368, R370). -/
def State.addrOk (s : State) (a : Nat) : Bool :=
  if isHbmAddr a then decide (a % 2 ^ 38 < quarterHbm) && s.hbmInstalled (a / 2 ^ 38)
  else if isDirectAddr a then
    match s.frameRole (directQuarter a) (directFrame a) with
    | .placed => true
    | .landing => true
    | _ => false
  else false

/-- The stall and set of a line of either kind (R217, R261). -/
def State.lineHome (s : State) (line : Nat) : Option (Nat × Nat) :=
  if isHbmAddr (128 * line) then (s.cacheStall line).map (fun n => (n, cacheSet line))
  else
    let a := 128 * line
    some (frameStall (directQuarter a) (directFrame a), directLine a % 512)

/-! ## Requests -/

def Acc.plain : Acc := ⟨0#16, false, 0, none, none, 6, 0xFFFF, 6⟩

/-- The context and virtual address of sector `n` of a MIR page. -/
def Acc.mirAt (a : Acc) (n : Nat) : Option (Nat × Nat) := a.mir.map (fun m => (m.1, m.2.1 + 32 * n - m.2.2))

/-- How an access ends: done, must wait for a way, an address that does not exist, or its epoch was cancelled. -/
inductive MemSt where
  | ok | wait | fault | cancelled
  deriving DecidableEq, Repr

/-- What a read delivers. -/
structure View where
  data : BitVec 256
  poison : Bool
  stale : Bool
  taint : Half
  deriving DecidableEq, Repr

def View.none : View := ⟨0#256, false, false, 0#16⟩

/-! ## Stored-data checks (R395 to R407) -/

/-- What a decoder decides about a stored sector. -/
inductive Decode where
  | clean
  | poison
  | corrected (symbol : Nat) (data : BitVec 256)
  | bad
  deriving DecidableEq, Repr

def sectorDecide (data : BitVec 256) (chk : Half) : Decode :=
  if chk = 0#16 then .clean
  else if chk = Config.poison then .poison
  else
    match Config.sectorSymbol chk with
    | some (i, p) => .corrected i (if i < 64 then data ^^^ BitVec.ofNat 256 (p % 16 * 2 ^ (4 * i)) else data)
    | none => .bad

/-- An error enters the log (R407): kind, memory, unit, symbol, address. -/
def State.eccNote (s : State) (kind mem unit symbol addr : Nat) : State :=
  let fresh : EccRec := ⟨kind, mem, unit, symbol, 1, addr, s.bell.count % 2 ^ 48⟩
  let log :=
    match s.ecc.log with
    | r :: rest =>
      if r.kind = kind ∧ r.mem = mem ∧ r.unit = unit ∧ r.addr = addr
      then { r with count := if r.count < 255 then r.count + 1 else 255 } :: rest
      else (fresh :: r :: rest).take 64
    | [] => [fresh]
  let s1 := { s with ecc := { s.ecc with log := log } }
  if kind = 1 ∨ kind = 2 ∨ kind = 4 then
    s1.event 0x30 (kind * 4096 + mem * 512 + unit) addr (addr / 2 ^ 32 % 65536 + symbol * 65536)
  else s1

/-- A corrected error is counted and logged; CE-REPEAT where it was corrected and written back before (R399,
R407). -/
def State.eccCorrected (s : State) (mem unit symbol addr : Nat) : State :=
  let kind := if (mem, unit, addr, symbol) ∈ s.ecc.fixedAt then 1 else 0
  let s1 := { s with ecc := { s.ecc with ce := Tab.modify 0 s.ecc.ce mem (· + 1) } }
  s1.eccNote kind mem unit symbol addr

/-- A fresh uncorrectable error is counted and logged with kind 2 UE or 4 UE-SCRUB (R403, R406). -/
def State.eccFresh (s : State) (kind mem unit addr : Nat) : State :=
  let s1 := { s with ecc := { s.ecc with ue := Tab.modify 0 s.ecc.ue mem (· + 1) } }
  s1.eccNote kind mem unit 0xFF addr

def State.eccPoisonRead (s : State) : State :=
  { s with ecc := { s.ecc with poisonRead := s.ecc.poisonRead + 1 } }

/-- A fold-in that met poison counts once, whatever reads it took (R404): `s0` is the state before it. -/
def State.eccPoisonFold (s0 s : State) : State :=
  { s with ecc := { s.ecc with poisonRead := s0.ecc.poisonRead + 1 } }

/-- A correcting write-back is performed (R400, R401). -/
def State.eccWroteBack (s : State) (mem unit symbol addr : Nat) : State :=
  { s with ecc := { s.ecc with corrWb := s.ecc.corrWb + 1, fixedAt := (mem, unit, addr, symbol) :: s.ecc.fixedAt } }

/-! ## HBM behind the market (R366 to R383) -/

def State.stack (s : State) (j : Nat) : Stack := Tab.get Stack.blank s.hbm.stks j
def State.setStack (s : State) (j : Nat) (k : Stack) : State :=
  { s with hbm := { s.hbm with stks := Tab.set Stack.blank s.hbm.stks j k } }

def State.hbmSector (s : State) (n : Nat) : HbmSector := Tab.get HbmSector.blank s.hbm.sectors n
def State.setHbmSector (s : State) (n : Nat) (x : HbmSector) : State :=
  { s with hbm := { s.hbm with sectors := Tab.set HbmSector.blank s.hbm.sectors n x } }

/-- The class that an enabled regulation window gives a request (R385 rule 7, R386). -/
def State.windowClass (s : State) (addr src : Nat) : Option Nat :=
  (s.hbm.windows.find? (fun e => e.2.enabled && decide (e.2.base ≤ addr ∧ addr < e.2.stop) && decide (src < 6) && Nat.testBit e.2.sources src)).map
    (fun e => e.2.cls)

/-- A request enters the queue of its controller (R371): 0 read, 1 write. -/
def State.hbmAccept (s : State) (acc : Acc) (addr kind : Nat) : State :=
  let j := stackOf addr
  let k := s.stack j
  let r : HbmReq := ⟨s.hbm.seq, addr, kind, (s.windowClass addr acc.src).getD acc.cls, acc.deadline, s.bell.count⟩
  let k1 := if kind = 0 then { k with readQ := k.readQ ++ [r] } else { k with writeQ := k.writeQ ++ [r] }
  let occ := k1.readQ.length + k1.writeQ.length
  let s1 := s.setStack j { k1 with occMax := if occ > k1.occMax then occ else k1.occMax }
  { s1 with hbm := { s1.hbm with seq := s1.hbm.seq + 1 } }

/-- The HBM key of a sector's quarter (R367, R556): its partition's, by how often one was drawn, or the device key. -/
def State.hbmKey (s : State) (n : Nat) : Nat :=
  match s.quarterPart (32 * n / 2 ^ 38) with
  | none => Tab.get 0 s.sec.hbmKeys 4
  | some p => 2 ^ 32 * (p + 1) + Tab.get 0 s.sec.hbmKeys p

/-- HBM after keys changed from those of `s0` to those of `s`: the ciphertext stays, and what another key wrote decrypts to no content (R367, R559). -/
def State.rekeyedFrom (s0 s : State) : State :=
  { s with hbm := { s.hbm with sectors := Tab.mapVals HbmSector.blank (fun n x =>
      if s0.hbmKey n = s.hbmKey n then x else { x with data := Config.xtsInverse (s.hbmKey n) n (Config.xts (s0.hbmKey n) n x.data) }) s.hbm.sectors } }

/-- What a decoder decides about a sector of HBM: the code covers the ciphertext (R395). -/
def State.hbmDecide (s : State) (n : Nat) (x : HbmSector) : Decode :=
  match sectorDecide (Config.xts (s.hbmKey n) n x.data) x.chk with
  | .corrected i d => .corrected i (if i < 64 then Config.xtsInverse (s.hbmKey n) n d else x.data)
  | e => e

/-- A sector of HBM after its check (R397 to R403): the sector delivered, corrected where the code allows. -/
def State.hbmChecked (s : State) (n : Nat) : State × HbmSector :=
  let j := stackOf (32 * n)
  let x := s.hbmSector n
  if s.unit ukStack j = usFenced then (s, ⟨x.data, Config.poison⟩)
  else
    match s.hbmDecide n x with
    | .clean => (s, x)
    | .poison => (s.eccPoisonRead, x)
    | .corrected i d =>
      let s := s.eccCorrected 1 j i (32 * n)
      if s.k64 then ((s.setHbmSector n ⟨d, 0#16⟩).eccWroteBack 1 j i (32 * n), ⟨d, 0#16⟩) else (s, ⟨d, 0#16⟩)
    | .bad => ((s.eccFresh 2 1 j (32 * n)).setHbmSector n ⟨x.data, Config.poison⟩, ⟨x.data, Config.poison⟩)

/-- A sector read at the stack: decrypted, checked and, where the code allows, corrected (R367, R379, R399, R403); merges accepted
earlier are not looked at. A FENCED stack returns poison. -/
def State.hbmReadNow (s : State) (acc : Acc) (n : Nat) : State × HbmSector :=
  let j := stackOf (32 * n)
  let s := s.hbmAccept acc (32 * n) 0
  let k := s.stack j
  (s.setStack j { k with reads := k.reads + 1 }).hbmChecked n

/-- A whole-sector write at the stack; a FENCED stack discards it (R379). -/
def State.hbmWriteNow (s : State) (acc : Acc) (n : Nat) (x : HbmSector) : State :=
  let j := stackOf (32 * n)
  let s := s.hbmAccept acc (32 * n) 1
  if s.unit ukStack j = usFenced then s
  else
    let k := s.stack j
    (s.setStack j { k with writes := k.writes + 1 }).setHbmSector n x

/-! ## Elements of a sector (Table 8-3) -/

/-- Bits of a fold-in element. -/
def foldBits (fmt : Nat) : Nat := fmtBits fmt

def sectorElem (w : Nat) (d : BitVec 256) (i : Nat) : Nat := (d.toNat >>> (w * i)) % 2 ^ w

def putElem (w : Nat) (d : BitVec 256) (i v : Nat) : BitVec 256 :=
  BitVec.ofNat 256 (d.toNat - (sectorElem w d i) <<< (w * i) + (v % 2 ^ w) <<< (w * i))

def operandInt : FoldOperand → Int
  | .int x => x
  | _ => 0

def operandFp32 : FoldOperand → Word
  | .fp32 x => x
  | .bf16 x => widenBf16 x
  | _ => 0#32

/-- One fold-in to one element (R48 to R51): the new element bits and the completion's flags. -/
def foldElem (fmt : Nat) (anchor : Int) (old : Nat) (op : FoldOperand) : Nat × FoldFlags :=
  match fmt with
  | 0xD => (foldInt 32 old (operandInt op), FoldFlags.none)
  | 0xE => (foldInt 64 old (operandInt op), FoldFlags.none)
  | 0xC => let r := foldFp32 (BitVec.ofNat 32 old) (operandFp32 op); (r.1.toNat, r.2)
  | 0xA => let r := foldBf16 (BitVec.ofNat 16 old) (operandFp32 op); (r.1.toNat, r.2)
  | _ => let r := foldAnch128 anchor (BitVec.ofNat 128 old) op; (r.1.toNat, r.2)

/-- A request's elements applied in order (R251). -/
def foldElems (fmt : Nat) (anchor : Int) : BitVec 256 → List (Nat × FoldOperand) → BitVec 256 × FoldFlags
  | d, [] => (d, FoldFlags.none)
  | d, (i, op) :: r =>
    let x := foldElem fmt anchor (sectorElem (foldBits fmt) d i) op
    let y := foldElems fmt anchor (putElem (foldBits fmt) d i x.1) r
    (y.1, FoldFlags.or x.2 y.2)

/-- The mask of elements that a request touches (R255). -/
def elemMask (l : List (Nat × FoldOperand)) : Half := l.foldl (fun m e => m ||| bit16 e.1) 0#16

/-- An element of a partial sum as a fold-in operand. -/
def partialOperand (fmt v : Nat) : FoldOperand :=
  match fmt with
  | 0xD => .int (sext 32 v)
  | 0xE => .int (sext 64 v)
  | 0xC => .fp32 (BitVec.ofNat 32 v)
  | 0xA => .bf16 (BitVec.ofNat 16 v)
  | _ => .anch (BitVec.ofNat 128 v)

/-- The partial sum added into a sector, at the masked elements only (R256). -/
def mergeSector (fmt : Nat) (anchor : Int) (base part : BitVec 256) (elems : Half) : BitVec 256 × FoldFlags :=
  foldElems fmt anchor base
    (((List.range (256 / foldBits fmt)).filter (fun i => elems.getLsbD i)).map
      (fun i => (i, partialOperand fmt (sectorElem (foldBits fmt) part i))))

/-- A merge that is lost is counted and recorded (R382, R256). -/
def State.mergeLost (s : State) (j : Nat) : State :=
  let k := s.stack j
  (s.setStack j { k with mergeLost := k.mergeLost + 1 }).event 0x31 5 j 0

/-- The merge unit performs one merge: read, add at the masked elements, write (R380, R382). -/
def State.mergeNow (s : State) (m : MergeReq) : State :=
  let n := m.sector
  let x := m.part
  let j := stackOf (32 * n)
  let r := s.hbmReadNow m.acc n
  if r.2.chk = Config.poison then (r.1.hbmWriteNow m.acc n ⟨r.2.data, Config.poison⟩).mergeLost j
  else
    let y := mergeSector x.fmt (x.anchor.getD 0) r.2.data x.data x.elems
    let s := r.1.hbmWriteNow m.acc n ⟨y.1, 0#16⟩
    let k := s.stack j
    let s := s.setStack j { k with merges := k.merges + 1, mergeSat := k.mergeSat + (if y.2.sat then 1 else 0) }
    { s with market := { s.market with cnt := { s.market.cnt with foldMerges := s.market.cnt.foldMerges + 1 } } }

/-- Merges of a sector that were accepted before a request of the same sector are performed before it (R371, R381). -/
def State.settleMerges (s : State) (n : Nat) : State :=
  let j := stackOf (32 * n)
  let q := (s.stack j).mergeQ
  if q.any (fun m => m.sector = n) then
    let s1 := s.setStack j { s.stack j with mergeQ := q.filter (fun m => m.sector ≠ n) }
    (q.filter (fun m => m.sector = n)).foldl State.mergeNow s1
  else s

/-- Every merge accepted for a sector of `[lo, lo + n)` is performed. -/
def State.settleRange (s : State) (lo n : Nat) : State :=
  ((List.range 16).flatMap (fun j => ((s.stack j).mergeQ.map (·.sector)).filter (fun k => decide (lo ≤ 32 * k ∧ 32 * k < lo + n)))).foldl
    State.settleMerges s

/-- A read request of a sector at its controller. -/
def State.hbmRead (s : State) (acc : Acc) (n : Nat) : State × HbmSector := (s.settleMerges n).hbmReadNow acc n

/-- A write request of a whole sector at its controller. -/
def State.hbmWrite (s : State) (acc : Acc) (n : Nat) (x : HbmSector) : State := (s.settleMerges n).hbmWriteNow acc n x

/-- The merge unit accepts a PARTIAL sector (R380); one with the poison pattern is written as it is (R256). -/
def State.hbmMerge (s : State) (acc : Acc) (n : Nat) (x : Sector) : State :=
  let j := stackOf (32 * n)
  if x.chk = Config.poison then (s.hbmWrite acc n ⟨x.data, Config.poison⟩).mergeLost j
  else
    let k := s.stack j
    let s1 := s.setStack j { k with mergeQ := k.mergeQ ++ [⟨s.hbm.seq, n, { x with sh := Shadow.none }, acc⟩] }
    { s1 with hbm := { s1.hbm with seq := s1.hbm.seq + 1 } }

/-! ## Sectors and ways (R217 to R219, R257, R261) -/

def State.sector (s : State) (n : Nat) : Sector := Tab.get Sector.blank s.market.sectors n
def State.setSector (s : State) (n : Nat) (x : Sector) : State :=
  { s with market := { s.market with sectors := Tab.set Sector.blank s.market.sectors n x } }
def State.line (s : State) (l : Nat) : LineRec := Tab.get LineRec.blank s.market.lines l
def State.setLine (s : State) (l : Nat) (x : LineRec) : State :=
  { s with market := { s.market with lines := Tab.set LineRec.blank s.market.lines l x } }
def State.setShWay (s : State) (l row1 : Nat) : State :=
  { s with market := { s.market with shWays := Tab.set 0 s.market.shWays l row1 } }

/-- The base state in the sense of Table 8-1: an unlisted direct sector is VALID. -/
def Sector.state (n : Nat) (x : Sector) : SecBase :=
  if x.base = .absent ∧ ¬ isHbmAddr (32 * n) then .valid else x.base

/-- The four sectors of a line. -/
def lineSectors (l : Nat) : List Nat := [4 * l, 4 * l + 1, 4 * l + 2, 4 * l + 3]

/-- The stall-local byte offset of a sector in an error record (Table 13-3), and the physical stall. -/
def State.sectorPlace (s : State) (n : Nat) : Nat × Nat :=
  let a := 32 * n
  let l := a / 128
  match s.lineHome l with
  | none => (0, 0)
  | some (st, set) =>
    let lineNo := if isHbmAddr a then 512 * ((s.line l).row1 - 1) + set else directLine a
    (Tab.get 0 s.dev.stallSite st - 1, lineNo * 128 + a % 128 / 32 * 32)

/-- Frame rows taken in one set of one stall: cached lines, closed ways, shadow ways. -/
def State.rowsTaken (s : State) (stall set : Nat) : List Nat :=
  let home (l : Nat) : Bool := s.lineHome l = some (stall, set)
  (s.market.lines.filter (fun e => home e.1)).map (fun e => e.2.row1 - 1)
    ++ (s.market.closed.filter (fun c => c.stall = stall ∧ c.set = set)).map (fun c => c.row)
    ++ (s.market.shWays.filter (fun e => home e.1)).map (fun e => e.2 - 1)

/-- A row of the stall is a way: its frame is CACHE (R217). -/
def State.rowIsWay (s : State) (stall row : Nat) : Bool :=
  s.frameRole (stall / 64) (64 * row + stall % 64) = .cache

/-- The line has fold-ins queued (R218, R257). -/
def State.foldQueued (s : State) (l : Nat) : Bool :=
  match s.lineHome l with
  | none => false
  | some (st, _) => (Tab.get [] s.market.foldQ st).any (fun r => r.sector / 4 = l)

/-- The controller can take the line's write-back (R371, R383). -/
def State.canWriteBack (s : State) (l : Nat) : Bool :=
  let k := s.stack (stackOf (128 * l))
  decide (k.writeQ.length + 4 ≤ 256)
    && (decide (k.mergeQ.length + 4 ≤ 64) || !(lineSectors l).any (fun n => (s.sector n).base = .partl))

/-- A market sector read out for its write-back or move: corrected where the code allows, with the poison pattern otherwise, as it
is stored anew at its destination (R397, R399, R403). -/
def State.readOut (s : State) (n : Nat) (x : Sector) : State × Sector :=
  let place := s.sectorPlace n
  match sectorDecide x.data x.chk with
  | .clean => (s, x)
  | .poison => (s, x)
  | .corrected i d => (s.eccCorrected 0 place.1 i place.2, { x with data := d, chk := 0#16 })
  | .bad => (s.eccFresh 2 0 place.1 place.2, { x with chk := Config.poison })

/-- Writes back a line's dirty VALID and PARTIAL sectors (R219, R256). -/
def State.writeBackSector (s : State) (acc : Acc) (n : Nat) : State :=
  let x := s.sector n
  let s1 :=
    match x.base with
    | .valid => if x.dirty then let r := s.readOut n x; r.1.hbmWrite acc n ⟨r.2.data, r.2.chk⟩ else s
    | .partl => let r := s.readOut n x; r.1.hbmMerge acc n r.2
    | _ => s
  s1.setSector n { Sector.blank with sh := x.sh }

/-- A line leaves its way: dirty data goes to HBM, the base becomes ABSENT, shadows stay (R214, R219). -/
def State.evictLine (s : State) (acc : Acc) (l : Nat) : State :=
  ((lineSectors l).foldl (fun s n => s.writeBackSector acc n) s).setLine l LineRec.blank

/-- The eligible line of a set used least recently (R218). -/
def State.victim (s : State) (stall set : Nat) : Option (Nat × LineRec) :=
  ((s.market.lines.filter (fun e => s.lineHome e.1 = some (stall, set) && !s.foldQueued e.1 && s.canWriteBack e.1)).foldl
    (fun (b : Option (Nat × LineRec)) e =>
      match b with
      | none => some e
      | some x => if e.2.stamp < x.2.stamp then some e else b) none)

/-- A way of a set: an invalid one of lowest frame row, else the eligible line used least recently, evicted
(R218). None: the request waits. -/
def State.takeWay (s : State) (acc : Acc) (stall set : Nat) : Option (State × Nat) :=
  let taken := s.rowsTaken stall set
  match (List.range 320).find? (fun r => s.rowIsWay stall r && !(taken.contains r)) with
  | some r => some (s, r)
  | none =>
    match s.victim stall set with
    | some (l, rec) => some (s.evictLine acc l, rec.row1 - 1)
    | none => none

/-- Marks a use of the line for the LRU order. -/
def State.touch (s : State) (l : Nat) : State :=
  let s1 := { s with market := { s.market with stamp := s.market.stamp + 1 } }
  if (s.line l).row1 = 0 then s1 else s1.setLine l { s.line l with stamp := s.market.stamp + 1 }

/-- The line of HBM space holds a way; a direct line needs none (R218). -/
def State.ensureLine (s : State) (acc : Acc) (l : Nat) : Option State :=
  if ¬ isHbmAddr (128 * l) then some s
  else if (s.line l).row1 ≠ 0 then some (s.touch l)
  else
    match s.lineHome l with
    | none => none
    | some (st, set) =>
      match s.takeWay acc st set with
      | none => none
      | some (s1, r) => some ((s1.setLine l ⟨r + 1, 0⟩).touch l)

/-- The bytes of a sector. -/
def sectorBytes (d : BitVec 256) : List Byte := leBytes 32 d.toNat
def bytesSector (l : List Byte) : BitVec 256 := BitVec.ofNat 256 (leNat l)

/-! ## Records for the starter (R452, R454, Table 14-7) -/

/-- The engine of the half that a sector's stall lies in: 0 west, 1 east. -/
def State.sectorHalf (s : State) (n : Nat) : Nat :=
  match s.lineHome (n / 4) with
  | some (st, _) => st / 128
  | none => 0

/-- The partition's pages are mirrored now. -/
def State.mirrors (s : State) (ctx : Nat) : Bool :=
  let st := (Tab.get Starter.blank s.fabric.starters (Tab.get Ctx.blank s.pager.ctxs ctx).part).st
  decide (st = 1 ∨ st = 2)

def MirRec.size (r : MirRec) : Nat := 16 + r.body.length

/-- A record joins the buffer of an engine. -/
def State.mirrorTo (s : State) (e : Nat) (r : MirRec) : State :=
  { s with fabric := { s.fabric with out := Tab.modify [] s.fabric.out e (fun l => l ++ [r]) } }

/-- A change of the base state of sector `n`, as a record of `kind` with its body (R452). -/
def State.mirror (s : State) (mir : Option (Nat × Nat)) (n kind fmt : Nat) (anchor : Int) (emask : Half) (body : List Byte) : State :=
  match mir with
  | none => s
  | some (ctx, va) =>
    if s.mirrors ctx then
      s.mirrorTo (s.sectorHalf n) ⟨kind, (Tab.get Ctx.blank s.pager.ctxs ctx).part, ctx, fmt, anchor, emask, va / 32 * 32, body⟩
    else s

/-- The engine's buffer of 4 MiB has no room: a write to the MIR page is held at the stall (R454). -/
def State.mirrorFull (s : State) (mir : Option (Nat × Nat)) (n : Nat) : Bool :=
  match mir with
  | none => false
  | some (ctx, _) => s.mirrors ctx
      && decide ((Tab.get [] s.fabric.out (s.sectorHalf n)).foldl (fun a r => a + r.size) 0 + 48 > 2 ^ 22)

/-- Counts a held write (FS_HELD). -/
def State.mirrorHeld (s : State) (mir : Option (Nat × Nat)) : State :=
  match mir with
  | none => s
  | some (ctx, _) =>
    { s with fabric := { s.fabric with
      starters := Tab.modify Starter.blank s.fabric.starters (Tab.get Ctx.blank s.pager.ctxs ctx).part (fun x => { x with held := x.held + 1 }) } }

/-- The operand of a FOLD record: one element in the format, on the grid of A_p for anchored-128. -/
def recordOperand (fmt : Nat) (ap : Int) (op : FoldOperand) : Nat :=
  match fmt with
  | 0xD => (operandInt op % 2 ^ 32).toNat
  | 0xE => (operandInt op % 2 ^ 64).toNat
  | 0xC => (operandFp32 op).toNat
  | 0xA => (toBf16 (operandFp32 op)).toNat
  | _ => match foldToGrid ap op with
    | some (x, _) => (x % 2 ^ 128).toNat
    | none => 0

/-- The body of a FOLD record. -/
def recordBody (fmt : Nat) (ap : Int) (elems : List (Nat × FoldOperand)) : List Byte :=
  leBytes 32 (elems.foldl (fun (d : BitVec 256) e => putElem (foldBits fmt) d e.1 (recordOperand fmt ap e.2)) 0#256).toNat

/-! ## Draft masks and shadow ways (R261 to R267) -/

def State.epoch (s : State) (e : Nat) : Epoch := Tab.get Epoch.blank s.market.epochs e
def State.setEpoch (s : State) (e : Nat) (x : Epoch) : State :=
  { s with market := { s.market with epochs := Tab.set Epoch.blank s.market.epochs e x } }

/-- The bits of a mask whose epoch satisfies `p`. -/
def maskWhere (m : Half) (p : Nat → Bool) : Half :=
  (List.range 16).foldl (fun a e => if m.getLsbD e && p e then a ||| bit16 e else a) 0#16

/-- An access carries an epoch being cancelled: it is discarded (R266). -/
def State.maskCancelled (s : State) (m : Half) : Bool :=
  (List.range 16).any (fun e => m.getLsbD e && (s.epoch e).st = 2 && (s.epoch e).cancelling)

/-- The mask with the bits of committing epochs removed (R265). -/
def State.liveMask (s : State) (m : Half) : Half := maskWhere m (fun e => (s.epoch e).st ≠ 2)

/-- The partition of the lowest epoch of a mask. -/
def State.maskPart (s : State) (m : Half) : Nat :=
  match (List.range 16).find? (fun e => m.getLsbD e) with
  | some e => (s.epoch e).part
  | none => 0

/-- The union of the masks of a line's shadows. -/
def State.lineMask (s : State) (l : Nat) : Half :=
  (lineSectors l).foldl (fun m n => m ||| (s.sector n).sh.mask) 0#16

/-- Draft footprint in bytes: 256 for every shadow way, of all or of one partition (R261). -/
def State.draftFoot (s : State) : Nat := 256 * s.market.shWays.length
def State.draftFootPart (s : State) (p : Nat) : Nat :=
  256 * (s.market.shWays.filter (fun e => s.maskPart (s.lineMask e.1) = p)).length

def State.draftLimit (s : State) : Nat := s.val 0x4032 1 256
def State.draftLimitPart (s : State) (p : Nat) : Nat := s.val 0x4032 (2 + p) 256

/-- The line holds a shadow way for a draft of mask `m`; none: the access waits (R261, R267). -/
def State.ensureShadow (s : State) (acc : Acc) (l : Nat) (m : Half) : Option State :=
  if Tab.get 0 s.market.shWays l ≠ 0 then some s
  else
    match s.lineHome l with
    | none => none
    | some (st, set) =>
      let inSet := (s.market.shWays.filter (fun e => s.lineHome e.1 = some (st, set))).length
      if inSet ≥ 8 ∨ s.draftFoot + 256 > s.draftLimit * 2 ^ 20
          ∨ s.draftFootPart (s.maskPart m) + 256 > s.draftLimitPart (s.maskPart m) * 2 ^ 20 then none
      else
        match s.takeWay acc st set with
        | none => none
        | some (s1, r) => some (s1.setShWay l (r + 1))

/-- Frees the shadow way of a line none of whose sectors holds a shadow. -/
def State.freeShadow (s : State) (l : Nat) : State :=
  if (lineSectors l).all (fun n => (s.sector n).sh.kind = .none) then s.setShWay l 0 else s

/-! ## Views of a sector -/

/-- Counts a stale read (R247). -/
def State.staleRead (s : State) : State :=
  { s with market := { s.market with cnt := { s.market.cnt with staleReads := s.market.cnt.staleReads + 1 } } }

/-- The content of the backing memory (R247): HBM in the cache role, zeros on placed pages and landing areas. -/
def State.backing (s : State) (acc : Acc) (n : Nat) : State × View :=
  if isHbmAddr (32 * n) then
    let r := s.hbmRead acc n
    (r.1, ⟨r.2.data, r.2.chk = Config.poison, true, 0#16⟩)
  else (s, ⟨0#256, false, true, 0#16⟩)

/-- Checks a VALID sector as it is read (R397 to R403): the sector after the check and whether it is poison. A fresh
error of a clean cached sector without shadow is refetched (R402). -/
def State.checkSector (s : State) (acc : Acc) (n : Nat) : State × BitVec 256 × Bool :=
  let x := s.sector n
  let place := s.sectorPlace n
  match sectorDecide x.data x.chk with
  | .clean => (s, x.data, false)
  | .poison => (s.eccPoisonRead, x.data, true)
  | .corrected i d =>
    let s1 := s.eccCorrected 0 place.1 i place.2
    if s1.k64 then ((s1.setSector n { x with data := d, chk := 0#16 }).eccWroteBack 0 place.1 i place.2, d, false)
    else (s1, d, false)
  | .bad =>
    if isHbmAddr (32 * n) && x.base = .valid && !x.dirty && x.sh.kind = .none then
      let s1 := { s with ecc := { s.ecc with refetched := s.ecc.refetched + 1 } }
      let r := (s1.eccNote 3 0 place.1 0xFF place.2).hbmRead acc n
      (r.1.setSector n { x with data := r.2.data, chk := r.2.chk }, r.2.data, r.2.chk = Config.poison)
    else
      ((s.eccFresh 2 0 place.1 place.2).setSector n { x with chk := Config.poison }, x.data, true)

/-- The base view of a sector, formed as a read forms it: fetched (R219), merged (R256) or read as stale (R247). The
line holds a way. -/
def State.baseView (s : State) (acc : Acc) (n : Nat) : State × View :=
  let x := s.sector n
  match x.state n with
  | .valid =>
    let r := s.checkSector acc n
    (r.1, ⟨r.2.1, r.2.2, false, 0#16⟩)
  | .absent =>
    let r := s.hbmRead acc n
    (r.1.setSector n { Sector.blank with
        base := .valid, data := r.2.data, chk := r.2.chk, used := x.used, pageU := acc.pageU,
        anchor := acc.anchor, mir := acc.mirAt n, sh := x.sh },
     ⟨r.2.data, r.2.chk = Config.poison, false, 0#16⟩)
  | .partl =>
    let c := s.checkSector acc n
    if c.2.2 then (c.1, ⟨c.2.1, true, false, 0#16⟩)
    else
      let r := c.1.hbmRead acc n
      let m := mergeSector x.fmt (x.anchor.getD 0) r.2.data c.2.1 x.elems
      let s1 := r.1.setSector n { x with base := .valid, data := m.1, chk := r.2.chk, dirty := true, elems := 0#16 }
      ({ s1 with market := { s1.market with cnt := { s1.market.cnt with foldMerges := s1.market.cnt.foldMerges + 1 } } },
       ⟨m.1, r.2.chk = Config.poison, false, 0#16⟩)
  | .dead =>
    let r := s.backing acc n
    let s1 := r.1.staleRead
    if isHbmAddr (32 * n) then
      (s1.setSector n { x with
                               base := .valid, data := r.2.data, dirty := false, used := 0
                               chk := if r.2.poison then Config.poison else 0#16 }, r.2)
    else (s1, r.2)

/-- The content a shadow shows a draft reader (R262): the view and whether it was a stale read. -/
def State.draftView (s : State) (acc : Acc) (n : Nat) : State × View :=
  let sh := (s.sector n).sh
  match sh.kind with
  | .value => (if sh.chk = Config.poison then s.eccPoisonRead else s, ⟨sh.data, sh.chk = Config.poison, false, sh.mask⟩)
  | .delta =>
    let r := s.baseView acc n
    let m := mergeSector sh.fmt ((s.sector n).anchor.getD (acc.anchor.getD 0)) r.2.data sh.data sh.elems
    (r.1, ⟨m.1, r.2.poison || sh.chk = Config.poison, r.2.stale, sh.mask⟩)
  | .dead =>
    let r := s.backing acc n
    (r.1.staleRead, { r.2 with taint := sh.mask })
  | .none => s.baseView acc n

/-- The base drops the sector (R246). -/
def State.dropSector (s : State) (n : Nat) : State :=
  let x := s.sector n
  let s1 := s.setSector n { Sector.blank with base := .dead, pageU := x.pageU, anchor := x.anchor, mir := x.mir, sh := x.sh }
  if isHbmAddr (32 * n) && x.dirty && x.base = .valid then
    { s1 with market := { s1.market with cnt := { s1.market.cnt with staleDropped := s1.market.cnt.staleDropped + 1 } } }
  else s1

/-- The base drops the sector at its last use (R246); a MIR page's record is DROP (R452). -/
def State.lastUse (s : State) (n : Nat) : State := (s.dropSector n).mirror (s.sector n).mir n 2 0 0 0#16 []

/-! ## Fold-ins (R249 to R256) -/

/-- How a fold-in ends: its flags, or REFUSED. -/
structure FoldEnd where
  flags : FoldFlags
  refused : Bool
  deriving DecidableEq, Repr

def FoldEnd.refusedEnd : FoldEnd := ⟨FoldFlags.none, true⟩
def FoldEnd.nanEnd : FoldEnd := ⟨⟨false, false, true⟩, false⟩

/-- Counts a completion at the stall (R253). -/
def State.foldCount (s : State) (e : FoldEnd) : State :=
  let c := s.market.cnt
  { s with market := { s.market with
      cnt :=
      { c with
        foldApplied := c.foldApplied + (if e.refused then 0 else 1)
        foldRefused := c.foldRefused + (if e.refused then 1 else 0)
        foldSat := c.foldSat + (if e.flags.sat then 1 else 0)
        foldLostlow := c.foldLostlow + (if e.flags.lostlow then 1 else 0) } } }

/-- A fold-in by work with an empty mask (R249, R254, R255, R404). The line holds a way. -/
def State.foldBase (s : State) (acc : Acc) (n fmt : Nat) (elems : List (Nat × FoldOperand)) : State × FoldEnd :=
  let x := s.sector n
  let a := acc.anchor.getD 0
  let note (s : State) : State := s.mirror (acc.mirAt n) n 1 fmt a (elemMask elems) (recordBody fmt a elems)
  let onZero (base : SecBase) : State × FoldEnd :=
    let r := foldElems fmt a 0#256 elems
    (note <| s.setSector n { x with
        base := base, data := r.1, chk := 0#16, dirty := true, used := 0, fmt := fmt,
        elems := elemMask elems, pageU := acc.pageU, anchor := acc.anchor, mir := acc.mirAt n }, ⟨r.2, false⟩)
  match x.state n with
  | .valid =>
    let c := s.checkSector acc n
    if c.2.2 then (s.eccPoisonFold c.1, FoldEnd.nanEnd)
    else
      let r := foldElems fmt a c.2.1 elems
      (note <| c.1.setSector n { (c.1.sector n) with
          base := .valid, data := r.1, chk := 0#16, dirty := true, used := 0,
          pageU := acc.pageU, anchor := acc.anchor, mir := acc.mirAt n }, ⟨r.2, false⟩)
  | .dead => onZero (if isHbmAddr (32 * n) then .partl else .valid)
  | .absent => onZero .partl
  | .partl =>
    let c := s.checkSector acc n
    if c.2.2 then (s.eccPoisonFold c.1, FoldEnd.nanEnd)
    else if x.fmt ≠ fmt then (s, FoldEnd.refusedEnd)
    else
      let r := foldElems fmt a c.2.1 elems
      (note <| c.1.setSector n { x with data := r.1, chk := 0#16, elems := x.elems ||| elemMask elems, used := 0 }, ⟨r.2, false⟩)

/-- A draft fold-in (Table 8-7): the line holds its shadow way. -/
def State.foldDraft (s : State) (acc : Acc) (n fmt : Nat) (elems : List (Nat × FoldOperand)) : State × FoldEnd :=
  let x := s.sector n
  let a := acc.anchor.getD 0
  let keep (s : State) (sh : Shadow) : State :=
    s.setSector n { (s.sector n) with sh := sh, pageU := acc.pageU, anchor := acc.anchor, mir := acc.mirAt n }
  let m := x.sh.mask ||| acc.taint
  match x.sh.kind with
  | .none =>
    let r := foldElems fmt a 0#256 elems
    (keep s ⟨.delta, acc.taint, r.1, 0#16, fmt, elemMask elems⟩, ⟨r.2, false⟩)
  | .value =>
    if x.sh.chk = Config.poison then (keep s.eccPoisonRead { x.sh with mask := m }, FoldEnd.nanEnd)
    else
      let r := foldElems fmt a x.sh.data elems
      (keep s { x.sh with mask := m, data := r.1 }, ⟨r.2, false⟩)
  | .delta =>
    if x.sh.fmt ≠ fmt then (s, FoldEnd.refusedEnd)
    else if x.sh.chk = Config.poison then (keep s.eccPoisonRead { x.sh with mask := m }, FoldEnd.nanEnd)
    else
      let r := foldElems fmt a x.sh.data elems
      (keep s { x.sh with mask := m, data := r.1, elems := x.sh.elems ||| elemMask elems }, ⟨r.2, false⟩)
  | .dead =>
    let b := s.backing acc n
    if b.2.poison then (keep (s.eccPoisonFold b.1) ⟨.value, m, b.2.data, Config.poison, 0, 0#16⟩, FoldEnd.nanEnd)
    else
      let r := foldElems fmt a b.2.data elems
      (keep b.1 ⟨.value, m, r.1, 0#16, 0, 0#16⟩, ⟨r.2, false⟩)

/-- Applies one fold-in request at the stall that holds the line (R250 to R255, R261). -/
def State.foldApply (s : State) (acc : Acc) (n fmt : Nat) (elems : List (Nat × FoldOperand)) :
    State × MemSt × FoldEnd :=
  if !s.addrOk (32 * n) then (s, .fault, ⟨FoldFlags.none, false⟩)
  else if s.maskCancelled acc.taint then (s, .cancelled, ⟨FoldFlags.none, false⟩)
  else
    let m := s.liveMask acc.taint
    if fmt = 0xF ∧ acc.anchor = none then (s.foldCount FoldEnd.refusedEnd, .ok, FoldEnd.refusedEnd)
    else if m = 0#16 && s.mirrorFull (acc.mirAt n) n then (s.mirrorHeld (acc.mirAt n), .wait, ⟨FoldFlags.none, false⟩)
    else
      match (if m = 0#16 then s.ensureLine acc (n / 4) else s.ensureShadow acc (n / 4) m) with
      | none => (s, .wait, ⟨FoldFlags.none, false⟩)
      | some s1 =>
        let r := if m = 0#16 then s1.foldBase acc n fmt elems else s1.foldDraft { acc with taint := m } n fmt elems
        (r.1.foldCount r.2, .ok, r.2)

/-- The access a queued fold-in makes. -/
def FoldReq.acc (r : FoldReq) : Acc := { Acc.plain with taint := r.taint, pageU := r.pageU, anchor := r.anchor, mir := r.mir }

/-- One queued fold-in of a line being drained: it and those behind it stay queued when it must wait. -/
def drainOne (p : State × List FoldReq) (r : FoldReq) : State × List FoldReq :=
  if !p.2.isEmpty then (p.1, p.2 ++ [r])
  else
    let x := p.1.foldApply r.acc r.sector r.fmt r.elems
    match x.2.1 with
    | .wait => (p.1, [r])
    | _ => (x.1, [])

/-- Applies the queued fold-ins of a line, oldest first, and takes them from the queue (R252, R257). -/
def State.drainLine (s : State) (l : Nat) : State :=
  match s.lineHome l with
  | none => s
  | some (st, _) =>
    let q := Tab.get [] s.market.foldQ st
    if q.any (fun r => r.sector / 4 = l) then
      let x := (q.filter (fun r => r.sector / 4 = l)).foldl drainOne (s, [])
      { x.1 with market := { x.1.market with
        foldQ := Tab.set [] x.1.market.foldQ st (x.2 ++ q.filter (fun r => r.sector / 4 ≠ l)) } }
    else s

/-! ## Reads and writes -/

/-- The line is closed by an eviction whose write-back is not accepted yet: requests wait (R257). -/
def State.lineClosed (s : State) (l : Nat) : Bool := s.market.closed.any (fun c => c.line = l)

/-- A read would find a DEAD sector (R247): what a STRICT launch traps on. -/
def State.readsDead (s : State) (acc : Acc) (n : Nat) : Bool :=
  let x := s.sector n
  let m := s.liveMask acc.taint
  if x.sh.kind ≠ .none ∧ (x.sh.mask &&& m ≠ 0#16 ∨ (acc.ldl ∧ m ≠ 0#16)) then
    x.sh.kind = .dead || (x.sh.kind = .delta && x.state n = .dead)
  else x.state n = .dead

/-- One read request of one sector (R220, R245 to R247, R256, R262, R264): the state after, and the view. -/
def State.readSector (s : State) (acc : Acc) (n : Nat) : State × MemSt × View :=
  let l := n / 4
  if !s.addrOk (32 * n) then (s, .fault, View.none)
  else if s.maskCancelled acc.taint then (s, .cancelled, View.none)
  else
    let s0 := s.drainLine l
    let m := s0.liveMask acc.taint
    let sh := (s0.sector n).sh
    let lastDraft := acc.ldl && m ≠ 0#16
    let draft := sh.kind ≠ .none && (sh.mask &&& m ≠ 0#16 || lastDraft)
    if s0.lineClosed l then (s, .wait, View.none)
    else
      match s0.ensureLine acc l with
      | none => (s, .wait, View.none)
      | some s1 =>
        let r := if draft then s1.draftView acc n else s1.baseView acc n
        if lastDraft then
          match r.1.ensureShadow acc l m with
          | none => (s, .wait, View.none)
          | some s2 =>
            (s2.setSector n { (s2.sector n) with
                sh := ⟨.dead, sh.mask ||| m, 0#256, 0#16, 0, 0#16⟩, pageU := acc.pageU, anchor := acc.anchor, mir := acc.mirAt n },
             .ok, r.2)
        else if m = 0#16 then
          let x := r.1.sector n
          if acc.ldl || (acc.pageU ≠ 0 && x.used + 1 ≥ acc.pageU) then (r.1.lastUse n, .ok, r.2)
          else if acc.pageU ≠ 0 then (r.1.setSector n { x with used := x.used + 1 }, .ok, r.2)
          else (r.1, .ok, r.2)
        else (r.1, .ok, r.2)

/-- A whole-sector write (R219, R249, R256, R404, Table 8-7). -/
def State.writeSector (s : State) (acc : Acc) (n : Nat) (d : BitVec 256) (poison : Bool) : State × MemSt :=
  let l := n / 4
  let chk := if poison then Config.poison else 0#16
  if !s.addrOk (32 * n) then (s, .fault)
  else if s.maskCancelled acc.taint then (s, .cancelled)
  else
    let s0 := s.drainLine l
    let m := s0.liveMask acc.taint
    if s0.lineClosed l then (s, .wait)
    else if m = 0#16 && s0.mirrorFull (acc.mirAt n) n then (s.mirrorHeld (acc.mirAt n), .wait)
    else if m = 0#16 then
      match s0.ensureLine acc l with
      | none => (s, .wait)
      | some s1 =>
        let x := s1.sector n
        let note (s : State) : State := s.mirror (acc.mirAt n) n 0 0 0 0#16 (sectorBytes d)
        (note <| s1.setSector n { x with
            base := .valid, data := d, chk := chk, dirty := true, used := 0, elems := 0#16,
            pageU := acc.pageU, anchor := acc.anchor, mir := acc.mirAt n }, .ok)
    else
      match s0.ensureShadow acc l m with
      | none => (s, .wait)
      | some s1 =>
        let x := s1.sector n
        (s1.setSector n { x with
            sh := ⟨.value, x.sh.mask ||| m, d, chk, 0, 0#16⟩, pageU := acc.pageU,
            anchor := acc.anchor, mir := acc.mirAt n }, .ok)

/-- A part-sector write or an atomic: the sector is formed as a read forms it and `f` is applied (R249, R256, R404,
Table 8-7). An atomic leaves a poisoned sector unchanged. The view is what was there before. -/
def State.modifySector (s : State) (acc : Acc) (n : Nat) (isAtomic : Bool) (f : BitVec 256 → BitVec 256) :
    State × MemSt × View :=
  let l := n / 4
  if !s.addrOk (32 * n) then (s, .fault, View.none)
  else if s.maskCancelled acc.taint then (s, .cancelled, View.none)
  else
    let s0 := s.drainLine l
    let m := s0.liveMask acc.taint
    if s0.lineClosed l then (s, .wait, View.none)
    else if m = 0#16 && s0.mirrorFull (acc.mirAt n) n then (s.mirrorHeld (acc.mirAt n), .wait, View.none)
    else
      match s0.ensureLine acc l with
      | none => (s, .wait, View.none)
      | some s1 =>
        if m = 0#16 then
          let r := s1.baseView acc n
          if r.2.poison && isAtomic then (r.1, .ok, r.2)
          else if r.2.poison && (r.1.sector n).base = .partl then (r.1, .ok, r.2)
          else
            let note (s : State) : State := s.mirror (acc.mirAt n) n 0 0 0 0#16 (sectorBytes (f r.2.data))
            (note <| r.1.setSector n { (r.1.sector n) with
                base := .valid, data := f r.2.data, chk := if r.2.poison then Config.poison else 0#16, dirty := true,
                used := 0, pageU := acc.pageU, anchor := acc.anchor, mir := acc.mirAt n }, .ok, r.2)
        else
          match s1.ensureShadow acc l m with
          | none => (s, .wait, View.none)
          | some s2 =>
            let sh := (s2.sector n).sh
            let r := if sh.kind = .none then s2.baseView acc n else s2.draftView acc n
            if r.2.poison && isAtomic then (r.1.freeShadow l, .ok, r.2)
            else
              (r.1.setSector n { (r.1.sector n) with
                  sh := ⟨.value, sh.mask ||| m, f r.2.data, if r.2.poison then Config.poison else 0#16, 0, 0#16⟩,
                  pageU := acc.pageU, anchor := acc.anchor, mir := acc.mirAt n }, .ok, r.2)

/-! ## Bytes -/

/-- Replaces bytes of a sector from byte `off`. -/
def patchSector (off : Nat) (bs : List Byte) (d : BitVec 256) : BitVec 256 :=
  let w := 8 * bs.length
  BitVec.ofNat 256 (d.toNat - ((d.toNat >>> (8 * off)) % 2 ^ w) <<< (8 * off) + (leNat bs % 2 ^ w) <<< (8 * off))

/-- The `n` bytes at byte `off` of a sector. -/
def sliceSector (off n : Nat) (d : BitVec 256) : List Byte := leBytes n (d.toNat >>> (8 * off))

/-! ## Commit and cancel at the stalls (R265, R266) -/

/-- Applies the shadow of one sector to the base (Table 8-2, R265). -/
def State.applyShadow (s : State) (n : Nat) : State :=
  let x := s.sector n
  let acc : Acc := { Acc.plain with pageU := x.pageU, anchor := x.anchor, mir := x.mir.map (fun m => (m.1, m.2, 32 * n)) }
  let note (s : State) : State := s.mirror x.mir n 0 0 0 0#16 (sectorBytes x.sh.data)
  let bare := s.setSector n { x with sh := Shadow.none }
  match x.sh.kind with
  | .none => s
  | .value =>
    match bare.ensureLine acc (n / 4) with
    | none => note <| bare.hbmWrite acc n ⟨x.sh.data, x.sh.chk⟩
    | some s1 =>
      note <| s1.setSector n { (s1.sector n) with
          base := .valid, data := x.sh.data, chk := x.sh.chk, dirty := true, used := 0,
          elems := 0#16 }
  | .delta =>
    match bare.ensureLine acc (n / 4) with
    | none => bare.hbmMerge acc n { x with data := x.sh.data, chk := x.sh.chk, fmt := x.sh.fmt, elems := x.sh.elems }
    | some s1 =>
      if x.sh.chk = Config.poison then
        let y := s1.sector n
        s1.setSector n { y with
          base := if y.state n = .valid ∨ ¬ isHbmAddr (32 * n) then .valid else .partl, chk := Config.poison, dirty := true }
      else
      (s1.foldBase acc n x.sh.fmt
        (((List.range (256 / foldBits x.sh.fmt)).filter (fun i => x.sh.elems.getLsbD i)).map
          (fun i => (i, partialOperand x.sh.fmt (sectorElem (foldBits x.sh.fmt) x.sh.data i))))).1
  | .dead => bare.lastUse n

/-- One sector at a COMMIT of mask `c`. -/
def State.commitSector (c : Half) (s : State) (n : Nat) : State :=
  let x := s.sector n
  if x.sh.kind = .none ∨ x.sh.mask &&& c = 0#16 then s
  else
    let rest := x.sh.mask &&& ~~~c
    if rest = 0#16 then s.applyShadow n else s.setSector n { x with sh := { x.sh with mask := rest } }

/-- One sector at a CANCEL of mask `c`. -/
def State.cancelSector (c : Half) (s : State) (n : Nat) : State :=
  let x := s.sector n
  if x.sh.kind = .none ∨ x.sh.mask &&& c = 0#16 then s else s.setSector n { x with sh := Shadow.none }

/-- The lines that hold a shadow way. -/
def State.shadowLines (s : State) : List Nat := s.market.shWays.map (fun e => e.1)

/-- Every stall treats its shadow sectors with `f`, line by line, and frees the ways left empty. -/
def State.eachShadow (s : State) (f : State → Nat → State) : State :=
  s.shadowLines.foldl (fun s l => ((lineSectors l).foldl f s).freeShadow l) s

def State.commitStalls (s : State) (c : Half) : State := s.eachShadow (State.commitSector c)
def State.cancelStalls (s : State) (c : Half) : State := s.eachShadow (State.cancelSector c)

end Sys2Proof.Machine
end

