-- ==== Sys2Proof/Machine/Paging.lean ====
section
/-!
DEFINITION. The pager's shared operations (chapter 10): ranges and their attribute word, home space and
frames, demand allocation, translation with its faults, page moves.
-/

namespace Sys2Proof.Machine
open Sys2Proof

/-! ## Attribute word (Table 10-3) -/

def attrW (a : Word) : Bool := a.getLsbD 31
def attrPS (a : Word) : Bool := a.getLsbD 30
def attrHL (a : Word) : Bool := a.getLsbD 29
def attrMIR (a : Word) : Bool := a.getLsbD 28
def attrSOLU (a : Word) : Bool := a.getLsbD 27
def attrUSE (a : Word) : Nat := a.toNat / 2 ^ 23 % 16
def attrANC (a : Word) : Bool := a.getLsbD 22
def attrANCHOR (a : Word) : Int := sext 11 (a.toNat / 2 ^ 11)
def attrPLACE (a : Word) : Nat := a.toNat / 2 ^ 9 % 4

/-- Not one of the forms Table 10-3 and R309 allow. -/
def attrBad (a : Word) : Bool :=
  attrPLACE a = 3 || a.toNat % 512 ≠ 0 || (attrSOLU a && attrUSE a = 0)

def pageBytes (big : Bool) : Nat := if big then 2 ^ 21 else 2 ^ 16
def pageKiB (big : Bool) : Nat := if big then 2048 else 64
def pageFrames (big : Bool) : Nat := if big then 32 else 1

/-- What a request to a page of this attribute word carries. -/
def attrAcc (a : Word) (own : Nat × Nat) (phys : Nat) (acc : Acc) : Acc :=
  { acc with
    pageU := if attrSOLU a then attrUSE a else 0
    anchor := if attrANC a then some (attrANCHOR a) else none
    mir := if attrMIR a then some (own.1, own.2, phys) else none }

/-! ## Contexts, ranges, pages -/

def State.ctx (s : State) (c : Nat) : Ctx := Tab.get Ctx.blank s.pager.ctxs c
def State.setCtx (s : State) (c : Nat) (x : Ctx) : State :=
  { s with pager := { s.pager with ctxs := Tab.set Ctx.blank s.pager.ctxs c x } }

def pageKey (ctx va : Nat) : Nat := ctx * 2 ^ 40 + va / 2 ^ 16
def State.page (s : State) (k : Nat) : Page := Tab.get Page.blank s.pager.pages k
def State.setPage (s : State) (k : Nat) (p : Page) : State :=
  { s with pager := { s.pager with pages := Tab.set Page.blank s.pager.pages k p } }

/-- The range of a context that holds an address (R309). -/
def State.rangeAt (s : State) (ctx va : Nat) : Option Range :=
  s.pager.ranges.find? (fun r => r.ctx = ctx ∧ r.va ≤ va ∧ va < r.va + r.bytes)

/-- The context and address whose pages a range's address reaches (R310). -/
def Range.owner (r : Range) (va : Nat) : Nat × Nat :=
  if r.isAlias then (r.srcCtx, r.srcVa + (va - r.va)) else (r.ctx, va)

/-- The attributes of the pages under a range: those of the owning range (R310). -/
def State.ownerAttr (s : State) (r : Range) (va : Nat) : Word :=
  match s.rangeAt (r.owner va).1 (r.owner va).2 with
  | some o => o.attr
  | none => r.attr

/-- The start of the page that holds an address. -/
def pageStart (big : Bool) (va : Nat) : Nat := va / pageBytes big * pageBytes big

/-- HBM space a context's pages hold, and the size placed, in KiB. -/
def State.ctxUsed (s : State) (c : Nat) : Nat :=
  (s.pager.pages.filter (fun e => e.2.ctx = c)).foldl (fun n e => n + pageKiB e.2.big) 0
def State.ctxPlaced (s : State) (c : Nat) : Nat :=
  (s.pager.pages.filter (fun e => e.2.ctx = c ∧ e.2.loc = 1)).foldl (fun n e => n + pageKiB e.2.big) 0

/-! ## Table space (R310, R313) -/

/-- How many values `v / 2^sh` takes over spans in ascending order. -/
def countTables (sh : Nat) : Option Nat → List (Nat × Nat) → Nat
  | _, [] => 0
  | last, (va, bytes) :: r =>
    let lo := va / 2 ^ sh
    let hi := (va + bytes - 1) / 2 ^ sh
    let n := hi - lo + 1 - (if last = some lo then 1 else 0)
    n + countTables sh (some hi) r

def insertSpan (x : Nat × Nat) : List (Nat × Nat) → List (Nat × Nat)
  | [] => [x]
  | y :: r => if x.1 ≤ y.1 then x :: y :: r else y :: insertSpan x r

def sortSpans (l : List (Nat × Nat)) : List (Nat × Nat) := l.foldr insertSpan []

/-- Bytes of tables that full population of a context's ranges needs (Table 10-6). -/
def tableBytes (rs : List Range) : Nat :=
  let all := sortSpans (rs.map (fun r => (r.va, r.bytes)))
  let small := sortSpans ((rs.filter (fun r => !attrPS r.attr)).map (fun r => (r.va, r.bytes)))
  (if all.isEmpty then 0 else 4096)
    + 8192 * (countTables 48 none all + countTables 39 none all + countTables 30 none all)
    + 512 * countTables 21 none small

def PagerPolicy.tablePool (p : PagerPolicy) (part : Nat) : Nat :=
  match Tab.get 0 p.tableMib part with
  | 0 => 256
  | n => n

/-- Table space reserved by the contexts of a partition. -/
def State.tablesOf (s : State) (ranges : List Range) (part : Nat) : Nat :=
  (s.pager.ctxs.filter (fun e => e.2.active ∧ e.2.part = part)).foldl
    (fun n e => n + tableBytes (ranges.filter (fun r => r.ctx = e.1))) 0

/-! ## Home space (R315) -/

/-- The part of a partition's starter region (R451) that lies in each of its quarters: an equal share in whole 2 MiB blocks. -/
def State.starterShare (s : State) (p : Nat) : Nat :=
  let n := (s.partQuarters p).length
  if n = 0 then 0 else (s.val (0x5410 + p) 2 0 * 1000000000 + n * 2 ^ 21 - 1) / (n * 2 ^ 21) * 2 ^ 21

/-- Bytes at the top of a quarter's installed HBM space that are no home space: the table pool of the partition
whose first quarter it is, one queue-descriptor table, and below them its share of the starter region. -/
def State.homeLimit (s : State) (q : Nat) : Nat :=
  match s.quarterPart q with
  | none => quarterHbm
  | some p =>
    (if (s.partQuarters p).head? = some q then quarterHbm - s.pager.policy.tablePool p * 2 ^ 20 - 2 ^ 26 else quarterHbm) - s.starterShare p

/-- Home blocks taken in a quarter: start within the quarter and size; retired blocks among them (R409). -/
def State.homesTaken (s : State) (q : Nat) : List (Nat × Nat) :=
  (s.pager.pages.filter (fun e => e.2.v ∧ e.2.quarter = q)).map (fun e => (e.2.home, pageBytes e.2.big))
    ++ (s.ecc.retBlocks.filter (fun a => a / 2 ^ 38 = q)).map (fun a => (a % 2 ^ 38, 2 ^ 16))

def minNat (l : List Nat) : Option Nat :=
  l.foldl (fun b x => match b with | none => some x | some y => some (if x < y then x else y)) none

/-- The free aligned block of lowest address in a quarter (R315). -/
def State.freeHome (s : State) (q : Nat) (big : Bool) : Option Nat :=
  let size := pageBytes big
  let taken := s.homesTaken q
  let cands := 0 :: taken.map (fun t => (t.1 + t.2 + size - 1) / size * size)
  minNat (cands.filter (fun a => decide (a + size ≤ s.homeLimit q)
    && taken.all (fun t => decide (a + size ≤ t.1 ∨ t.1 + t.2 ≤ a))))

/-- The quarters a page's home may lie in, in search order (R315). -/
def State.homeQuarters (s : State) (c : Ctx) (hl : Bool) : List Nat :=
  let qs := (s.partQuarters c.part).filter (fun q => s.hbmInstalled q)
  qs.filter (fun q => quarterHalf q = c.half) ++ (if hl then [] else qs.filter (fun q => quarterHalf q ≠ c.half))

/-- Quarter and block of a new home. -/
def State.findHome (s : State) (c : Ctx) (big hl : Bool) : Option (Nat × Nat) :=
  (s.homeQuarters c hl).findSome? (fun q => (s.freeHome q big).map (fun a => (q, a)))

/-! ## Frames (R213, R323, R324) -/

/-- Frames of one stall in CACHE. -/
def State.cacheFrames (s : State) (stall : Nat) : Nat :=
  if s.stallPresent stall then
    320 - (s.market.frames.filter (fun e => frameStall (e.1 / 20480) (e.1 % 20480) = stall)).length
  else 0

def State.framesIn (s : State) (p : Nat) (r : FrameRole) : Nat :=
  (s.market.frames.filter (fun e => e.2 = r ∧ s.quarterPart (e.1 / 20480) = some p
    ∧ s.stallPresent (frameStall (e.1 / 20480) (e.1 % 20480)))).length

/-- The placement cap of a partition in frames (R323). -/
def State.placeCap (s : State) (p : Nat) : Nat :=
  let stalls := (s.partQuarters p).flatMap (fun q => (List.range 64).filter (fun i => s.stallPresent (64 * q + i)))
  let f := 320 * stalls.length - s.framesIn p .landing - s.framesIn p .absent
  s.pager.policy.placePct * f / 100

/-- Row `r` of a stall holds a frame that a placement may take (R213). -/
def State.frameFree (s : State) (stall r : Nat) : Bool :=
  s.rowIsWay stall r && decide (s.cacheFrames stall > 16)

/-- The first free frame of one stall: its frame number in the quarter. -/
def State.stallFrame (s : State) (stall : Nat) : Option (Nat × Nat) :=
  ((List.range 320).find? (fun r => s.frameFree stall r)).map (fun r => (stall / 64, 64 * r + stall % 64))

/-- The first free group of 32 frames at a 2 MiB boundary in quarter `q` over one of the given halves of the quarter's
stalls (0: stalls 0–31, 1: 32–63). -/
def State.groupFrame (s : State) (q : Nat) (sides : List Nat) : Option (Nat × Nat) :=
  ((List.range 640).find? (fun g => sides.contains (g % 2)
    && (List.range 32).all (fun i => s.frameFree (64 * q + 32 * (g % 2) + i) (g / 2)))).map (fun g => (q, 32 * g))

/-- The tiers of R324 for a 64 KiB page as lists of stalls. `start` is an affinity cluster for tier 1, or a
quarter for tier 3, or none for tier 4. -/
inductive TierStart where
  | cluster (a : Nat)
  | quarter (q : Nat)
  | partition
  deriving DecidableEq, Repr

/-- A start whose place lies outside the page's partition begins in tier 4 (R324). -/
def State.tierStart (s : State) (p : Nat) (t : TierStart) : TierStart :=
  match t with
  | .cluster a => if s.quarterPart (a / 8) = some p then .cluster a else .partition
  | .quarter q => if s.quarterPart q = some p then .quarter q else .partition
  | .partition => .partition

def quarterStalls (q : Nat) : List Nat := (List.range 64).map (fun i => 64 * q + i)

def State.tiersSmall (s : State) (c : Ctx) (hl : Bool) (t : TierStart) : List (List Nat) :=
  let qs := s.partQuarters c.part
  let near := fun (skip : Option Nat) => (qs.filter (fun q => quarterHalf q = c.half ∧ some q ≠ skip)).flatMap quarterStalls
  let far := fun (skip : Option Nat) =>
    if hl then [] else (qs.filter (fun q => quarterHalf q ≠ c.half ∧ some q ≠ skip)).flatMap quarterStalls
  match s.tierStart c.part t with
  | .cluster a =>
    let t1 := (List.range 8).map (fun i => 8 * a + i)
    let t2 := ((List.range 32).map (fun i => 32 * (a / 4) + i)).filter (fun n => n / 8 ≠ a)
    let t3 := (quarterStalls (a / 8)).filter (fun n => n / 32 ≠ a / 4)
    [t1, t2, t3, near (some (a / 8)), far (some (a / 8))]
  | .quarter q => [quarterStalls q, near (some q), far (some q)]
  | .partition => [near none, far none]

/-- The tiers for a 2 MiB page: quarter and sides of it, in order. -/
def State.tiersBig (s : State) (c : Ctx) (hl : Bool) (t : TierStart) : List (Nat × List Nat) :=
  let qs := s.partQuarters c.part
  let near := fun (skip : Option Nat) =>
    (qs.filter (fun q => quarterHalf q = c.half ∧ some q ≠ skip)).map (fun q => (q, [0, 1]))
  let far := fun (skip : Option Nat) =>
    if hl then [] else (qs.filter (fun q => quarterHalf q ≠ c.half ∧ some q ≠ skip)).map (fun q => (q, [0, 1]))
  match s.tierStart c.part t with
  | .cluster a => [(a / 8, [a / 4 % 2]), (a / 8, [1 - a / 4 % 2])] ++ near (some (a / 8)) ++ far (some (a / 8))
  | .quarter q => [(q, [0, 1])] ++ near (some q) ++ far (some q)
  | .partition => near none ++ far none

/-- A place for a page within the cap: quarter and first frame (R323, R324). -/
def State.findFrames (s : State) (c : Ctx) (big hl : Bool) (t : TierStart) : Option (Nat × Nat) :=
  if s.framesIn c.part .placed + pageFrames big > s.placeCap c.part then none
  else if big then (s.tiersBig c hl t).findSome? (fun x => s.groupFrame x.1 x.2)
  else (s.tiersSmall c hl t).findSome? (fun l => l.findSome? (fun n => s.stallFrame n))

/-- Empties the way of one frame: cached lines are written back, shadows move to another way of their set (R214,
R269). None: a shadow finds no way and the change waits. -/
def State.vacateFrame (s : State) (q f : Nat) : Option State :=
  let stall := frameStall q f
  let row := frameRow f
  let inRow := fun (l row1 : Nat) => row1 = row + 1 ∧ (s.lineHome l).map (·.1) = some stall
  if s.market.closed.any (fun c => decide (c.stall = stall ∧ c.row = row)) then none else
  let ls := (s.market.lines.filter (fun e => inRow e.1 e.2.row1)).map (·.1)
  let shs := (s.market.shWays.filter (fun e => inRow e.1 e.2)).map (·.1)
  let s1 := ls.foldl (fun s l => (s.drainLine l).evictLine Acc.plain l) s
  let s2 := s1.setFrame q f .absent
  (shs.foldl (fun (o : Option State) l =>
    o.bind (fun s =>
      match s.lineHome l with
      | none => none
      | some (st, set) => (s.takeWay Acc.plain st set).map (fun x => x.1.setShWay l (x.2 + 1)))) (some s2)).map
    (fun s => s.setFrame q f .cache)

/-- Frames `f` to `f + n - 1` of a quarter leave the cache role and take role `r`. -/
def State.takeFrames (r : FrameRole) (q : Nat) : Nat → Nat → State → Option State
  | 0, _, s => some s
  | n + 1, f, s =>
    match s.frameRole q f with
    | .absent => State.takeFrames r q n (f + 1) s
    | _ =>
      match s.vacateFrame q f with
      | none => none
      | some s1 => State.takeFrames r q n (f + 1) (s1.setFrame q f r)

/-- The market forgets every sector of device-local bytes `[lo, lo + n)`: they read as the region's unlisted
content. -/
def State.forgetSectors (s : State) (lo n : Nat) : State :=
  { s with market := { s.market with
    sectors := s.market.sectors.filter (fun e => !(decide (lo ≤ 32 * e.1 ∧ 32 * e.1 < lo + n)))
    lines := s.market.lines.filter (fun e => !(decide (lo ≤ 128 * e.1 ∧ 128 * e.1 < lo + n))) } }

/-- Zero content in HBM for `[lo, lo + n)`. -/
def State.zeroHbm (s : State) (lo n : Nat) : State :=
  let s1 := (s.settleRange lo n).forgetSectors lo n
  { s1 with hbm := { s1.hbm with
    sectors := s1.hbm.sectors.filter (fun e => !(decide (lo ≤ 32 * e.1 ∧ 32 * e.1 < lo + n))) } }

/-- Frames return to CACHE and hold no valid line (R214). -/
def State.releaseFrames (s : State) (q f n : Nat) : State :=
  let s1 := s.forgetSectors (frameAddr q f) (n * 0x10000)
  (List.range n).foldl (fun s i => if s.frameRole q (f + i) = .absent then s else s.setFrame q (f + i) .cache) s1

/-! ## Requesters and translation (R317 to R322) -/

/-- Who translates: partition of the unit (none: any, as the security core), the logical core (256: another unit, 0xFF in a fault record
of Table 10-10), the cluster it counts for (R326). -/
structure Who where
  part : Option Nat
  lcore : Nat
  cluster : Nat
  deriving DecidableEq, Repr

/-- The translation cache that serves the unit: a core's own, else that of its node. -/
def Who.cache (w : Who) : Nat := if w.lcore < 256 then w.lcore else 256 + w.cluster % 32

inductive TrRes where
  | ok (phys : Nat) (attr : Word) (own : Nat × Nat)
  | fault (cause : Nat)
  deriving DecidableEq, Repr

/-- An unresolved fault is counted and kept (R322). -/
def State.trFault (s : State) (w : Who) (ctx va cause : Nat) : State :=
  let c := s.ctx ctx
  let p := match w.part with | some p => p | none => c.part
  let r : FaultRec := ⟨va % 2 ^ 56, ctx, cause, min w.lcore 0xFF, s.bell.count % 2 ^ 48⟩
  let s1 := s.setCtx ctx { c with faults := c.faults + 1 }
  { s1 with pager := { s1.pager with
    cnt := { s1.pager.cnt with unresolved := s1.pager.cnt.unresolved + 1 }
    faultLog := Tab.set [] s1.pager.faultLog p ((r :: Tab.get [] s1.pager.faultLog p).take 16) } }

/-- Allocates the page at `va` (page start) of the owning context; the cause when it cannot (R315, R319, R321, R324).
`t` says where a placed page is searched from. -/
def State.allocPage (s : State) (ctx va : Nat) (attr : Word) (t : TierStart) (place : Bool) : State × Option Nat :=
  let c := s.ctx ctx
  let big := attrPS attr
  if s.ctxUsed ctx + pageKiB big > c.hbmQuota * 1024 then (s, some 3)
  else
    match s.findHome c big (attrHL attr) with
    | none => (s, some 4)
    | some (q, a) =>
      let base : Page :=
        { Page.blank with
          v := true, ctx := ctx, va := va, big := big, attr := attr, home := a, quarter := q }
      let s1 := s.zeroHbm (q * 2 ^ 38 + a) (pageBytes big)
      let placed : Option State :=
        if place && decide (s.ctxPlaced ctx + pageKiB big ≤ c.placeMax * 1024) then
          match s1.findFrames c big (attrHL attr) t with
          | none => none
          | some (fq, f) =>
            (State.takeFrames .placed fq (pageFrames big) f s1).map (fun s2 =>
              (s2.forgetSectors (frameAddr fq f) (pageBytes big)).setPage (pageKey ctx va)
                { base with loc := 1, frame := fq * 20480 + f })
        else none
      (placed.getD (s1.setPage (pageKey ctx va) base), none)

/-- The device-local address of a byte of a populated page: its frame when placed, else its home. -/
def Page.phys (p : Page) (off : Nat) : Nat :=
  if p.loc = 1 then frameAddr (p.frame / 20480) (p.frame % 20480) + off else p.quarter * 2 ^ 38 + p.home + off

/-- The cause of a translation's fault before any allocation, in the order of R321. -/
def State.trCause (s : State) (w : Who) (ctx va : Nat) (write : Bool) : Option Nat :=
  let c := s.ctx ctx
  if !c.active || (match w.part with | some p => decide (p ≠ c.part) | none => false) then some 5
  else if va ≥ 2 ^ 56 then some 1
  else
    match s.rangeAt ctx va with
    | none => some 1
    | some r =>
      if (write || attrSOLU (s.ownerAttr r va)) && !attrW r.attr then some 2 else none

/-- Translates one request (R305, R317 to R321), allocating the page on first touch; a resolved request adds 1 to
the heat that the requester's translation cache gathers (R325). -/
def State.translate (s : State) (w : Who) (ctx va : Nat) (write : Bool) : State × TrRes :=
  match s.trCause w ctx va write with
  | some cause => (s.trFault w ctx va cause, .fault cause)
  | none =>
    match s.rangeAt ctx va with
    | none => (s, .fault 1)
    | some r =>
      let o := r.owner va
      let attr := s.ownerAttr r va
      let big := attrPS attr
      let start := pageStart big o.2
      let key := pageKey o.1 start
      let a : State × Option Nat :=
        if (s.page key).v then (s, none)
        else
          let x := s.allocPage o.1 start attr (.quarter (w.cluster / 8)) (attrPLACE attr = 2)
          match x.2 with
          | some _ => x
          | none => ({ x.1 with pager := { x.1.pager with
              cnt := { x.1.pager.cnt with demand := x.1.pager.cnt.demand + 1 } } }, none)
      match a.2 with
      | some cause => (s.trFault w ctx va cause, .fault cause)
      | none =>
        let s1 := { a.1 with pager := { a.1.pager with
          gathered := Tab.modify 0 a.1.pager.gathered (key * 512 + w.cache) (· + 1) } }
        (s1, .ok ((s1.page key).phys (o.2 - start)) attr o)

/-! ## Moves (R328 to R330) -/

/-- Lines of a page's present place. -/
def Page.lines (p : Page) : List Nat := (List.range (pageBytes p.big / 128)).map (fun i => p.phys 0 / 128 + i)

/-- A line of the page holds a shadow way (R269). -/
def State.pageShadowed (s : State) (p : Page) : Bool :=
  s.market.shWays.any (fun e => decide (p.phys 0 / 128 ≤ e.1 ∧ e.1 < (p.phys 0 + pageBytes p.big) / 128))

def State.pagerCount (s : State) (f : PagerCounters → PagerCounters) : State :=
  { s with pager := { s.pager with cnt := f s.pager.cnt } }

/-- A sector moved into the market: DEAD becomes VALID with HBM content, PARTIAL is merged first, the use count goes
with it, poison stays (R328, R330). -/
def State.promoteSector (s : State) (src dst : Nat) : State :=
  let x := s.sector src
  let y : State × BitVec 256 × Half :=
    match x.base with
    | .valid => let r := s.readOut src x; (r.1, r.2.data, r.2.chk)
    | .partl =>
      let r := s.baseView Acc.plain src
      (r.1, r.2.data, if r.2.poison then Config.poison else 0#16)
    | _ => let h := s.hbmChecked src; (h.1, h.2.data, h.2.chk)
  let new : Sector :=
    { Sector.blank with
      base := .valid, data := y.2.1, chk := y.2.2, dirty := true, used := x.used, pageU := x.pageU, anchor := x.anchor
      mir := x.mir }
  if y.2.1 = 0#256 ∧ y.2.2 = 0#16 ∧ x.used = 0 then y.1.setSector dst Sector.blank else y.1.setSector dst new

/-- The sectors of a page that are not at the content an unlisted sector has, market or HBM. -/
def State.listedSectors (s : State) (lo n : Nat) : List Nat :=
  let inR := fun (k : Nat) => decide (lo ≤ 32 * k ∧ 32 * k < lo + n)
  let a := (s.market.sectors.filter (fun e => inR e.1)).map (·.1)
  a ++ ((s.hbm.sectors.filter (fun e => inR e.1)).map (·.1)).filter (fun k => !(a.contains k))

/-- Promotes a page to the frames given (R328). -/
def State.promotePage (s : State) (key fq f : Nat) : Option State :=
  let p := s.page key
  let lo := p.quarter * 2 ^ 38 + p.home
  let n := pageBytes p.big
  let dst := frameAddr fq f
  match State.takeFrames .placed fq (pageFrames p.big) f s with
  | none => none
  | some s1 =>
    let s2 := (s1.settleRange lo n).forgetSectors dst n
    let s3 := (s2.listedSectors lo n).foldl (fun s k => s.promoteSector k (k - lo / 32 + dst / 32)) s2
    let s4 := (s3.forgetSectors lo n).setPage key { p with loc := 1, frame := fq * 20480 + f }
    some (s4.pagerCount (fun c =>
      { c with promotions := c.promotions + 1, movedKiB := c.movedKiB + pageKiB p.big, shootdowns := c.shootdowns + 2 }))

/-- Demotes a placed page to its home (R328, R330): DEAD sectors are written as zeros; use counts go along. -/
def State.demotePage (s : State) (key : Nat) : State :=
  let p := s.page key
  let lo := p.quarter * 2 ^ 38 + p.home
  let n := pageBytes p.big
  let src := p.phys 0
  let s1 := s.zeroHbm lo n
  let s2 := (s1.listedSectors src n).foldl (fun s k =>
    let x := s.sector k
    let at' := k - src / 32 + lo / 32
    match x.base with
    | .valid =>
      let r := s.readOut k x
      (r.1.hbmWrite Acc.plain at' ⟨r.2.data, r.2.chk⟩).setSector at' { Sector.blank with used := x.used }
    | _ => s) s1
  let s3 := (s2.releaseFrames (p.frame / 20480) (p.frame % 20480) (pageFrames p.big)).setPage key { p with loc := 0 }
  s3.pagerCount (fun c =>
    { c with demotions := c.demotions + 1, movedKiB := c.movedKiB + pageKiB p.big, shootdowns := c.shootdowns + 2 })

/-- Density: heat per 64 KiB (R325). -/
def Page.dens (p : Page) : Nat := if p.big then p.heat / 32 else p.heat

end Sys2Proof.Machine
end

