-- ==== Sys2Proof/Machine/CoreOps.lean ====
section
/-!
DEFINITION. Shared operations of a core: CRC-32C, the bench and its blocks (R194 to R197), reads and
writes of either space by a unit of the core, traps (R199 to R202), completion counters and the
sequencer's waits (R181, R189, R192, R193).
-/

namespace Sys2Proof.Machine
open Sys2Proof

/-! ## CRC-32C -/

def crcBits : Nat → Nat → Nat
  | 0, c => c
  | n + 1, c => crcBits n (if c % 2 = 1 then (c / 2) ^^^ 0x82F63B78 else c / 2)

/-- CRC-32C (Castagnoli, reflected) of bytes. -/
def crc32c (l : List Byte) : Nat :=
  (l.foldl (fun c b => crcBits 8 (c ^^^ b.toNat)) 0xFFFFFFFF) ^^^ 0xFFFFFFFF

/-! ## Cores and clusters -/

def State.core (s : State) (c : Nat) : Core := Tab.get Core.blank s.cores c
def State.setCore (s : State) (c : Nat) (x : Core) : State := { s with cores := Tab.set Core.blank s.cores c x }
def State.onCore (s : State) (c : Nat) (f : Core → Core) : State := s.setCore c (f (s.core c))
def State.cluster (s : State) (k : Nat) : Cluster := Tab.get Cluster.blank s.clusters k
def State.setCluster (s : State) (k : Nat) (x : Cluster) : State :=
  { s with clusters := Tab.set Cluster.blank s.clusters k x }

/-- The cluster of a logical core (R19). -/
def coreCluster (c : Nat) : Nat := c / 8

/-- Sets arrival bits of EVENTS (Table 6-15). -/
def Cluster.raise (k : Cluster) (bit : Nat) : Cluster := { k with events := k.events ||| BitVec.ofNat 32 (2 ^ bit) }

/-- The bits `[hi:lo]` of a word. -/
def bits (hi lo : Nat) {w : Nat} (x : BitVec w) : Nat := x.toNat / 2 ^ lo % 2 ^ (hi - lo + 1)
def bitAt {w : Nat} (x : BitVec w) (i : Nat) : Bool := x.getLsbD i

/-! ## The bench (R194, R196, R197) -/

def benchSize : Nat := 0x80000

/-- Words of the bench in a byte span whose check bits are not the correct ones. -/
def Core.badWords (x : Core) (off n : Nat) : List (Nat × Byte) :=
  x.benchChk.filter (fun e => decide (off < 8 * e.1 + 8 ∧ 8 * e.1 < off + n))

/-- Checks one stored word of the bench as it is read (R396, R397, R399, R400, R403). -/
def State.checkBenchWord (c : Nat) (s : State) (e : Nat × Byte) : State :=
  if e.2 = Config.wordPoison then s.eccPoisonRead
  else
    let x := s.core c
    match Config.wordBit e.2 with
    | some i =>
      let s1 := s.eccCorrected 2 c i (8 * e.1)
      let w := Tab.le 0#8 x.bench (8 * e.1) 8
      let fixed := if i < 64 then w ^^^ 2 ^ i else w
      if s.k64 then
        (s1.setCore c { x with
          bench := Tab.setLe 0#8 x.bench (8 * e.1) 8 fixed
          benchChk := Tab.set 0#8 x.benchChk e.1 0#8 }).eccWroteBack 2 c i (8 * e.1)
      else s1
    | none =>
      (s.eccFresh 2 2 c (8 * e.1)).setCore c { x with benchChk := Tab.set 0#8 x.benchChk e.1 Config.wordPoison }

/-- The byte of a bench word as the code delivers it: a correctable error in it is corrected (R399). -/
def Core.benchByte (x : Core) (a : Nat) : Byte :=
  let e := Tab.get 0#8 x.benchChk (a / 8)
  let b := Tab.get 0#8 x.bench a
  if e = 0#8 ∨ e = Config.wordPoison then b
  else
    match Config.wordBit e with
    | some i => if i / 8 = a % 8 ∧ i < 64 then b ^^^ BitVec.ofNat 8 (2 ^ (i % 8)) else b
    | none => b

/-- Blocks that a span touches. -/
def blocksOf (off n : Nat) : List Nat := if n = 0 then [] else (List.range ((off + n - 1) / 1024 - off / 1024 + 1)).map (· + off / 1024)

/-- Which bytes of a span carry a poison tag when read: words with the poison pattern, blocks with CANCEL (R197). -/
def Core.benchMarks (x : Core) (off n : Nat) : List Bool :=
  (List.range n).map (fun i =>
    Tab.get 0#8 x.benchChk ((off + i) / 8) = Config.wordPoison || Tab.get false x.blkCancel ((off + i) / 1024))

/-- A read of bench bytes: the bytes, the union of the blocks' masks, poison (R197, R397). -/
def State.benchRead (s : State) (c off n : Nat) : State × List Byte × Half × Bool :=
  let x := s.core c
  let bad := x.badWords off n
  let s1 := bad.foldl (State.checkBenchWord c) s
  let poison := ((s1.core c).badWords off n).any (fun e => e.2 = Config.wordPoison)
    || (blocksOf off n).any (fun b => Tab.get false x.blkCancel b)
  (s1, (List.range n).map (fun i => x.benchByte (off + i)),
    (blocksOf off n).foldl (fun m b => m ||| Tab.get 0#16 x.blkTaint b) 0#16, poison)

/-- The check bits of the words that a write covers: clean, or the poison pattern; a word written in part keeps its
poison (R397, R404). -/
def Core.writeChk (x : Core) (off n : Nat) (poison : Bool) : Tab Byte :=
  let ws := if n = 0 then [] else (List.range ((off + n - 1) / 8 - off / 8 + 1)).map (· + off / 8)
  ws.foldl (fun t w =>
    let whole := decide (off ≤ 8 * w ∧ 8 * w + 8 ≤ off + n)
    let old := Tab.get 0#8 t w
    Tab.set 0#8 t w (if poison then Config.wordPoison else if whole then 0#8
      else if old = Config.wordPoison then Config.wordPoison else 0#8)) x.benchChk

/-- A write of bench bytes by work of mask `m`: marks the blocks (R197), sets CANCEL where an epoch of `m` is being
cancelled (R120), and removes stored recipes it touches (R96). -/
def State.benchWrite (s : State) (c off : Nat) (bs : List Byte) (m : Half) (poison : Bool) : State :=
  let cut := s.maskCancelled m
  let live := s.liveMask m
  s.onCore c (fun x =>
    { x with
      bench := Tab.setBytes 0#8 x.bench off bs
      benchChk := x.writeChk off bs.length poison
      blkTaint := (blocksOf off bs.length).foldl (fun t b => Tab.modify 0#16 t b (· ||| live)) x.blkTaint
      blkCancel := if cut then (blocksOf off bs.length).foldl (fun t b => Tab.set false t b true) x.blkCancel else x.blkCancel
      recipes := x.recipes.filter (fun r => !(decide (off < r.1 + r.2 ∧ r.1 < off + bs.length))) })

/-! ## Accesses of a core's units -/

/-- Who in the core accesses memory: the core, the context and mask of the work, its regulation class and deadline (the bell
of its key plus one, 0: none), whether the access is LDL, the bit of the source kind (Table 12-7), whether a stale read traps instead (R247). -/
structure Env where
  core : Nat
  ctx : Nat
  taint : Half
  cls : Nat
  deadline : Nat
  ldl : Bool
  src : Nat
  strict : Bool
  deriving DecidableEq, Repr

/-- What a request of the unit carries: the deadline as it remains (R349). -/
def State.envAcc (s : State) (e : Env) : Acc :=
  let left := e.deadline - 1 - s.bell.count
  ⟨e.taint, e.ldl, 0, none, none, e.cls, if e.deadline = 0 then 0xFFFF else if left > 65534 then 65534 else left, e.src⟩

/-- The partition and cluster a core's unit translates with. -/
def State.coreWho (s : State) (c : Nat) : Who := ⟨some ((s.corePart c).getD 4), c, coreCluster c⟩

/-- How an access of a unit ends. -/
inductive AccSt where
  | ok | wait | cancelled
  | fault (addr : Nat)
  | stale (addr : Nat)
  deriving DecidableEq, Repr

/-- Pieces of `[a, a + n)` that do not cross a multiple of `g`: address and length; `fuel` bounds their number. -/
def pieces (g : Nat) : Nat → Nat → Nat → List (Nat × Nat)
  | 0, _, _ => []
  | fuel + 1, a, n =>
    if n = 0 then []
    else
      let l := if n < g - a % g then n else g - a % g
      (a, l) :: pieces g fuel (a + l) (n - l)

def piecesOf (g a n : Nat) : List (Nat × Nat) := pieces g (n / g + 2) a n

/-- What a read gathered so far; `marks` says which bytes carry a poison tag. -/
structure RdAcc where
  s : State
  st : AccSt
  bytes : List Byte
  marks : List Bool
  taint : Half
  poison : Bool
  stale : Bool

/-- Counts a stale read against the core whose unit made it (R247). -/
def State.staleBy (s : State) (c : Nat) (stale : Bool) : State :=
  if stale then s.onCore c (fun x => { x with stalecnt := (x.stalecnt + 1) % 2 ^ 32 }) else s

/-- One sector of a read. -/
def readPiece (e : Env) (acc : Acc) (r : RdAcc) (p : Nat × Nat) : RdAcc :=
  match r.st with
  | .ok =>
    if e.strict && r.s.addrOk p.1 && r.s.readsDead acc (p.1 / 32) then
      { r with
        st := .stale p.1
        s := { r.s with market := { r.s.market with
          cnt := { r.s.market.cnt with staleTraps := r.s.market.cnt.staleTraps + 1 } } } }
    else
    let x := r.s.readSector acc (p.1 / 32)
    match x.2.1 with
    | .ok =>
      { s := x.1.staleBy e.core x.2.2.stale, st := .ok,
        bytes := r.bytes ++ sliceSector (p.1 % 32) p.2 x.2.2.data,
        marks := r.marks ++ List.replicate p.2 x.2.2.poison, taint := r.taint ||| x.2.2.taint,
        poison := r.poison || x.2.2.poison, stale := r.stale || x.2.2.stale }
    | .wait => { r with st := .wait }
    | .fault => { r with st := .fault p.1 }
    | .cancelled => { r with st := .cancelled }
  | _ => r

/-- One line of a read by virtual address. -/
def readLine (e : Env) (write : Bool) (r : RdAcc) (p : Nat × Nat) : RdAcc :=
  match r.st with
  | .ok =>
    let t := r.s.translate (r.s.coreWho e.core) e.ctx p.1 (write || e.ldl)
    match t.2 with
    | .fault _ => { r with s := t.1, st := .fault p.1 }
    | .ok phys attr own => (piecesOf 32 phys p.2).foldl (readPiece e (attrAcc attr own phys (r.s.envAcc e))) { r with s := t.1 }
  | _ => r

/-- A read of `n` bytes: of the bench, or by virtual address. -/
def State.unitRead (s : State) (e : Env) (va : Bool) (a n : Nat) : RdAcc :=
  if va then (piecesOf 128 a n).foldl (readLine e false) ⟨s, .ok, [], [], 0#16, false, false⟩
  else if a + n > benchSize then ⟨s, .fault a, [], [], 0#16, false, false⟩
  else
    let r := s.benchRead e.core a n
    ⟨r.1, .ok, r.2.1, (r.1.core e.core).benchMarks a n, r.2.2.1, r.2.2.2, false⟩

/-- What a write has done so far. -/
structure WrAcc where
  s : State
  st : AccSt
  rest : List Byte

/-- Marks a sector just written by an access as poison (R397). -/
def State.poisonSector (s : State) (acc : Acc) (n : Nat) : State :=
  let z := s.sector n
  s.setSector n (if s.liveMask acc.taint = 0#16 then { z with chk := Config.poison } else { z with sh := { z.sh with chk := Config.poison } })

/-- A part-sector write of a unit of core `c` (R249, R404). -/
def State.partWrite (s : State) (c : Nat) (acc : Acc) (n : Nat) (f : BitVec 256 → BitVec 256) (poison : Bool) : State × MemSt :=
  let y := s.modifySector acc n false f
  let z := y.1.staleBy c y.2.2.stale
  (if poison && y.2.1 = .ok then z.poisonSector acc n else z, y.2.1)

/-- One sector of a write. -/
def writePiece (c : Nat) (acc : Acc) (poison : Bool) (r : WrAcc) (p : Nat × Nat) : WrAcc :=
  match r.st with
  | .ok =>
    let bs := r.rest.take p.2
    let x : State × MemSt :=
      if p.2 = 32 then r.s.writeSector acc (p.1 / 32) (bytesSector bs) poison
      else r.s.partWrite c acc (p.1 / 32) (patchSector (p.1 % 32) bs) poison
    match x.2 with
    | .ok => ⟨x.1, .ok, r.rest.drop p.2⟩
    | .wait => { r with st := .wait }
    | .fault => { r with st := .fault p.1 }
    | .cancelled => { r with st := .cancelled }
  | _ => r

def writeLine (e : Env) (poison : Bool) (r : WrAcc) (p : Nat × Nat) : WrAcc :=
  match r.st with
  | .ok =>
    let t := r.s.translate (r.s.coreWho e.core) e.ctx p.1 true
    match t.2 with
    | .fault _ => { r with s := t.1, st := .fault p.1 }
    | .ok phys attr own => (piecesOf 32 phys p.2).foldl (writePiece e.core (attrAcc attr own phys (r.s.envAcc e)) poison) { r with s := t.1 }
  | _ => r

/-- A write of bytes to the bench or by virtual address, by work of the environment's mask. -/
def State.unitWrite (s : State) (e : Env) (va : Bool) (a : Nat) (bs : List Byte) (poison : Bool) : State × AccSt :=
  if va then
    let r := (piecesOf 128 a bs.length).foldl (writeLine e poison) ⟨s, .ok, bs⟩
    (r.s, r.st)
  else if a + bs.length > benchSize then (s, .fault a)
  else (s.benchWrite e.core a bs e.taint poison, .ok)

/-- One store request to one sector (R138): bytes at their offsets in the sector at `a`, which is 32-byte aligned. -/
def State.unitPatch (s : State) (e : Env) (va : Bool) (a : Nat) (bs : List (Nat × Byte)) : State × AccSt :=
  if va then
    let t := s.translate (s.coreWho e.core) e.ctx a true
    match t.2 with
    | .fault _ => (t.1, .fault a)
    | .ok phys attr own =>
      let acc := attrAcc attr own phys (s.envAcc e)
      let d (x : BitVec 256) : BitVec 256 := bs.foldl (fun x b => patchSector b.1 [b.2] x) x
      let r : State × MemSt :=
        if (List.range 32).all (fun i => bs.any (fun b => b.1 = i)) then t.1.writeSector acc (phys / 32) (d 0#256) false
        else t.1.partWrite e.core acc (phys / 32) d false
      match r.2 with
      | .ok => (r.1, .ok)
      | .wait => (s, .wait)
      | .fault => (r.1, .fault a)
      | .cancelled => (r.1, .cancelled)
  else if a + 32 > benchSize then (s, .fault a)
  else (bs.foldl (fun s b => s.benchWrite e.core (a + b.1) [b.2] e.taint false) s, .ok)

/-- One fold-in request of a unit by virtual address (R250): the address of its first element's sector. -/
def State.unitFold (s : State) (e : Env) (va fmt : Nat) (elems : List (Nat × FoldOperand)) :
    State × AccSt × FoldEnd :=
  let none := FoldEnd.mk FoldFlags.none false
  let t := s.translate (s.coreWho e.core) e.ctx va true
  match t.2 with
  | .fault _ => (t.1, .fault va, none)
  | .ok phys attr own =>
    let r := t.1.foldApply (attrAcc attr own phys (s.envAcc e)) (phys / 32) fmt elems
    match r.2.1 with
    | .ok => (r.1, .ok, r.2.2)
    | .wait => (s, .wait, none)
    | .fault => (r.1, .fault va, none)
    | .cancelled => (r.1, .cancelled, none)

/-- The anchor of the page at a virtual address, if it has one (R47). -/
def State.vaAnchor (s : State) (ctx va : Nat) : Option Int :=
  match s.rangeAt ctx va with
  | none => none
  | some r => let a := s.ownerAttr r va; if attrANC a then some (attrANCHOR a) else none

/-! ## Traps (R199, R200) -/

def unitSeq : Nat := 0
def unitArray : Nat := 1
def unitVector : Nat := 2
def unitTray : Nat := 3
def unitCopy : Nat := 4

/-- A trap record (Table 6-16). -/
def trapRecord (code lcore unit slot : Nat) (poison tainted : Bool) (pos addr : Nat) : QWord :=
  BitVec.ofNat 128 (code % 256 * 2 ^ 120 + lcore % 256 * 2 ^ 112 + unit % 16 * 2 ^ 108 + slot % 16 * 2 ^ 104
    + (if poison then 2 ^ 103 else 0) + (if tainted then 2 ^ 102 else 0) + pos % 2 ^ 32 * 2 ^ 64 + addr % 2 ^ 64)

/-- A record enters the cluster's trap queue, or is held until room exists; it is the core's LASTTRAP (R200). -/
def State.pushTrap (s : State) (c : Nat) (r : QWord) : State :=
  let k := s.cluster (coreCluster c)
  let s1 := s.onCore c (fun x => { x with lastTrap := r, lastCode := bits 127 120 r })
  if k.trapQ.length ≥ 64 ∨ (s.core c).heldTraps ≠ [] then
    s1.onCore c (fun x => { x with heldTraps := x.heldTraps ++ [r] })
  else s1.setCluster (coreCluster c) ({ k with trapQ := k.trapQ ++ [r] }.raise 1)

/-- A trap of a unit other than the tray unit: issue stops (R201). -/
def State.trap (s : State) (c code unit : Nat) (poison tainted : Bool) (pos addr : Nat) : State :=
  (s.pushTrap c (trapRecord code c unit 0 poison tainted pos addr)).onCore c (fun x =>
    { x with seqState := 3, outTraps := x.outTraps ++ [(unit, 0, code)] })

/-! ## Completion counters and waits -/

def Core.scAdd (x : Core) (en : Bool) (i : Nat) : Core :=
  if en then { x with sc := Tab.modify 0 x.sc i (fun v => (v + 1) % 65536) } else x
def Core.scSub (x : Core) (en : Bool) (i : Nat) : Core :=
  if en then { x with sc := Tab.modify 0 x.sc i (fun v => (v + 65535) % 65536) } else x

/-- Every earlier descriptor of the task has completed: nothing is queued, held, launched or copying. -/
def Core.idleUnits (x : Core) : Bool := x.arrQ.isEmpty && x.heldRun.isEmpty && x.vecQ.isEmpty && x.copyQ.isEmpty && x.launches.isEmpty

/-- The same without launches, which FENCE does not wait for (R192). -/
def Core.idleUnitsButTrays (x : Core) : Bool := x.arrQ.isEmpty && x.heldRun.isEmpty && x.vecQ.isEmpty && x.copyQ.isEmpty

/-- A completion record (R206). -/
def compRecord (lcore status : Nat) (taint : Half) (tag : Nat) : DWord :=
  BitVec.ofNat 64 (lcore % 256 * 2 ^ 56 + status % 16 * 2 ^ 52 + taint.toNat * 2 ^ 36 + tag % 65536)

/-- A local task's completion record enters the completion queue, or is held at the sequencer (R206). -/
def State.completeLocal (s : State) (c : Nat) (r : DWord) : State :=
  let k := s.cluster (coreCluster c)
  if k.compQ.length ≥ 64 then s.onCore c (fun x => { x with heldComp := x.heldComp ++ [r] })
  else s.setCluster (coreCluster c) ({ k with compQ := k.compQ ++ [r] }.raise 2)

/-- The sequencer is idle again: phase 0, no task (R193, R198). -/
def Core.clearTask (x : Core) : Core :=
  { x with task := Task.blank, seqState := 0, seqWait := .none, phase := 0, fetched := [], outTraps := [] }

/-- Zeroes blocks with their masks and CANCEL bits (R189, R197). -/
def State.clearBlocks (s : State) (c blk cnt : Nat) : State :=
  s.onCore c (fun x =>
    { x with
      bench := x.bench.filter (fun e => !(decide (1024 * blk ≤ e.1 ∧ e.1 < 1024 * (blk + cnt))))
      benchChk := x.benchChk.filter (fun e => !(decide (128 * blk ≤ e.1 ∧ e.1 < 128 * (blk + cnt))))
      blkTaint := x.blkTaint.filter (fun e => !(decide (blk ≤ e.1 ∧ e.1 < blk + cnt)))
      blkCancel := x.blkCancel.filter (fun e => !(decide (blk ≤ e.1 ∧ e.1 < blk + cnt)))
      recipes := x.recipes.filter (fun r => !(decide (1024 * blk < r.1 + r.2 ∧ r.1 < 1024 * (blk + cnt)))) })

end Sys2Proof.Machine
end

