-- ==== Sys2Proof/Machine/Queue.lean ====
section
/-!
DEFINITION. Work queues as every unit sees them (chapter 11): entries, the end of a task, draft entries at a commit and at a
cancellation, MSI-X requests.
-/

namespace Sys2Proof.Machine
open Sys2Proof

def qFree : Nat := 0
def qEnabled : Nat := 1
def qPaused : Nat := 2
def qDraining : Nat := 3
def qMigrating : Nat := 4

def State.queue (s : State) (q : Nat) : Queue := Tab.get Queue.blank s.sched.queues q
def State.setQueue (s : State) (q : Nat) (x : Queue) : State :=
  { s with sched := { s.sched with queues := Tab.set Queue.blank s.sched.queues q x } }

/-- The partition of a queue: that of its context (R332). -/
def State.queuePart (s : State) (q : Nat) : Nat := (Tab.get Ctx.blank s.pager.ctxs (s.queue q).ctx).part

/-- Bytes of the submission and completion extents of a queue: a sealed HOST or FABRIC queue's include its seal arrays (R471, R558). -/
def Queue.sqBytes (x : Queue) : Nat := (if x.sealed ∧ x.prod ≠ 2 then 96 else 64) * 2 ^ x.logsz
def Queue.cqBytes (x : Queue) : Nat := (if x.sealed ∧ x.prod ≠ 2 then 64 else 32) * 2 ^ x.logsz

/-- A ring of a queue that is not FREE lies in the span. -/
def State.ringsIn (s : State) (base n : Nat) : Bool :=
  s.sched.queues.any (fun e => decide (e.2.st ≠ qFree) &&
    (decide (e.2.sq < base + n ∧ base < e.2.sq + e.2.sqBytes) || decide (e.2.cq < base + n ∧ base < e.2.cq + e.2.cqBytes)))

/-- Starter traffic lands in a partition (R454, R456). -/
def State.starterUses (s : State) (p : Nat) : Bool :=
  let x := Tab.get Hosted.blank s.fabric.hosted p
  decide (x.st = 1 ∨ x.st = 2)

/-! ## MSI-X requests (R477) -/

def State.setVec (s : State) (v : Nat) (x : MsixVec) : State :=
  { s with host := { s.host with vectors := Tab.set MsixVec.blank s.host.vectors v x } }
def State.vec (s : State) (v : Nat) : MsixVec := Tab.get MsixVec.blank s.host.vectors v

/-- A source asks for a vector: masked or with the link down it sets the pending bit, otherwise its message is to be sent. -/
def State.askVector (s : State) (v : Nat) : State :=
  let x := s.vec v
  s.setVec v (if x.masked ∨ s.host.lanes = 0 then { x with pend := true } else { x with asked := true })

/-- Bits of EVTSTAT become set (Table 15-4). -/
def State.raiseEvt (s : State) (bit : Nat) : State :=
  let new := s.host.evtstat ||| 2 ^ bit
  let s1 := { s with host := { s.host with evtstat := new } }
  if new ≠ s.host.evtstat ∧ s.host.evtmsix / 2 ^ 15 % 2 = 1 then s1.askVector (s.host.evtmsix % 2048) else s1

/-! ## Entries -/

/-- The word fields of a work entry (Table 11-2). -/
def weSeq (w : BitVec 512) : Nat := bits 479 448 w
def weKind (w : BitVec 512) : Nat := bits 447 444 w
def weSpace (w : BitVec 512) : Bool := bitAt w 443
def weDeadline (w : BitVec 512) : Nat := bits 439 424 w
def weTag (w : BitVec 512) : Nat := bits 423 408 w
def weAffv (w : BitVec 512) : Bool := bitAt w 407
def weAff (w : BitVec 512) : Nat := bits 406 402 w
def weStream (w : BitVec 512) : Nat := bits 399 344 w

/-- The first entry that `p` allows is replaced. -/
def setEntry (p : QEntry → Bool) (f : QEntry → QEntry) : List QEntry → List QEntry
  | [] => []
  | e :: r => if p e then f e :: r else e :: setEntry p f r

/-- A DRAINING queue with no task in flight becomes PAUSED (R334). -/
def Queue.settle (x : Queue) : Queue := if x.st = qDraining ∧ x.infl = 0 then { x with st := qPaused } else x

/-- An entry finishes with a status; its completion waits to be written. -/
def State.finishEntry (s : State) (q n status lcore result : Nat) (taint : Half) : State :=
  let fin := s.sched.finNext
  let s1 := { s with sched := { s.sched with finNext := fin + 1 } }
  let x := s1.queue q
  s1.setQueue q { x with entries := setEntry (fun e => decide (e.num = n) && !e.dropped) (fun e =>
    { e with st := 3, status := status, lcore := lcore, endB := s.bell.count, result := result, taint := taint, fin := fin }) x.entries }

/-- The task of an entry ends on a core with a status of Table 11-4 (R339, R356, R358). -/
def State.taskEnded (s : State) (q n status core : Nat) (taint : Half) : State :=
  let x := s.queue q
  match x.entries.find? (fun e => e.num = n ∧ e.st = 2 ∧ e.lcore = core) with
  | none => s
  | some e =>
    let y := { x with infl := x.infl - 1 }
    if e.dropped then s.setQueue q ({ y with entries := y.entries.filter (fun z => decide (z.num ≠ n ∨ z.lcore ≠ core) || !z.dropped) }.settle)
    else if status = 2 ∧ x.retry ∧ !e.retried then
      s.setQueue q ({ y with entries := setEntry (fun z => decide (z.num = n) && !z.dropped) (fun z => { z with st := 4, retried := true }) y.entries }.settle)
    else
      let r := s.benchRead core (64 * x.ebench64) 8
      let s1 := if status = 0 then r.1 else s
      let m := if status = 0 then taint ||| r.2.2.1 else taint
      let s2 := (s1.setQueue q y).finishEntry q n status core (if status = 0 then leNat r.2.1 else 0) m
      s2.setQueue q (s2.queue q).settle

/-- The entries of a queue at a COMMIT (R355): a draft entry whose mask empties becomes a base entry, and ARRIVED and TAKEN advance. -/
def Queue.commit (c : Half) (x : Queue) : Queue :=
  let base := x.entries.filter (fun e => e.mask ≠ 0#16 && decide (e.mask &&& ~~~c = 0#16) && !e.dropped)
  { x with
    entries := x.entries.map (fun e => { e with mask := e.mask &&& ~~~c, taint := e.taint &&& ~~~c })
    arrived := x.arrived + base.length
    taken := x.taken + (base.filter (fun e => e.st ≥ 2)).length
    draftn := x.draftn - base.length
    waiting := x.waiting.map (fun b => { b with mask := b.mask &&& ~~~c }) }

/-- The entries of a queue at a CANCEL (R356, R357): draft entries are discarded; a finished base entry that waits for a cancelled epoch
completes CANCELLED. -/
def Queue.cancel (c : Half) (x : Queue) : Queue :=
  let hit (e : QEntry) : Bool := decide (e.mask &&& c ≠ 0#16)
  let gone := x.entries.filter (fun e => hit e && !e.dropped)
  { x with
    entries := (x.entries.filter (fun e => !hit e || decide (e.st = 2))).map (fun e =>
      if hit e then { e with dropped := true, mask := 0#16 }
      else if e.st = 3 ∧ e.taint &&& c ≠ 0#16 then { e with status := 3, result := 0, taint := 0#16 } else e)
    draftn := x.draftn - gone.length
    waiting := x.waiting.filter (fun b => b.mask &&& c = 0#16) }

/-! ## Doorbells (R340, R341, R354, R361) -/

/-- The mask of the draft entries that are not final. -/
def Queue.draftMask (x : Queue) : Option Half := (x.entries.find? (fun e => e.mask ≠ 0#16 && !e.dropped)).map (·.mask)

/-- A doorbell of this mask must wait. -/
def Queue.holds (x : Queue) (m : Half) : Bool :=
  decide (x.st = qMigrating) || (match x.draftMask with | some d => decide (d ≠ m) | none => false)

/-- An entry that a doorbell announces. -/
def QEntry.fresh (num bell arrN : Nat) (m : Half) : QEntry :=
  { num := num, arrB := bell, arrN := arrN, mask := m, st := 0, word := 0#512, status := 0, lcore := 0xFF, dispB := bell, endB := bell,
    result := 0, taint := 0#16, retried := false, dropped := false, fin := 0 }

/-- A doorbell is ignored and counted; more than 1,000 in one bell are recorded once (R363). -/
def State.ignoreBell (s : State) (q : Nat) : State :=
  let n := if s.sched.burstBell = s.bell.count then s.sched.burst + 1 else 1
  let s1 := { s with sched := { s.sched with ignored := s.sched.ignored + 1, burstBell := s.bell.count, burst := n } }
  if n = 1001 then s1.event 0x50 4 q n else s1

/-- A work entry as the scheduler reads it at a slot (R333, R354): the two sectors of its 64 bytes. -/
def State.readSlot (s : State) (q n : Nat) (m : Half) : State × MemSt × View × View :=
  let x := s.queue q
  let a := x.sq + 64 * (n % 2 ^ x.logsz)
  let acc : Acc := { Acc.plain with taint := m, cls := s.val 0xA040 15 0 }
  let r := s.readSector acc (a / 32)
  match r.2.1 with
  | .ok => let r2 := r.1.readSector acc (a / 32 + 1); (r2.1, r2.2.1, r.2.2, r2.2.2)
  | st => (r.1, st, View.none, View.none)

/-- The 64 bytes of two sectors. -/
def entryWord (a b : View) : BitVec 512 := b.data ++ a.data

/-- Entries not taken complete DROPPED (R334). -/
def State.dropEntries (s : State) (q : Nat) : State :=
  ((s.queue q).entries.filter (fun e => decide (e.st ≤ 1) && !e.dropped)).foldl (fun s e =>
    let r := s.readSlot q e.num e.mask
    let w := if e.st = 0 then entryWord r.2.2.1 r.2.2.2 else e.word
    let x := r.1.queue q
    (r.1.setQueue q { x with
      entries := setEntry (fun z => decide (z.num = e.num) && !z.dropped) (fun z => { z with word := w }) x.entries
      taken := if e.mask = 0#16 then x.taken + 1 else x.taken }).finishEntry q e.num 6 0xFF 0 0#16) s

/-- A doorbell is applied: the entries it covers are announced (R341, R354), or it is ignored. -/
def State.ringNow (s : State) (q tail : Nat) (m : Half) : State :=
  let x := s.queue q
  let top := x.arrived + x.draftn
  if x.st = qFree ∨ tail ≤ top ∨ tail > x.completed + 2 ^ x.logsz then s.ignoreBell q
  else
    let k := tail - top
    let new := (List.range k).map (fun i => QEntry.fresh (top + i) s.bell.count (s.sched.arrNext + i) m)
    let s1 := { s with sched := { s.sched with arrNext := s.sched.arrNext + k, doorbells := s.sched.doorbells + 1 } }
    let s2 := s1.setQueue q { x with
      entries := x.entries ++ new
      arrived := if m = 0#16 then tail else x.arrived
      draftn := if m = 0#16 then x.draftn else x.draftn + k }
    if x.st = qDraining then s2.dropEntries q else s2

/-- Doorbells that waited are applied in arrival order while they may be. -/
def State.ringWaiting (q : Nat) : Nat → State → State
  | 0, s => s
  | n + 1, s =>
    let x := s.queue q
    match x.waiting with
    | [] => s
    | b :: rest => if x.st = qMigrating ∨ x.holds b.mask then s else State.ringWaiting q n ((s.setQueue q { x with waiting := rest }).ringNow q b.tail b.mask)

def State.settleBells (s : State) (q : Nat) : State := State.ringWaiting q (s.queue q).waiting.length s

/-- A doorbell write: `prod` is the path it came by, `m` the writer's mask (R340, R354); those for a MIGRATING queue are held (R361). -/
def State.ringQueue (s : State) (q prod tail : Nat) (m : Half) : State :=
  let x := s.queue q
  if x.st = qFree ∨ x.prod ≠ prod then s.ignoreBell q
  else if x.st = qMigrating ∨ x.holds m ∨ !x.waiting.isEmpty then s.setQueue q { x with waiting := x.waiting ++ [⟨tail, m⟩] }
  else s.ringNow q tail m

/-- Every queue at a COMMIT or a CANCEL; doorbells that waited for draft entries are then applied. -/
def State.queuesDraft (s : State) (f : Queue → Queue) : State :=
  let s1 := { s with sched := { s.sched with queues := Tab.mapVals Queue.blank (fun _ x => f x) s.sched.queues } }
  s.sched.queues.foldl (fun s e => s.settleBells e.1) s1

end Sys2Proof.Machine
end

