-- ==== Sys2Proof/Machine/Seq.lean ====
section
/-!
DEFINITION. What every descriptor shares (R177, R178, R181, R189 to R193): the issue check, the traps of a
refused descriptor, completion of a task, and the re-check of what the sequencer waits for.
-/

namespace Sys2Proof.Machine
open Sys2Proof

/-- The task of a core ends with a status of R206 (0 done, 1 aborted, 2 reset, 3 cancelled): a scheduler's task is
handed to its queue, a local task to the control core; the sequencer becomes idle (R193). -/
def State.endTask (s : State) (c status : Nat) : State :=
  let t := (s.core c).task
  let s1 :=
    if t.source = 1 then s.taskEnded t.queue t.entry status c t.taint
    else if t.source = 2 then s.completeLocal c (compRecord c status t.taint t.tag)
    else s
  s1.onCore c Core.clearTask

/-- The status with which a task that is finished ends. -/
def Task.endStatus (t : Task) : Nat := if t.cancelled then 3 else if t.aborted then 1 else 0

/-- Re-checks what the sequencer of core `c` waits for; a drained aborted or cancelled task ends (R189, R192, R193,
R201, R207). -/
def State.recheck (s : State) (c : Nat) : State :=
  let x := s.core c
  if x.seqState = 4 then (if x.idleUnits then s.endTask c x.task.endStatus else s)
  else if x.seqState = 3 then s
  else
    let go (s : State) : State := s.onCore c (fun x => { x with seqState := 1, seqWait := .none })
    match x.seqWait with
    | .none => s
    | .counter i b => if Tab.get 0 x.sc i ≤ b then go s else s
    | .all => if x.idleUnits then go s else s
    | .fence => if x.idleUnitsButTrays then go s else s
    | .clear b n => if x.idleUnits then go (s.clearBlocks c b n) else s
    | .finish => if x.idleUnits then s.endTask c x.task.endStatus else s

/-- The 12 bytes that a descriptor's CRC covers (R178). -/
def descBytes (cls : Nat) (payload : BitVec 92) : List Byte := leBytes 12 (cls * 2 ^ 92 + payload.toNat)

def descCrc (cls : Nat) (payload : BitVec 92) : Word := BitVec.ofNat 32 (crc32c (descBytes cls payload))

/-- The mask of a descriptor's work: the task's and that of the block it was fetched from (R177, R197, R207). -/
def Core.workTaint (x : Core) : Half :=
  x.task.taint ||| (match x.fetched with | [] => 0#16 | e :: _ => e.2)

/-- The descriptor is taken from the stream: the index rises and one fetched descriptor goes. -/
def Core.taken (x : Core) : Core :=
  { x with task := { x.task with index := x.task.index + 1 }, fetched := x.fetched.drop 1 }

/-- A malformed descriptor: MALF and the trap of its unit (R178). -/
def State.malformed (s : State) (c code unit : Nat) : State :=
  let x := s.core c
  (s.trap c code unit false (x.workTaint ≠ 0#16) x.task.index 0).onCore c (fun x => { x.taken with malf := true })

/-- The sequencer decodes a descriptor (R178, R179): only while it runs; a CRC mismatch traps and issues nothing;
otherwise `k` issues it. -/
def State.decodeDesc (s : State) (c cls : Nat) (payload : BitVec 92) (crc : Word) (k : State → State) : State :=
  let x := s.core c
  if x.seqState ≠ 1 then s.waits
  else if crc ≠ descCrc cls payload then
    (s.trap c 0x01 unitSeq false (x.workTaint ≠ 0#16) x.task.index 0).onCore c (fun x => { x with crcErr := true })
  else k s

/-- The queue-full bits of SSTAT (Table 6-14), from bit 11 down: array, vector engine, tray unit, copy. -/
def State.setQfull (s : State) (c bit : Nat) : State :=
  s.onCore c (fun x => { x with qfull := x.qfull ||| 2 ^ bit })

def State.clearQfull (s : State) (c bit : Nat) : State :=
  s.onCore c (fun x => { x with qfull := x.qfull - (x.qfull &&& 2 ^ bit) })

/-- The environment of a unit of the core working for the task. -/
def Core.env (x : Core) (c : Nat) (taint : Half) (src : Nat) : Env :=
  ⟨c, x.task.ctx, taint, x.task.cls, x.task.deadline, false, src, false⟩

end Sys2Proof.Machine
end

