-- ==== Sys2Proof/Machine/Array.lean ====
section
/-!
DEFINITION. The matrix array (chapter 03): the pass descriptor's checks (R67, R90, R182, R235), the folding onto
passes (R68), products and sums into a bank (R37 to R45, R75), the queue of descriptors (R76 to R82).
-/

namespace Sys2Proof.Machine
open Sys2Proof

/-! ## Fields -/

def payDflow (p : BitVec 92) : Bool := bitAt p 91
def payM (p : BitVec 92) : Nat := bits 90 85 p + 1
def payN (p : BitVec 92) : Nat := bits 84 79 p + 1
def payArith (p : BitVec 92) : Word := BitVec.ofNat 32 (bits 63 32 p)
def payK (p : BitVec 92) : Nat := bits 31 16 p + 1

def arFmtA (a : Word) : Nat := bits 31 28 a
def arFmtB (a : Word) : Nat := bits 27 24 a
def arAnchor (a : Word) : Int := sext 11 (bits 23 13 a)
def arAmode (a : Word) : Bool := bitAt a 12
def arHead (a : Word) : Nat := bits 11 8 a
def arAcc (a : Word) : Nat := bits 7 6 a
def arTrapSat (a : Word) : Bool := bitAt a 5
def arTrapNan (a : Word) : Bool := bitAt a 4
def arBank (a : Word) : Nat := bits 3 2 a

/-- Pass depth Kp (Table 3-1). -/
def passDepth (fa fb : Nat) : Nat :=
  if fa = 8 ∧ fb = 8 then 128
  else if fa = 1 ∧ fb = 1 then 128
  else if fa = 0xA ∨ fa = 0xB then 32
  else 64

/-! ## Checks -/

/-- Bytes of one row of A, or column of B, over K (R64). -/
def operandBytes (fmt k : Nat) : Nat := (k * fmtBits fmt + 7) / 8

/-- An operand register is unfit for an operand of format `fmt` with `rows` rows over K (Table 3-2, R34, R90, R194,
R235). -/
def operandBad (r : OpReg) (fmt rows k : Nat) : Bool :=
  let stride := r.stride8 * 8
  let last := if r.trans then (k - 1) * stride + operandBytes fmt rows else (rows - 1) * stride + operandBytes fmt k
  let sLast := (rows - 1) * r.sstride + k / 32
  (!r.trans && decide (stride < operandBytes fmt k))
  || (r.trans && (!r.space || decide (fmtBits fmt < 8) || decide (r.addr % 32 ≠ 0) || decide (stride % 32 ≠ 0)))
  || (fmtIsMx fmt && (decide (r.addr % 128 ≠ 0) || decide (r.saddr % 32 ≠ 0) || decide (r.sstride < k / 32)))
  || (!r.space && decide (r.addr + last > benchSize))
  || (fmtIsMx fmt && !r.sspace && decide (r.saddr + sLast > benchSize))

/-- The descriptor is malformed by what the sequencer can see (R30, R33, R35, R42, R45, R66, R67, R182). -/
def passMalformed (p : BitVec 92) (a b : OpReg) : Bool :=
  let ar := payArith p
  let fa := arFmtA ar
  let fb := arFmtB ar
  decide (bits 66 64 p ≠ 0) || decide (bits 15 0 p ≠ 0) || decide (bits 1 0 ar ≠ 0)
  || (payDflow p && decide (payM p > 16))
  || decide (pairClass fa fb = none)
  || ((fmtIsMx fa || fmtIsMx fb) && decide (payK p % 32 ≠ 0))
  || decide (arAcc ar = 3)
  || (arAmode ar && (decide (arHead ar = 0) || decide (pairClass fa fb ≠ some .narrow)))
  || operandBad a fa (payM p) (payK p) || operandBad b fb (payN p) (payK p)

/-! ## Operands -/

/-- Rows gathered from memory. -/
structure RowsAcc where
  s : State
  st : AccSt
  rows : List (List Byte)
  taint : Half
  poison : Bool

def rowsStep (e : Env) (va : Bool) (n : Nat) (r : RowsAcc) (a : Nat) : RowsAcc :=
  match r.st with
  | .ok =>
    if r.poison then r
    else
      let x := r.s.unitRead e va a n
      ⟨x.s, x.st, r.rows ++ [x.bytes], r.taint ||| x.taint, x.poison⟩
  | _ => r

/-- Reads `rows` spans of `n` bytes, `stride` apart. -/
def readRows (s : State) (e : Env) (va : Bool) (a stride rows n : Nat) : RowsAcc :=
  ((List.range rows).map (fun i => a + i * stride)).foldl (rowsStep e va n) ⟨s, .ok, [], 0#16, false⟩

/-- The first `n` elements of a packed row. -/
def rowElems (fmt n : Nat) (bs : List Byte) : List Nat :=
  let v := leNat bs
  (List.range n).map (fun j => (v >>> elemBitOffset fmt j) % 2 ^ fmtBits fmt)

def nthD {α : Type} (d : α) (l : List α) (i : Nat) : α := (l[i]?).getD d

/-- One operand: its values by row (A) or column (B) over K, with block scales applied; its scale bytes. -/
structure OperandVals where
  s : State
  st : AccSt
  vals : List (List FVal)
  scales : List Byte
  taint : Half
  poison : Bool

/-- Reads an operand of the array (R33, R34, R65, R90). -/
def readOperand (s : State) (e : Env) (r : OpReg) (fmt rows k : Nat) : OperandVals :=
  let x :=
    if r.trans then readRows s e r.space r.addr (r.stride8 * 8) k (operandBytes fmt rows)
    else readRows s e r.space r.addr (r.stride8 * 8) rows (operandBytes fmt k)
  let raw : List (List Nat) :=
    if r.trans then
      let stored := x.rows.map (rowElems fmt rows)
      (List.range rows).map (fun i => stored.map (fun row => nthD 0 row i))
    else x.rows.map (rowElems fmt k)
  if fmtIsMx fmt && x.st = .ok && !x.poison then
    let y := readRows x.s e r.sspace r.saddr r.sstride rows (k / 32)
    let vals := (List.range rows).map (fun i =>
      let sc := nthD [] y.rows i
      (nthD [] raw i).zipIdx.map (fun ej => scaled (nthD 0#8 sc (ej.2 / 32)).toNat (fmtValue fmt ej.1)))
    ⟨y.s, y.st, vals, y.rows.flatten, x.taint ||| y.taint, y.poison⟩
  else ⟨x.s, x.st, raw.map (fun row => row.map (fmtValue fmt)), [], x.taint, x.poison⟩

/-! ## Banks -/

def bankKey (b m c : Nat) : Nat := b * 4096 + 64 * m + c
def Core.acc (x : Core) (b m c : Nat) : AccElem := Tab.get AccElem.zero x.banks (bankKey b m c)
def Core.bankStatus (x : Core) (b : Nat) : Word := Tab.get 0#32 x.bstat b

def stAnchor (w : Word) : Int := sext 11 (bits 31 21 w)
def stInt (w : Word) : Bool := bitAt w 19

/-- A status word (Table 2-4). -/
def statusWord (anchor : Int) (auto int : Bool) (flags : Nat) : Word :=
  BitVec.ofNat 32 ((anchor % 2048).toNat * 2 ^ 21 + (if auto then 2 ^ 20 else 0) + (if int then 2 ^ 19 else 0) + flags % 16)

/-- Flags of Table 2-4 that an operation raises. -/
structure AccFlags where
  sat : Bool
  lost : Bool
  inf : Bool
  nan : Bool
  deriving DecidableEq, Repr

def AccFlags.none : AccFlags := ⟨false, false, false, false⟩
def AccFlags.or (a b : AccFlags) : AccFlags := ⟨a.sat || b.sat, a.lost || b.lost, a.inf || b.inf, a.nan || b.nan⟩
def AccFlags.word (f : AccFlags) : Word :=
  BitVec.ofNat 32 ((if f.sat then 1 else 0) + (if f.lost then 2 else 0) + (if f.inf then 4 else 0) + (if f.nan then 8 else 0))

def AccFlags.ofTag (t : AccTag) : AccFlags :=
  match t with
  | .fin => AccFlags.none
  | .nan => ⟨false, false, false, true⟩
  | _ => ⟨false, false, true, false⟩

/-- The column sum of one pass for one element (R37, R38, R40, R75): the exact sum of truncated products, each held to
the 96-bit range, the tag, the flags. -/
def columnSum (anchor : Int) : List FVal → List FVal → Int × AccTag × AccFlags
  | x :: xs, y :: ys =>
    let p := gridProduct anchor x y
    let t := satTo 96 p.1
    let r := columnSum anchor xs ys
    (t.1 + r.1, tagSum p.2.1 r.2.1,
      AccFlags.or (AccFlags.or ⟨t.2, p.2.2, false, false⟩ (AccFlags.ofTag p.2.1)) r.2.2)
  | _, _ => (0, .fin, AccFlags.none)

/-- One element over all passes, `kp` products a pass, in ascending K order (R39, R68); `fuel` bounds the passes. -/
def foldPasses (anchor : Int) (kp : Nat) : Nat → AccElem → List FVal → List FVal → AccElem × AccFlags
  | 0, el, _, _ => (el, AccFlags.none)
  | fuel + 1, el, xs, ys =>
    if xs.isEmpty then (el, AccFlags.none)
    else
      let cs := columnSum anchor (xs.take kp) (ys.take kp)
      let r := el.add cs.1 cs.2.1
      let next := foldPasses anchor kp fuel r.1 (xs.drop kp) (ys.drop kp)
      (next.1, AccFlags.or (AccFlags.or cs.2.2 (AccFlags.or ⟨r.2, false, false, false⟩ (AccFlags.ofTag r.1.tag))) next.2)

/-- Every (m, c) of an M × N result. -/
def cells (m n : Nat) : List (Nat × Nat) := (List.range m).flatMap (fun i => (List.range n).map (fun j => (i, j)))

/-- A × B added into a bank (R68, R75): the bank's elements and the flags. -/
def multiply (banks : Tab AccElem) (b : Nat) (anchor : Int) (kp k : Nat) (as bs : List (List FVal)) :
    Tab AccElem × AccFlags :=
  (cells as.length bs.length).foldl (fun r mc =>
    let key := bankKey b mc.1 mc.2
    let x := foldPasses anchor kp (k / kp + 1) (Tab.get AccElem.zero r.1 key) (nthD [] as mc.1) (nthD [] bs mc.2)
    (Tab.set AccElem.zero r.1 key x.1, AccFlags.or r.2 x.2)) (banks, AccFlags.none)

/-- The bank realigned from anchor `a` to `a'` (R43). -/
def realignBank (banks : Tab AccElem) (b : Nat) (a a' : Int) : Tab AccElem × AccFlags :=
  let mine := banks.filter (fun e => e.1 / 4096 = b)
  (Tab.mapVals AccElem.zero (fun k el => if k / 4096 = b then (el.realign a a').1 else el) banks,
   mine.foldl (fun f e => let r := (e.2.realign a a').2; AccFlags.or f ⟨r.1, r.2, false, false⟩) AccFlags.none)

/-- The NaN tag in every element of a bank (R81, R82). -/
def nanBank (banks : Tab AccElem) (b : Nat) : Tab AccElem :=
  Tab.modifyRange AccElem.zero (fun _ el => { el with tag := .nan }) 4096 (4096 * b) banks

/-! ## The queue -/

/-- How the bank stands before the first product (R41, R43, R44, R45, R76): its elements, status word and taint, the
anchor in use, the flags of a realignment; none: the descriptor is malformed at the start of its pass. -/
def startBank (x : Core) (e : PassEntry) (auto : Int) : Option (Tab AccElem × Word × Half × Int × AccFlags) :=
  let b := arBank e.arith
  let int := decide (pairClass (arFmtA e.arith) (arFmtB e.arith) = some .integer)
  let w := x.bankStatus b
  let amode := arAmode e.arith
  let field := if amode then auto else arAnchor e.arith
  let taint := Tab.get 0#16 x.btaint b
  if arAcc e.arith = 0 then
    let a := if int then 64 else field
    some (x.banks.filter (fun k => k.1 / 4096 ≠ b), statusWord a (amode && !int) int 0, 0#16, a, AccFlags.none)
  else if stInt w ≠ int then none
  else if int then some (x.banks, w, taint, 64, AccFlags.none)
  else
    let old := stAnchor w
    let target := if amode then (if auto > old then auto else old) else field
    if arAcc e.arith = 1 ∧ ¬ amode ∧ field ≠ old then none
    else if target = old ∧ (amode ∨ arAcc e.arith = 1) then some (x.banks, w, taint, old, AccFlags.none)
    else
      let r := realignBank x.banks b old target
      some (r.1, statusWord target amode false (w.toNat % 16) ||| r.2.word, taint, target, r.2)

/-- Takes the first entry that `p` allows out of the queue's order: replaces the first entry not done. -/
def setFirst (p : PassEntry → Bool) (f : PassEntry → PassEntry) : List PassEntry → List PassEntry
  | [] => []
  | e :: r => if p e then f e :: r else e :: setFirst p f r

/-- The entry at the array: the first one whose rows are not done. -/
def Core.atArray (x : Core) : Option PassEntry := x.arrQ.find? (fun e => !e.done)

/-- Every descriptor from the first not done on is discarded: each completes at that moment (R82, R178, R181). -/
def Core.discardBehind (x : Core) : Core :=
  let keep := x.arrQ.takeWhile (fun e => e.done)
  (x.arrQ.drop keep.length).foldl (fun x e => x.scSub e.scen e.sc) { x with arrQ := keep }

/-- The environment of a pass. -/
def PassEntry.env (e : PassEntry) (x : Core) (c : Nat) : Env := ⟨c, e.ctx, e.taint, x.task.cls, x.task.deadline, false, 0, false⟩

/-- Runs the entry at the array if its anchor is known and no earlier run is due to read its bank (R68, R79, R80): the products of all its passes land in the bank; a
fault or poison marks it failed; a bank that does not match refuses it (R178). -/
def State.runPass (s : State) (c : Nat) : State :=
  let x := s.core c
  match x.atArray with
  | none => s
  | some e =>
    if e.failed || (arAmode e.arith && !e.scanned)
        || x.vecQ.any (fun v => decide (v.index < e.index) && v.banks.contains (arBank e.arith)) then s
    else
      match startBank x e e.anchor with
      | none =>
        let s1 := (s.trap c 0x03 unitArray false (e.taint ≠ 0#16) e.index 0).onCore c (fun x => { x with malf := true })
        (s1.onCore c Core.discardBehind).recheck c
      | some (banks, word, taint, anchor, rf) =>
        let fa := arFmtA e.arith
        let fb := arFmtB e.arith
        let fail (s : State) (a : Nat) (p : Bool) : State :=
          s.onCore c (fun x => { x with
            arrQ := setFirst (fun e => !e.done) (fun e => { e with failed := true, failAddr := a, failPoison := p }) x.arrQ })
        let ra := readOperand s (e.env x c) e.opA fa e.m e.k
        match ra.st, ra.poison with
        | .ok, false =>
          let rb := readOperand ra.s (e.env x c) e.opB fb e.n e.k
          match rb.st, rb.poison with
          | .ok, false =>
            let b := arBank e.arith
            let r := multiply banks b anchor (passDepth fa fb) e.k ra.vals rb.vals
            rb.s.onCore c (fun x =>
              { x with
                banks := r.1
                bstat := Tab.set 0#32 x.bstat b (word ||| r.2.word)
                btaint := Tab.set 0#16 x.btaint b (taint ||| e.taint ||| ra.taint ||| rb.taint)
                arrState := 1
                arrQ := setFirst (fun e => !e.done)
                  (fun e => { e with done := true, ownSat := r.2.sat || rf.sat, ownNan := r.2.nan }) x.arrQ })
          | .fault a, _ => fail rb.s a false
          | .ok, true => fail rb.s 0 true
          | _, _ => s
        | .fault a, _ => fail ra.s a false
        | .ok, true => fail ra.s 0 true
        | _, _ => s

/-- Runs entries in order until one must wait; the queue never holds more than five. -/
def State.runArray (s : State) (c : Nat) : State :=
  (List.range 5).foldl (fun s _ => s.runPass c) s

end Sys2Proof.Machine
end

