-- ==== Sys2Proof/Machine/Flags.lean ====
section
/-!
DEFINITION. The functions of the lanes (R98, Table 4-4): every FP32 result correctly rounded, with the flags that
R98 and Table 4-11 give. The transcendental functions are computed in integers to 2^-256 and rounded once
(notes/assumptions: no FP32 argument brings them that near a rounding boundary).
-/

namespace Sys2Proof.Machine
open Sys2Proof

/-! ## Elementary functions in fixed point -/

/-- Fraction bits of the fixed point. -/
def fxBits : Nat := 256

/-- ⌊ln 2 × 2^256⌋. -/
def fxLn2 : Nat := 80260960185991308862233904206310070533990667611589946606122867505419956976171

/-- Σ y^i / i! from i on, truncated term by term; `t` is the term before. -/
def fxExpTerms (y : Nat) : Nat → Nat → Nat → Nat
  | 0, _, _ => 0
  | n + 1, i, t => let t' := t * y / 2 ^ fxBits / i; t' + fxExpTerms y n (i + 1) t'

/-- e^y for 0 ≤ y < 1, in units of 2^-256. -/
def fxExp (y : Nat) : Nat := 2 ^ fxBits + fxExpTerms y 60 1 (2 ^ fxBits)

/-- e^y for y ≥ 0: the mantissa in units of 2^-256 and the power of two. -/
def fxExpWide (y : Nat) : Nat × Nat := (fxExp (y % fxLn2), y / fxLn2)

/-- Σ z^(2i+1) / (2i+1); `p` is z^(2i+1). -/
def fxAtanhTerms (z2 : Nat) : Nat → Nat → Nat → Nat
  | 0, _, _ => 0
  | n + 1, i, p => p / (2 * i + 1) + fxAtanhTerms z2 n (i + 1) (p * z2 / 2 ^ fxBits)

/-- ln m for 1 ≤ m < 2, in units of 2^-256, m = num / den. -/
def fxLn (num den : Nat) : Nat :=
  let z := (num - den) * 2 ^ fxBits / (num + den)
  2 * fxAtanhTerms (z * z / 2 ^ fxBits) 90 0 z

/-- |x| in units of 2^-256, truncated. -/
def fxOf (m : Nat) (e : Int) : Nat :=
  let k := e + fxBits
  if k ≥ 0 then m <<< k.toNat else m >>> (-k).toNat

/-- 2^x for a finite x (R98): exact for an integer, otherwise rounded from 256 bits. -/
def exp2Fin (neg : Bool) (m : Nat) (e : Int) : Word :=
  if m = 0 then 0x3F800000#32
  else if floorLog2 m e ≥ 8 then (if neg then 0#32 else inf32 false)
  else if floorLog2 m e < -30 then 0x3F800000#32
  else
    let v : Int := if neg then -(fxOf m e : Int) else (fxOf m e : Int)
    let n := v / 2 ^ fxBits
    let f := (v % 2 ^ fxBits).toNat
    if f = 0 then round32 false 1 n false
    else round32 false (fxExp (f * fxLn2 / 2 ^ fxBits)) (n - fxBits) true

/-- log₂ x for a finite x > 0 (R98). -/
def log2Fin (m : Nat) (e : Int) : Word :=
  let b := Nat.log2 m
  let k : Int := floorLog2 m e
  if m = 2 ^ b then (ofIntExp k 0).toWord
  else
    let l : Int := k * 2 ^ fxBits + (fxLn m (2 ^ b) * 2 ^ fxBits / fxLn2 : Nat)
    round32 (decide (l < 0)) l.natAbs (-(fxBits : Int)) true

/-- tanh x for a finite x (R98): x itself below 2^-13, ±1 from 16 on. -/
def tanhFin (neg : Bool) (m : Nat) (e : Int) : Word :=
  if m = 0 then zero32 neg
  else if floorLog2 m e < -13 then round32 neg m e false
  else if floorLog2 m e ≥ 4 then (if neg then 0xBF800000#32 else 0x3F800000#32)
  else
    let r := fxExpWide (2 * fxOf m e)
    let x := r.1 * 2 ^ r.2
    let num := (x - 2 ^ fxBits) * 2 ^ fxBits
    let den := x + 2 ^ fxBits
    round32 neg (num / den) (-(fxBits : Int)) true

/-- 1 / (1 + e^(-x)) for a finite x (R98). -/
def logisticFin (neg : Bool) (m : Nat) (e : Int) : Word :=
  if m = 0 ∨ floorLog2 m e < -30 then 0x3F000000#32
  else if floorLog2 m e ≥ 7 then (if neg then 0#32 else 0x3F800000#32)
  else
    let r := fxExpWide (fxOf m e)
    let x := r.1 * 2 ^ r.2
    let num := if neg then 2 ^ fxBits * 2 ^ fxBits * 2 ^ fxBits else x * 2 ^ fxBits * 2 ^ fxBits
    round32 false (num / (x + 2 ^ fxBits)) (-(2 * fxBits : Int)) true

/-! ## Results with their flags -/

/-- The value of a lane operation and the flags it raises: bits 0 to 3 of Table 4-11. -/
structure FpRes where
  val : Word
  sat : Bool
  inv : Bool
  ovf : Bool
  divz : Bool
  deriving DecidableEq, Repr

def FpRes.plain (x : Word) : FpRes := ⟨x, false, false, false, false⟩
def FpRes.invalid : FpRes := ⟨nan32, false, true, false, false⟩
def FpRes.byZero (x : Word) : FpRes := ⟨x, false, false, false, true⟩

/-- A finite result that rounds to an infinity sets OVF (R98). -/
def FpRes.rounded (x : Word) : FpRes := ⟨x, false, false, (fval x).isInf, false⟩

/-- The result of an exact operation on values: an invalid operation, or the value rounded. -/
def FpRes.ofVal (inv : Bool) (v : FVal) : FpRes :=
  if inv then FpRes.invalid
  else
    match v with
    | .fin n m e => FpRes.rounded (round32 n m e false)
    | v => FpRes.plain v.toWord

/-- ∞ − ∞ in a sum (R98). -/
def FVal.addInvalid : FVal → FVal → Bool
  | .inf a, .inf b => a != b
  | _, _ => false

/-- 0 × ∞ (R98). -/
def FVal.mulInvalid (a b : FVal) : Bool := (a.isInf && b.isZero) || (a.isZero && b.isInf)

def fpAdd (a b : Word) : FpRes := FpRes.ofVal ((fval a).addInvalid (fval b)) ((fval a).add (fval b))
def fpSub (a b : Word) : FpRes := FpRes.ofVal ((fval a).addInvalid (fval b).neg) ((fval a).add (fval b).neg)
def fpMul (a b : Word) : FpRes := FpRes.ofVal ((fval a).mulInvalid (fval b)) ((fval a).mul (fval b))
def fpFma (a b c : Word) : FpRes :=
  let p := (fval a).mul (fval b)
  FpRes.ofVal ((fval a).mulInvalid (fval b) || (!(fval a).isNan && !(fval b).isNan && p.addInvalid (fval c)))
    (p.add (fval c))

/-- Smaller of two FP32 values: the other operand for a NaN; −0 below +0 (R98, Table 4-4). -/
def fpMin (a b : Word) : Word :=
  if (fval a).isNan then (if (fval b).isNan then nan32 else b)
  else if (fval b).isNan then a
  else if (fval a).lt (fval b) then a
  else if (fval b).lt (fval a) then b
  else if (fval a).isNeg then a else b

def fpMax (a b : Word) : Word :=
  if (fval a).isNan then (if (fval b).isNan then nan32 else b)
  else if (fval b).isNan then a
  else if (fval a).lt (fval b) then b
  else if (fval b).lt (fval a) then a
  else if (fval a).isNeg then b else a

def fpRcp (a : Word) : FpRes :=
  match fval a with
  | .nan _ => FpRes.plain nan32
  | .inf n => FpRes.plain (zero32 n)
  | .fin n m e => if m = 0 then FpRes.byZero (inf32 n) else FpRes.rounded (quot32 n 1 m (-e))

def fpSqrt (a : Word) : FpRes :=
  match fval a with
  | .nan _ => FpRes.plain nan32
  | .inf n => if n then FpRes.invalid else FpRes.plain (inf32 false)
  | .fin n m e =>
    if m = 0 then FpRes.plain (zero32 n) else if n then FpRes.invalid else FpRes.plain (sqrt32 m e)

def fpRsqrt (a : Word) : FpRes :=
  match fval a with
  | .nan _ => FpRes.plain nan32
  | .inf n => if n then FpRes.invalid else FpRes.plain 0#32
  | .fin n m e =>
    if m = 0 then FpRes.byZero (inf32 n) else if n then FpRes.invalid else FpRes.plain (rsqrt32 m e)

def fpExp2 (a : Word) : FpRes :=
  match fval a with
  | .nan _ => FpRes.plain nan32
  | .inf n => FpRes.plain (if n then 0#32 else inf32 false)
  | .fin n m e => FpRes.rounded (exp2Fin n m e)

def fpLog2 (a : Word) : FpRes :=
  match fval a with
  | .nan _ => FpRes.plain nan32
  | .inf n => if n then FpRes.invalid else FpRes.plain (inf32 false)
  | .fin n m e =>
    if m = 0 then FpRes.byZero (inf32 true) else if n then FpRes.invalid else FpRes.plain (log2Fin m e)

def fpTanh (a : Word) : FpRes :=
  match fval a with
  | .nan _ => FpRes.plain nan32
  | .inf n => FpRes.plain (if n then 0xBF800000#32 else 0x3F800000#32)
  | .fin n m e => FpRes.plain (tanhFin n m e)

def fpLogistic (a : Word) : FpRes :=
  match fval a with
  | .nan _ => FpRes.plain nan32
  | .inf n => FpRes.plain (if n then 0#32 else 0x3F800000#32)
  | .fin n m e => FpRes.plain (logisticFin n m e)

def fpAbs (a : Word) : Word := a &&& 0x7FFFFFFF#32
def fpNeg (a : Word) : Word := a ^^^ 0x80000000#32

/-- Rounded to an integral value, ties to even; a zero keeps the sign (R98). -/
def fpRint (a : Word) : Word :=
  match fval a with
  | .nan _ => nan32
  | .inf n => inf32 n
  | .fin n m e => round32 n (rneInt false m e).toNat 0 false

/-- FP32 to INT32 (Table 2-7). -/
def fpToInt (a : Word) : FpRes :=
  let r := fvalToInt 32 (fval a)
  ⟨BitVec.ofInt 32 r.1, r.2.1, r.2.2, false, false⟩

/-- INT32 to FP32, rounded. -/
def fpOfInt (a : Word) : Word := (ofIntExp a.toInt 0).toWord

def fpLt (a b : Word) : Bool := (fval a).lt (fval b)
def fpEq (a b : Word) : Bool := (fval a).eqv (fval b)
def fpLe (a b : Word) : Bool := fpLt a b || fpEq a b

/-- A Boolean as INT32. -/
def boolWord (b : Bool) : Word := if b then 1#32 else 0#32

/-- The flags as bits 0 to 3 of Table 4-11. -/
def FpRes.flags (r : FpRes) : Nat :=
  (if r.sat then 1 else 0) + (if r.inv then 2 else 0) + (if r.ovf then 4 else 0) + (if r.divz then 8 else 0)

end Sys2Proof.Machine
end

