-- ==== Sys2Proof/Machine/Operands.lean ====
section
/-!
DEFINITION. Operand forms of the vector engine (R94, R101, R106, R107): how an element of each format enters
a lane and how a lane value is written in each format, with packing (R34), block scales (R33), poison marks
(R118) and rows written in part (R99).
-/

namespace Sys2Proof.Machine
open Sys2Proof

/-! ## Status bits of Table 4-11 -/

def vSat : Nat := 1
def vInv : Nat := 2
def vOvf : Nat := 4
def vDivz : Nat := 8
def vNanIn : Nat := 16
def vPoison : Nat := 32
def vTainted : Nat := 64
def vLost : Nat := 128
def vMalf : Nat := 256

/-! ## Into a lane -/

/-- An element as a lane takes it: the 32-bit value, the status bits it raises, its poison tag. -/
structure LaneIn where
  w : Word
  fl : Nat
  poison : Bool
  deriving DecidableEq, Repr

/-- A poisoned element enters as the canonical NaN (R118). -/
def LaneIn.poisoned : LaneIn := ⟨nan32, vPoison, true⟩

/-- A value converted to FP32 with one rounding; OVF for a finite value that becomes an infinity, NAN_IN for a NaN. -/
def laneOfVal (v : FVal) : LaneIn :=
  let w := v.toWord
  ⟨w, (if v.isFin && (fval w).isInf then vOvf else 0) + (if v.isNan then vNanIn else 0), false⟩

/-- One element of a format, with its block scale where the format is MX (Table 4-6, R101). -/
def laneOfElem (fmt bits scale : Nat) : LaneIn :=
  match fmt with
  | 0x0 => ⟨BitVec.ofInt 32 (sext 8 bits), 0, false⟩
  | 0x1 => ⟨BitVec.ofInt 32 (sext 4 bits), 0, false⟩
  | 0xC => ⟨BitVec.ofNat 32 bits, if (fp32.value bits).isNan then vNanIn else 0, false⟩
  | 0xD => ⟨BitVec.ofNat 32 bits, 0, false⟩
  | _ => laneOfVal (if fmtIsMx fmt then scaled scale (fmtValue fmt bits) else fmtValue fmt bits)

/-- An accumulator element of a float bank with scale t (R52), or of an integer bank (R53). -/
def laneOfAcc (int : Bool) (anchor t : Int) (el : AccElem) : LaneIn :=
  if int then
    let r := accToInt 32 el
    ⟨BitVec.ofInt 32 r.1, (if r.2.1 then vSat else 0) + (if r.2.2 then vInv + vNanIn else 0), false⟩
  else
    let w := accToFp32 el anchor t
    ⟨w, (if el.tag ≠ .fin then vNanIn else if (fval w).isInf then vOvf else 0), false⟩

/-- Some byte of bits `[lo, lo + n)` of a row carries a poison tag. -/
def markedBits (marks : List Bool) (lo n : Nat) : Bool :=
  ((marks.drop (lo / 8)).take ((lo + n - 1) / 8 - lo / 8 + 1)).any id

/-- The lanes of `n` packed elements. `scales` are the block scales with their marks. -/
def laneRow (fmt n : Nat) (bytes : List Byte) (marks : List Bool) (scales : List (Byte × Bool)) : List LaneIn :=
  let v := leNat bytes
  let w := fmtBits fmt
  (List.range n).map (fun j =>
    let sc := (scales[j / 32]?).getD (0#8, false)
    if markedBits marks (j * w) w || (fmtIsMx fmt && sc.2) then LaneIn.poisoned
    else laneOfElem fmt ((v >>> (j * w)) % 2 ^ w) sc.1.toNat)

/-- Bytes of `n` packed elements of a format (R34). -/
def packedBytes (fmt n : Nat) : Nat := (n * fmtBits fmt + 7) / 8

/-- Packs elements back to back, little-endian (R34). -/
def packElems (w : Nat) (es : List Nat) : Nat :=
  match es with
  | [] => 0
  | e :: r => e % 2 ^ w + 2 ^ w * packElems w r

/-! ## Out of a lane -/

/-- A lane value in a format that is no MX format: the bits, and SAT or INV (R54, R106, Table 2-7). FP8 E4M3
saturates, its default. -/
def laneToElem (fmt : Nat) (w : Word) : Nat × Nat :=
  let int (b : Nat) : Nat × Nat := let r := satTo b w.toInt; ((r.1 % 2 ^ b).toNat, if r.2 then vSat else 0)
  match fmt with
  | 0x0 => int 8
  | 0x1 => int 4
  | 0xC => (w.toNat, 0)
  | 0xD => (w.toNat, 0)
  | 0x2 => let r := narrowFloat e4m3 true (fval w); (r.1, if r.2 then vSat else 0)
  | 0x3 => let r := narrowFloat e5m2 false (fval w); (r.1, if r.2 then vOvf else 0)
  | 0xA => let r := narrowFloat bf16 false (fval w); (r.1, if r.2 then vOvf else 0)
  | _ => let r := narrowFloat fp16 false (fval w); (r.1, if r.2 then vOvf else 0)

/-- An element that an output takes: the lane value and its poison tag. -/
structure LaneOut where
  w : Word
  poison : Bool
  deriving DecidableEq, Repr

/-- A run's write so far: the state, how it stands, the status bits raised. -/
structure OutAcc where
  s : State
  st : AccSt
  fl : Nat

/-- A write or fold-in of a cancelled epoch is discarded at the stall and the unit goes on (R120, R266). -/
def AccSt.past (st : AccSt) : AccSt := match st with | .cancelled => .ok | x => x

/-- One write of a run (R118, R119); nothing more after a fault. -/
def OutAcc.write (o : OutAcc) (e : Env) (va : Bool) (a : Nat) (bs : List Byte) (poison : Bool) : OutAcc :=
  match o.st with
  | .ok => let r := o.s.unitWrite e va a bs poison; { o with s := r.1, st := r.2.past }
  | _ => o

/-- Consecutive written elements of one poison tag, in order: first index, their bits, the tag. -/
def segments (fmt : Nat) : Nat → List (Option LaneOut) → List (Nat × List Nat × Bool)
  | _, [] => []
  | i, none :: r => segments fmt (i + 1) r
  | i, some x :: r =>
    match segments fmt (i + 1) r with
    | (j, es, p) :: q =>
      if j = i + 1 ∧ p = x.poison then (i, (laneToElem fmt x.w).1 :: es, p) :: q
      else (i, [(laneToElem fmt x.w).1], x.poison) :: (j, es, p) :: q
    | [] => [(i, [(laneToElem fmt x.w).1], x.poison)]

/-- The status bits that a row's conversions raise. -/
def rowFlags (fmt : Nat) (row : List (Option LaneOut)) : Nat :=
  row.foldl (fun f o => match o with | some x => f ||| (laneToElem fmt x.w).2 | none => f) 0

/-- Writes the written elements of one row in a format that is no MX format; the others keep their bytes (R99). The
unwritten half of a byte of INT4 keeps its bits. -/
def OutAcc.writeRow (o : OutAcc) (e : Env) (va : Bool) (fmt a : Nat) (row : List (Option LaneOut)) : OutAcc :=
  let w := fmtBits fmt
  let o1 := { o with fl := o.fl ||| rowFlags fmt row }
  if w = 4 then
    if row.all Option.isNone then o1
    else
      let n := packedBytes fmt row.length
      let old := if row.all Option.isSome ∧ row.length % 2 = 0 then 0 else leNat (o.s.unitRead e va a n).bytes
      let es := row.zipIdx.map (fun x =>
        match x.1 with | some y => (laneToElem fmt y.w).1 | none => (old >>> (4 * x.2)) % 16)
      let top := if row.length % 2 = 0 then 0 else (old >>> (4 * row.length)) <<< (4 * row.length)
      o1.write e va a (leBytes n (packElems 4 es + top)) (row.any (fun x => match x with | some y => y.poison | none => false))
  else
    (segments fmt 0 row).foldl (fun o g =>
      o.write e va (a + g.1 * (w / 8)) (leBytes (g.2.1.length * (w / 8)) (packElems w g.2.1)) g.2.2) o1

/-- Writes one block of 32 elements of an MX format with its scale (R55, R107): elements no instruction wrote count as
+0, a block without a written element is not written, a poisoned element poisons the block. -/
def OutAcc.writeBlock (o : OutAcc) (e : Env) (va : Bool) (fmt a sa : Nat) (blk : List (Option LaneOut)) : OutAcc :=
  if blk.all Option.isNone then o
  else
    let q := mxQuantise fmt (blk.map (fun x => match x with | some y => fval y.w | none => .fin false 0 0))
    let p := blk.any (fun x => match x with | some y => y.poison | none => false)
    (o.write e va a (leBytes (4 * fmtBits fmt) (packElems (fmtBits fmt) q.2)) p).write e va sa [BitVec.ofNat 8 q.1] p

/-- Writes one row of an MX format block by block; `n` bounds the blocks. -/
def OutAcc.writeMxRow (e : Env) (va : Bool) (fmt : Nat) : Nat → Nat → Nat → List (Option LaneOut) → OutAcc → OutAcc
  | 0, _, _, _, o => o
  | n + 1, a, sa, row, o =>
    if row.isEmpty then o
    else OutAcc.writeMxRow e va fmt n (a + 4 * fmtBits fmt) (sa + 1) (row.drop 32) (o.writeBlock e va fmt a sa (row.take 32))

/-- A lane value as a fold-in operand (R106). -/
def laneFold (fmt : Nat) (w : Word) : FoldOperand := if fmt = 0xD then .int w.toInt else .fp32 w

/-- The status bits of a fold-in completion (Table 8-4). -/
def foldVFlags (e : FoldEnd) : Nat :=
  (if e.flags.sat then vSat else 0) + (if e.flags.lostlow then vLost else 0) + (if e.flags.nan || e.refused then vNanIn else 0)

/-- Elements at their addresses, gathered into one request for each sector (R251): sector address and its elements. -/
def foldRequests (size : Nat) : List (Nat × FoldOperand) → List (Nat × List (Nat × FoldOperand))
  | [] => []
  | (a, x) :: r =>
    match foldRequests size r with
    | (b, es) :: q =>
      if a / 32 = b / 32 then (a / 32 * 32, (a % 32 / size, x) :: es) :: q
      else (a / 32 * 32, [(a % 32 / size, x)]) :: (b, es) :: q
    | [] => [(a / 32 * 32, [(a % 32 / size, x)])]

/-- Fold-ins of elements at ascending addresses (R104, R106). -/
def OutAcc.folds (o : OutAcc) (e : Env) (fmt : Nat) (es : List (Nat × FoldOperand)) : OutAcc :=
  (foldRequests (fmtBits fmt / 8) es).foldl (fun o q =>
    match o.st with
    | .ok => let r := o.s.unitFold e q.1 fmt q.2; ⟨r.1, r.2.1.past, o.fl ||| foldVFlags r.2.2⟩
    | _ => o) o

/-! ## Tile registers (R94) -/

/-- The register and the element of sweep element (r, c) from base register b. -/
def tileOf (b r c : Nat) : Nat × Nat := (b + 4 * (r / 16) + c / 16, r % 16 * 16 + c % 16)
def tileKey (b r c : Nat) : Nat := let t := tileOf b r c; 256 * t.1 + t.2

/-- Writes a tile element by work of mask `m` (R118, R119). -/
def Core.setTile (x : Core) (m : Half) (reg el : Nat) (w : Word) (poison : Bool) : Core :=
  { x with
    tiles := Tab.set 0#32 x.tiles (256 * reg + el) w
    tilePoison := Tab.set false x.tilePoison (256 * reg + el) poison
    tileTaint := Tab.set 0#16 x.tileTaint reg m }

end Sys2Proof.Machine
end

