-- ==== Sys2Proof/Machine/Recipe.lean ====
section
/-!
DEFINITION. Recipes (R93, R95 to R100): the header, instructions, the store, and what a recipe does to one element.
-/

namespace Sys2Proof.Machine
open Sys2Proof

/-- A recipe instruction (Table 4-2). -/
structure RecInstr where
  op : Nat
  dst : Nat
  sa : Nat
  sb : Nat
  sc : Nat
  pred : Nat
  deriving DecidableEq, Repr

structure Recipe where
  consts : List Word
  prog : List RecInstr
  rid : Nat
  deriving DecidableEq, Repr

def recInstr (w : Word) : RecInstr :=
  ⟨bits 31 26 w, bits 25 22 w, bits 21 17 w, bits 16 12 w, bits 11 7 w, bits 6 5 w⟩

/-- Operands an opcode takes; none: no such opcode (Table 4-4). -/
def recArity (op : Nat) : Option Nat :=
  if op = 0x04 then some 3
  else if op ∈ [0x01, 0x02, 0x03, 0x05, 0x06, 0x10, 0x11, 0x12, 0x13, 0x14, 0x15, 0x16, 0x17, 0x18, 0x19, 0x1A, 0x20, 0x21,
      0x22, 0x23, 0x24, 0x25, 0x28] then some 2
  else if op ∈ [0x00, 0x07, 0x08, 0x09, 0x0A, 0x0B, 0x0C, 0x0D, 0x0E, 0x0F, 0x30, 0x31, 0x32] then some 1
  else none

def recIsCompare (op : Nat) : Bool := decide (0x20 ≤ op ∧ op ≤ 0x25)

/-- A source code that this run cannot read (Tables 4-3 and 4-6); `bound` says which inputs are bound. -/
def recSrcBad (nconst : Nat) (bound : List Bool) (code : Nat) : Bool :=
  decide (code ≥ 28) || decide (12 + nconst ≤ code ∧ code < 20)
    || (decide (8 ≤ code ∧ code < 12) && !((bound[code - 8]?).getD false))

/-- An instruction is malformed in this run (R97, R98, R184). -/
def recInstrBad (nconst : Nat) (bound outs : List Bool) (w : Word) : Bool :=
  let i := recInstr w
  match recArity i.op with
  | none => true
  | some n =>
    decide (bits 4 0 w ≠ 0) || decide (i.pred = 3) || decide (i.dst > 12)
    || (decide (i.dst = 12) && !recIsCompare i.op)
    || (decide (8 ≤ i.dst ∧ i.dst < 12) && !((outs[i.dst - 8]?).getD false))
    || recSrcBad nconst bound i.sa
    || (if n ≥ 2 then recSrcBad nconst bound i.sb else decide (i.sb ≠ 0))
    || (if n = 3 then recSrcBad nconst bound i.sc else decide (i.sc ≠ 0))

/-- What a recipe load found: the recipe if it is sound, RID once the header is read, poison, the blocks' mask. -/
structure RecLoad where
  s : State
  recipe : Option (List Word × List Word)
  rid : Option Nat
  poison : Bool
  taint : Half

/-- 32-bit words of bytes. -/
def wordsOf : Nat → List Byte → List Word
  | 0, _ => []
  | n + 1, bs => BitVec.ofNat 32 (leNat (bs.take 4)) :: wordsOf n (bs.drop 4)

/-- Finds a recipe in the store or loads and checks it (R95, R96, Table 13-2). -/
def State.loadRecipe (s : State) (c off : Nat) : RecLoad :=
  let x := s.core c
  let use (s : State) (n : Nat) : State := s.onCore c (fun x =>
    { x with recipes := ((off, n) :: x.recipes.filter (fun r => r.1 ≠ off)).take 4 })
  let parts (h : List Byte) : Nat × Nat × Nat := (leNat h / 2 ^ 58, leNat h / 2 ^ 54 % 16, leNat h / 2 ^ 32 % 65536)
  match x.recipes.find? (fun r => r.1 = off) with
  | some r =>
    let bs := (List.range r.2).map (fun i => x.benchByte (off + i))
    let p := parts (bs.take 8)
    ⟨use s r.2, some (wordsOf p.2.1 (bs.drop 8), wordsOf p.1 (bs.drop (8 + 4 * p.2.1))), some p.2.2, false, 0#16⟩
  | none =>
    if off + 8 > benchSize then ⟨s, none, none, false, 0#16⟩
    else
      let h := s.benchRead c off 8
      let p := parts h.2.1
      let n := 8 + 4 * p.2.1 + 4 * p.1
      if h.2.2.2 then ⟨h.1, none, none, true, h.2.2.1⟩
      else if p.1 = 0 ∨ p.1 > 32 ∨ p.2.1 > 8 ∨ leNat h.2.1 / 2 ^ 48 % 64 ≠ 0 ∨ off + n > benchSize then
        ⟨h.1, none, some p.2.2, false, h.2.2.1⟩
      else
        let b := h.1.benchRead c (off + 8) (n - 8)
        let all := List.replicate 4 0#8 ++ h.2.1.drop 4 ++ b.2.1
        if b.2.2.2 then ⟨b.1, none, some p.2.2, true, h.2.2.1 ||| b.2.2.1⟩
        else if crc32c all ≠ leNat (h.2.1.take 4) then ⟨b.1, none, some p.2.2, false, h.2.2.1 ||| b.2.2.1⟩
        else ⟨use b.1 n, some (wordsOf p.2.1 b.2.1, wordsOf p.1 (b.2.1.drop (4 * p.2.1))), some p.2.2, false,
              h.2.2.1 ||| b.2.2.1⟩

/-! ## One element -/

/-- A lane while it runs a recipe (R93). -/
structure Lane where
  v : List Word
  p : Bool
  o : List (Option Word)
  fl : Nat
  deriving DecidableEq, Repr

def Lane.start : Lane := ⟨List.replicate 8 0#32, true, [none, none, none, none], 0⟩

/-- What a lane may read beside its temporaries: the streams' elements, the constants, the scalars, the place. -/
structure LaneEnv where
  ins : List Word
  consts : List Word
  x0 : Word
  x1 : Word
  row : Nat
  col : Nat
  lin : Word
  rnd : Word

def wordAt (l : List Word) (i : Nat) : Word := (l[i]?).getD 0#32

/-- A source operand (Table 4-3). -/
def LaneEnv.src (e : LaneEnv) (l : Lane) (code : Nat) : Word :=
  if code < 8 then wordAt l.v code
  else if code < 12 then wordAt e.ins (code - 8)
  else if code < 20 then wordAt e.consts (code - 12)
  else
    match code with
    | 20 => e.x0
    | 21 => e.x1
    | 22 => BitVec.ofNat 32 e.row
    | 23 => BitVec.ofNat 32 e.col
    | 24 => e.lin
    | 25 => e.rnd
    | 27 => 0x3F800000#32
    | _ => 0#32

/-- The signed smaller and larger of two words. -/
def wordMin (a b : Word) : Word := if b.toInt < a.toInt then b else a
def wordMax (a b : Word) : Word := if a.toInt < b.toInt then b else a

/-- The result of an opcode and, for a compare, the new P (Table 4-4). -/
def recOp (op : Nat) (p : Bool) (a b c : Word) : FpRes × Option Bool :=
  let r (x : FpRes) : FpRes × Option Bool := (x, none)
  let w (x : Word) : FpRes × Option Bool := (FpRes.plain x, none)
  let cmp (t : Bool) : FpRes × Option Bool := (FpRes.plain (boolWord t), some t)
  match op with
  | 0x00 => w a
  | 0x01 => r (fpAdd a b)
  | 0x02 => r (fpSub a b)
  | 0x03 => r (fpMul a b)
  | 0x04 => r (fpFma a b c)
  | 0x05 => w (fpMin a b)
  | 0x06 => w (fpMax a b)
  | 0x07 => w (fpAbs a)
  | 0x08 => w (fpNeg a)
  | 0x09 => r (fpRcp a)
  | 0x0A => r (fpSqrt a)
  | 0x0B => r (fpRsqrt a)
  | 0x0C => r (fpExp2 a)
  | 0x0D => r (fpLog2 a)
  | 0x0E => r (fpTanh a)
  | 0x0F => r (fpLogistic a)
  | 0x10 => w (a + b)
  | 0x11 => w (a - b)
  | 0x12 => w (a * b)
  | 0x13 => w (wordMin a b)
  | 0x14 => w (wordMax a b)
  | 0x15 => w (a &&& b)
  | 0x16 => w (a ||| b)
  | 0x17 => w (a ^^^ b)
  | 0x18 => w (a <<< (b.toNat % 32))
  | 0x19 => w (a >>> (b.toNat % 32))
  | 0x1A => w (a.sshiftRight (b.toNat % 32))
  | 0x20 => cmp (fpLt a b)
  | 0x21 => cmp (fpLe a b)
  | 0x22 => cmp (fpEq a b)
  | 0x23 => cmp (decide (a.toInt < b.toInt))
  | 0x24 => cmp (decide (a.toInt ≤ b.toInt))
  | 0x25 => cmp (decide (a = b))
  | 0x28 => w (if p then a else b)
  | 0x30 => r (fpToInt a)
  | 0x31 => w (fpOfInt a)
  | _ => w (fpRint a)

/-- One instruction in one lane (R97, R99). -/
def Lane.step (e : LaneEnv) (l : Lane) (i : RecInstr) : Lane :=
  if (i.pred = 1 ∧ l.p = false) ∨ (i.pred = 2 ∧ l.p = true) then l
  else
    let x := recOp i.op l.p (e.src l i.sa) (e.src l i.sb) (e.src l i.sc)
    { v := if i.dst < 8 then l.v.set i.dst x.1.val else l.v
      p := x.2.getD l.p
      o := if 8 ≤ i.dst ∧ i.dst < 12 then l.o.set (i.dst - 8) (some x.1.val) else l.o
      fl := l.fl ||| x.1.flags }

/-- A whole recipe on one element. -/
def runLane (prog : List RecInstr) (e : LaneEnv) : Lane := prog.foldl (Lane.step e) Lane.start

end Sys2Proof.Machine
end

