-- ==== Sys2Proof/Machine/Vector.lean ====
section
/-!
DEFINITION. The vector engine (chapter 04): bindings and their checks (R101, R184, R185), sweeps (R92), inputs,
outputs, reductions (R106 to R110), export runs (R104, R105), summaries (R114, R115), tile moves (R186), the queue
of runs and moves (R79, R121).
-/

namespace Sys2Proof.Machine
open Sys2Proof

/-! ## Bindings (Table 6-9) -/

def Bind.mode (b : Bind) : Nat := b.param / 2 ^ 19 % 32
def Bind.dest (b : Bind) : Nat := b.param / 2 ^ 16 % 8
def Bind.k (b : Bind) : Nat := b.param / 2 ^ 9 % 128

/-- A reserved bit is set (R185). -/
def Bind.reservedBad (b : Bind) : Bool :=
  let addrBad (n : Nat) : Bool := decide (b.addr ≥ 2 ^ n)
  if b.kind = 8 then
    decide (b.param % 512 ≠ 0) ||
      (match b.dest with
       | 0 => addrBad 5
       | 1 => addrBad 20
       | 2 => false
       | 3 => false
       | _ => decide (b.addr ≠ 0))
  else
    b.transpose ||
      (match b.kind with
       | 0 => decide (b.param ≠ 0 ∨ b.addr ≠ 0)
       | 1 => decide (b.param % 65536 ≠ 0) || addrBad 2
       | 2 => decide (b.param ≠ 0) || addrBad 5
       | 3 => addrBad 20
       | 4 => false
       | _ => decide (b.param ≠ 0) || addrBad 20)

/-- An input binding is unfit for a sweep (R94, R101, R185, Table 2-1). -/
def Bind.inputBad (b : Bind) (rows cols : Nat) : Bool :=
  let f := b.fmt
  let n := if b.kind = 6 then rows else cols
  let row := packedBytes f n
  let mx := fmtIsMx f
  let last := if b.kind = 3 then (rows - 1) * b.param + row else row
  let sLast := if b.kind = 3 then (rows - 1) * b.param / (4 * fmtBits f) + n / 32 else n / 32
  b.reservedBad ||
    (match b.kind with
     | 0 => false
     | 1 => false
     | 2 => decide (b.addr + 4 * ((rows - 1) / 16) + (cols - 1) / 16 > 31)
     | 8 => true
     | _ => decide (f = 0xE) || (mx && (decide (b.kind = 6) || !b.ext || decide (cols % 32 ≠ 0)))
        || (decide (b.kind = 3 ∨ b.kind = 4) && decide (b.param ≠ 0)
            && (decide (b.param < row) || (mx && decide (b.param % (4 * fmtBits f) ≠ 0))))
        || (decide (b.kind ≠ 4) && (decide (b.addr + last > benchSize)
            || (mx && decide (b.saddr + sLast > benchSize)))))

/-- Destinations a mode allows (Table 4-7). -/
def modeDests (mode : Nat) : List Nat :=
  if mode = 0 then [0, 1, 2, 3]
  else if mode ≤ 3 then [0, 1, 2]
  else if mode = 4 then [1, 2]
  else if mode ≤ 7 then [0, 1, 2, 3]
  else if mode ≤ 14 then [1, 4]
  else []

/-- Bytes of one row of an output, and its row stride. -/
def Bind.outRow (b : Bind) (n : Nat) : Nat := packedBytes b.fmt n
def Bind.outStride (b : Bind) (n : Nat) : Nat := if b.ostride = 0 then b.outRow n else b.ostride

/-- An output binding is unfit for a sweep (R101, R106, R107, R185). -/
def Bind.outputBad (b : Bind) (rows cols : Nat) : Bool :=
  let f := b.fmt
  let mode := b.mode
  let dest := b.dest
  let nr := if b.transpose then cols else rows
  let nc := if b.transpose then rows else cols
  let vec := if mode ≤ 4 then rows else cols
  let bytes :=
    if mode = 0 then (nr - 1) * b.outStride nc + b.outRow nc
    else if mode = 4 then 4 * rows
    else if mode ≤ 7 then packedBytes f vec
    else if mode ≤ 10 then 4
    else if mode = 12 ∨ mode = 13 then 8 * b.k
    else 8
  decide (b.kind ≠ 8) || b.reservedBad || !((modeDests mode).contains dest)
  || ((b.transpose || fmtIsMx f) && (decide (mode ≠ 0) || decide (dest ≠ 1 ∧ dest ≠ 2)))
  || (decide (mode = 12 ∨ mode = 13) && decide (b.k = 0 ∨ b.k > (if dest = 4 then 32 else 64)))
  || (decide (mode ≥ 8) && decide (f ≠ 0xC) && (decide (mode = 14) || decide (f ≠ 0xD)))
  || (decide (dest = 1 ∨ dest = 2) && decide (mode < 8 ∧ mode ≠ 4) && decide (f = 0xE ∨ f = 0xF))
  || (decide (dest = 3) && (!([0xA, 0xC, 0xD, 0xF].contains f) || decide (b.addr % (fmtBits f / 8) ≠ 0)))
  || (fmtIsMx f && (!b.ext || decide (nc % 32 ≠ 0)))
  || (decide (dest = 0) && decide (b.addr + (if mode = 0 then 4 * ((rows - 1) / 16) + (cols - 1) / 16 else (vec - 1) / 16) > 31))
  || (decide (dest = 1) && decide (b.addr + bytes > benchSize))
  || (decide (dest = 1) && fmtIsMx f && decide (b.saddr + nr * (nc / 32) > benchSize))

/-! ## The payload (Table 6-8) -/

def runExport (p : BitVec 92) : Bool := bitAt p 91
def runRecipe (p : BitVec 92) : Nat := 8 * bits 90 75 p
def runForm (p : BitVec 92) : Nat := bits 90 89 p
def runBank (p : BitVec 92) : Nat := bits 88 87 p
def runRows (p : BitVec 92) : Nat := bits 74 69 p + 1
def runCols (p : BitVec 92) : Nat := bits 68 63 p + 1
def runIn (p : BitVec 92) (i : Nat) : Nat := bits (62 - 4 * i) (59 - 4 * i) p
def runOut (p : BitVec 92) (i : Nat) : Nat := bits (46 - 4 * i) (43 - 4 * i) p
def runTag (p : BitVec 92) : Nat := bits 30 15 p
def runTraps (p : BitVec 92) : Nat := bits 14 8 p

/-- The binding a stream code names; none for 0xF (R184). -/
def VecEntry.bind (e : VecEntry) (code : Nat) : Option Bind := if code < 8 then some (Tab.get Bind.blank e.vbs code) else none

def VecEntry.ins (e : VecEntry) : List (Option Bind) := (List.range 4).map (fun i => e.bind (runIn e.payload i))
def VecEntry.outs (e : VecEntry) : List (Option Bind) := (List.range 4).map (fun i => e.bind (runOut e.payload i))

/-- Codes 0x8 to 0xE name nothing (R184). -/
def codeBad (c : Nat) : Bool := decide (8 ≤ c ∧ c < 15)

/-- Banks an entry reads (R79, R103). -/
def VecEntry.readsBanks (e : VecEntry) : List Nat :=
  if e.move then []
  else if runExport e.payload then [runBank e.payload]
  else e.ins.filterMap (fun b => match b with | some b => if b.kind = 1 then some (b.addr % 4) else none | none => none)

/-- The binding is bound and readable. -/
def boundIn (b : Option Bind) : Bool := match b with | some b => decide (b.kind ≠ 0) | none => false

/-- A recipe run is malformed by its descriptor or bindings (R101, R184, R185). -/
def VecEntry.runBad (e : VecEntry) : Bool :=
  let p := e.payload
  let codes := (List.range 4).map (runIn p) ++ (List.range 4).map (runOut p)
  decide (bits 3 0 p ≠ 0) || codes.any codeBad
  || e.ins.any (fun b => match b with | some b => b.inputBad (runRows p) (runCols p) | none => false)
  || e.outs.any (fun b => match b with | some b => b.outputBad (runRows p) (runCols p) | none => false)

/-- Bytes per element of an export form (Table 4-8). -/
def exportBytes (form : Nat) : Nat := if form = 0 ∨ form = 2 then 16 else 8

/-- An export run is malformed (R101, R184, Table 4-8); `int` is the bank's kind. -/
def VecEntry.exportBad (e : VecEntry) (int : Bool) : Bool :=
  let p := e.payload
  let form := runForm p
  let per := exportBytes form
  decide (bits 3 0 p ≠ 0) || decide (bits 86 75 p ≠ 0)
  || (List.range 4).any (fun i => decide (runIn p i ≠ 15)) || (List.range 4).any (fun i => decide (i ≠ 0 ∧ runOut p i ≠ 15))
  || (match e.bind (runOut p 0) with
      | none => true
      | some b =>
        let nr := if b.transpose then runCols p else runRows p
        let nc := if b.transpose then runRows p else runCols p
        let stride := if b.ostride = 0 then nc * per else b.ostride
        decide (b.kind ≠ 8) || b.reservedBad || decide (b.mode ≠ 0)
        || (if form ≤ 1 then decide (b.dest ≠ 1 ∧ b.dest ≠ 2) else decide (b.dest ≠ 3) || b.transpose
              || decide (b.addr % per ≠ 0))
        || (decide (form = 0) && int) || (decide (form = 1 ∨ form = 3) && !int)
        || (decide (b.dest = 1) && decide (b.addr + (nr - 1) * stride + nc * per > benchSize)))

/-! ## Inputs -/

/-- Rows gathered from the streams: rows outermost, then streams; how far it got and the union of masks. -/
structure InAcc where
  s : State
  st : AccSt
  rows : List (List (List LaneIn))
  taint : Half

/-- One row of one stream. -/
structure RowIn where
  s : State
  st : AccSt
  lanes : List LaneIn
  taint : Half

/-- Anchored-128 elements of a row (R47, R52); without a page anchor the value is a free value. -/
def anchLanes (s : State) (anchor : Option Int) (n : Nat) (bytes : List Byte) (marks : List Bool) : State × List LaneIn :=
  let v := leNat bytes
  (List.range n).foldl (fun r j =>
    if markedBits marks (128 * j) 128 then (r.1, r.2 ++ [LaneIn.poisoned])
    else
      match anchor with
      | some a =>
        let w := anch128ToFp32 (BitVec.ofNat 128 (v >>> (128 * j))) a 0
        (r.1, r.2 ++ [⟨w, if (fval w).isInf then vOvf else 0, false⟩])
      | none => let f := r.1.fresh; (f.1, r.2 ++ [⟨BitVec.ofNat 32 f.2, 0, false⟩])) (s, [])

/-- Reads `n` packed elements at `a`, with block scales at `sa` for an MX format. -/
def readLanes (s : State) (e : Env) (va : Bool) (fmt a sa n : Nat) : RowIn :=
  let r := s.unitRead e va a (packedBytes fmt n)
  match r.st with
  | .ok =>
    if fmtIsMx fmt then
      let q := r.s.unitRead e va sa (n / 32)
      match q.st with
      | .ok => ⟨q.s, .ok, laneRow fmt n r.bytes r.marks (q.bytes.zip q.marks), r.taint ||| q.taint⟩
      | st => ⟨q.s, st, [], r.taint⟩
    else if fmt = 0xF then
      let x := anchLanes r.s (if va then r.s.vaAnchor e.ctx a else none) n r.bytes r.marks
      ⟨x.1, .ok, x.2, r.taint⟩
    else ⟨r.s, .ok, laneRow fmt n r.bytes r.marks [], r.taint⟩
  | st => ⟨r.s, st, [], 0#16⟩

/-- One row of a bound stream (Table 4-6). -/
def streamRow (s : State) (e : Env) (b : Bind) (cols r : Nat) : RowIn :=
  let x := s.core e.core
  match b.kind with
  | 1 =>
    let k := b.addr % 4
    let w := x.bankStatus k
    ⟨s, .ok, (List.range cols).map (fun c => laneOfAcc (stInt w) (stAnchor w) (sext 8 (b.param / 65536)) (x.acc k r c)),
      Tab.get 0#16 x.btaint k⟩
  | 2 =>
    ⟨s, .ok, (List.range cols).map (fun c =>
        let t := tileKey b.addr r c
        if Tab.get false x.tilePoison t then LaneIn.poisoned else ⟨Tab.get 0#32 x.tiles t, 0, false⟩),
      (List.range cols).foldl (fun m c => m ||| Tab.get 0#16 x.tileTaint (tileOf b.addr r c).1) 0#16⟩
  | 3 => readLanes s e false b.fmt (b.addr + r * b.param) (b.saddr + r * b.param / (4 * fmtBits b.fmt)) cols
  | 4 => readLanes s e true b.fmt (b.addr + r * b.param) (b.saddr + r * b.param / (4 * fmtBits b.fmt)) cols
  | 5 => readLanes s e false b.fmt b.addr b.saddr cols
  | 6 =>
    let w := fmtBits b.fmt
    let y := readLanes s e false b.fmt (b.addr + r * w / 8) 0 (if w = 4 then 2 else 1)
    let one := (y.lanes[if w = 4 then r % 2 else 0]?).getD LaneIn.poisoned
    ⟨y.s, y.st, List.replicate cols one, y.taint⟩
  | _ => ⟨s, .ok, List.replicate cols ⟨0#32, 0, false⟩, 0#16⟩

/-- The streams of one row. -/
def rowStreams (e : Env) (cols r : Nat) (a : InAcc) (ins : List (Option Bind)) : State × AccSt × List (List LaneIn) × Half :=
  ins.foldl (fun (q : State × AccSt × List (List LaneIn) × Half) b =>
    match q.2.1 with
    | .ok =>
      match b with
      | none => (q.1, .ok, q.2.2.1 ++ [List.replicate cols ⟨0#32, 0, false⟩], q.2.2.2)
      | some b =>
        let x := streamRow q.1 e b cols r
        (x.s, x.st.past, q.2.2.1 ++ [if x.st = .ok then x.lanes else List.replicate cols LaneIn.poisoned], q.2.2.2 ||| x.taint)
    | _ => q) (a.s, .ok, [], 0#16)

/-- Every row of every stream, until one faults (R118). -/
def readInputs (s : State) (e : Env) (ins : List (Option Bind)) (rows cols : Nat) : InAcc :=
  (List.range rows).foldl (fun a r =>
    match a.st with
    | .ok =>
      let x := rowStreams e cols r a ins
      ⟨x.1, x.2.1, if x.2.1 = .ok then a.rows ++ [x.2.2.1] else a.rows, a.taint ||| x.2.2.2⟩
    | _ => a) ⟨s, .ok, [], e.taint⟩

/-! ## Lanes over a sweep -/

/-- An element after its recipe: what each output took, its LIN, the flags it raised, its poison. -/
structure ElemOut where
  o : List (Option Word)
  lin : Word
  fl : Nat
  poison : Bool

/-- LIN (Table 4-3). -/
def linOf (e : VecEntry) (r c : Nat) : Word := e.indexBase + BitVec.ofNat 32 (r * runCols e.payload + c)

/-- Runs the recipe on one row of the sweep. -/
def runRow (e : VecEntry) (key : DWord) (consts : List Word) (prog : List RecInstr) (r : Nat) (ins : List (List LaneIn)) :
    List ElemOut :=
  let usesRnd := prog.any (fun i => decide (i.sa = 25 ∨ i.sb = 25 ∨ i.sc = 25))
  (List.range (runCols e.payload)).map (fun c =>
    let xs := ins.map (fun st => (st[c]?).getD ⟨0#32, 0, false⟩)
    let lin := linOf e r c
    let env : LaneEnv :=
      ⟨xs.map LaneIn.w, consts, e.x0, e.x1, r, c, lin,
        if usesRnd then uniformHalfOpen (draw key e.stream lin.toNat) else 0#32⟩
    let l := runLane prog env
    ⟨l.o, lin, xs.foldl (fun f x => f ||| x.fl) l.fl, xs.any LaneIn.poison⟩)

/-- What output `i` took of an element. -/
def ElemOut.out (x : ElemOut) (i : Nat) : Option LaneOut :=
  match (x.o[i]?).getD none with
  | none => none
  | some w => some ⟨w, x.poison⟩

/-! ## Element-wise outputs (R106, R107) -/

/-- Writes row `r` of an ELEM output that is not transposed. -/
def OutAcc.elemRow (o : OutAcc) (e : Env) (b : Bind) (r : Nat) (row : List (Option LaneOut)) : OutAcc :=
  let n := row.length
  let a := b.addr + r * b.outStride n
  match b.dest with
  | 0 =>
    match o.st with
    | .ok => { o with s := o.s.onCore e.core (fun x =>
        (row.zipIdx).foldl (fun x p =>
          match p.1 with
          | none => x
          | some y => let t := tileOf b.addr r p.2; x.setTile e.taint t.1 t.2 y.w y.poison) x) }
    | _ => o
  | 3 => o.folds e b.fmt (row.zipIdx.filterMap (fun p =>
      p.1.map (fun y => (b.addr + (r * n + p.2) * (fmtBits b.fmt / 8), laneFold b.fmt y.w))))
  | d =>
    if fmtIsMx b.fmt then OutAcc.writeMxRow e (decide (d = 2)) b.fmt (n / 32 + 1) a (b.saddr + r * (n / 32)) row o
    else o.writeRow e (decide (d = 2)) b.fmt a row

/-- Writes what rows `2j` and `2j + 1` complete of a transposed ELEM output: pairs of each written row, or whole MX
blocks once 32 rows are done. `col c` lists the elements of sweep column `c`. -/
def OutAcc.elemStepT (o : OutAcc) (e : Env) (b : Bind) (rows cols j : Nat) (col : Nat → List (Option LaneOut)) : OutAcc :=
  let va := decide (b.dest = 2)
  (List.range cols).foldl (fun o c =>
    let a := b.addr + c * b.outStride rows
    if fmtIsMx b.fmt then
      if (2 * j + 2) % 32 = 0 then
        let k := (2 * j + 2) / 32 - 1
        o.writeBlock e va b.fmt (a + k * 4 * fmtBits b.fmt) (b.saddr + c * (rows / 32) + k) (((col c).drop (32 * k)).take 32)
      else o
    else o.writeRow e va b.fmt (a + 2 * j * fmtBits b.fmt / 8) (((col c).drop (2 * j)).take 2)) o

/-- One step of every ELEM output, streams in order. -/
def OutAcc.elemStep (e : Env) (outs : List (Option Bind)) (rows cols : Nat) (grid : List (List ElemOut)) (o : OutAcc)
    (j : Nat) : OutAcc :=
  outs.zipIdx.foldl (fun o p =>
    match p.1 with
    | none => o
    | some b =>
      if b.mode ≠ 0 then o
      else if b.transpose then
        o.elemStepT e b rows cols j (fun c => grid.map (fun row => ((row[c]?).map (fun x => x.out p.2)).getD none))
      else
        [2 * j, 2 * j + 1].foldl (fun o r =>
          match grid[r]? with
          | none => o
          | some row => o.elemRow e b r (row.map (fun x => x.out p.2))) o) o

/-! ## Reductions (R108, R109) -/

/-- An element under reduction: value, LIN, poison. -/
structure RedElem where
  w : Word
  lin : Word
  poison : Bool
  deriving DecidableEq, Repr

/-- R109's order of values: −1 for NaN's class below every number; `int` compares as signed INT32. -/
def redLess (int : Bool) (a b : Word) : Bool :=
  if int then decide (a.toInt < b.toInt)
  else if (fval a).isNan then !(fval b).isNan
  else (fval a).lt (fval b)

/-- The better of two for MAX (`up`) or MIN; equal values keep the one of lower LIN (R109). -/
def redPick (int up : Bool) (a b : RedElem) : RedElem :=
  let better := if up then redLess int a.w b.w else redLess int b.w a.w
  let worse := if up then redLess int b.w a.w else redLess int a.w b.w
  let p := a.poison || b.poison
  if better then { b with poison := p }
  else if worse then { a with poison := p }
  else if b.lin.toInt < a.lin.toInt then { b with poison := p } else { a with poison := p }

/-- A sum with its status bits. -/
def redAdd (int : Bool) (a b : RedElem) : RedElem × Nat :=
  if int then (⟨a.w + b.w, a.lin, a.poison || b.poison⟩, 0)
  else let r := fpAdd a.w b.w; (⟨r.val, a.lin, a.poison || b.poison⟩, r.flags)

/-- What a reduction does: 0 sum, 1 larger, 2 smaller. -/
def redOp (kind : Nat) (int : Bool) (a b : RedElem) : RedElem × Nat :=
  match kind with
  | 0 => redAdd int a b
  | 1 => (redPick int true a b, 0)
  | _ => (redPick int false a b, 0)

/-- One level of the tree of R108: position c takes op(v[c], v[c + w]); an absent one is the identity. -/
def redLevel (kind : Nat) (int : Bool) (w : Nat) (v : List (Option RedElem)) (fl : Nat) : List (Option RedElem) × Nat :=
  (List.range w).foldl (fun r c =>
    match (v[c]?).getD none, (v[c + w]?).getD none with
    | some a, some b => let x := redOp kind int a b; (r.1 ++ [some x.1], r.2 ||| x.2)
    | some a, none => (r.1 ++ [some a], r.2)
    | none, y => (r.1 ++ [y], r.2)) ([], fl)

/-- R108's procedure over positions 0 to 63; none: nothing was written. -/
def redTree (kind : Nat) (int : Bool) (v : List (Option RedElem)) : Option RedElem × Nat :=
  let r := [32, 16, 8, 4, 2, 1].foldl (fun r w => redLevel kind int w r.1 r.2) (v, 0)
  ((r.1[0]?).getD none, r.2)

/-- The identity of R108 as a value. -/
def redIdentity (kind : Nat) (int : Bool) : Word :=
  match kind, int with
  | 0, true => 0#32
  | 0, false => 0x80000000#32
  | 1, true => 0x80000000#32
  | 1, false => 0xFF800000#32
  | _, true => 0x7FFFFFFF#32
  | _, false => 0x7F800000#32

def redValue (kind : Nat) (int : Bool) (r : Option RedElem) : RedElem :=
  match r with
  | some x => x
  | none => ⟨redIdentity kind int, 0xFFFFFFFF#32, false⟩

/-- What a mode reduces with. -/
def modeKind (mode : Nat) : Nat :=
  if mode = 1 ∨ mode = 5 ∨ mode = 8 then 0
  else if mode = 3 ∨ mode = 7 ∨ mode = 10 then 2
  else 1

/-- Inserts into a list kept in R109's order: descending for a top-k list, ascending for a bottom-k list. -/
def topInsert (int up : Bool) (x : RedElem) : List RedElem → List RedElem
  | [] => [x]
  | y :: r =>
    let before := if up then redLess int y.w x.w else redLess int x.w y.w
    let after := if up then redLess int x.w y.w else redLess int y.w x.w
    if before || (!after && decide (x.lin.toInt < y.lin.toInt)) then x :: y :: r else y :: topInsert int up x r

/-- The k entries of a TOPK or BOTTOMK list (R109). -/
def topList (int up : Bool) (k : Nat) (xs : List RedElem) : List RedElem :=
  let l := xs.foldl (fun l x => (topInsert int up x l).take k) []
  l ++ List.replicate (k - l.length) ⟨nan32, 0xFFFFFFFF#32, false⟩

/-- Prefix sums of SAMPLE's weights (R110): each with its LIN and weight; the status bits. -/
def samplePrefix : Option Word → List RedElem → List (Word × RedElem) × Nat
  | _, [] => ([], 0)
  | acc, x :: r =>
    let bad := (fval x.w).isNan || ((fval x.w).isNeg && !(fval x.w).isZero)
    let w := if bad then 0#32 else x.w
    let s := match acc with | none => w | some a => fadd32 a w
    let q := samplePrefix (some s) r
    ((s, { x with w := w }) :: q.1, (if bad then vInv else 0) ||| q.2)

/-- SAMPLE (R110): weight, LIN, status bits. -/
def sampleDraw (key stream : DWord) (drawIx : Nat) (xs : List RedElem) : RedElem × Nat :=
  let q := samplePrefix none xs
  let p := xs.any RedElem.poison
  let total := match q.1.getLast? with | some x => x.1 | none => 0#32
  let take (f : Word → Bool) : RedElem :=
    match q.1.find? (fun x => f x.1) with
    | some x => { x.2 with poison := p }
    | none => ⟨0#32, 0xFFFFFFFF#32, p⟩
  if (fval total).isZero then (⟨0#32, 0xFFFFFFFF#32, p⟩, q.2 ||| vInv)
  else if (fval total).isInf then (take (fun s => (fval s).isInf), q.2 ||| vOvf)
  else
    let theta := fmul32 (uniformHalfOpen (draw key stream drawIx)) total
    if q.1.any (fun x => fpLt theta x.1) then (take (fun s => fpLt theta s), q.2)
    else (take (fun s => fpEq s total), q.2)

/-! ## Summaries (R114) -/

/-- A summary record (Table 4-10) before LAST and FLAGGED are known. -/
structure SumVal where
  kind : Nat
  rank : Nat
  e : RedElem

def sumRecord (tag lcore : Nat) (last cancelled flagged : Bool) (taint : Half) (v : SumVal) : QWord :=
  BitVec.ofNat 128 (tag * 2 ^ 112 + lcore * 2 ^ 104 + v.kind * 2 ^ 100 + (if last then 2 ^ 99 else 0)
    + (if cancelled then 2 ^ 98 else 0) + (if v.e.poison then 2 ^ 97 else 0) + (if flagged then 2 ^ 96 else 0)
    + taint.toNat * 2 ^ 80 + v.rank * 2 ^ 64 + v.e.lin.toNat * 2 ^ 32
    + (if cancelled then nan32.toNat else v.e.w.toNat))

/-- The record after its epochs are cancelled: CANCELLED, VALUE the canonical NaN (R120). -/
def cancelRecord (r : QWord) : QWord :=
  BitVec.ofNat 128 ((r.toNat ||| 2 ^ 98) / 2 ^ 32 * 2 ^ 32 + nan32.toNat)

/-- Bits [95:80] of a record. -/
def recordTaint (r : QWord) : Half := r.extractLsb' 80 16

/-! ## Reducing outputs -/

/-- One reducing output of a whole sweep: what it writes, and its summary values. -/
def OutAcc.reduce (o : OutAcc) (e : Env) (v : VecEntry) (key : DWord) (b : Bind) (i rows cols : Nat)
    (grid : List (List ElemOut)) : OutAcc × List SumVal :=
  let mode := b.mode
  let int := decide (b.fmt = 0xD) && decide (mode ≠ 4)
  let kind := modeKind mode
  let cell (r c : Nat) : Option RedElem :=
    match (grid[r]?).bind (fun row => row[c]?) with
    | none => none
    | some x => (x.out i).map (fun y => ⟨y.w, x.lin, y.poison⟩)
  let ix := List.range 64
  let va := decide (b.dest = 2)
  if 1 ≤ mode ∧ mode ≤ 7 then
    let n := if mode ≤ 4 then rows else cols
    let vals := (List.range n).map (fun p => redTree kind int (ix.map (fun q => if mode ≤ 4 then cell p q else cell q p)))
    let fl := vals.foldl (fun f x => f ||| x.2) o.fl
    let outs := vals.map (fun x => redValue kind int x.1)
    let row := outs.map (fun x => some (LaneOut.mk (if mode = 4 then x.lin else x.w) x.poison))
    let o1 := { o with fl := fl }
    match b.dest with
    | 0 =>
      ({ o1 with s := o1.s.onCore e.core (fun x =>
          row.zipIdx.foldl (fun x p =>
            match p.1 with
            | none => x
            | some y => let t := tileOf b.addr 0 (p.2 % 16); x.setTile e.taint (t.1 + p.2 / 16) t.2 y.w y.poison) x) }, [])
    | 3 =>
      (o1.folds e b.fmt (row.zipIdx.filterMap (fun p =>
        p.1.map (fun y => (b.addr + p.2 * (fmtBits b.fmt / 8), laneFold b.fmt y.w)))), [])
    | _ => (o1.writeRow e va (if mode = 4 then 0xD else b.fmt) b.addr row, [])
  else
    let all := (List.range rows).flatMap (fun r => (List.range cols).filterMap (fun c => cell r c))
    let p := all.any RedElem.poison
    let res : List RedElem × Nat :=
      if mode ≤ 11 then
        let rs := ix.map (fun r => redTree kind int (ix.map (fun c => cell r c)))
        let t := redTree kind int (rs.map (·.1))
        let x := redValue kind int t.1
        ([{ x with lin := if kind = 0 then 0xFFFFFFFF#32 else x.lin }], rs.foldl (fun f y => f ||| y.2) t.2)
      else if mode ≤ 13 then (topList int (decide (mode = 12)) b.k all, 0)
      else let d := sampleDraw key v.stream v.draw.toNat all; ([d.1], d.2)
    let o1 := { o with fl := o.fl ||| res.2 }
    let marked := res.1.map (fun x => { x with poison := p })
    if b.dest = 4 then
      (o1, marked.zipIdx.map (fun x => ⟨mode - 8, if mode = 12 ∨ mode = 13 then x.2 else 0, x.1⟩))
    else if mode ≤ 10 then
      (o1.write e va b.addr (marked.flatMap (fun x => leBytes 4 x.w.toNat)) p, [])
    else
      (o1.write e va b.addr (marked.flatMap (fun x => leBytes 4 x.w.toNat ++ leBytes 4 x.lin.toNat)) p, [])

/-! ## Ends -/

/-- Sets status bits and LASTRID of VSTAT (Table 4-11). -/
def Core.vflags (x : Core) (fl : Nat) (rid : Option Nat) : Core :=
  let w := x.vstat.toNat ||| fl % 512
  { x with vstat := BitVec.ofNat 32 (match rid with
      | none => w
      | some r => r % 256 * 2 ^ 24 + w % 2 ^ 24) }

/-- A run or move has ended: its counter falls, its traps are raised (R117, R118, R181). -/
def State.vecDone (s : State) (c : Nat) (h : HeldRun) : State :=
  let s1 := s.onCore c (fun x => x.scSub h.scen h.sc)
  h.traps.foldl (fun s t => s.trap c t.1 unitVector t.2.1 (h.taint ≠ 0#16) h.index t.2.2) s1

/-- The entry is refused as malformed (R101): MALF, LASTRID, the malformed-run trap; nothing else. -/
def State.vecRefused (s : State) (c : Nat) (e : VecEntry) (rid : Option Nat) (poison : Bool) : State :=
  let s1 := s.onCore c (fun x => (x.vflags (vMalf + (if poison then vPoison else 0)) rid).scSub e.scen e.sc)
  (s1.trap c 0x04 unitVector poison (e.taint ≠ 0#16) e.index 0).onCore c (fun x => { x with malf := true })

/-- The traps of a run that ends with flags `fl`, faulting address if any (R117, R118). -/
def runEndTraps (traps fl : Nat) (fault : Option Nat) : List (Nat × Bool × Nat) :=
  (if (fl % 128) &&& traps ≠ 0 then [(0x18, false, 0)] else [])
  ++ (if fault ≠ none ∨ fl &&& vPoison ≠ 0 then [(0x19, decide (fl &&& vPoison ≠ 0), fault.getD 0)] else [])

/-- Tile registers written by work that holds a cancelled epoch: every element the canonical NaN, the epoch's bit
cleared (R120). -/
def State.cutTiles (s : State) (c : Nat) (m : Half) (regs : List Nat) : State :=
  if s.maskCancelled m then
    s.onCore c (fun x => regs.foldl (fun x reg =>
      { x with
        tiles := Tab.modifyRange 0#32 (fun _ _ => nan32) 256 (256 * reg) x.tiles
        tileTaint := Tab.set 0#16 x.tileTaint reg (s.liveMask m) }) x)
  else s

/-- Tile registers that the outputs of a run write. -/
def tileOutputs (outs : List (Option Bind)) (rows cols : Nat) : List Nat :=
  outs.flatMap (fun b =>
    match b with
    | some b =>
      if b.dest ≠ 0 then []
      else if b.mode = 0 then
        (List.range ((rows + 15) / 16)).flatMap (fun i => (List.range ((cols + 15) / 16)).map (fun k => b.addr + 4 * i + k))
      else (List.range (((if b.mode ≤ 4 then rows else cols) + 15) / 16)).map (fun k => b.addr + k)
    | none => [])

/-- How an entry's execution ends: it must wait, it was refused, or it ran with these records and traps. -/
inductive VecEnd where
  | wait
  | refused (s : State)
  | ran (s : State) (h : HeldRun)

/-- The environment of an entry. -/
def VecEntry.env (e : VecEntry) (x : Core) (c : Nat) : Env := ⟨c, e.ctx, e.taint, x.task.cls, x.task.deadline, false, 0, false⟩

/-- A recipe run (R101 to R120). -/
def State.runRecipe (s : State) (c : Nat) (e : VecEntry) : VecEnd :=
  let p := e.payload
  let rows := runRows p
  let cols := runCols p
  if e.runBad then .refused (s.vecRefused c e none false)
  else
    let l := s.loadRecipe c (Machine.runRecipe p)
    match l.recipe with
    | none => .refused (l.s.vecRefused c e l.rid l.poison)
    | some (consts, code) =>
      if code.any (recInstrBad consts.length (e.ins.map boundIn) (e.outs.map Option.isSome)) then
        .refused (l.s.vecRefused c e l.rid false)
      else
        let env0 := e.env (s.core c) c
        let a := readInputs l.s env0 e.ins rows cols
        match a.st with
        | .wait => .wait
        | _ =>
          let done := if a.st = .ok then rows else a.rows.length / 2 * 2
          let mask := a.taint ||| l.taint
          let env := { env0 with taint := mask }
          let key := (s.core c).task.key
          let prog := code.map recInstr
          let grid := (a.rows.take done).zipIdx.map (fun x => runRow e key consts prog x.2 x.1)
          let fl0 := grid.foldl (fun f row => row.foldl (fun f x => f ||| x.fl) f) 0
          let o := (List.range ((done + 1) / 2)).foldl (OutAcc.elemStep env e.outs rows cols grid) ⟨a.s, .ok, fl0⟩
          let red : OutAcc × List SumVal :=
            if a.st ≠ .ok then (o, [])
            else e.outs.zipIdx.foldl (fun (q : OutAcc × List SumVal) b =>
              match b.1 with
              | some b' =>
                if b'.mode = 0 then q
                else match q.1.st with
                  | .ok => let r := q.1.reduce env e key b' b.2 rows cols grid; (r.1, q.2 ++ r.2)
                  | _ => q
              | none => q) (o, [])
          match red.1.st with
          | .wait => .wait
          | _ =>
            let fault : Option Nat := match a.st, red.1.st with
              | .fault x, _ => some x
              | _, .fault x => some x
              | _, _ => none
            let fl := red.1.fl ||| (if mask ≠ 0#16 then vTainted else 0)
            let cut := s.maskCancelled mask
            let live := s.liveMask mask
            let s1 := red.1.s.onCore c (fun x => x.vflags fl l.rid)
            let s2 := s1.cutTiles c mask (tileOutputs e.outs rows cols)
            let n := red.2.length
            let recs := red.2.zipIdx.map (fun v =>
              sumRecord (runTag p) c (decide (v.2 + 1 = n)) cut (decide (fl % 16 ≠ 0)) (if cut then mask else live) v.1)
            .ran s2 ⟨if fault = none then recs else [], e.scen, e.sc, runEndTraps (runTraps p) fl fault, mask, e.index⟩

/-- The bytes of a RAW element (Table 4-8). -/
def rawBytes (el : AccElem) (anchor : Int) : List Byte :=
  let a := el.a.toNat
  leBytes 4 (a / 2 ^ 64) ++ leBytes 4 (a / 2 ^ 32) ++ leBytes 4 a ++ leBytes 2 (anchor % 65536).toNat
    ++ [match el.tag with | .fin => 0#8 | .posInf => 1#8 | .negInf => 2#8 | .nan => 3#8, 0#8]

/-- One element of an export run. -/
def exportElem (e : Env) (b : Bind) (form nc : Nat) (int : Bool) (anchor : Int) (o : OutAcc) (r k : Nat) (el : AccElem) :
    OutAcc :=
  let per := exportBytes form
  let stride := if b.ostride = 0 then nc * per else b.ostride
  let a := if b.transpose then b.addr + k * stride + r * per else b.addr + r * stride + k * per
  let i := accToInt 64 el
  let ifl := (if i.2.1 then vSat else 0) + (if i.2.2 then vInv + vNanIn else 0)
  match form with
  | 0 => ({ o with fl := o.fl ||| (if el.tag = AccTag.fin then 0 else vNanIn) }).write e (decide (b.dest = 2)) a (rawBytes el anchor) false
  | 1 => ({ o with fl := o.fl ||| ifl }).write e (decide (b.dest = 2)) a (leBytes 8 (i.1 % 2 ^ 64).toNat) false
  | 2 => o.folds e 0xF [(b.addr + (r * nc + k) * per, .acc el (if int then 64 else anchor))]
  | _ => ({ o with fl := o.fl ||| ifl }).folds e 0xE [(b.addr + (r * nc + k) * per, .int i.1)]

/-- An export run (R104, R105): ascending row, then ascending column. -/
def State.runExport (s : State) (c : Nat) (e : VecEntry) : VecEnd :=
  let p := e.payload
  let x := s.core c
  let k := runBank p
  let w := x.bankStatus k
  if e.exportBad (stInt w) then .refused (s.vecRefused c e (some 0) false)
  else
    match e.bind (runOut p 0) with
    | none => .refused (s.vecRefused c e (some 0) false)
    | some b =>
      let mask := e.taint ||| Tab.get 0#16 x.btaint k
      let env := { e.env x c with taint := mask }
      let nc := if b.transpose then runRows p else runCols p
      let o := (cells (runRows p) (runCols p)).foldl (fun o rc =>
        exportElem env b (runForm p) nc (stInt w) (stAnchor w) o rc.1 rc.2 (x.acc k rc.1 rc.2)) ⟨s, .ok, 0⟩
      match o.st with
      | .wait => .wait
      | st =>
        let fault : Option Nat := match st with | .fault a => some a | _ => none
        let fl := o.fl ||| (if mask ≠ 0#16 then vTainted else 0)
        .ran (o.s.onCore c (fun x => x.vflags fl (some 0)))
          ⟨[], e.scen, e.sc, runEndTraps (runTraps p) fl fault, mask, e.index⟩

/-! ## Tile moves (R186) -/

def moveOp (p : BitVec 92) : Nat := bits 91 90 p
def moveTr (p : BitVec 92) : Nat := bits 89 85 p
def moveTs (p : BitVec 92) : Nat := bits 84 80 p
def moveCnt (p : BitVec 92) : Nat := bits 79 75 p + 1
def moveBlk (p : BitVec 92) : Nat := bits 74 66 p

/-- A tile move is malformed (R186, Table 6-10). -/
def moveBad (p : BitVec 92) : Bool :=
  decide (bits 61 0 p ≠ 0) || decide (moveOp p = 3) || decide (moveTr p + moveCnt p > 32)
  || (if moveOp p = 2 then decide (moveTs p + moveCnt p > 32) || decide (moveBlk p ≠ 0)
      else decide (moveTs p ≠ 0) || decide (moveBlk p + moveCnt p > 512))

/-- The 256 words of a 1 KiB block into register `reg`. -/
def Core.loadTile (x : Core) (m : Half) (reg : Nat) (bs : List Byte) (marks : List Bool) : Core :=
  (List.range 256).foldl (fun x i =>
    x.setTile m reg i (BitVec.ofNat 32 (leNat ((bs.drop (4 * i)).take 4))) (((marks.drop (4 * i)).take 4).any id)) x

/-- The bytes of a tile register, and the words of 8 bytes that hold a poisoned element. -/
def Core.tileBytes (x : Core) (reg : Nat) : List Byte :=
  (List.range 256).flatMap (fun i => leBytes 4 (Tab.get 0#32 x.tiles (256 * reg + i)).toNat)

/-- TLD (R186): consecutive blocks into registers upward. -/
def State.moveTld (s : State) (c : Nat) (e : VecEntry) : VecEnd :=
  let p := e.payload
  let n := moveCnt p
  let r := s.benchRead c (1024 * moveBlk p) (1024 * n)
  let marks := (r.1.core c).benchMarks (1024 * moveBlk p) (1024 * n)
  let m := e.taint ||| r.2.2.1
  let s1 := r.1.onCore c (fun x => (List.range n).foldl (fun x i =>
    x.loadTile (s.liveMask m) (moveTr p + i) ((r.2.1.drop (1024 * i)).take 1024) ((marks.drop (1024 * i)).take 1024)) x)
  .ran (s1.cutTiles c m ((List.range n).map (fun i => moveTr p + i))) ⟨[], e.scen, e.sc, [], m, e.index⟩

/-- TST (R186): registers into consecutive blocks; a poisoned element is stored with a poison tag. -/
def State.moveTst (s : State) (c : Nat) (e : VecEntry) : VecEnd :=
  let p := e.payload
  let n := moveCnt p
  let x := s.core c
  let m := (List.range n).foldl (fun m i => m ||| Tab.get 0#16 x.tileTaint (moveTr p + i)) e.taint
  let s1 := (List.range n).foldl (fun s i =>
    let reg := moveTr p + i
    let base := 1024 * (moveBlk p + i)
    let s2 := s.benchWrite c base (x.tileBytes reg) m false
    ((List.range 128).filter (fun w => Tab.get false x.tilePoison (256 * reg + 2 * w)
        || Tab.get false x.tilePoison (256 * reg + 2 * w + 1))).foldl (fun s w =>
      s.onCore c (fun x => { x with benchChk := Tab.set 0#8 x.benchChk (base / 8 + w) Config.wordPoison })) s2) s
  .ran s1 ⟨[], e.scen, e.sc, [], m, e.index⟩

/-- TCPY (R186): registers to registers as if through a temporary. -/
def State.moveTcpy (s : State) (c : Nat) (e : VecEntry) : VecEnd :=
  let p := e.payload
  let n := moveCnt p
  let x := s.core c
  let m := (List.range n).foldl (fun m i => m ||| Tab.get 0#16 x.tileTaint (moveTs p + i)) e.taint
  let s1 := s.onCore c (fun y => (List.range n).foldl (fun y i =>
    (List.range 256).foldl (fun y k =>
      let from' := 256 * (moveTs p + i) + k
      y.setTile m (moveTr p + i) k (Tab.get 0#32 x.tiles from') (Tab.get false x.tilePoison from')) y) y)
  .ran (s1.cutTiles c m ((List.range n).map (fun i => moveTr p + i))) ⟨[], e.scen, e.sc, [], m, e.index⟩

/-- Executes one entry. -/
def State.vecExec (s : State) (c : Nat) (e : VecEntry) : VecEnd :=
  if e.move then
    if moveBad e.payload then .refused (s.vecRefused c e none false)
    else
      match moveOp e.payload with
      | 0 => s.moveTld c e
      | 1 => s.moveTst c e
      | _ => s.moveTcpy c e
  else if Machine.runExport e.payload then s.runExport c e
  else s.runRecipe c e

/-! ## The queue (R79, R115, R121) -/

/-- A pass issued before the entry is still due on a bank that the entry reads (R79). -/
def Core.bankBusy (x : Core) (e : VecEntry) : Bool :=
  x.arrQ.any (fun a => decide (a.index < e.index) && e.banks.contains (arBank a.arith))

/-- Starts the first queued entry unless a run holds the engine or a pass is due; one that must wait for the market
stays. -/
def State.vecStep (s : State) (c : Nat) : State :=
  let x := s.core c
  match x.vecQ with
  | [] => s
  | e :: rest =>
    if x.heldRun ≠ [] ∨ x.bankBusy e then s
    else
      let s0 := s.onCore c (fun x => { x with vecQ := rest })
      match s0.vecExec c e with
      | .wait => s
      | .refused s1 => s1.recheck c
      | .ran s1 h =>
        if h.records.isEmpty then (s1.vecDone c h).recheck c
        else s1.onCore c (fun x => { x with heldRun := [h] })

/-- Runs what can run: entries of the vector engine and of the array, which wait for one another on banks. -/
def State.pump (s : State) (c : Nat) : State :=
  (List.range 8).foldl (fun s _ => (s.runArray c).vecStep c) s

/-- RUN and TMOVE at the sequencer (R121, R180, R181): queued with what they name, and run once the engine is free. -/
def State.issueVec (s : State) (c : Nat) (move : Bool) (payload : BitVec 92) (scen : Bool) (sc : Nat) : State :=
  let x := s.core c
  if x.vecQ.length ≥ 2 then (s.setQfull c 10).waits
  else
    let e : VecEntry :=
      { move := move, payload := payload, vbs := x.vbs, x0 := x.x0, x1 := x.x1, indexBase := x.indexBase, draw := x.draw,
        stream := x.stream, banks := [], scen := scen, sc := sc, ctx := x.task.ctx, taint := x.workTaint, index := x.task.index }
    ((s.onCore c (fun x => ({ x.taken with vecQ := x.vecQ ++ [{ e with banks := e.readsBanks }] }).scAdd scen sc)).clearQfull c 10).pump c

end Sys2Proof.Machine
end

