-- ==== Sys2Proof/Machine/MatrixArray.lean ====
section
/-!
DEFINITION. The commands of the matrix array (chapter 03).
-/

namespace Sys2Proof.Machine
open Sys2Proof

/-- PASS (R67, R68, R80, R178, R181, R182): checked, then queued with a copy of its operand registers and issued. -/
def execPass (core : CoreIx) (payload : BitVec 92) (crc : Word) (s : State) : Res :=
  let c := core.val
  .next (s.decodeDesc c 1 payload crc (fun s =>
    let x := s.core c
    let a := Tab.get OpReg.blank x.ors (bits 78 75 payload)
    let b := Tab.get OpReg.blank x.ors (bits 74 71 payload)
    if x.arrQ.length ≥ 5 then (s.setQfull c 11).waits
    else if passMalformed payload a b then s.malformed c 0x03 unitSeq
    else
      let e : PassEntry :=
        { m := payM payload, n := payN payload, k := payK payload, dflow := payDflow payload, arith := payArith payload,
          opA := a, opB := b, scen := bitAt payload 70, sc := bits 69 67 payload, ctx := x.task.ctx, taint := x.workTaint,
          index := x.task.index, scanned := false, anchor := 0, done := false, refused := false, failed := false,
          failAddr := 0, failPoison := false, ownSat := false, ownNan := false }
      ((s.onCore c (fun x => ({ x.taken with arrQ := x.arrQ ++ [e] }).scAdd e.scen e.sc)).clearQfull c 11).pump c))

/-- ANCHOR_SCAN (R44, R80): the scales of the first unscanned automatic descriptor give its anchor; it may then issue. -/
def execAnchorScan (core : CoreIx) (s : State) : Res :=
  let c := core.val
  let x := s.core c
  let waiting := fun (e : PassEntry) => arAmode e.arith && !e.scanned && !e.done
  match x.arrQ.find? waiting with
  | none => .next s
  | some e =>
    let scales (s : State) (r : OpReg) (fmt rows : Nat) : RowsAcc :=
      if fmtIsMx fmt then readRows s (e.env x c) r.sspace r.saddr r.sstride rows (e.k / 32) else ⟨s, .ok, [], 0#16, false⟩
    let ra := scales s e.opA (arFmtA e.arith) e.m
    let rb := scales ra.s e.opB (arFmtB e.arith) e.n
    let a := autoAnchor (arFmtA e.arith) (arFmtB e.arith) e.k (arHead e.arith) ra.rows.flatten rb.rows.flatten
    .next ((rb.s.onCore c (fun x => { x with
      arrQ := setFirst waiting (fun e => { e with scanned := true, anchor := a }) x.arrQ })).pump c)

/-- PASS_COMPLETE (R78, R42): the first descriptor, its results in the bank, leaves the queue; its traps are raised. -/
def execPassComplete (core : CoreIx) (s : State) : Res :=
  let c := core.val
  match (s.core c).arrQ with
  | [] => .next s
  | e :: rest =>
    if e.done then
      let s1 := s.onCore c (fun x => ({ x with arrQ := rest }).scSub e.scen e.sc)
      let s2 := if arTrapSat e.arith && e.ownSat then s1.trap c 0x10 unitArray false (e.taint ≠ 0#16) e.index 0 else s1
      let s3 := if arTrapNan e.arith && e.ownNan then s2.trap c 0x11 unitArray false (e.taint ≠ 0#16) e.index 0 else s2
      .next ((s3.pump c).recheck c)
    else .next s

/-- ARRAY_ABORT (R82, R181): the failed descriptor's bank carries the NaN tag everywhere, the operand-fault trap is
raised, and it and the queue behind it end. -/
def execArrayAbort (core : CoreIx) (s : State) : Res :=
  let c := core.val
  match (s.core c).atArray with
  | none => .next s
  | some e =>
    if e.failed then
      let b := arBank e.arith
      let s1 := s.onCore c (fun x => { x with
        banks := nanBank x.banks b
        bstat := Tab.modify 0#32 x.bstat b (fun w => w ||| 8#32)
        btaint := Tab.modify 0#16 x.btaint b (fun m => m ||| e.taint) })
      let s2 := s1.trap c 0x12 unitArray e.failPoison (e.taint ≠ 0#16) e.index e.failAddr
      .next (((s2.onCore c Core.discardBehind).pump c).recheck c)
    else .next s

/-- RAMP_DOWN (R84, R85): a running array with no row to issue becomes idle, keeping its registers and its queue. -/
def execRampDown (core : CoreIx) (s : State) : Res :=
  let c := core.val
  let busy := match (s.core c).atArray with
    | none => false
    | some e => !(arAmode e.arith && !e.scanned)
  .next (if busy then s else s.onCore c (fun x => { x with arrState := 0 }))

end Sys2Proof.Machine
end

