-- ==== Sys2Proof/Machine/Units.lean ====
section
/-!
DEFINITION. How the units outside the cores reach market lines (R27, R28, R305): a runner, a Gwengo engine, the host, the
scheduler and the firmware, by virtual addresses of a context or by device-local addresses.
-/

namespace Sys2Proof.Machine
open Sys2Proof

/-- A unit that accesses memory: with what partition and cluster it translates, in which context (none: its addresses are
device-local), what its requests carry, whether a line it misses enters its set least recently used (R293). -/
structure Agent where
  who : Who
  ctx : Option Nat
  acc : Acc
  lru : Bool
  deriving DecidableEq, Repr

/-- What a read gathered: `marks` says which bytes are poison, `stale` counts stale reads, `missed` whether HBM was read. -/
structure URead where
  s : State
  st : AccSt
  bytes : List Byte
  marks : List Bool
  taint : Half
  stale : Nat
  missed : Bool

def URead.poison (r : URead) : Bool := r.marks.any id

/-- The translation of one address: device-local address and what the request then carries. -/
def State.agentTr (s : State) (g : Agent) (a : Nat) (write : Bool) : State × Option (Nat × Acc) :=
  match g.ctx with
  | none => (s, some (a, g.acc))
  | some c =>
    let t := s.translate g.who c a write
    match t.2 with
    | .ok phys attr own => (t.1, some (phys, attrAcc attr own phys g.acc))
    | .fault _ => (t.1, none)

/-- One sector of a read. -/
def agentPiece (lru : Bool) (acc : Acc) (r : URead) (p : Nat × Nat) : URead :=
  match r.st with
  | .ok =>
    let n := p.1 / 32
    let miss := isHbmAddr p.1 && decide ((r.s.sector n).base = .absent)
    let fresh := isHbmAddr p.1 && decide ((r.s.line (n / 4)).row1 = 0)
    let x := r.s.readSector acc n
    match x.2.1 with
    | .ok =>
      let s1 := if lru && fresh then x.1.setLine (n / 4) { x.1.line (n / 4) with stamp := 0 } else x.1
      { s := s1, st := .ok, bytes := r.bytes ++ sliceSector (p.1 % 32) p.2 x.2.2.data,
        marks := r.marks ++ List.replicate p.2 x.2.2.poison, taint := r.taint ||| x.2.2.taint,
        stale := r.stale + (if x.2.2.stale then 1 else 0), missed := r.missed || miss }
    | .wait => { r with st := .wait }
    | .fault => { r with st := .fault p.1 }
    | .cancelled => { r with st := .cancelled }
  | _ => r

def agentLine (g : Agent) (r : URead) (p : Nat × Nat) : URead :=
  match r.st with
  | .ok =>
    let t := r.s.agentTr g p.1 false
    match t.2 with
    | none => { r with s := t.1, st := .fault p.1 }
    | some (phys, acc) => (piecesOf 32 phys p.2).foldl (agentPiece g.lru acc) { r with s := t.1 }
  | _ => r

/-- A read of `n` bytes. -/
def State.agentRead (s : State) (g : Agent) (a n : Nat) : URead :=
  (piecesOf 128 a n).foldl (agentLine g) ⟨s, .ok, [], [], 0#16, 0, false⟩

/-- One sector of a write. -/
def agentWritePiece (acc : Acc) (poison : Bool) (r : WrAcc) (p : Nat × Nat) : WrAcc :=
  match r.st with
  | .ok =>
    let bs := r.rest.take p.2
    let x : State × MemSt :=
      if p.2 = 32 then r.s.writeSector acc (p.1 / 32) (bytesSector bs) poison
      else
        let y := r.s.modifySector acc (p.1 / 32) false (patchSector (p.1 % 32) bs)
        (if poison && y.2.1 = .ok then y.1.poisonSector acc (p.1 / 32) else y.1, y.2.1)
    match x.2 with
    | .ok => ⟨x.1, .ok, r.rest.drop p.2⟩
    | .wait => { r with st := .wait }
    | .fault => { r with st := .fault p.1 }
    | .cancelled => { r with st := .cancelled }
  | _ => r

def agentWriteLine (g : Agent) (poison : Bool) (r : WrAcc) (p : Nat × Nat) : WrAcc :=
  match r.st with
  | .ok =>
    let t := r.s.agentTr g p.1 true
    match t.2 with
    | none => { r with s := t.1, st := .fault p.1 }
    | some (phys, acc) => (piecesOf 32 phys p.2).foldl (agentWritePiece acc poison) { r with s := t.1 }
  | _ => r

/-- A write of bytes. -/
def State.agentWrite (s : State) (g : Agent) (a : Nat) (bs : List Byte) (poison : Bool) : State × AccSt :=
  let r := (piecesOf 128 a bs.length).foldl (agentWriteLine g poison) ⟨s, .ok, bs⟩
  (r.s, r.st)

/-- One fold-in request at the sector that holds address `a`. -/
def State.agentFold (s : State) (g : Agent) (a fmt : Nat) (elems : List (Nat × FoldOperand)) : State × AccSt × FoldEnd :=
  let none := FoldEnd.mk FoldFlags.none false
  let t := s.agentTr g a true
  match t.2 with
  | Option.none => (t.1, .fault a, none)
  | some (phys, acc) =>
    let r := t.1.foldApply acc (phys / 32) fmt elems
    match r.2.1 with
    | .ok => (r.1, .ok, r.2.2)
    | .wait => (s, .wait, none)
    | .fault => (r.1, .fault a, none)
    | .cancelled => (r.1, .cancelled, none)

/-- The node of a runner or HBM controller (Table 7-5) as a cluster index. -/
def stackCluster (n : Nat) : Nat :=
  let h := if n < 8 then 0 else 16
  let j := n % 8
  if j < 4 then h + j else h + 15 - (j - 4)

end Sys2Proof.Machine
end

