-- ==== Sys2Proof/Machine/Rings.lean ====
section
/-!
DEFINITION. Submission rings and channels, which runners and the Gwengo engines share (R274 to R278, R294, R296 to R298,
R300, R428): the header line, reports of TAIL, the next job.
-/

namespace Sys2Proof.Machine
open Sys2Proof

/-! ## Channels -/

/-- Units with channels: 0 to 15 the runners, 16 and 17 the engines west and east. -/
def chanKey (unit ch : Nat) : Nat := unit * 256 + ch
def State.chan (s : State) (unit ch : Nat) : Chan := Tab.get Chan.blank s.fabric.chans (chanKey unit ch)
def State.setChan (s : State) (unit ch : Nat) (x : Chan) : State :=
  { s with fabric := { s.fabric with chans := Tab.set Chan.blank s.fabric.chans (chanKey unit ch) x } }
def State.onChan (s : State) (unit ch : Nat) (f : Chan → Chan) : State := s.setChan unit ch (f (s.chan unit ch))

/-- What the unit translates with: a runner in the partition of its quarter, an engine in the channel's own (R273, R428); its
regulation class is the default of its kind (Table 12-6), unless `cls` gives one. -/
def State.chanAgent (s : State) (unit ch : Nat) (m : Half) : Agent :=
  let x := s.chan unit ch
  if unit < 16 then
    ⟨⟨some ((s.quarterPart (unit / 4)).getD 4), 256, stackCluster unit⟩, some x.ctx,
      { Acc.plain with taint := m, cls := s.val 0xA040 14 1, src := 2 }, false⟩
  else
    ⟨⟨none, 256, if unit = 16 then 7 else 23⟩, some x.ctx, { Acc.plain with taint := m, cls := s.val 0xA040 16 2, src := 3 }, false⟩

/-- Bytes of a ring: its header and 2^E slots of 128 bytes (R275). -/
def ringBytes (ent : Nat) : Nat := 128 * (2 ^ ent + 1)

/-- Address of slot n mod 2^E. -/
def Chan.slot (x : Chan) (n : Nat) : Nat := x.ring + 128 * (n % 2 ^ x.ent + 1)

/-- The unit writes DONE and STATE into the header (Table 9-1). -/
def State.writeHeader (s : State) (unit ch : Nat) : State :=
  let x := s.chan unit ch
  let g := s.chanAgent unit ch 0#16
  let num := match x.run with | some j => j.num | none => x.done
  let s1 := (s.agentWrite g (x.ring + 0x10) (leBytes 8 x.done) false).1
  (s1.agentWrite g (x.ring + 0x18) (leBytes 8 (x.st * 2 ^ 60 + num % 2 ^ 40)) false).1

/-- The channel shows a state. -/
def State.chanState (s : State) (unit ch st : Nat) : State :=
  (s.onChan unit ch (fun x => { x with st := st })).writeHeader unit ch

/-! ## Reports (R276, R294, R298) -/

/-- `new` is later than `old`, counting modulo 2^64. -/
def later (old new : Nat) : Bool := let d := (new + 2 ^ 64 - old % 2 ^ 64) % 2 ^ 64; decide (0 < d ∧ d < 2 ^ 63)

/-- TAIL as the unit knows it. -/
def Chan.known (x : Chan) : Nat := (x.ann.getLast?.map (·.1)).getD x.done

/-- The mask of the draft jobs that are not final. -/
def Chan.draftMask (x : Chan) : Option Half := (x.ann.find? (fun a => a.2 ≠ 0#16)).map (·.2)

/-- A report may be taken now. -/
def Chan.takes (x : Chan) (m : Half) : Bool :=
  match x.draftMask with
  | none => true
  | some d => d = m

/-- Takes waiting reports in order while they may be taken; a report that does not raise TAIL is ignored. -/
def Chan.takeWaiting : Nat → Chan → Chan
  | 0, x => x
  | n + 1, x =>
    match x.waiting with
    | [] => x
    | r :: rest =>
      if !later x.known r.1 then Chan.takeWaiting n { x with waiting := rest }
      else if x.takes r.2 then Chan.takeWaiting n { x with waiting := rest, ann := x.ann ++ [r] }
      else x

/-- Drops announcements whose jobs are final, then takes what waits. -/
def Chan.settle (x : Chan) : Chan :=
  let y := { x with ann := x.ann.filter (fun a => later x.done a.1), reps := x.reps.filter (fun a => later x.done a.1) }
  Chan.takeWaiting y.waiting.length y

/-- The state a bound channel that is not halted or stopped shows. -/
def Chan.shows (x : Chan) : Nat := if x.waiting ≠ [] then 4 else if x.run.isSome then 2 else 1

/-- The channel shows RUN, IDLE or WAITDRAFT again. -/
def State.chanSettle (s : State) (unit ch : Nat) : State :=
  (s.onChan unit ch (fun x => let y := x.settle; if y.st = 3 ∨ y.st = 5 then y else { y with st := y.shows })).writeHeader unit ch

/-- A report of TAIL with the writer's mask. -/
def State.tailReport (s : State) (unit ch tail : Nat) (m : Half) : State :=
  let x := s.chan unit ch
  if !x.bound then s
  else (s.setChan unit ch { x with waiting := x.waiting ++ [(tail % 2 ^ 64, m)], reps := x.reps ++ [(tail % 2 ^ 64, s.bell.count)] }).chanSettle unit ch

/-! ## The next job -/

/-- What the next job of a channel is: none, one beyond the ring (R276), or its number and mask. -/
inductive NextJob where
  | none
  | beyond
  | job (num : Nat) (mask : Half)

def Chan.next (x : Chan) : NextJob :=
  match x.ann.find? (fun a => later x.done a.1) with
  | Option.none => .none
  | some a => if (x.known + 2 ^ 64 - x.done) % 2 ^ 64 > 2 ^ x.ent then .beyond else .job x.done a.2

/-- DONE moves past a job, and the channel settles. -/
def State.chanDone (s : State) (unit ch n : Nat) : State :=
  (s.onChan unit ch (fun x => { x with done := n % 2 ^ 64, run := none, st := 1 })).chanSettle unit ch

/-! ## Commit and cancel (R296, R297, R431) -/

/-- The bits of committed epochs leave a channel's announcements and reports. -/
def Chan.commit (c : Half) (x : Chan) : Chan :=
  { x with ann := x.ann.map (fun a => (a.1, a.2 &&& ~~~c)), waiting := x.waiting.map (fun a => (a.1, a.2 &&& ~~~c)) }

/-- The jobs announced under a cancelled epoch, and the reports that carry one, are dropped; the job in progress goes with them
when it carries one. -/
def Chan.cancel (c : Half) (x : Chan) : Chan :=
  let keep := x.ann.takeWhile (fun a => a.2 &&& c = 0#16)
  let run := match x.run with
    | some j => if j.mask &&& c ≠ 0#16 then none else some j
    | none => none
  { x with ann := keep, waiting := x.waiting.filter (fun a => a.2 &&& c = 0#16), run := run }

/-! ## BIND and UNBIND (R274, Table 9-9, Table 14-11) -/

/-- Every line of a span lies in placed pages of the context. -/
def State.allPlaced (s : State) (ctx va n : Nat) : Bool :=
  (List.range ((va + n - 1) / 2 ^ 16 - va / 2 ^ 16 + 1)).all (fun i =>
    let a := (va / 2 ^ 16 + i) * 2 ^ 16
    match s.rangeAt ctx a with
    | none => false
    | some r =>
      let o := r.owner a
      let p := s.page (pageKey o.1 (pageStart (attrPS (s.ownerAttr r a)) o.2))
      p.v && decide (p.loc = 1))

/-- A CONTEXT window with PUT or FOLD of a sealed partition covers a page of the span (Table 19-5). -/
def State.windowCovers (s : State) (ctx va n : Nat) : Bool :=
  let lo := va / 2 ^ 16 * 2 ^ 16
  let hi := (va + n + 65535) / 2 ^ 16 * 2 ^ 16
  s.fabric.windows.any (fun e => e.2.enabled && decide (e.2.kind = 2 ∧ e.2.ctx = ctx) && decide (e.2.perm % 2 = 1 ∨ e.2.perm / 4 % 2 = 1)
    && decide (e.2.base < hi ∧ lo < e.2.base + e.2.bytes))

def State.sealed (s : State) (p : Nat) : Bool := decide ((Tab.get Seal.blank s.sec.seals p).st = 1)

/-- BIND of a channel: the status, and the state after. `ready` says whether the unit may serve, `part` which partition it serves
(none: any). -/
def State.bindChan (s : State) (unit ch ctx ring ent maxCh : Nat) (unitOk ready : Bool) (part : Option Nat) : State :=
  let x := s.chan unit ch
  let c := s.ctx ctx
  if !unitOk ∨ ch > maxCh ∨ ctx > 4095 ∨ ent < 4 ∨ ent > 16 ∨ ring % 128 ≠ 0 ∨ ring + ringBytes ent > 2 ^ 56 then s.answer 0x0301
  else if x.bound then s.answer 0x0401
  else if !ready ∨ !c.active ∨ part.any (fun p => decide (c.part ≠ p)) ∨ !s.allPlaced ctx ring (ringBytes ent) then
    s.answer 0x0402
  else if s.sealed c.part && s.windowCovers ctx ring (ringBytes ent) then s.answer 0x0401
  else
    let s1 := s.setChan unit ch { Chan.blank with bound := true, ctx := ctx, ring := ring, ent := ent, st := 1 }
    let r := s1.agentRead (s1.chanAgent unit ch 0#16) ring 24
    let tail := leNat (r.bytes.take 8)
    let done := leNat ((r.bytes.drop 16).take 8)
    ((r.s.onChan unit ch (fun x => { x with done := done, ann := if later done tail then [(tail, 0#16)] else [] })).writeHeader unit ch).answer 0

/-- UNBIND of a channel. -/
def State.unbindChan (s : State) (unit ch maxCh : Nat) (unitOk : Bool) : State :=
  let x := s.chan unit ch
  if !unitOk ∨ ch > maxCh then s.answer 0x0301
  else if !x.bound ∨ x.st = 2 ∨ x.st = 4 then s.answer 0x0402
  else ((s.chanState unit ch 0).setChan unit ch Chan.blank).answer 0

/-- A page of the owning context holds a ring of a bound channel (R312). -/
def State.ringHolds (s : State) (ctx va n : Nat) : Bool :=
  s.fabric.chans.any (fun e => e.2.bound && decide (e.2.ctx = ctx) && decide (e.2.ring < va + n ∧ va < e.2.ring + ringBytes e.2.ent))

end Sys2Proof.Machine
end

