-- ==== Sys2Proof/Machine/Runner.lean ====
section
/-!
DEFINITION. The runners (chapter 09): job descriptors, index streams and rows, pooling, sparse products, completion, halts and
what a ring's CTRL word asks for.
-/

namespace Sys2Proof.Machine
open Sys2Proof

/-! ## Job descriptor (Table 9-2) -/

def rdTable (d : BitVec 512) : Nat := bits 479 424 d
def rdIdx (d : BitVec 512) : Nat := bits 423 368 d
def rdWt (d : BitVec 512) : Nat := bits 367 312 d
def rdOffs (d : BitVec 512) : Nat := bits 311 256 d
def rdOut (d : BitVec 512) : Nat := bits 255 200 d
def rdRows (d : BitVec 512) : Nat := bits 199 160 d
def rdBags (d : BitVec 512) : Nat := bits 159 136 d + 1
def rdBagLen (d : BitVec 512) : Nat := bits 135 120 d + 1
def rdOstride (d : BitVec 512) : Nat := bits 119 104 d
def rdStride (d : BitVec 512) : Nat := 4 * bits 103 92 d
def rdD (d : BitVec 512) : Nat := bits 91 84 d + 1
def rdAnchor (d : BitVec 512) : Int := sext 11 (bits 83 73 d)
def rdRfmt (d : BitVec 512) : Nat := bits 72 69 d
def rdOutFmt (d : BitVec 512) : Nat := bits 68 65 d
def rdOp (d : BitVec 512) : Nat := bits 64 63 d
def rdPool (d : BitVec 512) : Nat := bits 62 61 d
def rdEnc (d : BitVec 512) : Nat := bits 60 59 d
def rdWfmt (d : BitVec 512) : Nat := bits 58 57 d
def rdAnch (d : BitVec 512) : Bool := bitAt d 56
def rdIdxW (d : BitVec 512) : Nat := if bitAt d 55 then 8 else 4
def rdOffsets (d : BitVec 512) : Bool := bitAt d 54
def rdFold (d : BitVec 512) : Bool := bitAt d 53
def rdLru (d : BitVec 512) : Bool := bitAt d 52
def rdStrict (d : BitVec 512) : Bool := bitAt d 51
def rdOob (d : BitVec 512) : Bool := bitAt d 50
def rdTag (d : BitVec 512) : Nat := bits 15 0 d

/-- Bytes of a row's elements, and of the whole stored row (Table 9-5). -/
def rowElemBytes (fmt n : Nat) : Nat := (n * fmtBits fmt + 7) / 8
def rowStored (enc fmt n : Nat) : Nat :=
  match enc with
  | 0 => rowElemBytes fmt n
  | 1 => rowElemBytes fmt n + n / 32
  | _ => (rowElemBytes fmt n + 3) / 4 * 4 + 8

/-- Bytes of an output element. -/
def outBytes (fmt : Nat) : Nat := fmtBits fmt / 8

/-- The fields break the chapter's rules (R280, R281, R283, Tables 9-2 to 9-5). -/
def jobBad (d : BitVec 512) : Bool :=
  let n := rdD d
  let enc := rdEnc d
  let fmt := rdRfmt d
  let op := rdOp d
  decide (bits 49 16 d ≠ 0) || decide (rdTable d % 4 ≠ 0) || decide (rdStride d = 0) || decide (rdPool d = 3) || decide (enc = 3)
  || decide (rdWfmt d = 3)
  || (match enc with
      | 0 => !([0, 2, 3, 0xA, 0xB, 0xC, 0xD].contains fmt)
      | 1 => !fmtIsMx fmt || decide (n % 32 ≠ 0)
      | _ => !([0, 1].contains fmt) || (decide (fmt = 1) && decide (n % 2 ≠ 0)))
  || decide (rowStored enc fmt n > rdStride d)
  || (decide (op = 1 ∨ op = 2) && (decide (rdPool d ≠ 2) || decide (rdWfmt d = 0)))
  || (decide (op = 2) && !rdFold d)
  || (decide (op ≠ 3) &&
      ((if rdFold d then !([0xC, 0xA, 0xF].contains (rdOutFmt d))
        else !([0xC, 0xA, 0xB, 2, 3, 0xF].contains (rdOutFmt d)) || (decide (rdOutFmt d = 0xF) && !rdAnch d))
       || decide (rdOut d % outBytes (rdOutFmt d) ≠ 0) || decide (n * outBytes (rdOutFmt d) > rdOstride d)))

/-- CRC-32C of bytes 0 to 59 (R279). -/
def jobCrcOk (d : BitVec 512) : Bool := decide (crc32c (leBytes 60 d.toNat) = bits 511 480 d)

/-! ## Flags of the record (Table 9-6), from bit 213 up -/

def rfInv : Nat := 1
def rfOobSkip : Nat := 2
def rfStale : Nat := 4
def rfRefused : Nat := 8
def rfNan : Nat := 16
def rfLostlow : Nat := 32
def rfSat : Nat := 64

/-- A completion record (Table 9-6). -/
def jobRecord (j : RunJob) (status bell : Nat) : List Byte :=
  let v := status % 16 * 2 ^ 220 + j.flags % 128 * 2 ^ 213 + (if j.tainted then 2 ^ 212 else 0) + rdTag j.desc * 2 ^ 192
    + (if status = 0 then 0 else j.pos % 2 ^ 40 * 2 ^ 152) + j.bags % 2 ^ 24 * 2 ^ 128 + j.hits % 2 ^ 32 * 2 ^ 96
    + j.misses % 2 ^ 32 * 2 ^ 64 + bell % 2 ^ 64
  leBytes 28 v ++ leBytes 4 (crc32c (leBytes 28 v))

/-! ## A job under way -/

/-- Values of a row, whether an AFFINE expansion was invalid. -/
structure RowVal where
  vals : List FVal
  inv : Bool

/-- A job while the command runs: `stop` halted or held, `wait` the market asked to wait; one cached sector of each stream; the
rows of the last 64 positions (R292). -/
structure JobRun where
  s : State
  g : Agent
  j : RunJob
  stop : Bool
  wait : Bool
  idx : Option (Nat × List Byte)
  wt : Option (Nat × List Byte)
  offs : Option (Nat × List Byte)
  window : List (Nat × RowVal)

def JobRun.go (r : JobRun) : Bool := !r.stop && !r.wait

def JobRun.halt (r : JobRun) (status pos : Nat) : JobRun :=
  { r with stop := true, j := { r.j with status := status, pos := pos, ended := true } }

def JobRun.flag (r : JobRun) (f : Nat) : JobRun := { r with j := { r.j with flags := r.j.flags ||| f } }

/-- A read by the job: its mask takes the drafts it sees, stale reads are counted, poison, faults and strict stale reads halt it
(R294, R299, R301). -/
def JobRun.read (r : JobRun) (unit a n pos : Nat) : JobRun × List Byte × Bool :=
  let x := r.s.agentRead { r.g with acc := { r.g.acc with taint := r.j.mask } } a n
  let s1 := if x.stale = 0 then x.s else
    { x.s with fabric := { x.s.fabric with runners := Tab.modify Runner.blank x.s.fabric.runners unit (fun y => { y with stale := y.stale + x.stale }) } }
  let r1 := { r with s := s1, j := { r.j with mask := r.j.mask ||| x.taint, flags := r.j.flags ||| (if x.stale = 0 then 0 else rfStale) } }
  match x.st with
  | .ok =>
    if x.poison then (r1.halt 1 pos, x.bytes, x.missed)
    else if x.stale ≠ 0 ∧ rdStrict r.j.desc then (r1.halt 4 pos, x.bytes, x.missed)
    else (r1, x.bytes, x.missed)
  | .fault _ => (r1.halt 2 pos, [], x.missed)
  | _ => ({ r with wait := true }, [], false)

/-- `n` bytes of a stream at `a`, sector by sector through the cached sector `c`. -/
def JobRun.stream (unit pos : Nat) : List (Nat × Nat) → JobRun × Option (Nat × List Byte) × List Byte → JobRun × Option (Nat × List Byte) × List Byte
  | [], q => q
  | p :: rest, q =>
    let sec := p.1 / 32 * 32
    let q1 : JobRun × List Byte :=
      match q.2.1 with
      | some c => if c.1 = sec then (q.1, c.2) else let x := q.1.read unit sec 32 pos; (x.1, x.2.1)
      | none => let x := q.1.read unit sec 32 pos; (x.1, x.2.1)
    if q1.1.go then JobRun.stream unit pos rest (q1.1, some (sec, q1.2), q.2.2 ++ (q1.2.drop (p.1 % 32)).take p.2)
    else (q1.1, q.2.1, q.2.2)

def JobRun.index (r : JobRun) (unit k : Nat) : JobRun × Nat :=
  let w := rdIdxW r.j.desc
  let x := JobRun.stream unit k (piecesOf 32 (rdIdx r.j.desc + k * w) w) (r, r.idx, [])
  ({ x.1 with idx := x.2.1 }, leNat x.2.2)

def JobRun.offset (r : JobRun) (unit pos b : Nat) : JobRun × Nat :=
  let w := rdIdxW r.j.desc
  let x := JobRun.stream unit pos (piecesOf 32 (rdOffs r.j.desc + b * w) w) (r, r.offs, [])
  ({ x.1 with offs := x.2.1 }, leNat x.2.2)

/-- The weight of a position: 1.0 without weights (R284). -/
def JobRun.weight (r : JobRun) (unit k : Nat) : JobRun × Word :=
  match rdWfmt r.j.desc with
  | 0 => (r, 0x3F800000#32)
  | f =>
    let w := if f = 1 then 4 else 2
    let x := JobRun.stream unit k (piecesOf 32 (rdWt r.j.desc + k * w) w) (r, r.wt, [])
    let v := leNat x.2.2
    ({ x.1 with wt := x.2.1 }, if f = 1 then BitVec.ofNat 32 v else widenBf16 (BitVec.ofNat 16 v))

/-- A stored row expanded (Table 9-5). -/
def expandRow (d : BitVec 512) (bs : List Byte) : RowVal :=
  let n := rdD d
  let fmt := rdRfmt d
  let es := (List.range n).map (fun i => fmtValue fmt (unpackElem fmt bs i))
  match rdEnc d with
  | 0 =>
    if fmt = 0xD ∧ !rdAnch d then ⟨es.map (fun v => fval v.toWord), false⟩ else ⟨es, false⟩
  | 1 =>
    let scales := bs.drop (rowElemBytes fmt n)
    ⟨es.zipIdx.map (fun x => scaled (((scales[x.2 / 32]?).getD 0#8).toNat) x.1), false⟩
  | _ =>
    let at' := (rowElemBytes fmt n + 3) / 4 * 4
    let sc : Word := BitVec.ofNat 32 (leNat ((bs.drop at').take 4))
    let bias : Word := BitVec.ofNat 32 (leNat ((bs.drop (at' + 4)).take 4))
    let fs := es.map (fun q => fpFma q.toWord sc bias)
    ⟨fs.map (fun f => fval f.val), fs.any (fun f => f.inv)⟩

/-- Reads and expands table row `j`; the row counts as a hit or a miss. -/
def JobRun.row (r : JobRun) (unit j pos : Nat) : JobRun × RowVal :=
  let d := r.j.desc
  let x := r.read unit (rdTable d + j * rdStride d) (rowStored (rdEnc d) (rdRfmt d) (rdD d)) pos
  if x.1.go then
    let v := expandRow d x.2.1
    let r1 := { x.1 with j := { x.1.j with
      hits := x.1.j.hits + (if x.2.2 then 0 else 1)
      misses := x.1.j.misses + (if x.2.2 then 1 else 0) } }
    (if v.inv then r1.flag rfInv else r1, v)
  else (x.1, ⟨[], false⟩)

/-- The row an index names: from the duplicate window or the market (R292). -/
def JobRun.named (r : JobRun) (unit j pos : Nat) : JobRun × RowVal :=
  match r.window.find? (fun w => w.1 = j) with
  | some w => ({ r with j := { r.j with hits := r.j.hits + 1 }, window := ((j, w.2) :: r.window).take 64 }, w.2)
  | none =>
    let x := r.row unit j pos
    ({ x.1 with window := if x.1.go then ((j, x.2) :: x.1.window).take 64 else x.1.window }, x.2)

/-! ## Adding up (R284, R285) -/

/-- A contribution on the grid of the anchor: the integer, LOSTLOW; none when it is not finite. -/
def gridPart (anchor : Int) (w : Word) (v : FVal) : Option (Int × Bool) :=
  match (fval w).mul v with
  | .fin n m e => some (toGrid n m e (anchor - 64))
  | _ => none

/-- Sums of a bag: FP32 words in ordered mode, 128-bit integers in anchored mode, with the flags raised. -/
structure BagSum where
  ord : List Word
  grid : List Int
  flags : Nat
  n : Nat

def BagSum.zero (n : Nat) : BagSum := ⟨List.replicate n 0#32, List.replicate n 0, 0, 0⟩

def BagSum.add (b : BagSum) (d : BitVec 512) (w : Word) (v : List FVal) : BagSum :=
  if rdAnch d then
    let parts := (b.grid.zip v).map (fun x =>
      match gridPart (rdAnchor d) w x.2 with
      | none => (x.1, rfNan)
      | some p =>
        let t := satTo 128 (x.1 + p.1)
        (t.1, (if t.2 then rfSat else 0) + (if p.2 then rfLostlow else 0)))
    { b with grid := parts.map (·.1), flags := parts.foldl (fun f p => f ||| p.2) b.flags, n := b.n + 1 }
  else
    { b with ord := (b.ord.zip v).map (fun x => (((fval w).mul x.2).add (fval x.1)).toWord), n := b.n + 1 }

/-- The FP32 quotient of a bag by its number of rows, rounded once (R286). -/
def meanOrd (x : Word) (n : Nat) : Word :=
  match fval x with
  | .fin g m e => quot32 g m n e
  | v => v.toWord
def meanGrid (anchor x : Int) (n : Nat) : Word := quot32 (decide (x < 0)) x.natAbs n (anchor - 64)

/-- A result element: its FP32 value, and its exact sum when one is kept. -/
def BagSum.result (b : BagSum) (d : BitVec 512) : List (Word × Option Int) :=
  let mean := decide (rdPool d = 1)
  if rdAnch d then
    b.grid.map (fun x =>
      if b.n = 0 then (0#32, some 0)
      else if mean then (meanGrid (rdAnchor d) x b.n, if rdFold d then none else some x)
      else ((ofIntExp x (rdAnchor d - 64)).toWord, some x))
  else b.ord.map (fun x => (if b.n = 0 then 0#32 else if mean then meanOrd x b.n else x, none))

/-- The bytes of an output element written (Table 9-4). -/
def outElem (fmt : Nat) (x : Word × Option Int) : List Byte :=
  match fmt with
  | 0xC => leBytes 4 x.1.toNat
  | 0xA => leBytes 2 (narrowFloat bf16 false (fval x.1)).1
  | 0xB => leBytes 2 (narrowFloat fp16 false (fval x.1)).1
  | 2 => leBytes 1 (narrowFloat e4m3 true (fval x.1)).1
  | 3 => leBytes 1 (narrowFloat e5m2 false (fval x.1)).1
  | _ => leBytes 16 ((x.2.getD 0) % 2 ^ 128).toNat

/-- A result element as a fold-in operand (R287). -/
def outOperand (d : BitVec 512) (x : Word × Option Int) : FoldOperand :=
  match x.2 with
  | some v => if rdOutFmt d = 0xF then .grid v (rdAnchor d) else .fp32 x.1
  | none => .fp32 x.1

/-! ## Output (R287, R295, R302) -/

/-- The flags of a fold-in's completion in the record. -/
def foldRFlags (e : FoldEnd) : Nat :=
  (if e.refused then rfRefused else 0) + (if e.flags.nan then rfNan else 0) + (if e.flags.lostlow then rfLostlow else 0)
    + (if e.flags.sat then rfSat else 0)

/-- One output, performed: what it does to the state, how it ends, the flags it returns. -/
def HeldOut.perform (o : HeldOut) (g : Agent) (s : State) : State × AccSt × Nat :=
  if o.fold then
    let r := s.agentFold g o.addr o.fmt o.elems
    (r.1, r.2.1, foldRFlags r.2.2)
  else
    let r := s.agentWrite g o.addr o.bytes false
    (r.1, r.2, 0)

/-- Bytes an output takes in the hold buffer. -/
def HeldOut.size (o : HeldOut) : Nat := if o.fold then 32 else o.bytes.length

/-- Bytes a runner holds (R295). -/
def State.heldBytes (s : State) (unit : Nat) : Nat :=
  s.fabric.chans.foldl (fun n e =>
    if e.1 / 256 = unit then n + (match e.2.run with | some j => j.held.foldl (fun a o => a + o.size) 0 | none => 0) else n) 0

/-- An output of the job: held while the job has a mask, else performed. -/
def JobRun.out (r : JobRun) (o : HeldOut) (pos : Nat) : JobRun :=
  if !r.go then r
  else if r.j.mask ≠ 0#16 then { r with j := { r.j with tainted := true, held := r.j.held ++ [o] } }
  else
    let x := o.perform { r.g with acc := { r.g.acc with taint := 0#16 } } r.s
    match x.2.1 with
    | .ok => { r with s := x.1, j := { r.j with flags := r.j.flags ||| x.2.2 } }
    | .fault _ => JobRun.halt { r with s := x.1 } 2 pos
    | _ => { r with wait := true }

/-- The output of one bag of POOL or SPMV. -/
def JobRun.bagOut (r : JobRun) (b pos : Nat) (sum : BagSum) : JobRun :=
  let d := r.j.desc
  let res := sum.result d
  let a := rdOut d + b * rdOstride d
  let nan := if !rdAnch d && res.any (fun x => !isFinite32 x.1) then rfNan else 0
  let r1 := r.flag (sum.flags ||| nan)
  if rdFold d then
    let sz := outBytes (rdOutFmt d)
    (foldRequests sz (res.zipIdx.map (fun x => (a + x.2 * sz, outOperand d x.1)))).foldl
      (fun r q => r.out ⟨true, q.1, [], rdOutFmt d, q.2⟩ pos) r1
  else r1.out ⟨false, a, res.flatMap (fun x => outElem (rdOutFmt d) x), 0, []⟩ pos

/-- The fold-ins of one nonzero of SPMTV (R289). -/
def JobRun.scatter (r : JobRun) (j pos : Nat) (w : Word) (x : List FVal) : JobRun :=
  let d := r.j.desc
  let sz := outBytes (rdOutFmt d)
  let a := rdOut d + j * rdOstride d
  let parts : List (Option (Word × Option Int) × Nat) := x.map (fun v =>
    if rdAnch d then
      match gridPart (rdAnchor d) w v with
      | none => (none, rfNan)
      | some p => let t := satTo 128 p.1
        (some ((ofIntExp t.1 (rdAnchor d - 64)).toWord, some t.1), (if p.2 then rfLostlow else 0) + (if t.2 then rfSat else 0))
    else (some (((fval w).mul v).toWord, none), 0))
  let es := parts.zipIdx.filterMap (fun p => p.1.1.map (fun y => (a + p.2 * sz, outOperand d y)))
  let fl := parts.foldl (fun f p => f ||| p.2) 0
  (foldRequests sz es).foldl (fun r q => r.out ⟨true, q.1, [], rdOutFmt d, q.2⟩ pos) (r.flag fl)

/-! ## The job -/

/-- One position of a bag: an index read, skipped, halted on or used. -/
def jobIndex (unit b : Nat) (x : List FVal) (q : JobRun × BagSum) (k : Nat) : JobRun × BagSum :=
  if !q.1.go then q
  else
    let d := q.1.j.desc
    let op := rdOp d
    let bagPos (r : JobRun) : Nat := if op = 2 then k else r.j.pos
    let i := q.1.index unit k
    if !i.1.go then (if i.1.wait then i.1 else { i.1 with j := { i.1.j with pos := bagPos q.1 } }, q.2)
    else if i.2 = 256 ^ rdIdxW d - 1 then (i.1, q.2)
    else
      let s1 := { i.1.s with fabric := { i.1.s.fabric with
        runners := Tab.modify Runner.blank i.1.s.fabric.runners unit (fun y => { y with indices := y.indices + 1 }) } }
      let r := { i.1 with s := s1 }
      if i.2 > rdRows d then (if rdOob d then r.halt 3 (bagPos q.1) else r.flag rfOobSkip, q.2)
      else
        let w := r.weight unit k
        if !w.1.go then ({ w.1 with j := { w.1.j with pos := bagPos q.1 } }, q.2)
        else if op = 2 then (w.1.scatter i.2 k w.2 x, { q.2 with n := q.2.n + 1 })
        else
          let v := w.1.named unit i.2 (bagPos q.1)
          if v.1.go then (v.1, if op = 3 then q.2 else q.2.add d w.2 v.2.vals) else (v.1, q.2)

/-- One bag. `j.pos` holds the first position of the bag while it runs; in SPMTV `j.bag` and `start` let a restarted job go on at
its position. -/
def jobBag (unit start : Nat) (r : JobRun) (b : Nat) : JobRun :=
  if !r.go then r
  else
    let d := r.j.desc
    let full := r.j.mask ≠ 0#16 && decide (r.s.heldBytes unit + r.j.held.foldl (fun a o => a + o.size) 0 ≥ r.s.val 0x4120 1 256 * 1024)
    if full then { r with stop := true, j := { r.j with bag := b, full := true } }
    else
      let lo : JobRun × Nat := if rdOffsets d then r.offset unit r.j.pos b else (r, b * rdBagLen d)
      let hi : JobRun × Nat := if rdOffsets d then (if lo.1.go then lo.1.offset unit lo.2 (b + 1) else (lo.1, 0)) else (lo.1, (b + 1) * rdBagLen d)
      if !hi.1.go then { hi.1 with j := { hi.1.j with bag := b } }
      else if hi.2 < lo.2 then JobRun.halt { hi.1 with j := { hi.1.j with bag := b } } 3 lo.2
      else
        let r1 := { hi.1 with j := { hi.1.j with bag := b, pos := lo.2 } }
        let x := if rdOp d = 2 then r1.row unit b lo.2 else (r1, ⟨[], false⟩)
        let from' := if rdOp d = 2 ∧ start > lo.2 then start else lo.2
        let q := ((List.range (hi.2 - from')).map (· + from')).foldl (jobIndex unit b x.2.vals) (x.1, BagSum.zero (rdD d))
        if !q.1.go then q.1
        else
          let r2 := if rdOp d = 0 ∨ rdOp d = 1 then q.1.bagOut b lo.2 q.2 else q.1
          if r2.go then { r2 with j := { r2.j with bags := r2.j.bags + 1, bag := b + 1 } } else r2

/-- Runs a job from the bag it stands at. -/
def State.runJob (s : State) (unit ch : Nat) (j : RunJob) : JobRun :=
  let g := { s.chanAgent unit ch j.mask with lru := rdLru j.desc }
  let start := j.pos
  let r : JobRun := ⟨s, g, { j with full := false }, false, false, none, none, none, []⟩
  let q := ((List.range (rdBags j.desc - j.bag)).map (· + j.bag)).foldl (jobBag unit start) r
  if q.go then { q with j := { q.j with ended := true, status := 0 } } else q

/-- The runner takes part in service (R303). -/
def State.runnerOk (s : State) (unit : Nat) : Bool := s.inService ukRunner unit

/-- Jobs the runner has active (R277). -/
def State.activeJobs (s : State) (unit : Nat) : Nat :=
  (s.fabric.chans.filter (fun e => decide (e.1 / 256 = unit) && (match e.2.run with | some j => !j.ended | none => false))).length

/-- The counters take the job's hits and misses beyond what `before` had. -/
def State.jobCounts (s : State) (unit : Nat) (before after : RunJob) : State :=
  { s with fabric := { s.fabric with runners := Tab.modify Runner.blank s.fabric.runners unit (fun y =>
    { y with hits := y.hits + (after.hits - before.hits), misses := y.misses + (after.misses - before.misses) }) } }

/-- Carries a job on and keeps where it stands. -/
def State.carryOn (s : State) (unit ch : Nat) (j : RunJob) : State :=
  let q := s.runJob unit ch j
  if q.wait then s.waits
  else (q.s.jobCounts unit j q.j).onChan unit ch (fun x => { x with run := some q.j, st := if x.st = 4 then 4 else 2 })

/-- A job of operation `op` runs on a channel: the one that stands there, or the next of the ring (R275 to R280). -/
def State.runnerJob (s : State) (unit ch op : Nat) : State :=
  let x := s.chan unit ch
  if !x.bound ∨ x.st = 3 then s
  else
    match x.run with
    | some j => if j.ended ∨ rdOp j.desc ≠ op then s else s.carryOn unit ch j
    | none =>
      if !s.runnerOk unit then (if x.st = 5 then s else s.chanState unit ch 5)
      else
        match x.next with
        | .none => s
        | .beyond => (s.onChan unit ch (fun x => { x with ovr := true })).chanState unit ch 3
        | .job num m =>
          if s.activeJobs unit ≥ 8 ∨ s.noNewWork then s.waits
          else
            let j0 : RunJob := ⟨num, 0#512, m, decide (m ≠ 0#16), 0, 0, 0, 0, 0, 0, 0, false, false, []⟩
            let r := s.agentRead (s.chanAgent unit ch m) (x.slot num) 64
            let put (s : State) (j : RunJob) : State := s.onChan unit ch (fun x => { x with run := some j, st := if x.st = 4 then 4 else 2 })
            match r.st with
            | .ok =>
              let d : BitVec 512 := BitVec.ofNat 512 (leNat r.bytes)
              let j := { j0 with desc := d, mask := m ||| r.taint }
              if r.poison then put r.s { j0 with mask := m ||| r.taint, status := 1, ended := true }
              else if !jobCrcOk d ∨ jobBad d then put r.s { j with status := 6, ended := true }
              else if rdOp d ≠ op then s.waits
              else ((r.s.chanState unit ch (if x.st = 4 then 4 else 2)).onChan unit ch (fun x => { x with run := some j })).carryOn unit ch j
            | .fault _ => put r.s { j0 with status := 2, ended := true }
            | _ => s.waits

/-- POOL (R284 to R287): a job that pools the rows of each bag. -/
def execPool (runner : StackIx) (chan : Fin 64) (s : State) : Res := .next (s.runnerJob runner.val chan.val 0)
/-- SPMV (R288). -/
def execSpmv (runner : StackIx) (chan : Fin 64) (s : State) : Res := .next (s.runnerJob runner.val chan.val 1)
/-- SPMTV (R289). -/
def execSpmtv (runner : StackIx) (chan : Fin 64) (s : State) : Res := .next (s.runnerJob runner.val chan.val 2)
/-- PREFETCH (R280): the rows are fetched and nothing is written. -/
def execPrefetchJob (runner : StackIx) (chan : Fin 64) (s : State) : Res := .next (s.runnerJob runner.val chan.val 3)

/-- The record of a job goes into its slot. -/
def State.putRecord (s : State) (unit ch : Nat) (j : RunJob) (status : Nat) : State :=
  (s.agentWrite (s.chanAgent unit ch 0#16) ((s.chan unit ch).slot j.num + 64) (jobRecord j status s.bell.count) false).1

/-- RUNNER_JOB_DONE (R278, R295): the record is written and DONE moves on; a draft job's wait until it is committed. -/
def execRunnerJobDone (runner : StackIx) (chan : Fin 64) (s : State) : Res :=
  let u := runner.val
  let c := chan.val
  match (s.chan u c).run with
  | none => .next s
  | some j =>
    if !j.ended ∨ (j.status ≠ 0 ∧ j.status ≠ 6) then .next s
    else if j.mask ≠ 0#16 then .next s.waits
    else .next ((s.putRecord u c j j.status).chanDone u c (j.num + 1))

/-- RUNNER_HALT (R299): the record of the halted job is written and the channel shows HALTED. -/
def execRunnerHalt (runner : StackIx) (chan : Fin 64) (s : State) : Res :=
  let u := runner.val
  let c := chan.val
  match (s.chan u c).run with
  | none => .next s
  | some j =>
    if !j.ended ∨ j.status = 0 ∨ j.status = 6 ∨ (s.chan u c).st = 3 then .next s
    else if j.mask ≠ 0#16 then .next s.waits
    else
      let s1 := { s with fabric := { s.fabric with
        runners := Tab.modify Runner.blank s.fabric.runners u (fun y => { y with halts := y.halts + 1 }) } }
      .next ((s1.putRecord u c j j.status).chanState u c 3)

/-! ## Commit (R296) -/

/-- The held output of a committed job goes out in order as accesses with an empty mask; none: a request must wait. -/
def flushHeld (g : Agent) : List HeldOut → State → Nat → State × List HeldOut × Nat
  | [], s, f => (s, [], f)
  | o :: r, s, f =>
    let x := o.perform g s
    match x.2.1 with
    | .wait => (s, o :: r, f)
    | _ => flushHeld g r x.1 (f ||| x.2.2)

/-- A channel at a COMMIT of mask `c`. -/
def State.chanCommit (c : Half) (s : State) (unit ch : Nat) : State :=
  let s1 := s.onChan unit ch (fun x => x.commit c)
  match (s1.chan unit ch).run with
  | none => s1.chanSettle unit ch
  | some j =>
    let m := j.mask &&& ~~~c
    if m = 0#16 then
      let x := flushHeld (s1.chanAgent unit ch 0#16) j.held s1 j.flags
      (x.1.onChan unit ch (fun y => { y with run := some { j with mask := m, held := x.2.1, flags := x.2.2 } })).chanSettle unit ch
    else s1.onChan unit ch (fun y => { y with run := some { j with mask := m } })

/-- Every bound channel of the runners at a COMMIT. -/
def State.runnersCommit (s : State) (c : Half) : State :=
  s.fabric.chans.foldl (fun s e => if e.2.bound && decide (e.1 < 16 * 256) then s.chanCommit c (e.1 / 256) (e.1 % 256) else s) s

/-- Every bound channel at a CANCEL (R297). -/
def State.chansCancel (s : State) (c : Half) : State :=
  s.fabric.chans.foldl (fun s e =>
    if e.2.bound then (s.onChan (e.1 / 256) (e.1 % 256) (fun x => x.cancel c)).chanSettle (e.1 / 256) (e.1 % 256) else s) s

end Sys2Proof.Machine
end

