-- ==== Sys2Proof/Machine/TrayOps.lean ====
section
/-!
DEFINITION. What every tray instruction shares (chapter 05, R169 to R174): lane registers with their poison bits
(R128), predicates, fetch, the traps of Table 5-12, the mask stack (R133 to R136), the register block (Table 6-13).
-/

namespace Sys2Proof.Machine
open Sys2Proof

/-! ## Trays -/

def Core.tray (x : Core) (slot : Nat) : Tray := Tab.get Tray.blank x.trays slot
def State.setTray (s : State) (c slot : Nat) (t : Tray) : State :=
  s.onCore c (fun x => { x with trays := Tab.set Tray.blank x.trays slot t })

/-- The launch a tray belongs to. -/
def Core.launchOf (x : Core) (t : Tray) : Option Launch := x.launches.find? (fun l => l.id = t.launch)

/-- The mask of the launch a tray belongs to. -/
def Core.launchMask (x : Core) (t : Tray) : Half := match x.launchOf t with | some l => l.taint | none => 0#16

def Tray.lanes (t : Tray) : List Nat := (List.range t.width).filter (fun l => t.active.getLsbD l)

def Tray.reg (t : Tray) (lane r : Nat) : Word := Tab.get 0#32 t.regs (lane * 64 + r)
def Tray.poisoned (t : Tray) (lane r : Nat) : Bool := Tab.get false t.poison (lane * 64 + r)
def Tray.setReg (t : Tray) (lane r : Nat) (w : Word) (poison : Bool) : Tray :=
  { t with
    regs := Tab.set 0#32 t.regs (lane * 64 + r) w
    poison := Tab.set false t.poison (lane * 64 + r) poison }

/-- A register pair: the even register holds bits [31:0]. -/
def Tray.pair (t : Tray) (lane r : Nat) : DWord := t.reg lane (r + 1) ++ t.reg lane r
def Tray.setPair (t : Tray) (lane r : Nat) (w : DWord) (poison : Bool) : Tray :=
  (t.setReg lane r (w.extractLsb' 0 32) poison).setReg lane (r + 1) (w.extractLsb' 32 32) poison

def Tray.pred (t : Tray) (lane q : Nat) : Bool := (Tab.get 0#8 t.preds lane).getLsbD q
def Tray.setPred (t : Tray) (lane q : Nat) (b : Bool) : Tray :=
  let old := Tab.get 0#8 t.preds lane
  let bit := BitVec.ofNat 8 (2 ^ q)
  { t with preds := Tab.set 0#8 t.preds lane (if b then old ||| bit else old &&& ~~~bit) }

/-- GLANE of a lane (R174). -/
def Tray.glaneOf (t : Tray) (lane : Nat) : Nat :=
  match Tab.get 0 t.glane lane with
  | 0 => t.trayix * t.width + lane
  | g + 1 => g

/-! ## Status bits of Table 5-11 -/

def tSat : Nat := 1
def tDivz : Nat := 2
def tOvf : Nat := 4
def tInv : Nat := 8
def tSpill : Nat := 0x10
def tLivelock : Nat := 0x20
def tTainted : Nat := 0x40
def tPoison : Nat := 0x80
def tLimit : Nat := 0x100
def tRecovered : Nat := 0x200
def tLockleak : Nat := 0x400
def tCancelled : Nat := 0x800
def tStale : Nat := 0x1000

/-- Sets bits of TSTAT. -/
def State.tflags (s : State) (c fl : Nat) : State :=
  s.onCore c (fun x => { x with tstat := x.tstat ||| BitVec.ofNat 32 (fl % 2 ^ 28) })

/-- LASTSLOT. -/
def State.lastSlot (s : State) (c slot : Nat) : State :=
  s.onCore c (fun x => { x with tstat := BitVec.ofNat 32 (x.tstat.toNat % 2 ^ 28 + slot % 16 * 2 ^ 28) })

def FpRes.tflags (r : FpRes) : Nat :=
  (if r.sat then tSat else 0) + (if r.divz then tDivz else 0) + (if r.ovf then tOvf else 0) + (if r.inv then tInv else 0)

/-- A tray takes masks of draft epochs (R160). -/
def State.trayTaint (s : State) (c slot : Nat) (m : Half) : State :=
  if m = 0#16 then s
  else
    let t := (s.core c).tray slot
    (s.setTray c slot { t with taint := t.taint ||| m }).tflags c tTainted

/-- A tray trap (R164): the tray stops where it is. -/
def State.trayTrap (s : State) (c slot code : Nat) (poison : Bool) (addr : Nat) : State :=
  let t := (s.core c).tray slot
  let s1 := s.pushTrap c (trapRecord code c unitTray slot poison (t.taint ≠ 0#16) t.pc addr)
  let s2 := s1.setTray c slot { t with trap := code, trapAddr := addr }
  (s2.onCore c (fun x => { x with outTraps := x.outTraps ++ [(unitTray, slot, code)] })).lastSlot c slot

/-! ## Issue -/

/-- The environment of a tray. -/
def State.trayEnv (s : State) (c slot : Nat) : Env :=
  let x := s.core c
  let t := x.tray slot
  let l := x.launchOf t
  ⟨c, match l with | some l => l.ctx | none => 0, t.taint, x.task.cls, x.task.deadline, false, 0,
   match l with | some l => l.strict | none => false⟩

/-- The tray can issue an instruction: resident, not trapped, not held (R129, R157, R164, R172). -/
def Tray.ready (t : Tray) : Bool :=
  t.present && decide (t.trap = 0) && t.wait.isNone && t.pack.isNone && !t.ending

/-- One instruction of a tray (R129, R137, R158, R169, R197, R207): the fetch at its program counter, then `k`. -/
def State.trayDo (s : State) (c slot : Nat) (k : State → State) : State :=
  let x := s.core c
  let t := x.tray slot
  if !t.ready then s.waits
  else
    let s0 := s.trayTaint c slot (x.launchMask t)
    match t.faultNext with
    | some a => (s0.setTray c slot { (s0.core c).tray slot with faultNext := none }).trayTrap c slot 0x22 false a
    | none =>
      if t.pc + 8 > benchSize then s0.trayTrap c slot 0x22 false t.pc
      else if t.pc % 8 ≠ 0 then s0.trayTrap c slot 0x20 false 0
      else
        let f := s0.benchRead c t.pc 8
        if f.2.2.2 then f.1.trayTrap c slot 0x20 true t.pc
        else k (f.1.trayTaint c slot f.2.2.1)

/-- The instruction is complete: the program counter moves on. -/
def Tray.next (t : Tray) : Tray := { t with pc := t.pc + 8 }

/-- The instruction has completed with one of the events of R154. -/
def Tray.cleared (t : Tray) : Tray := { t with progress := 0 }

/-! ## Fields of the formats (Tables 6-2 to 6-4), from bit 53 down -/

def iD (p : BitVec 54) : Nat := bits 53 48 p
def iA (p : BitVec 54) : Nat := bits 47 42 p
def iB (p : BitVec 54) : Nat := bits 41 36 p
def iQ (p : BitVec 54) : Nat := bits 35 33 p
def iImm (p : BitVec 54) : Bool := bitAt p 32
def iImm32 (p : BitVec 54) : Word := BitVec.ofNat 32 (bits 31 0 p)
def iC (p : BitVec 54) : Nat := bits 31 26 p
def iFmt (p : BitVec 54) : Nat := bits 25 22 p

/-- A register index, or pair, that the instruction may not name (R169). -/
def regBad (t : Tray) (pair : Bool) (r : Nat) : Bool := decide (r ≥ t.nreg) || (pair && decide (r % 2 ≠ 0))

/-- Some active lane holds poison in one of the registers (R128). -/
def Tray.anyPoison (t : Tray) (regs : List Nat) : Bool := t.lanes.any (fun l => regs.any (fun r => t.poisoned l r))

/-- A register and, for a pair, its other half. -/
def pairRegs (pair : Bool) (r : Nat) : List Nat := if pair then [r, r + 1] else [r]

/-! ## Format A -/

/-- What an instruction of format A takes: 64-bit pairs, number of source registers, whether it writes a predicate,
whether an immediate is allowed. -/
structure ASpec where
  pair : Bool
  nsrc : Nat
  toPred : Bool
  immOk : Bool

/-- The instruction is illegal (R169, R170). -/
def ASpec.bad (a : ASpec) (t : Tray) (p : BitVec 54) : Bool :=
  (!iImm p && decide (bits 21 0 p ≠ 0)) || (iImm p && !a.immOk)
  || (!a.toPred && regBad t a.pair (iD p))
  || (decide (a.nsrc ≥ 1) && regBad t a.pair (iA p))
  || (decide (a.nsrc ≥ 2) && !iImm p && regBad t a.pair (iB p))
  || (decide (a.nsrc ≥ 3) && regBad t a.pair (iC p))

/-- Registers the instruction reads. -/
def ASpec.sources (a : ASpec) (p : BitVec 54) : List Nat :=
  (if a.nsrc ≥ 1 then pairRegs a.pair (iA p) else []) ++ (if a.nsrc ≥ 2 ∧ ¬ iImm p then pairRegs a.pair (iB p) else [])
    ++ (if a.nsrc ≥ 3 then pairRegs a.pair (iC p) else [])

/-- One lane's step: the tray after it and the status bits so far. -/
def laneStep (f : Tray → Nat → Tray × Nat) (r : Tray × Nat) (l : Nat) : Tray × Nat := ((f r.1 l).1, r.2 ||| (f r.1 l).2)

/-- `f` in every active lane, from the lowest up. -/
def Tray.eachLane (t : Tray) (f : Tray → Nat → Tray × Nat) : Tray × Nat := t.lanes.foldl (laneStep f) (t, 0)

/-- Checks an instruction of format A and runs `f` in every active lane; `f` gives the tray after the lane and the
status bits it raised. -/
def State.formatA (s : State) (c slot : Nat) (p : BitVec 54) (a : ASpec) (f : Tray → Nat → Tray × Nat) : State :=
  s.trayDo c slot (fun s =>
    let t := (s.core c).tray slot
    if a.bad t p then s.trayTrap c slot 0x20 false 0
    else if t.anyPoison (a.sources p) then s.trayTrap c slot 0x22 true 0
    else
      let r := t.eachLane f
      (s.setTray c slot r.1.next).tflags c r.2)

/-- Source b of a 32-bit operation. -/
def Tray.srcB (t : Tray) (lane : Nat) (p : BitVec 54) : Word := if iImm p then iImm32 p else t.reg lane (iB p)
/-- Source b of a 64-bit operation: an immediate is taken as two's complement. -/
def Tray.srcB64 (t : Tray) (lane : Nat) (p : BitVec 54) : DWord :=
  if iImm p then (iImm32 p).signExtend 64 else t.pair lane (iB p)

/-- A 32-bit operation of two sources into D. -/
def State.op32 (s : State) (c slot : Nat) (p : BitVec 54) (f : Word → Word → Word) : State :=
  s.formatA c slot p ⟨false, 2, false, true⟩ (fun t l => (t.setReg l (iD p) (f (t.reg l (iA p)) (t.srcB l p)) false, 0))

/-- A 64-bit operation of two pairs into a pair. -/
def State.op64 (s : State) (c slot : Nat) (p : BitVec 54) (f : DWord → DWord → DWord) : State :=
  s.formatA c slot p ⟨true, 2, false, true⟩ (fun t l => (t.setPair l (iD p) (f (t.pair l (iA p)) (t.srcB64 l p)) false, 0))

/-- A 32-bit compare into Q. -/
def State.cmp32 (s : State) (c slot : Nat) (p : BitVec 54) (f : Word → Word → Bool) : State :=
  s.formatA c slot p ⟨false, 2, true, true⟩ (fun t l => (t.setPred l (iQ p) (f (t.reg l (iA p)) (t.srcB l p)), 0))

/-- A 64-bit compare into Q. -/
def State.cmp64 (s : State) (c slot : Nat) (p : BitVec 54) (f : DWord → DWord → Bool) : State :=
  s.formatA c slot p ⟨true, 2, true, true⟩ (fun t l => (t.setPred l (iQ p) (f (t.pair l (iA p)) (t.srcB64 l p)), 0))

/-- A combination of predicates into Q; an immediate stands for predicate b by its bit 0. -/
def State.opPred (s : State) (c slot : Nat) (p : BitVec 54) (f : Bool → Bool → Bool) : State :=
  s.formatA c slot p ⟨false, 0, true, true⟩ (fun t l =>
    (t.setPred l (iQ p) (f (t.pred l (iA p % 8)) (if iImm p then (iImm32 p).getLsbD 0 else t.pred l (iB p % 8))), 0))

/-- An FP32 operation of one or two sources with its flags (R131). -/
def State.fp1 (s : State) (c slot : Nat) (p : BitVec 54) (f : Word → FpRes) : State :=
  s.formatA c slot p ⟨false, 1, false, true⟩ (fun t l =>
    let r := f (t.reg l (iA p)); (t.setReg l (iD p) r.val false, r.tflags))
def State.fp2 (s : State) (c slot : Nat) (p : BitVec 54) (f : Word → Word → FpRes) : State :=
  s.formatA c slot p ⟨false, 2, false, true⟩ (fun t l =>
    let r := f (t.reg l (iA p)) (t.srcB l p); (t.setReg l (iD p) r.val false, r.tflags))

/-! ## The mask stack (R133, R134, R136) -/

/-- The spill area of a slot (R126). -/
def Launch.spillArea (l : Launch) (slot : Nat) : Nat := l.spill + slot * (l.dmax - 16) * 16

def maskBytes (e : MaskEntry) : List Byte :=
  leBytes 16 (e.mask.toNat * 2 ^ 64 + (if e.join then 2 else 1) * 2 ^ 62 + e.pc % 2 ^ 32)

def maskOfBytes (bs : List Byte) : MaskEntry :=
  let v := leNat bs
  ⟨BitVec.ofNat 64 (v / 2 ^ 64), decide (v / 2 ^ 62 % 4 = 2), v % 2 ^ 32⟩

/-- Pushes an entry; the oldest of 16 spills to the bench. None: the stack is at DMAX. -/
def State.maskPush (s : State) (c slot : Nat) (l : Launch) (e : MaskEntry) : Option State :=
  let t := (s.core c).tray slot
  if t.stack.length + t.spilled ≥ l.dmax then none
  else if t.stack.length ≥ 16 then
    match t.stack.getLast? with
    | none => none
    | some old =>
      let s1 := (s.benchWrite c (l.spillArea slot + 16 * t.spilled) (maskBytes old) t.taint false).tflags c tSpill
      some (s1.setTray c slot { t with stack := e :: t.stack.dropLast, spilled := t.spilled + 1 })
  else some (s.setTray c slot { t with stack := e :: t.stack })

/-- Pops the top entry; the youngest spilled entry fills the stack again. -/
def State.maskPop (s : State) (c slot : Nat) (l : Launch) : Option (State × MaskEntry) :=
  let t := (s.core c).tray slot
  match t.stack with
  | [] => none
  | e :: r =>
    if t.spilled = 0 then some (s.setTray c slot { t with stack := r }, e)
    else
      let f := s.benchRead c (l.spillArea slot + 16 * (t.spilled - 1)) 16
      some ((f.1.setTray c slot { t with stack := r ++ [maskOfBytes f.2.1], spilled := t.spilled - 1 }).trayTaint c slot f.2.2.1, e)

/-- Every lane of the tray. -/
def allLanes (width : Nat) : DWord := BitVec.ofNat 64 (2 ^ width - 1)

/-- `pop_and_continue` of R134: the tray continues at the first entry with a live lane, ends when all lanes have exited,
or underflows (none). -/
def State.popContinue (c slot : Nat) (l : Launch) : Nat → State → Option State
  | 0, _ => none
  | fuel + 1, s =>
    match s.maskPop c slot l with
    | none =>
      let t := (s.core c).tray slot
      if t.exited = allLanes t.width then some (s.setTray c slot { t with ending := true, active := 0#64 }) else none
    | some (s1, e) =>
      let t := (s1.core c).tray slot
      let a := e.mask &&& ~~~t.exited
      if a = 0#64 then State.popContinue c slot l fuel s1 else some (s1.setTray c slot { t with active := a, pc := e.pc })

/-! ## The register block (Tables 6-13 and 6-14) -/

def Core.sstat (x : Core) : Word :=
  BitVec.ofNat 32 (x.seqState * 2 ^ 28 + x.lastCode % 256 * 2 ^ 20 + x.qfull % 4096 / 256 * 256
    + (if x.crcErr then 4 else 0) + (if x.fetchErr then 2 else 0) + (if x.malf then 1 else 0))

/-- A 32-bit read of the register block at a byte offset of it. -/
def Core.regBlock (x : Core) (off : Nat) : Word :=
  if off < 0x10 then x.bankStatus (off / 4)
  else if off = 0x10 then x.vstat
  else if off = 0x14 then x.tstat
  else if off = 0x18 then x.sstat
  else if off = 0x1C then BitVec.ofNat 32 x.phase
  else if 0x20 ≤ off ∧ off < 0x30 then
    let i := 2 * ((off - 0x20) / 4)
    BitVec.ofNat 32 (Tab.get 0 x.sc i + 65536 * Tab.get 0 x.sc (i + 1))
  else if off = 0x30 then BitVec.ofNat 32 x.stalecnt
  else if 0x40 ≤ off ∧ off < 0x50 then BitVec.ofNat 32 (x.lastTrap.toNat / 2 ^ (8 * (off - 0x40)))
  else 0#32

/-- A 32-bit store to the register block: only W1C fields change (R194). -/
def Core.regBlockWrite (x : Core) (off : Nat) (w : Word) : Core :=
  if off < 0x10 then { x with bstat := Tab.modify 0#32 x.bstat (off / 4) (fun b => b &&& ~~~(w &&& 0xF#32)) }
  else if off = 0x10 then { x with vstat := x.vstat &&& ~~~(w &&& 0x1FF#32) }
  else if off = 0x14 then { x with tstat := x.tstat &&& ~~~(w &&& 0x1FFF#32) }
  else if off = 0x18 then
    { x with
      crcErr := x.crcErr && !w.getLsbD 2
      fetchErr := x.fetchErr && !w.getLsbD 1
      malf := x.malf && !w.getLsbD 0 }
  else x

end Sys2Proof.Machine
end

