-- ==== Sys2Proof/Machine/TrayMem.lean ====
section
/-!
DEFINITION. The memory instructions of a tray (class 0x5, R137 to R140, R171, R245, R247, R251).
-/

namespace Sys2Proof.Machine
open Sys2Proof

/-! ## Format M (Table 6-3) -/

def mSp (p : BitVec 54) : Bool := bitAt p 29
def mSize (p : BitVec 54) : Nat := bits 28 27 p
def mSx (p : BitVec 54) : Bool := bitAt p 26
def mScope (p : BitVec 54) : Nat := bits 21 20 p
def mOff (p : BitVec 54) : Int := sext 20 (bits 19 0 p)
def mBytes (p : BitVec 54) : Nat := 2 ^ mSize p

/-- A word of 64-bit size takes a pair. -/
def mPair (p : BitVec 54) : Bool := decide (mSize p = 3)

/-- The effective address of a lane (R171); a bench address below zero lies outside every space. -/
def Tray.ea (t : Tray) (lane : Nat) (p : BitVec 54) : Nat :=
  if mSp p then ((((t.pair lane (iA p)).toNat : Int) + mOff p) % 2 ^ 64).toNat
  else
    let a := ((t.reg lane (iA p)).toNat : Int) + mOff p
    if a < 0 then 2 ^ 32 else a.toNat

/-- The address register, or pair, is one the instruction may not name. -/
def mAddrBad (t : Tray) (p : BitVec 54) : Bool := regBad t (mSp p) (iA p)
def mAddrRegs (p : BitVec 54) : List Nat := pairRegs (mSp p) (iA p)

/-- The first active lane whose address is not aligned to `n`. -/
def Tray.misaligned (t : Tray) (p : BitVec 54) (n : Nat) : Option Nat :=
  (t.lanes.map (fun l => t.ea l p)).find? (fun a => decide (a % n ≠ 0))

def regBlockBase : Nat := 0x80000
def inRegBlock (a : Nat) : Bool := decide (regBlockBase ≤ a ∧ a < regBlockBase + 0x100)

/-- The first active lane whose bench address no access of this kind reaches (R194): the register block takes only
32-bit loads and stores. -/
def Tray.benchFault (t : Tray) (p : BitVec 54) (n : Nat) (block : Bool) : Option Nat :=
  if mSp p then none
  else (t.lanes.map (fun l => t.ea l p)).find? (fun a =>
    decide (a + n > benchSize) && !(block && inRegBlock a && decide (n = 4)))

/-- Checks common to memory instructions, in order: `illegal`, poisoned sources (R128), alignment, bench addresses. -/
def State.memDo (s : State) (c slot : Nat) (p : BitVec 54) (n : Nat) (illegal : Tray → Bool) (srcs : List Nat)
    (block : Bool) (k : Tray → State → State) : State :=
  s.trayDo c slot (fun s =>
    let t := (s.core c).tray slot
    if illegal t then s.trayTrap c slot 0x20 false 0
    else if t.anyPoison srcs then s.trayTrap c slot 0x22 true 0
    else
      match t.misaligned p n with
      | some a => s.trayTrap c slot 0x21 false a
      | none =>
        match t.benchFault p n block with
        | some a => s.trayTrap c slot 0x22 false a
        | none => k t s)

/-- Distinct sectors of addresses, first met first. -/
def sectorsOf : List Nat → List Nat
  | [] => []
  | a :: r => let q := sectorsOf r; if q.contains (a / 32 * 32) then (a / 32 * 32) :: q.filter (· ≠ a / 32 * 32) else (a / 32 * 32) :: q

/-! ## Loads -/

/-- Sectors read so far: each with its bytes and marks; the union of masks, whether one was stale. -/
structure SecRead where
  s : State
  st : AccSt
  got : List (Nat × List Byte × List Bool)
  taint : Half
  stale : Bool

/-- One request for one sector (R138). -/
def SecRead.step (e : Env) (va : Bool) (r : SecRead) (a : Nat) : SecRead :=
  match r.st with
  | .ok =>
    let x := r.s.unitRead e va a 32
    ⟨x.s, x.st, r.got ++ [(a, x.bytes, x.marks)], r.taint ||| x.taint, r.stale || x.stale⟩
  | _ => r

/-- The `n` bytes at `a` and whether one carries a poison tag. -/
def SecRead.at (r : SecRead) (a n : Nat) : Nat × Bool :=
  match r.got.find? (fun g => g.1 = a / 32 * 32) with
  | none => (0, false)
  | some g => (leNat ((g.2.1.drop (a % 32)).take n), ((g.2.2.drop (a % 32)).take n).any id)

/-- A loaded value in D: sign- or zero-extended, with its poison bit (R128, R171). -/
def Tray.loadReg (t : Tray) (lane : Nat) (p : BitVec 54) (v : Nat) (poison : Bool) : Tray :=
  match mSize p with
  | 0 => t.setReg lane (iD p) (if mSx p then BitVec.ofInt 32 (sext 8 v) else BitVec.ofNat 32 v) poison
  | 1 => t.setReg lane (iD p) (if mSx p then BitVec.ofInt 32 (sext 16 v) else BitVec.ofNat 32 v) poison
  | 2 => t.setReg lane (iD p) (BitVec.ofNat 32 v) poison
  | _ => t.setPair lane (iD p) (BitVec.ofNat 64 v) poison

/-- The reads of a load: one request for each sector named, none for the register block. -/
def State.loadRun (s : State) (c slot : Nat) (p : BitVec 54) (ldl : Bool) : SecRead :=
  (sectorsOf ((((s.core c).tray slot).lanes.map (fun l => ((s.core c).tray slot).ea l p)).filter (fun a => mSp p || !inRegBlock a))).foldl
    (SecRead.step { s.trayEnv c slot with ldl := ldl } (mSp p)) ⟨s, .ok, [], 0#16, false⟩

/-- What a load finds at an address: the value and whether it carries a poison tag. -/
def SecRead.value (r : SecRead) (x : Core) (p : BitVec 54) (a : Nat) : Nat × Bool :=
  if !mSp p && inRegBlock a then ((x.regBlock (a - regBlockBase)).toNat, false) else r.at a (mBytes p)

/-- A load, with the last-use hint or without (R137, R138, R140, R245, R247). -/
def State.load (s : State) (c slot : Nat) (p : BitVec 54) (ldl : Bool) : State :=
  s.memDo c slot p (mBytes p) (fun t => mAddrBad t p || regBad t (mPair p) (iD p)) (mAddrRegs p) true (fun t s =>
    let r := s.loadRun c slot p ldl
    match r.st with
    | .wait => s.waits
    | .cancelled => s.waits
    | .fault a => r.s.trayTrap c slot 0x22 false a
    | .stale a => r.s.trayTrap c slot 0x27 false a
    | .ok =>
      let s1 := r.s.trayTaint c slot r.taint
      let x := s1.core c
      let t1 := t.lanes.foldl (fun u l => let y := r.value x p (t.ea l p); u.loadReg l p y.1 y.2) (x.tray slot)
      (s1.setTray c slot t1.next).tflags c
        ((if t.lanes.any (fun l => (r.value x p (t.ea l p)).2) then tPoison else 0) + (if r.stale then tStale else 0)))

/-- LD (R137, R138). -/
def execTLd (core : CoreIx) (slot : Fin 16) (p : BitVec 54) (s : State) : Res := .next (s.load core.val slot.val p false)

/-- LDL (R245): a load whose every sector is at its last use. -/
def execTLdl (core : CoreIx) (slot : Fin 16) (p : BitVec 54) (s : State) : Res := .next (s.load core.val slot.val p true)

/-! ## Stores -/

/-- The bytes that a store writes, lane by lane in ascending order: address and byte (R138). -/
def Tray.storeBytes (t : Tray) (p : BitVec 54) : List (Nat × Byte) :=
  t.lanes.flatMap (fun l =>
    let v := if mPair p then (t.pair l (iD p)).toNat else (t.reg l (iD p)).toNat
    (leBytes (mBytes p) v).zipIdx.map (fun b => (t.ea l p + b.2, b.1)))

/-- The requests of a store: one for each sector named, none for the register block. -/
def State.storeRun (s : State) (c slot : Nat) (p : BitVec 54) : State × AccSt :=
  let mem := (((s.core c).tray slot).storeBytes p).filter (fun b => mSp p || !inRegBlock b.1)
  (sectorsOf (mem.map (·.1))).foldl (fun (r : State × AccSt) a =>
    match r.2 with
    | .ok => r.1.unitPatch (s.trayEnv c slot) (mSp p) a ((mem.filter (fun b => b.1 / 32 * 32 = a)).map (fun b => (b.1 % 32, b.2)))
    | _ => r) (s, .ok)

/-- The stores that reach the register block: of several lanes at one register the highest-numbered (R138). -/
def Core.storeBlock (x : Core) (t : Tray) (p : BitVec 54) : Core :=
  (t.lanes.filter (fun l => !t.lanes.any (fun m => decide (l < m ∧ t.ea m p = t.ea l p)))).foldl (fun x l => if !mSp p && inRegBlock (t.ea l p) then x.regBlockWrite (t.ea l p - regBlockBase) (t.reg l (iD p)) else x) x

/-- ST (R138, R140, R161): one request per sector; the highest-numbered lane decides a byte. -/
def execTSt (core : CoreIx) (slot : Fin 16) (p : BitVec 54) (s : State) : Res :=
  let c := core.val
  let slot := slot.val
  .next (s.memDo c slot p (mBytes p) (fun t => mAddrBad t p || regBad t (mPair p) (iD p))
    (mAddrRegs p ++ pairRegs (mPair p) (iD p)) true (fun t s =>
      let r := s.storeRun c slot p
      match r.2 with
      | .wait => s.waits
      | .cancelled => s.waits
      | .fault a => r.1.trayTrap c slot 0x22 false a
      | .stale a => r.1.trayTrap c slot 0x27 false a
      | .ok =>
        let s1 := r.1.onCore c (fun x => x.storeBlock t p)
        s1.setTray c slot ((s1.core c).tray slot).next.cleared))

/-! ## Fold-ins and FENCE -/

/-- R251's pairing of format and SIZE. -/
def foldPairOk (fmt size : Nat) : Bool :=
  match fmt with
  | 0xD => decide (size = 2)
  | 0xC => decide (size = 2)
  | 0xE => decide (size = 3)
  | 0xA => decide (size = 1 ∨ size = 2)
  | 0xF => decide (size = 2 ∨ size = 3)
  | _ => false

/-- The operand of a lane. -/
def Tray.foldOperand (t : Tray) (lane : Nat) (p : BitVec 54) : FoldOperand :=
  let w := t.reg lane (iD p)
  match iFmt p, mSize p with
  | 0xD, _ => .int w.toInt
  | 0xA, 1 => .bf16 (w.extractLsb' 0 16)
  | _, 3 => .int (t.pair lane (iD p)).toInt
  | _, _ => .fp32 w

/-- The fold-in requests of a tray, one for each sector named, and the status bits they raised. -/
def State.foldRun (s : State) (c slot : Nat) (p : BitVec 54) : State × AccSt × Nat :=
  let size := fmtBits (iFmt p) / 8
  let ops := ((s.core c).tray slot).lanes.map (fun l => (((s.core c).tray slot).ea l p, ((s.core c).tray slot).foldOperand l p))
  (sectorsOf (ops.map (·.1))).foldl (fun (r : State × AccSt × Nat) a =>
    match r.2.1 with
    | .ok =>
      let x := r.1.unitFold (s.trayEnv c slot) a (iFmt p) ((ops.filter (fun o => o.1 / 32 * 32 = a)).map (fun o => (o.1 % 32 / size, o.2)))
      (x.1, x.2.1, r.2.2 ||| ((if x.2.2.flags.sat then tSat else 0) + (if x.2.2.flags.nan || x.2.2.refused then tInv else 0)))
    | _ => r) (s, .ok, 0)

/-- FOLD (R251, R253): the lanes that name one sector form one request, applied in ascending lane order. A bench
address is no market line. -/
def execTFold (core : CoreIx) (slot : Fin 16) (p : BitVec 54) (s : State) : Res :=
  let c := core.val
  let slot := slot.val
  .next (s.memDo c slot p (fmtBits (iFmt p) / 8)
    (fun t => mAddrBad t p || !foldPairOk (iFmt p) (mSize p) || regBad t (mPair p) (iD p))
    (mAddrRegs p ++ pairRegs (mPair p) (iD p)) false (fun t s =>
      if !mSp p then s.trayTrap c slot 0x22 false (match t.lanes with | l :: _ => t.ea l p | [] => 0)
      else
        let r := s.foldRun c slot p
        match r.2.1 with
        | .wait => s.waits
        | .cancelled => s.waits
        | .fault a => r.1.trayTrap c slot 0x22 false a
        | .stale a => r.1.trayTrap c slot 0x27 false a
        | .ok => (r.1.setTray c slot ((r.1.core c).tray slot).next.cleared).tflags c r.2.2))

/-- FENCE (R139): every earlier access of the tray is visible already, so it completes at once. -/
def execTrayFence (core : CoreIx) (slot : Fin 16) (p : BitVec 54) (s : State) : Res :=
  .next (s.trayDo core.val slot.val (fun s =>
    let t := (s.core core.val).tray slot.val
    if mScope p = 3 then s.trayTrap core.val slot.val 0x20 false 0 else s.setTray core.val slot.val t.next))

end Sys2Proof.Machine
end

