-- ==== Sys2Proof/Machine/TrayAtom.lean ====
section
/-!
DEFINITION. Atomics (R141 to R143) and locks (R144 to R153) of a tray.
-/

namespace Sys2Proof.Machine
open Sys2Proof

/-! ## One word at the stall or the bench port -/

/-- A word before a request: its value and whether it carries a poison tag. -/
structure WordRes where
  s : State
  st : AccSt
  old : Nat
  poison : Bool
  taint : Half

/-- Replaces the `n`-byte word at byte `off` of a sector by `f` of it. -/
def sectorUpdate (off n : Nat) (f : Nat → Nat) (d : BitVec 256) : BitVec 256 :=
  patchSector off (leBytes n (f (leNat (sliceSector off n d)))) d

/-- One atomic request to the word at `a`, updated by `f` (R141, R404): it never counts as a use. -/
def State.atomicWord (s : State) (e : Env) (va : Bool) (a n : Nat) (f : Nat → Nat) : WordRes :=
  if va then
    let t := s.translate (s.coreWho e.core) e.ctx a true
    match t.2 with
    | .fault _ => ⟨t.1, .fault a, 0, false, 0#16⟩
    | .ok phys attr own =>
      let r := t.1.modifySector (attrAcc attr own phys (s.envAcc e)) (phys / 32) true (sectorUpdate (phys % 32) n f)
      match r.2.1 with
      | .ok => ⟨r.1.staleBy e.core r.2.2.stale, .ok, leNat (sliceSector (phys % 32) n r.2.2.data), r.2.2.poison, r.2.2.taint⟩
      | .wait => ⟨s, .wait, 0, false, 0#16⟩
      | .fault => ⟨r.1, .fault a, 0, false, 0#16⟩
      | .cancelled => ⟨r.1, .cancelled, 0, false, 0#16⟩
  else
    let r := s.benchRead e.core a n
    let old := leNat r.2.1
    if r.2.2.2 then ⟨r.1, .ok, old, true, r.2.2.1⟩
    else ⟨r.1.benchWrite e.core a (leBytes n (f old)) e.taint false, .ok, old, false, r.2.2.1⟩

/-- What an ATOM has done over the words it names: returns by lane (lane, value, poison). -/
structure AtomAcc where
  s : State
  st : AccSt
  rets : List (Nat × Nat × Bool)
  taint : Half

/-- Distinct word addresses. -/
def wordsNamed : List Nat → List Nat
  | [] => []
  | a :: r => a :: (wordsNamed r).filter (· ≠ a)

/-- The lanes of one word: `step l v` gives the word after lane `l`, from the value its step finds (R142). -/
def chain (step : Nat → Nat → Nat) : Nat → List Nat → List (Nat × Nat)
  | _, [] => []
  | v, l :: r => (l, v) :: chain step (step l v) r

def chainEnd (step : Nat → Nat → Nat) (v : Nat) (ls : List Nat) : Nat := ls.foldl (fun v l => step l v) v

/-- The requests of an ATOM (R142): for every word one; each lane returns the word's value just before its own step. -/
def State.atomRun (s : State) (c slot : Nat) (p : BitVec 54) (step : Tray → Nat → Nat → Nat) : AtomAcc :=
  let t := (s.core c).tray slot
  (wordsNamed (t.lanes.map (fun l => t.ea l p))).foldl (fun (r : AtomAcc) a =>
    match r.st with
    | .ok =>
      let ls := t.lanes.filter (fun l => t.ea l p = a)
      let x := r.s.atomicWord (s.trayEnv c slot) (mSp p) a (mBytes p) (fun v => chainEnd (step t) v ls)
      match x.st with
      | .ok =>
        let rets := if x.poison then ls.map (fun l => (l, x.old, true)) else (chain (step t) x.old ls).map (fun y => (y.1, y.2, false))
        ⟨x.s, .ok, r.rets ++ rets, r.taint ||| x.taint⟩
      | st => { r with s := x.s, st := st }
    | _ => r) ⟨s, .ok, [], 0#16⟩

/-- Results by lane in D. -/
def Tray.atomResults (t : Tray) (p : BitVec 54) (rets : List (Nat × Nat × Bool)) : Tray :=
  rets.foldl (fun u x =>
    if mPair p then u.setPair x.1 (iD p) (BitVec.ofNat 64 x.2.1) x.2.2
    else u.setReg x.1 (iD p) (BitVec.ofNat 32 x.2.1) x.2.2) t

/-- The word of an ATOM is illegal (R141, R171). -/
def atomBad (p : BitVec 54) (fpOnly cas : Bool) (t : Tray) : Bool :=
  decide (mSize p < 2) || (fpOnly && decide (mSize p ≠ 2)) || mAddrBad t p || regBad t (mPair p) (iD p)
    || regBad t (mPair p) (iB p) || (cas && regBad t (mPair p) (iC p))

/-- Registers that an ATOM reads. -/
def atomSources (p : BitVec 54) (cas : Bool) : List Nat :=
  mAddrRegs p ++ pairRegs (mPair p) (iB p) ++ (if cas then pairRegs (mPair p) (iC p) else [])

/-- An ATOM (R142). -/
def State.atom (s : State) (c slot : Nat) (p : BitVec 54) (fpOnly cas : Bool) (step : Tray → Nat → Nat → Nat) : State :=
  s.memDo c slot p (mBytes p) (atomBad p fpOnly cas) (atomSources p cas) false (fun _ s =>
    let r := s.atomRun c slot p step
    match r.st with
    | .wait => s.waits
    | .cancelled => s.waits
    | .fault a => r.s.trayTrap c slot 0x22 false a
    | .stale a => r.s.trayTrap c slot 0x27 false a
    | .ok =>
      let s1 := r.s.trayTaint c slot r.taint
      (s1.setTray c slot (((s1.core c).tray slot).atomResults p r.rets).next.cleared).tflags c
        (if r.rets.any (fun x => x.2.2) then tPoison else 0))

/-- The operand of a lane (B), and the compare value (C). -/
def Tray.atomB (t : Tray) (p : BitVec 54) (l : Nat) : Nat :=
  if mPair p then (t.pair l (iB p)).toNat else (t.reg l (iB p)).toNat
def Tray.atomC (t : Tray) (p : BitVec 54) (l : Nat) : Nat :=
  if mPair p then (t.pair l (iC p)).toNat else (t.reg l (iC p)).toNat

/-- A step that combines the word with the lane's operand, modulo the width. -/
def intStep (p : BitVec 54) (f : Nat → Nat → Nat) (t : Tray) (l v : Nat) : Nat := f v (t.atomB p l) % 2 ^ (8 * mBytes p)

/-- Signed smaller or larger of two words of the width. -/
def signedLess (p : BitVec 54) (a b : Nat) : Bool := decide (sext (8 * mBytes p) a < sext (8 * mBytes p) b)

/-- An FP32 step. -/
def fpStep (p : BitVec 54) (f : Word → Word → Word) (t : Tray) (l v : Nat) : Nat :=
  (f (BitVec.ofNat 32 v) (BitVec.ofNat 32 (t.atomB p l))).toNat

/-- ATOM ADD (R141, R142). -/
def execAtomAdd (core : CoreIx) (slot : Fin 16) (p : BitVec 54) (s : State) : Res :=
  .next (s.atom core.val slot.val p false false (intStep p (fun v b => v + b)))
/-- ATOM MIN, signed. -/
def execAtomMin (core : CoreIx) (slot : Fin 16) (p : BitVec 54) (s : State) : Res :=
  .next (s.atom core.val slot.val p false false (intStep p (fun v b => if signedLess p b v then b else v)))
/-- ATOM MAX, signed. -/
def execAtomMax (core : CoreIx) (slot : Fin 16) (p : BitVec 54) (s : State) : Res :=
  .next (s.atom core.val slot.val p false false (intStep p (fun v b => if signedLess p v b then b else v)))
/-- ATOM MINU. -/
def execAtomMinu (core : CoreIx) (slot : Fin 16) (p : BitVec 54) (s : State) : Res :=
  .next (s.atom core.val slot.val p false false (intStep p (fun v b => if b < v then b else v)))
/-- ATOM MAXU. -/
def execAtomMaxu (core : CoreIx) (slot : Fin 16) (p : BitVec 54) (s : State) : Res :=
  .next (s.atom core.val slot.val p false false (intStep p (fun v b => if v < b then b else v)))
/-- ATOM FMIN: FMIN of R98. -/
def execAtomFmin (core : CoreIx) (slot : Fin 16) (p : BitVec 54) (s : State) : Res :=
  .next (s.atom core.val slot.val p true false (fpStep p fpMin))
/-- ATOM FMAX: FMAX of R98. -/
def execAtomFmax (core : CoreIx) (slot : Fin 16) (p : BitVec 54) (s : State) : Res :=
  .next (s.atom core.val slot.val p true false (fpStep p fpMax))
/-- ATOM AND. -/
def execAtomAnd (core : CoreIx) (slot : Fin 16) (p : BitVec 54) (s : State) : Res :=
  .next (s.atom core.val slot.val p false false (intStep p (fun v b => v &&& b)))
/-- ATOM OR. -/
def execAtomOr (core : CoreIx) (slot : Fin 16) (p : BitVec 54) (s : State) : Res :=
  .next (s.atom core.val slot.val p false false (intStep p (fun v b => v ||| b)))
/-- ATOM XOR. -/
def execAtomXor (core : CoreIx) (slot : Fin 16) (p : BitVec 54) (s : State) : Res :=
  .next (s.atom core.val slot.val p false false (intStep p (fun v b => v ^^^ b)))
/-- XCHG: chained in ascending lane order. -/
def execXchg (core : CoreIx) (slot : Fin 16) (p : BitVec 54) (s : State) : Res :=
  .next (s.atom core.val slot.val p false false (intStep p (fun _ b => b)))
/-- CAS: writes B where the word its step finds equals C. -/
def execCas (core : CoreIx) (slot : Fin 16) (p : BitVec 54) (s : State) : Res :=
  .next (s.atom core.val slot.val p false true (fun t l v => if v = t.atomC p l then t.atomB p l else v))
/-- ATOM FADD: rounded after each lane. -/
def execAtomFadd (core : CoreIx) (slot : Fin 16) (p : BitVec 54) (s : State) : Res :=
  .next (s.atom core.val slot.val p true false (fpStep p fadd32))

/-! ## Locks (R144 to R153) -/

/-- A lock word (Table 5-10). -/
def lkHeld (w : Nat) : Bool := decide (w / 2 ^ 63 % 2 = 1)
def lkIncarn (w : Nat) : Nat := w / 2 ^ 55 % 256
def lkCore (w : Nat) : Nat := w / 2 ^ 47 % 256
def lkSlot (w : Nat) : Nat := w / 2 ^ 43 % 16
def lkLane (w : Nat) : Nat := w / 2 ^ 37 % 64
def lkReserved (w : Nat) : Nat := w / 2 ^ 32 % 32
def lkCount (w : Nat) : Nat := w % 2 ^ 32

def lockWord (incarn core slot lane count : Nat) : Nat :=
  2 ^ 63 + incarn % 256 * 2 ^ 55 + core % 256 * 2 ^ 47 + slot % 16 * 2 ^ 43 + lane % 64 * 2 ^ 37 + count % 2 ^ 32

/-- The market's incarnation count of a logical core (R145). -/
def State.incarnOf (s : State) (core : Nat) : Nat := (s.unitRec ukCore core).incarn % 256

/-- The status LOCK returns for a word and requester, before the table's limit (Table 5-11a). -/
def lockStatus (w core slot lane incarnHolder : Nat) : Nat :=
  if lkReserved w ≠ 0 then 6
  else if !lkHeld w then 0
  else if lkIncarn w ≠ incarnHolder then 7
  else if lkCore w = core ∧ lkSlot w = slot then (if lkLane w = lane then 3 else 2)
  else 1

/-- One lane's LOCK on the word at device-local address `a` (R147, R150): the word after, its status. -/
def State.lockStep (s : State) (c slot lane w : Nat) : Nat × Nat :=
  let st := lockStatus w c slot lane (s.incarnOf (lkCore w))
  if st = 0 ∨ st = 7 then
    if (s.core c).locks.length ≥ 64 then (w, 5)
    else (lockWord (s.incarnOf c) c slot lane (lkCount w + 1), st)
  else (w, st)

/-- The holder is this lane (R147). -/
def lockMine (w c slot lane : Nat) : Bool := lkHeld w && decide (lkCore w = c ∧ lkSlot w = slot ∧ lkLane w = lane)

/-- UNLOCK of one lane. -/
def State.unlockStep (s : State) (c slot lane w : Nat) : Nat × Nat :=
  if lkReserved w ≠ 0 then (w, 6)
  else if lockMine w c slot lane && decide (lkIncarn w = s.incarnOf c) then (lkCount w, 0)
  else (w, 1)

/-- The table after a status: an acquisition adds an entry, a release removes it (R150). -/
def lockTable (lock : Bool) (st a slot lane : Nat) (l : List LockRec) : List LockRec :=
  if lock then (if st = 0 ∨ st = 7 then l ++ [⟨a, slot, lane⟩] else l)
  else if st = 0 then l.filter (fun r => !(decide (r.addr = a ∧ r.slot = slot ∧ r.lane = lane)))
  else l

/-- What a LOCK or UNLOCK has done: statuses by lane. -/
structure LockAcc where
  s : State
  st : AccSt
  rets : List (Nat × Nat × Bool)

/-- One lane's LOCK or UNLOCK at its word: never a draft (R151), one atomic access (R148). A poisoned word stays and the
status is a free value with the poison tag (R404). -/
def State.lockLane (lock : Bool) (c slot : Nat) (e : Env) (r : LockAcc) (lane va : Nat) : LockAcc :=
  match r.st with
  | .ok =>
    let t := r.s.translate (r.s.coreWho c) e.ctx va true
    match t.2 with
    | .fault _ => { r with s := t.1, st := .fault va }
    | .ok phys attr own =>
      let acc := attrAcc attr own phys (t.1.envAcc { e with taint := 0#16 })
      let step (w : Nat) : Nat × Nat := if lock then r.s.lockStep c slot lane w else r.s.unlockStep c slot lane w
      let x := t.1.modifySector acc (phys / 32) true (sectorUpdate (phys % 32) 8 (fun w => (step w).1))
      match x.2.1 with
      | .ok =>
        if x.2.2.poison then
          let f := x.1.fresh
          ⟨f.1, .ok, r.rets ++ [(lane, f.2, true)]⟩
        else
          let st := (step (leNat (sliceSector (phys % 32) 8 x.2.2.data))).2
          ⟨(x.1.staleBy c x.2.2.stale).onCore c (fun y => { y with locks := lockTable lock st phys slot lane y.locks }), .ok,
           r.rets ++ [(lane, st, false)]⟩
      | .wait => { r with st := .wait }
      | .fault => { r with s := x.1, st := .fault va }
      | .cancelled => { r with st := .wait }
  | _ => r

/-- What the lanes' LOCKs or UNLOCKs do, in ascending lane order; a LOCK by a tray with a draft mask does nothing (R151). -/
def State.lockRun (s : State) (c slot : Nat) (p : BitVec 54) (lock : Bool) : LockAcc :=
  let t := (s.core c).tray slot
  if lock && decide (t.taint ≠ 0#16) then ⟨s, .ok, t.lanes.map (fun l => (l, 4, false))⟩
  else t.lanes.foldl (fun r l => State.lockLane lock c slot (s.trayEnv c slot) r l (t.ea l p)) ⟨s, .ok, []⟩

/-- An acquisition or a release succeeded (R154). -/
def LockAcc.got (r : LockAcc) (lock : Bool) : Bool := r.rets.any (fun x => !x.2.2 && decide (x.2.1 = 0 ∨ (lock ∧ x.2.1 = 7)))

/-- Status bits that the statuses raise (Table 5-11). -/
def LockAcc.tflags (r : LockAcc) (lock : Bool) : Nat :=
  (if lock && r.rets.any (fun x => !x.2.2 && decide (x.2.1 = 5)) then tLimit else 0)
    + (if lock && r.rets.any (fun x => !x.2.2 && decide (x.2.1 = 7)) then tRecovered else 0)
    + (if r.rets.any (fun x => x.2.2) then tPoison else 0)

/-- LOCK and UNLOCK (R147, R171): statuses into D. -/
def State.lockOp (s : State) (c slot : Nat) (p : BitVec 54) (lock : Bool) : State :=
  s.memDo c slot p 8 (fun t => decide (mSize p ≠ 3) || mAddrBad t p || regBad t false (iD p)) (mAddrRegs p) false (fun t s =>
    if !mSp p then s.trayTrap c slot 0x22 false (match t.lanes with | l :: _ => t.ea l p | [] => 0)
    else
      let r := s.lockRun c slot p lock
      match r.st with
      | .wait => s.waits
      | .cancelled => s.waits
      | .fault a => r.s.trayTrap c slot 0x22 false a
      | .stale a => r.s.trayTrap c slot 0x27 false a
      | .ok =>
        let t1 := r.rets.foldl (fun u x => u.setReg x.1 (iD p) (BitVec.ofNat 32 x.2.1) x.2.2) ((r.s.core c).tray slot)
        (r.s.setTray c slot (if r.got lock then t1.next.cleared else t1.next)).tflags c (r.tflags lock))

/-- LOCK (R147). -/
def execTLock (core : CoreIx) (slot : Fin 16) (p : BitVec 54) (s : State) : Res := .next (s.lockOp core.val slot.val p true)

/-- UNLOCK (R147, R151). -/
def execTUnlock (core : CoreIx) (slot : Fin 16) (p : BitVec 54) (s : State) : Res := .next (s.lockOp core.val slot.val p false)

/-- Releases one lock of the held-lock table (R146, R153): the word becomes free, COUNT kept. None: the market makes it
wait. -/
def State.releaseLock (s : State) (c : Nat) (r : LockRec) : Option State :=
  let x := s.modifySector Acc.plain (r.addr / 32) true (sectorUpdate (r.addr % 32) 8 (fun w => if lkHeld w then lkCount w else w))
  match x.2.1 with
  | .wait => none
  | _ => some (x.1.onCore c (fun y => { y with locks := y.locks.filter (fun q => q ≠ r) }))

/-- Releases every lock that `p` selects. -/
def State.releaseLocks (s : State) (c : Nat) (p : LockRec → Bool) : Option State :=
  ((s.core c).locks.filter p).foldl (fun (o : Option State) r => o.bind (fun s => s.releaseLock c r)) (some s)

end Sys2Proof.Machine
end

