-- ==== Sys2Proof/Machine/TrayCopy.lean ====
section
/-!
DEFINITION. Asynchronous copies of a tray (R156 to R159), split and re-pack (R165 to R167, R172, R174).
-/

namespace Sys2Proof.Machine
open Sys2Proof

/-! ## ACP and WAITA (format Y) -/

def yCtr (p : BitVec 54) : Nat := bits 35 33 p
def ySsp (p : BitVec 54) : Bool := bitAt p 32
def yTsp (p : BitVec 54) : Bool := bitAt p 31
def yM (p : BitVec 54) : Nat := bits 15 0 p

/-- A reserved field of format Y is set. -/
def formatYBad (p : BitVec 54) : Bool := decide (bits 30 19 p ≠ 0) || decide (bits 18 16 p ≠ 0)

/-- Address held in a register, or in a pair for a virtual address. -/
def Tray.addrIn (t : Tray) (lane r : Nat) (va : Bool) : Nat := if va then (t.pair lane r).toNat else (t.reg lane r).toNat

/-- ACP (R156, R157): issued once for the tray from the registers of the lowest active lane; the counter rises. -/
def execAcp (core : CoreIx) (slot : Fin 16) (p : BitVec 54) (s : State) : Res :=
  let c := core.val
  let slot := slot.val
  .next (s.trayDo c slot (fun s =>
    let t := (s.core c).tray slot
    match t.lanes with
    | [] => s.setTray c slot t.next
    | l :: _ =>
      if formatYBad p || regBad t (ySsp p) (iD p) || regBad t (yTsp p) (iA p) || regBad t false (iB p) then
        s.trayTrap c slot 0x20 false 0
      else if (pairRegs (ySsp p) (iD p) ++ pairRegs (yTsp p) (iA p) ++ [iB p]).any (fun r => t.poisoned l r) then
        s.trayTrap c slot 0x22 true 0
      else
        let src := t.addrIn l (iD p) (ySsp p)
        let dst := t.addrIn l (iA p) (yTsp p)
        let n := (t.reg l (iB p)).toNat
        if (ySsp p && yTsp p) || decide (n % 32 ≠ 0 ∨ n < 32 ∨ n > 65536 ∨ src % 32 ≠ 0 ∨ dst % 32 ≠ 0)
            || decide (yCtr p ≥ t.nctr) then s.trayTrap c slot 0x20 false 0
        else if !ySsp p && decide (src + n > benchSize) then s.trayTrap c slot 0x22 false src
        else if !yTsp p && decide (dst + n > benchSize) then s.trayTrap c slot 0x22 false dst
        else
          let id := (s.core c).acpId
          let s1 := s.onCore c (fun x => { x with acpId := x.acpId + 1 })
          s1.setTray c slot { t.next.cleared with
            ctrs := Tab.modify 0 t.ctrs (yCtr p) (· + 1)
            copies := t.copies ++ [⟨id, yCtr p, src, dst, ySsp p, yTsp p, n⟩] }))

/-- One 32-byte unit of an ACP: a poisoned sector is written with its tag (R158). -/
def acpUnit (e : Env) (r : AcpRec) (q : State × AccSt × Half × Bool) (i : Nat) : State × AccSt × Half × Bool :=
  match q.2.1 with
  | .ok =>
    let x := q.1.unitRead e r.srcVa (r.src + 32 * i) 32
    match x.st with
    | .ok =>
      let m := q.2.2.1 ||| x.taint
      let y := x.s.unitWrite { e with taint := m } r.dstVa (r.dst + 32 * i) x.bytes x.poison
      (y.1, y.2, m, q.2.2.2 || x.poison)
    | st => (x.s, st, q.2.2.1, q.2.2.2)
  | _ => q

/-- A tray held in WAITA goes on once its counter is low enough (R157). -/
def Tray.wake (t : Tray) : Tray :=
  match t.wait with
  | some (n, m) => if Tab.get 0 t.ctrs n ≤ m then { t.next.cleared with wait := none } else t
  | none => t

/-- ACP_COMPLETE (R157, R158): the bytes of one copy reach the destination; the counter falls. A fault ends the copy and
traps at the next instruction. -/
def execAcpComplete (core : CoreIx) (slot : Fin 16) (id : Nat) (s : State) : Res :=
  let c := core.val
  let slot := slot.val
  let t := (s.core c).tray slot
  match t.copies.find? (fun r => r.id = id) with
  | none => .next s
  | some r =>
    let e := { s.trayEnv c slot with strict := false }
    let q := (List.range (r.bytes / 32)).foldl (acpUnit e r) (s, .ok, t.taint, false)
    match q.2.1 with
    | .wait => .next s.waits
    | st =>
      let s1 := (q.1.trayTaint c slot (q.2.2.1 &&& ~~~t.taint)).tflags c (if q.2.2.2 then tPoison else 0)
      let u := (s1.core c).tray slot
      let u1 : Tray := { u with
        copies := u.copies.filter (fun y => y.id ≠ id)
        ctrs := Tab.modify 0 u.ctrs r.ctr (fun v => v - 1)
        faultNext := match st with | .fault a => some a | _ => u.faultNext }
      .next (s1.setTray c slot u1.wake)

/-- WAITA (R157): holds the tray until its counter is at most M. -/
def execWaita (core : CoreIx) (slot : Fin 16) (p : BitVec 54) (s : State) : Res :=
  let c := core.val
  .next (s.trayDo c slot.val (fun s =>
    let t := (s.core c).tray slot.val
    if formatYBad p || decide (yCtr p ≥ t.nctr) then s.trayTrap c slot.val 0x20 false 0
    else s.setTray c slot.val { t with wait := some (yCtr p, yM p) }.wake))

/-! ## Split and re-pack -/

/-- A reserved field of format S is set. -/
def formatSBad (p : BitVec 54) : Bool := decide (bits 41 0 p ≠ 0)

/-- TSPLIT and TPACK may execute (R165). -/
def State.serviceOk (s : State) (c : Nat) (l : Launch) : Bool :=
  l.service && (decide (s.unit ukCore c = usTesting) || (s.core c).task.recovery)

def Tray.regBytes (t : Tray) : Nat := t.width * t.nreg * 4

/-- Register bytes and arrival counters in use. -/
def Core.regUsed (x : Core) : Nat := x.trays.foldl (fun n e => n + e.2.regBytes) 0
def Core.ctrUsed (x : Core) : Nat := x.trays.foldl (fun n e => n + e.2.nctr) 0

def regFileBytes : Nat := 131072

/-- A free slot, lowest first. -/
def Core.freeSlot (x : Core) : Option Nat := (List.range 16).find? (fun i => !(x.tray i).present)

/-- Lanes `lo` to `lo + n - 1` of a tray as lanes from 0 on: registers, poison bits, predicates, GLANE. -/
def Tray.takeLanes (t : Tray) (ls : List Nat) : Tab Word × Tab Bool × Tab Byte × Tab Nat :=
  ls.zipIdx.foldl (fun (q : Tab Word × Tab Bool × Tab Byte × Tab Nat) x =>
    ((List.range t.nreg).foldl (fun r k => Tab.set 0#32 r (x.2 * 64 + k) (t.reg x.1 k)) q.1,
     (List.range t.nreg).foldl (fun r k => Tab.set false r (x.2 * 64 + k) (t.poisoned x.1 k)) q.2.1,
     Tab.set 0#8 q.2.2.1 x.2 (Tab.get 0#8 t.preds x.1),
     Tab.set 0 q.2.2.2 x.2 (t.glaneOf x.1 + 1))) ([], [], [], [])

/-- D of every active lane takes a result. -/
def Tray.result (t : Tray) (d : Nat) (w : Word) : Tray := t.lanes.foldl (fun u l => u.setReg l d w false) t

/-- A tray split in two (R166): lanes 0 to W/2 − 1 and the rest. -/
def Tray.halves (t : Tray) : Tray × Tray :=
  let h := t.width / 2
  let part (lo : Nat) : Tray :=
    let q := t.takeLanes ((List.range h).map (· + lo))
    { t with
      width := h, nctr := 0, ctrs := [], regs := q.1, poison := q.2.1, preds := q.2.2.1, glane := q.2.2.2
      active := BitVec.ofNat 64 (t.active.toNat / 2 ^ lo % 2 ^ h)
      exited := BitVec.ofNat 64 (t.exited.toNat / 2 ^ lo % 2 ^ h) }
  (part 0, part h)

/-- TSPLIT (R166): the upper half of the lanes becomes a new tray; 0 into D, or 1 where it changes nothing. -/
def execTsplit (core : CoreIx) (slot : Fin 16) (p : BitVec 54) (s : State) : Res :=
  let c := core.val
  let slot := slot.val
  .next (s.trayDo c slot (fun s =>
    let x := s.core c
    let t := x.tray slot
    match x.launchOf t with
    | none => s.waits
    | some l =>
      if !s.serviceOk c l || formatSBad p || regBad t false (iD p) || decide (iA p ≠ 0) then s.trayTrap c slot 0x20 false 0
      else
        let fits := decide (t.width ≥ 32) && t.stack.isEmpty && t.copies.isEmpty && !x.locks.any (fun r => r.slot = slot)
          && decide (x.regUsed + t.width / 2 * t.nreg * 4 ≤ regFileBytes)
        match (if fits then x.freeSlot else none) with
        | none => s.setTray c slot (t.result (iD p) 1#32).next
        | some n =>
          let h := t.next.halves
          (s.setTray c slot (h.1.result (iD p) 0#32)).setTray c n (h.2.result (iD p) 0#32)))

/-- Slots of a mask, ascending. -/
def maskSlots (m : Nat) : List Nat := (List.range 16).filter (fun i => m.testBit i)

/-- Inserts by ascending GLANE. -/
def insertGlane (x : Nat × Nat × Nat) : List (Nat × Nat × Nat) → List (Nat × Nat × Nat)
  | [] => [x]
  | y :: r => if x.1 ≤ y.1 then x :: y :: r else y :: insertGlane x r

/-- The active lanes of several trays in ascending GLANE order: GLANE, slot, lane. -/
def Core.packOrder (x : Core) (slots : List Nat) : List (Nat × Nat × Nat) :=
  (slots.flatMap (fun i => (x.tray i).lanes.map (fun l => ((x.tray i).glaneOf l, i, l)))).foldr insertGlane []

/-- The trays meet R167's requirements. -/
def Core.packOk (x : Core) (slots : List Nat) : Bool :=
  match slots with
  | [] => false
  | a :: _ =>
    let t := x.tray a
    decide (2 ≤ slots.length ∧ slots.length ≤ 4)
    && slots.all (fun i => decide ((x.tray i).launch = t.launch ∧ (x.tray i).width = t.width) && (x.tray i).stack.isEmpty
      && (x.tray i).copies.isEmpty && !x.locks.any (fun r => r.slot = i))
    && decide ((x.packOrder slots).length ≤ t.width)

/-- The tray of the lowest slot with every active lane gathered in it (R167). -/
def Core.packed (x : Core) (slots : List Nat) (d : Nat) : Tray :=
  let low := slots.headD 0
  let t := x.tray low
  let order := x.packOrder slots
  let q := order.zipIdx.foldl (fun (q : Tray) g =>
    let src := x.tray g.1.2.1
    let from' := g.1.2.2
    let u := (List.range t.nreg).foldl (fun u k => u.setReg g.2 k (src.reg from' k) (src.poisoned from' k)) q
    { u with
      preds := Tab.set 0#8 u.preds g.2 (Tab.get 0#8 src.preds from')
      glane := Tab.set 0 u.glane g.2 (g.1.1 + 1) }) { t with regs := [], poison := [], preds := [], glane := [] }
  let n := order.length
  ({ q with
    active := allLanes n
    exited := allLanes t.width &&& ~~~(allLanes n)
    taint := slots.foldl (fun m i => m ||| (x.tray i).taint) 0#16
    pack := none
    progress := 0 } : Tray).next.result d 0#32

/-- TPACK (R167, R172): waits for every named tray, then gathers the active lanes, or writes 1 in D of each. -/
def execTpack (core : CoreIx) (slot : Fin 16) (p : BitVec 54) (s : State) : Res :=
  let c := core.val
  let slot := slot.val
  .next (s.trayDo c slot (fun s =>
    let x := s.core c
    let t := x.tray slot
    match x.launchOf t with
    | none => s.waits
    | some l =>
      if !s.serviceOk c l || formatSBad p || regBad t false (iD p) || regBad t false (iA p) then s.trayTrap c slot 0x20 false 0
      else
        match t.lanes with
        | [] => s.setTray c slot t.next
        | lane :: _ =>
          if t.poisoned lane (iA p) then s.trayTrap c slot 0x22 true 0
          else
            let m := (t.reg lane (iA p)).toNat % 65536
            if !m.testBit slot then s.setTray c slot (t.result (iD p) 1#32).next
            else
              let s1 := s.setTray c slot { t with pack := some m }
              let y := s1.core c
              let slots := maskSlots m
              if slots.all (fun i => decide ((y.tray i).present ∧ (y.tray i).pack = some m ∧ (y.tray i).pc = t.pc)) then
                if y.packOk slots then
                  let low := slots.headD 0
                  slots.foldl (fun s i => if i = low then s else s.setTray c i Tray.blank) (s1.setTray c low (y.packed slots (iD p)))
                else
                  slots.foldl (fun s i =>
                    let u := (s.core c).tray i
                    s.setTray c i { (u.result (iD p) 1#32).next with pack := none }) s1
              else s1))

end Sys2Proof.Machine
end

