-- ==== Sys2Proof/Machine/TrayLife.lean ====
section
/-!
DEFINITION. Launches and the life of a tray (R124 to R127, R153, R155, R159, R162, R187).
-/

namespace Sys2Proof.Machine
open Sys2Proof

/-! ## LAUNCH (Table 6-11) -/

def laWidth (p : BitVec 92) : Nat := 16 * 2 ^ bits 91 90 p
def laDmax (p : BitVec 92) : Nat := bits 33 26 p + 1
def laSpill (p : BitVec 92) : Nat := 16 * bits 25 11 p
def laArgs (p : BitVec 92) : Nat := 4 * bits 50 34 p

/-- The core runs a test task or a recovery task (R187). -/
def State.serviceLaunchOk (s : State) (c : Nat) : Bool := decide (s.unit ukCore c = usTesting) || (s.core c).task.recovery

/-- The launch is malformed (R124, R126, R187). -/
def State.launchBad (s : State) (c : Nat) (p : BitVec 92) : Bool :=
  decide (bits 91 90 p = 3) || decide (bits 86 83 p > 8) || decide (laDmax p < 16) || decide (bits 4 0 p ≠ 0)
  || decide (laArgs p + 32 > benchSize)
  || (decide (laDmax p > 16) && decide (laSpill p + 16 * ((laDmax p - 16) * 16) > benchSize))
  || (bitAt p 9 && !s.serviceLaunchOk c)

/-- LAUNCH (R124, R181, R187): queued to the tray unit; a malformed one starts nothing and traps. -/
def execLaunch (core : CoreIx) (payload : BitVec 92) (crc : Word) (s : State) : Res :=
  let c := core.val
  let p := payload
  .next (s.decodeDesc c 9 p crc (fun s =>
    let x := s.core c
    if (x.launches.filter (fun l => l.started < l.ntrays)).length ≥ 5 then (s.setQfull c 9).waits
    else if s.launchBad c p then
      let s1 := s.pushTrap c (trapRecord 0x05 c unitTray 0 false (x.workTaint ≠ 0#16) x.task.index 0)
      s1.onCore c (fun x => { x.taken with malf := true, outTraps := x.outTraps ++ [(unitTray, 0, 0x05)] })
    else
      let l : Launch :=
        { id := x.launchId, width := laWidth p, nreg := 8 * (bits 89 87 p + 1), nctr := bits 86 83 p,
          ntrays := bits 82 67 p + 1, code := 8 * bits 66 51 p, args := laArgs p, dmax := laDmax p, spill := laSpill p,
          strict := bitAt p 10, service := bitAt p 9, scen := bitAt p 8, sc := bits 7 5 p, ctx := x.task.ctx,
          taint := x.workTaint, started := 0, ended := 0 }
      (s.onCore c (fun x => ({ x.taken with launches := x.launches ++ [l], launchId := x.launchId + 1 }).scAdd l.scen l.sc)).clearQfull c 9))

/-- Replaces the launch of an identifier. -/
def setLaunch (id : Nat) (f : Launch → Launch) (l : List Launch) : List Launch := l.map (fun x => if x.id = id then f x else x)

/-- TRAY_START (R125, R127): the next tray of the oldest launch that still has one starts in a slot that is free. -/
def execTrayStart (core : CoreIx) (slot : Fin 16) (s : State) : Res :=
  let c := core.val
  let slot := slot.val
  let x := s.core c
  match x.launches.find? (fun l => l.started < l.ntrays) with
  | none => .next s
  | some l =>
    if (x.tray slot).present ∨ x.regUsed + l.width * l.nreg * 4 > regFileBytes ∨ x.ctrUsed + l.nctr > 64 then .next s.waits
    else
      let t : Tray :=
        { Tray.blank with
          present := true, launch := l.id, width := l.width, nreg := l.nreg, nctr := l.nctr, trayix := l.started
          pc := l.code, active := allLanes l.width }
      .next ((s.setTray c slot t).onCore c (fun x =>
        { x with launches := setLaunch l.id (fun l => { l with started := l.started + 1 }) x.launches }))

/-- A launch whose trays have all started and ended completes (Table 6-5). -/
def State.launchDone (s : State) (c id : Nat) : State :=
  let x := s.core c
  match x.launches.find? (fun l => l.id = id) with
  | none => s
  | some l =>
    if l.started < l.ntrays ∨ x.trays.any (fun e => e.2.present && decide (e.2.launch = id)) then s
    else (s.onCore c (fun x => ({ x with launches := x.launches.filter (fun y => y.id ≠ id) }).scSub l.scen l.sc)).recheck c

/-- TRAY_END (R153, R159): a tray that ends and has no copy outstanding leaves; locks it still holds are released first. -/
def execTrayEnd (core : CoreIx) (slot : Fin 16) (s : State) : Res :=
  let c := core.val
  let slot := slot.val
  let t := (s.core c).tray slot
  if !t.present || !t.ending || !t.copies.isEmpty then .next s
  else
    let leak := (s.core c).locks.any (fun r => r.slot = slot)
    match s.releaseLocks c (fun r => r.slot = slot) with
    | none => .next s.waits
    | some s1 =>
      let s2 := s1.tflags c ((if leak then tLockleak else 0) + (if t.cancelled then tCancelled else 0))
      let s3 := if t.cancelled then s2.lastSlot c slot else s2
      let s4 := s3.setTray c slot Tray.blank
      let s5 := s4.onCore c (fun x => { x with launches := setLaunch t.launch (fun l => { l with ended := l.ended + 1 }) x.launches })
      .next (s5.launchDone c t.launch)

/-- LIVELOCK (R154, R155): the progress counter has reached 2²⁰ cycles: the tray traps at its instruction boundary; its
locks stay held. -/
def execLivelock (core : CoreIx) (slot : Fin 16) (s : State) : Res :=
  let c := core.val
  let slot := slot.val
  let t := (s.core c).tray slot
  if t.present && decide (t.trap = 0) && !t.ending then
    .next (((s.setTray c slot { t with progress := 2 ^ 20 }).trayTrap c slot 0x26 false 0).tflags c tLivelock)
  else .next s

end Sys2Proof.Machine
end

