-- ==== Sys2Proof/Machine/VectorEngine.lean ====
section
/-!
DEFINITION. The commands of the vector engine (chapter 04).
-/

namespace Sys2Proof.Machine
open Sys2Proof

/-- A RUN or EXPORT_RUN descriptor (class 0x4, Table 6-8). -/
def State.issueRun (s : State) (c : Nat) (payload : BitVec 92) (crc : Word) : State :=
  s.decodeDesc c 4 payload crc (fun s => s.issueVec c false payload (bitAt payload 7) (bits 6 4 payload))

/-- A TMOVE descriptor (class 0x8, Table 6-10). -/
def State.issueMove (s : State) (c : Nat) (payload : BitVec 92) (crc : Word) : State :=
  s.decodeDesc c 8 payload crc (fun s => s.issueVec c true payload (bitAt payload 65) (bits 64 62 payload))

/-- RUN (R101, R184): a recipe run is queued and, in order, run. -/
def execRun (core : CoreIx) (payload : BitVec 92) (crc : Word) (s : State) : Res := .next (s.issueRun core.val payload crc)

/-- EXPORT_RUN (R104, R184): an export run is queued and, in order, run. -/
def execExportRun (core : CoreIx) (payload : BitVec 92) (crc : Word) (s : State) : Res := .next (s.issueRun core.val payload crc)

/-- SUMMARY_DELIVER (R115): the records of the run held at its end enter the cluster's queue once it has room; the run
ends and the engine goes on. -/
def execSummaryDeliver (core : CoreIx) (s : State) : Res :=
  let c := core.val
  match (s.core c).heldRun with
  | [] => .next (s.pump c)
  | h :: rest =>
    let k := s.cluster (coreCluster c)
    if k.sumQ.length + h.records.length > 256 then .next s
    else
      let s1 := s.setCluster (coreCluster c) ({ k with sumQ := k.sumQ ++ h.records }.raise 0)
      let s2 := (s1.onCore c (fun x => { x with heldRun := rest })).vecDone c h
      .next ((s2.pump c).recheck c)

/-- TLD (R186): TMOVE with OP 00. -/
def execTld (core : CoreIx) (payload : BitVec 92) (crc : Word) (s : State) : Res := .next (s.issueMove core.val payload crc)

/-- TST (R186): TMOVE with OP 01. -/
def execTst (core : CoreIx) (payload : BitVec 92) (crc : Word) (s : State) : Res := .next (s.issueMove core.val payload crc)

/-- TCPY (R186): TMOVE with OP 10. -/
def execTcpy (core : CoreIx) (payload : BitVec 92) (crc : Word) (s : State) : Res := .next (s.issueMove core.val payload crc)

end Sys2Proof.Machine
end

