-- ==== Sys2Proof/Machine/Draft.lean ====
section
/-!
DEFINITION. Draft epochs (R259 to R267): the epoch block, COMMIT and CANCEL at the stalls and at every unit that holds a taint mask
(R81, R120, R162, R197, R207, R296, R297, R431).
-/

namespace Sys2Proof.Machine
open Sys2Proof

/-! ## The epoch block (Table 8-6) -/

def epDone : Nat := 0
def epPending : Nat := 1
def epNoFree : Nat := 2
def epNotOwner : Nat := 3
def epNotOpen : Nat := 4
def epBadCmd : Nat := 5

/-- The K96 itself as the sender of a CANCEL. -/
def whoSelf : Nat := 34

def State.setEpres (s : State) (who st e : Nat) : State :=
  { s with market := { s.market with epres := Tab.set 0#32 s.market.epres who (BitVec.ofNat 32 (st * 2 ^ 28 + e)) } }

def State.epresStatus (s : State) (who : Nat) : Nat := (Tab.get 0#32 s.market.epres who).toNat / 2 ^ 28

/-- The partition a requester acts for: a control core for that of its quarter, the others for PART (R259). -/
def State.epPart (s : State) (who : Nat) (w : BitVec 28) : Option Nat :=
  if who < 32 then s.clusterPart who else some (bits 25 24 w)

/-- Reserved fields are nonzero. -/
def epReserved (w : BitVec 28) : Bool := decide (bits 27 26 w ≠ 0) || decide (bits 23 16 w ≠ 0)

def epMask (w : BitVec 28) : Half := BitVec.ofNat 16 (bits 15 0 w)

/-- The checks of R260 in order: BADCMD, a zero MASK, NOTOWNER, NOTOPEN; then `k`. -/
def State.epCmd (s : State) (who : Nat) (w : BitVec 28) (join : Bool) (k : State → State) : State :=
  let m := epMask w
  if epReserved w || (join && decide (who ≥ 32)) then s.setEpres who epBadCmd 0
  else if m = 0#16 then s.setEpres who epDone 0
  else if (List.range 16).any (fun e => m.getLsbD e && (s.epoch e).st ≠ 0 && decide (some (s.epoch e).part ≠ s.epPart who w)) then
    s.setEpres who epNotOwner 0
  else if (List.range 16).any (fun e => m.getLsbD e && (s.epoch e).st ≠ 1) then s.setEpres who epNotOpen 0
  else k s

/-- OPEN (R260): the lowest FREE epoch. -/
def execOpenEpoch (who : Fin 34) (word : BitVec 28) (s : State) : Res :=
  if epReserved word then .next (s.setEpres who.val epBadCmd 0)
  else
    match s.epPart who.val word with
    | none => .next (s.setEpres who.val epNotOwner 0)
    | some p =>
      match (List.range 16).find? (fun e => (s.epoch e).st = 0) with
      | none => .next (s.setEpres who.val epNoFree 0)
      | some e => .next ((s.setEpoch e ⟨1, p, (s.epoch e).cause, false⟩).setEpres who.val epDone e)

/-- JOIN (R260): the mask joins the control core's DTAINT. -/
def execJoin (who : Fin 34) (word : BitVec 28) (s : State) : Res :=
  .next (s.epCmd who.val word true (fun s =>
    let k := s.cluster who.val
    (s.setCluster who.val { k with dtaint := k.dtaint ||| epMask word }).setEpres who.val epDone 0))

/-! ## What every unit does -/

/-- Bits of a mask leave a table of masks. -/
def clearMasks (c : Half) (t : Tab Half) : Tab Half := Tab.mapVals 0#16 (fun _ m => m &&& ~~~c) t

/-- The keys whose mask holds an epoch of `c`. -/
def keysWith (c : Half) (t : Tab Half) : List Nat := (t.filter (fun e => e.2 &&& c ≠ 0#16)).map (·.1)

def Task.drop (c : Half) (t : Task) : Task := { t with taint := t.taint &&& ~~~c }

/-- A summary record without the bits of committed epochs (R120). -/
def commitRecord (c : Half) (r : QWord) : QWord := r &&& ~~~((c.setWidth 128) <<< 80)

/-- The epochs' bits leave a core (R81, R120, R162, R197, R207); no value changes. -/
def Core.commit (c : Half) (x : Core) : Core :=
  { x with
    btaint := clearMasks c x.btaint
    tileTaint := clearMasks c x.tileTaint
    blkTaint := clearMasks c x.blkTaint
    arrQ := x.arrQ.map (fun e => { e with taint := e.taint &&& ~~~c })
    vecQ := x.vecQ.map (fun e => { e with taint := e.taint &&& ~~~c })
    heldRun := x.heldRun.map (fun h => { h with taint := h.taint &&& ~~~c, records := h.records.map (commitRecord c) })
    trays := Tab.mapVals Tray.blank (fun _ t => { t with taint := t.taint &&& ~~~c }) x.trays
    launches := x.launches.map (fun l => { l with taint := l.taint &&& ~~~c })
    copyQ := x.copyQ.map (fun e => { e with taint := e.taint &&& ~~~c })
    task := x.task.drop c
    fetched := x.fetched.map (fun e => (e.1, e.2 &&& ~~~c))
    dispatched := x.dispatched.map (Task.drop c)
    localTaint := x.localTaint.map (· &&& ~~~c) }

def Cluster.commit (c : Half) (k : Cluster) : Cluster :=
  { k with dtaint := k.dtaint &&& ~~~c, sumQ := k.sumQ.map (commitRecord c) }

/-- Banks that hold a cancelled epoch, and those that waiting descriptors of it target, get the NaN tag everywhere (R81). -/
def Core.cancelBanks (c : Half) (x : Core) : Core :=
  let waiting := x.arrQ.filter (fun e => !e.done && decide (e.taint &&& c ≠ 0#16))
  let bs := keysWith c x.btaint ++ waiting.map (fun e => arBank e.arith)
  { x with
    banks := bs.foldl nanBank x.banks
    bstat := bs.foldl (fun t b => Tab.modify 0#32 t b (fun w => w ||| 8#32)) x.bstat
    btaint := clearMasks c x.btaint
    arrQ := x.arrQ.map (fun e =>
      if e.taint &&& c ≠ 0#16 then { e with done := true, failed := false, ownSat := false, ownNan := false, taint := e.taint &&& ~~~c } else e) }

/-- Tile registers that hold a cancelled epoch become the canonical NaN (R120). -/
def Core.cancelTiles (c : Half) (x : Core) : Core :=
  { x with
    tiles := (keysWith c x.tileTaint).foldl (fun t r => Tab.modifyRange 0#32 (fun _ _ => nan32) 256 (256 * r) t) x.tiles
    tileTaint := clearMasks c x.tileTaint
    heldRun := x.heldRun.map (fun h =>
      if h.taint &&& c ≠ 0#16 then { h with taint := h.taint &&& ~~~c, records := h.records.map cancelRecord } else h) }

/-- Blocks that hold a cancelled epoch get CANCEL (R197). -/
def Core.cancelBlocks (c : Half) (x : Core) : Core :=
  { x with
    blkCancel := (keysWith c x.blkTaint).foldl (fun t b => Tab.set false t b true) x.blkCancel
    blkTaint := clearMasks c x.blkTaint }

/-- Trays whose mask, or whose launch's, holds a cancelled epoch end as cancelled trays; a launch of it starts no further tray (R162,
R207). -/
def Core.cancelTrays (c : Half) (x : Core) : Core :=
  let hit (t : Tray) : Bool :=
    t.present && decide ((t.taint ||| ((x.launchOf t).map (·.taint)).getD 0#16) &&& c ≠ 0#16)
  { x with
    trays := Tab.mapVals Tray.blank (fun _ t =>
      if hit t then { t with ending := true, cancelled := true, wait := none, pack := none, taint := t.taint &&& ~~~c } else t) x.trays
    launches := x.launches.map (fun l =>
      if l.taint &&& c ≠ 0#16 then { l with started := l.ntrays, taint := l.taint &&& ~~~c } else l) }

/-- The sequencer stops issue for a task that holds a cancelled epoch (R207). -/
def Core.cancelTask (c : Half) (x : Core) : Core :=
  let m := x.fetched.foldl (fun m e => m ||| e.2) x.task.taint
  if x.task.source ≠ 0 ∧ m &&& c ≠ 0#16 then
    { x with task := { x.task.drop c with cancelled := true }, seqState := 4, seqWait := .none, fetched := [] }
  else x

/-- Local task words of a cancelled epoch that wait at the core (R206, R207). -/
def Core.localHit (c : Half) (x : Core) : List (QWord × Half) := (x.localQ.zip x.localTaint).filter (fun e => e.2 &&& c ≠ 0#16)

/-- One core at a CANCEL. -/
def State.coreCancel (c : Half) (s : State) (n : Nat) : State :=
  let x := s.core n
  let y := (((x.cancelBanks c).cancelTiles c).cancelBlocks c).cancelTrays c
  let z := y.cancelTask c
  let keep := (x.localQ.zip x.localTaint).filter (fun e => e.2 &&& c = 0#16)
  let disp := match x.dispatched with
    | some t => decide (t.taint &&& c ≠ 0#16)
    | none => false
  let s1 := s.setCore n { z with localQ := keep.map (·.1), localTaint := keep.map (·.2), dispatched := if disp then none else z.dispatched }
  let s2 := match x.dispatched with
    | some t => if disp then s1.taskEnded t.queue t.entry 3 n (t.taint &&& ~~~c) else s1
    | none => s1
  let s3 := (x.localHit c).foldl (fun s e => s.completeLocal n (compRecord n 3 (e.2 &&& ~~~c) (bits 71 56 e.1))) s2
  let s4 := x.launches.foldl (fun s l => s.launchDone n l.id) s3
  (s4.pump n).recheck n

def Cluster.cancel (c : Half) (k : Cluster) : Cluster :=
  { k with
    epochev := k.epochev ||| (k.dtaint &&& c).setWidth 32
    dtaint := k.dtaint &&& ~~~c
    sumQ := k.sumQ.map (fun r => if recordTaint r &&& c ≠ 0#16 then cancelRecord r else r) }

/-- A send channel at a COMMIT: the job's mask loses the committed epochs (R431). -/
def Chan.commitSend (c : Half) (x : Chan) : Chan :=
  let y := (x.commit c).settle
  { y with run := y.run.map (fun j => { j with mask := j.mask &&& ~~~c }) }

/-- The job of a send channel holds an epoch of `c`. -/
def Chan.sendHit (c : Half) (x : Chan) : Bool := match x.run with | some j => decide (j.mask &&& c ≠ 0#16) | none => false

/-- Sends in the engines at a COMMIT and at a CANCEL (R268, R431): nothing of a tainted send has left; the start bell of a cancelled send
goes with it. -/
def Fabric.commit (c : Half) (f : Fabric) : Fabric :=
  { f with chans := Tab.mapVals Chan.blank (fun k x => if k ≥ 16 * 256 then x.commitSend c else x) f.chans }

def Fabric.cancel (c : Half) (f : Fabric) : Fabric :=
  { f with waits := f.waits.filter (fun w => !(Tab.get Chan.blank f.chans (chanKey (16 + w.engine) w.chan)).sendHit c) }

/-! ## COMMIT and CANCEL -/

/-- Lines with a queued fold-in that holds an epoch of `c`. -/
def State.foldLines (s : State) (c : Half) : List Nat :=
  (s.market.foldQ.flatMap (fun e => (e.2.filter (fun r => r.taint &&& c ≠ 0#16)).map (fun r => r.sector / 4))).eraseDups

/-- The number of epochs in a mask. -/
def maskCount (m : Half) : Nat := ((List.range 16).filter (fun e => m.getLsbD e)).length

def State.mktCount (s : State) (f : MktCounters → MktCounters) : State :=
  { s with market := { s.market with cnt := f s.market.cnt } }

/-- The epochs of a mask become CLOSING. -/
def State.closeEpochs (s : State) (m : Half) (cancel : Bool) (cause who : Nat) : State :=
  let s1 := (List.range 16).foldl (fun s e =>
    if m.getLsbD e then s.setEpoch e ⟨2, (s.epoch e).part, if cancel then cause else (s.epoch e).cause, cancel⟩ else s) s
  { s1 with market := { s1.market with closings := s1.market.closings ++ [⟨m, cancel, who⟩] } }

/-- COMMIT of mask `c` (R265). -/
def State.commitEpochs (s : State) (c : Half) (who : Nat) : State :=
  let s1 := (s.foldLines c).foldl State.drainLine s
  let s2 := (s1.commitStalls c).closeEpochs c false 0 who
  let s3 := { s2 with
    cores := Tab.mapVals Core.blank (fun _ x => x.commit c) s2.cores
    clusters := Tab.mapVals Cluster.blank (fun _ k => k.commit c) s2.clusters
    fabric := s2.fabric.commit c
    market := { s2.market with foldQ := Tab.mapVals [] (fun _ q => q.map (fun (r : FoldReq) => { r with taint := r.taint &&& ~~~c })) s2.market.foldQ } }
  ((s3.queuesDraft (Queue.commit c)).runnersCommit c).mktCount (fun k => { k with commits := k.commits + maskCount c })

/-- CANCEL of mask `c` with a cause (R266, R267). -/
def State.cancelEpochs (s : State) (c : Half) (cause who : Nat) : State :=
  let s1 := { s with market := { s.market with
    foldQ := Tab.mapVals [] (fun _ q => q.filter (fun r => r.taint &&& c = 0#16)) s.market.foldQ } }
  let s2 := (s1.closeEpochs c true cause who).cancelStalls c
  let s3 := s2.cores.foldl (fun s e => s.coreCancel c e.1) s2
  let s4 := { s3 with
    clusters := Tab.mapVals Cluster.blank (fun _ k => k.cancel c) s3.clusters
    fabric := s3.fabric.cancel c }
  ((s4.queuesDraft (Queue.cancel c)).chansCancel c).mktCount (fun k => { k with cancels := k.cancels + maskCount c })

/-- COMMIT (R260, R265). -/
def execCommit (who : Fin 34) (word : BitVec 28) (s : State) : Res :=
  .next (s.epCmd who.val word false (fun s => (s.commitEpochs (epMask word) who.val).setEpres who.val epPending 0))

/-- CANCEL (R260, R266). -/
def execCancel (who : Fin 34) (word : BitVec 28) (s : State) : Res :=
  .next (s.epCmd who.val word false (fun s => (s.cancelEpochs (epMask word) 0 who.val).setEpres who.val epPending 0))

/-- Work that still holds an epoch of `c`: fold-ins queued at a stall, entries of a core that run to their end. -/
def State.inFlight (s : State) (c : Half) : Bool :=
  s.market.foldQ.any (fun e => e.2.any (fun r => decide (r.taint &&& c ≠ 0#16)))
    || s.cores.any (fun e => e.2.vecQ.any (fun v => decide (v.taint &&& c ≠ 0#16)) || e.2.copyQ.any (fun v => decide (v.taint &&& c ≠ 0#16))
      || e.2.heldRun.any (fun v => decide (v.taint &&& c ≠ 0#16)))

/-- The epochs of a closing become FREE; the requester's result becomes DONE when it is that of its last command. -/
def State.freeEpochs (s : State) (m : Half) (cancel : Bool) : State :=
  match s.market.closings.find? (fun k => k.mask = m ∧ k.cancel = cancel) with
  | none => s
  | some k =>
    if s.inFlight m then s.waits
    else
      let last := (s.market.closings.filter (fun y => y.who = k.who)).getLast? = some k
      let s1 := (List.range 16).foldl (fun s e =>
        if m.getLsbD e then s.setEpoch e ⟨0, 0, (s.epoch e).cause, false⟩ else s) s
      let s2 := { s1 with market := { s1.market with closings := s1.market.closings.filter (· ≠ k) } }
      if last ∧ s2.epresStatus k.who = epPending then s2.setEpres k.who epDone 0 else s2

/-- COMMIT_COMPLETE (R265): every stall has finished and no request carries an epoch of the mask. -/
def execCommitComplete (mask : Half) (s : State) : Res := .next (s.freeEpochs mask false)

/-- CANCEL_COMPLETE (R266). -/
def execCancelComplete (mask : Half) (s : State) : Res := .next (s.freeEpochs mask true)

/-- A draft access of mask `m` to a line cannot have a new shadow way (R267). -/
def State.shadowBlocked (s : State) (l : Nat) (m : Half) : Bool :=
  decide (Tab.get 0 s.market.shWays l = 0) &&
    match s.lineHome l with
    | none => false
    | some h =>
      decide ((s.market.shWays.filter (fun e => s.lineHome e.1 = some h)).length ≥ 8)
      || decide (s.draftFoot + 256 > s.draftLimit * 2 ^ 20)
      || decide (s.draftFootPart (s.maskPart m) + 256 > s.draftLimitPart (s.maskPart m) * 2 ^ 20)

/-- DRAFT_FULL (R267): an access of mask `taint` to a sector has waited 2 bells for a shadow way: its epochs are cancelled with cause
FULL. -/
def execDraftFull (sector : Nat) (taint : Half) (s : State) : Res :=
  let m := maskWhere taint (fun e => (s.epoch e).st = 1)
  if m = 0#16 || !s.shadowBlocked (sector / 4) m then .next s
  else
    .next (((s.cancelEpochs m 1 whoSelf).mktCount (fun k => { k with full := k.full + maskCount m })).event 0x32 2 m.toNat (s.maskPart m))

/-! ## Registers of the block read back (Table 8-6) -/

def State.epstate (s : State) : Nat :=
  (List.range 16).foldl (fun a e => a + (if (s.epoch e).st = 1 then 2 ^ e else 0) + (if (s.epoch e).st = 2 then 2 ^ (16 + e) else 0)) 0
def State.epfoot (s : State) : Nat := s.market.shWays.length
def State.epinfo (s : State) (e : Nat) : Nat :=
  let x := s.epoch e
  x.st * 2 ^ 30 + x.part * 2 ^ 28 + x.cause * 2 ^ 24 + (s.market.shWays.filter (fun w => (s.lineMask w.1).getLsbD e)).length % 2 ^ 24

end Sys2Proof.Machine
end

