-- ==== Sys2Proof/Machine/Scheduler.lean ====
section
/-!
DEFINITION. The hardware scheduler and the scheduler core (chapter 11): doorbells, entry checks, selection, completions, queue
commands.
-/

namespace Sys2Proof.Machine
open Sys2Proof

/-- A partition is being reset (R605). -/
def State.partResetting (s : State) (p : Nat) : Bool := s.dev.resets.any (fun r => decide (r.scope = 3 ∧ r.index = p))

/-! ## Doorbells -/

def prodHost : Nat := 0
def prodFabric : Nat := 1
def prodLocal : Nat := 2

/-- DOORBELL (R340, R341): `who` is the writing control core (0 to 31) or the scheduler core (32) or security core (33), for a LOCAL
doorbell; `whole` says that the write is a naturally aligned 8-byte one. -/
def execDoorbell (path : Fin 3) (who : Fin 34) (queue : Fin 1048576) (tail : DWord) (whole : Bool) (s : State) : Res :=
  let q := queue.val
  let lcl := decide (path.val = prodLocal ∧ who.val < 32)
  if path.val = prodHost ∧ s.host.lanes = 0 then .next s
  else if path.val = prodHost ∧ s.host.d3hot then .next { s with host := { s.host with ur := s.host.ur + 1 } }
  else if !whole || (lcl && decide (s.clusterPart who.val ≠ some (s.queuePart q))) || s.partResetting (s.queuePart q) then .next (s.ignoreBell q)
  else .next (s.ringQueue q path.val tail.toNat (if lcl then (s.cluster who.val).dtaint else 0#16))

/-! ## The check of the head entry (R337, R338, R348, R473) -/

/-- The head: the first entry not taken. -/
def Queue.head (x : Queue) : Option QEntry := x.entries.find? (fun e => decide (e.st ≤ 1) && !e.dropped)

def weReserved (w : BitVec 512) : Bool := decide (bits 442 440 w ≠ 0) || decide (bits 401 400 w ≠ 0) || decide (bits 343 256 w ≠ 0)

/-- The entry is malformed or fails its CRC or SEQ (R337). -/
def entryBad (w : BitVec 512) (n : Nat) : Bool :=
  decide (bits 511 480 w ≠ crc32c (leBytes 60 w.toNat)) || decide (weSeq w ≠ n % 2 ^ 32) || decide (weKind w > 2) || weReserved w
    || decide (weStream w % 16 ≠ 0) || (!weSpace w && decide (weStream w ≥ benchSize))

/-- The seal record of a work entry: KEYID, CTR, whether the reserved field is zero. -/
def State.readSeal (s : State) (q n : Nat) (m : Half) : State × MemSt × Nat × Nat × Bool :=
  let x := s.queue q
  let a := x.sq + 64 * 2 ^ x.logsz + 32 * (n % 2 ^ x.logsz)
  let r := s.readSector { Acc.plain with taint := m, cls := s.val 0xA040 15 0 } (a / 32)
  (r.1, r.2.1, bits 63 48 r.2.2.data, bits 127 64 r.2.2.data, decide (bits 47 0 r.2.2.data = 0))

/-- The key is an installed HOSTSEAL key of the partition. -/
def State.sealKey (s : State) (k p : Nat) : Bool :=
  let x := Tab.get KeyRec.blank s.sec.keys k
  decide (x.st = 1 ∧ x.use = 2 ∧ x.part = p)

/-- A queue's entries with the head changed by `f`. -/
def Queue.setHead (x : Queue) (f : QEntry → QEntry) : Queue :=
  { x with entries := setEntry (fun e => decide (e.st ≤ 1) && !e.dropped) f x.entries }

/-- The head is taken: TAKEN rises for a base entry. -/
def Queue.takeHead (x : Queue) (e : QEntry) : Queue := { x with taken := if e.mask = 0#16 then x.taken + 1 else x.taken }

/-- The head is taken and finishes at once with a status. -/
def State.endHead (s : State) (q : Nat) (e : QEntry) (w : BitVec 512) (status : Nat) : State :=
  let x := s.queue q
  (s.setQueue q ((x.setHead (fun z => { z with word := w })).takeHead e)).finishEntry q e.num status 0xFF 0 0#16

/-- The sealed queue's check: the counter kept when the entry is accepted. -/
def State.checkSeal (s : State) (q n : Nat) (m : Half) (tagOk : Bool) : State × MemSt × Bool :=
  let x := s.queue q
  if !x.sealed ∨ x.prod = prodLocal then (s, .ok, true)
  else
    let r := s.readSeal q n m
    match r.2.1 with
    | .ok =>
      let ok := tagOk && r.2.2.2.2 && decide (r.2.2.2.1 > x.ctr) && r.1.sealKey r.2.2.1 (s.queuePart q)
      if ok then (r.1.setQueue q { (r.1.queue q) with ctr := r.2.2.2.1 }, .ok, true) else (r.1, .ok, false)
    | st => (r.1, st, false)

/-- ENTRY_CHECK (R337, R338, R348): the scheduler reads and checks the entry at the head of an ENABLED queue. `tagOk` is the verdict
of the seal record's tag. -/
def execEntryCheck (queue : Fin 1048576) (tagOk : Bool) (s : State) : Res :=
  let q := queue.val
  let x := s.queue q
  match x.head with
  | none => .next s
  | some e =>
    if x.st ≠ qEnabled ∨ e.st ≠ 0 then .next s
    else
      let r := s.readSlot q e.num e.mask
      match r.2.1 with
      | .wait => .next s.waits
      | .cancelled => .next s
      | _ =>
        let w := entryWord r.2.2.1 r.2.2.2
        let bad := decide (r.2.1 ≠ .ok) || r.2.2.1.poison || r.2.2.2.poison || entryBad w e.num
        let c := if bad then (r.1, MemSt.ok, false) else r.1.checkSeal q e.num e.mask tagOk
        if c.2.1 = .wait then .next s.waits
        else if !c.2.2 then
          let s0 := if bad then c.1 else c.1.authFailed (2 ^ 32 + q) (c.1.queuePart q)
          let s1 := s0.endHead q e w 4
          .next { s1 with sched := { s1.sched with rejected := s1.sched.rejected + 1 } }
        else if weKind w = 1 then .next (c.1.endHead q e w 0)
        else if x.cls ≤ 5 ∧ x.latedrop ∧ weKind w = 0 ∧ weDeadline w ≠ 0 ∧ s.bell.count > e.arrB + weDeadline w then
          let s1 := c.1.endHead q e w 5
          .next { s1 with sched := { s1.sched with expired := s1.sched.expired + 1 } }
        else .next (c.1.setQueue q ((c.1.queue q).setHead (fun z => { z with word := w, st := 1 })))

/-- BARRIER_COMPLETE (R338): a BARRIER at the head completes once no task of the queue is in flight. -/
def execBarrierComplete (queue : Fin 1048576) (s : State) : Res :=
  let q := queue.val
  let x := s.queue q
  match x.head with
  | none => .next s
  | some e =>
    if x.st ≠ qEnabled ∨ e.st ≠ 1 ∨ weKind e.word ≠ 2 then .next s
    else if x.infl ≠ 0 ∨ x.entries.any (fun z => decide (z.st = 4)) then .next s.waits
    else .next (s.endHead q e e.word 0)

/-! ## Selection (R346 to R351) -/

/-- A core is offered to the scheduler (R350). -/
def State.offered (s : State) (c : Nat) : Bool :=
  let x := s.core c
  decide (s.unit ukCore c = usReady) && decide (x.seqState = 0) && x.localQ.isEmpty && !x.hold && decide (x.dispatched = none)
    && x.heldComp.isEmpty && (match s.corePart c with | some p => !s.partResetting p | none => false)

def State.offeredIn (s : State) (cluster : Nat) : List Nat := ((List.range 8).map (· + 8 * cluster)).filter s.offered

/-- The key of a latency-class entry (R347). -/
def State.entryKey (s : State) (x : Queue) (e : QEntry) : Nat :=
  let target := s.val 0x6810 (x.cls + 1) (([100, 250, 1000, 5000, 20000, 100000][x.cls]?).getD 0)
  e.arrB + (if weDeadline e.word ≠ 0 then weDeadline e.word else target)

/-- Cores an entry of the queue may take, by cluster (R350, R351). -/
def State.coresFor (s : State) (q : Nat) : List (Nat × List Nat) :=
  let x := s.queue q
  let p := s.queuePart q
  let keep := if x.cls ≥ 6 then s.val 0x6810 (12 + p) 1 else 0
  (((List.range 32).filter (fun k => x.clmask.getLsbD k && decide (s.clusterPart k = some p))).map (fun k => (k, s.offeredIn k))).filter
    (fun k => decide (k.2.length > keep))

/-- A candidate of one selection. -/
structure Cand where
  q : Nat
  e : QEntry
  key : Nat

/-- The entries of a queue that may be dispatched now: the head, checked, and entries cut off by a reset (R358). -/
def Queue.ready (x : Queue) : List QEntry :=
  if x.st ≠ qEnabled ∨ x.infl ≥ x.maxinfl then []
  else
    x.entries.filter (fun e => decide (e.st = 4) && !e.dropped)
      ++ (match x.head with | some e => if e.st = 1 ∧ weKind e.word = 0 then [e] else [] | none => [])

/-- Every eligible entry. -/
def State.candidates (s : State) : List Cand :=
  s.sched.queues.flatMap (fun k =>
    if (s.coresFor k.1).isEmpty then [] else k.2.ready.map (fun e => ⟨k.1, e, s.entryKey k.2 e⟩))

/-- The order of latency entries: key, class, arrival number, queue number (R351). -/
def State.beforeCand (s : State) (a b : Cand) : Bool :=
  let ca := (s.queue a.q).cls
  let cb := (s.queue b.q).cls
  decide (a.key < b.key) || (decide (a.key = b.key) &&
    (decide (ca < cb) || (decide (ca = cb) && (decide (a.e.arrN < b.e.arrN) || (decide (a.e.arrN = b.e.arrN) && decide (a.q < b.q))))))

/-- The least element of a list by a strict order. -/
def leastBy {α : Type} (lt : α → α → Bool) : List α → Option α
  | [] => none
  | a :: r => some (r.foldl (fun b x => if lt x b then x else b) a)

def State.part (s : State) (c : Cand) : Nat := s.queuePart c.q

/-- A BULK queue that becomes eligible takes at least the least account of its partition (R351). -/
def State.joinBulk (s : State) (cands : List Cand) : State :=
  let bulk := ((cands.filter (fun c => decide ((s.queue c.q).cls = 6))).map (·.q)).eraseDups
  let s1 := bulk.foldl (fun s q =>
    let x := s.queue q
    if x.elig then s
    else
      let others := (bulk.filter (fun o => decide (o ≠ q ∧ s.queuePart o = s.queuePart q) && (s.queue o).elig)).map (fun o => (s.queue o).v)
      let least := match leastBy (fun a b => decide (a < b)) others with | some v => v | none => 0
      s.setQueue q { x with elig := true, v := if x.v < least then least else x.v }) s
  { s1 with sched := { s1.sched with queues := Tab.mapVals Queue.blank (fun q x => if x.cls = 6 ∧ x.elig ∧ !bulk.contains q then { x with elig := false } else x) s1.sched.queues } }

/-- The entry that one selection takes, and which branch of the procedure took it: 0 latency, 1 BULK with credit, 2 BULK, 3 IDLE. -/
def State.choose (s : State) (cands : List Cand) : Option (Cand × Nat) :=
  let cls (c : Cand) : Nat := (s.queue c.q).cls
  let lat := cands.filter (fun c => decide (cls c ≤ 5))
  let urgent := lat.filter (fun c => decide (c.key ≤ s.bell.count + s.val 0x6810 7 20))
  let bulk := cands.filter (fun c => decide (cls c = 6))
  let byV (a b : Cand) : Bool := decide ((s.queue a.q).v < (s.queue b.q).v) || (decide ((s.queue a.q).v = (s.queue b.q).v) && decide (a.q < b.q))
  let idle := cands.filter (fun c => decide (cls c = 7))
  let dist (c : Cand) : Nat := (c.q + 2 ^ 20 - s.sched.lastIdle - 1) % 2 ^ 20
  match leastBy s.beforeCand urgent with
  | some e => some (e, 0)
  | none =>
    match leastBy byV (bulk.filter (fun c => decide (Tab.get 0 s.sched.credit (s.part c) ≥ 100))) with
    | some e => some (e, 1)
    | none =>
      match leastBy s.beforeCand lat with
      | some e => some (e, 0)
      | none =>
        match leastBy byV bulk with
        | some e => some (e, 2)
        | none => (leastBy (fun a b => decide (dist a < dist b)) idle).map (fun e => (e, 3))

/-- The core an entry goes to: its affinity cluster, else the cluster with the most cores, the lowest core in it. -/
def chooseCore (cores : List (Nat × List Nat)) (w : BitVec 512) : Option Nat :=
  let most := leastBy (fun (a b : Nat × List Nat) => decide (a.2.length > b.2.length)) cores
  let pick := if weAffv w then (match cores.find? (fun k => k.1 = weAff w) with | some k => some k | none => most) else most
  pick.bind (fun k => k.2.head?)

/-- The task of an entry (R339, R349). -/
def State.entryTask (s : State) (q : Nat) (e : QEntry) (key : Nat) : Task :=
  let x := s.queue q
  { Task.blank with
    source := 1, queue := q, entry := e.num, ctx := x.ctx, tag := weTag e.word, taint := e.mask, key := (Tab.get Ctx.blank s.pager.ctxs x.ctx).key,
    cls := x.rcls, deadline := if x.cls ≤ 5 then key + 1 else 0, space := weSpace e.word, addr := weStream e.word }

/-- The entry is dispatched to a core: its copy goes to the bench, the task to the sequencer (R339). -/
def State.dispatch (s : State) (c : Cand) (core : Nat) : State :=
  let x := s.queue c.q
  let again := decide (c.e.st = 4)
  let s1 := s.benchWrite core (64 * x.ebench64) (leBytes 64 c.e.word.toNat) c.e.mask false
  let s2 := s1.onCore core (fun y => { y with dispatched := some (s.entryTask c.q c.e c.key) })
  let y := if again then x else x.takeHead c.e
  let s3 := s2.setQueue c.q { y with
    infl := y.infl + 1, lastbell := s.bell.count % 2 ^ 32
    entries := setEntry (fun e => decide (e.num = c.e.num ∧ e.st = c.e.st) && !e.dropped)
      (fun e => { e with st := 2, lcore := core, dispB := s.bell.count }) y.entries }
  { s3 with sched := { s3.sched with dispatched := s3.sched.dispatched + 1, retried := s3.sched.retried + (if again then 1 else 0) } }

/-- SELECTION (R351, R353): one run of the procedure; `ns` is the doorbell-to-fetch time measured when the conditions of R352 held,
else 0. -/
def execSelection (ns : Nat) (s : State) : Res :=
  let s0 := s.joinBulk s.candidates
  if s.noNewWork then .next s
  else match s0.choose s0.candidates with
  | none => .next s0
  | some (c, branch) =>
    match chooseCore (s0.coresFor c.q) c.e.word with
    | none => .next s0
    | some core =>
      let p := s0.part c
      let x := s0.queue c.q
      let k := s0.sched
      let cr := Tab.get 0 k.credit p
      let share := s0.val 0x6810 (8 + p) 10
      let cr1 := if branch = 1 then cr - 100 else if branch = 0 then (if cr + share > 400 then 400 else cr + share) else cr
      let s1 := { s0 with sched := { k with
        credit := Tab.set 0 k.credit p cr1
        lastIdle := if branch = 3 then c.q else k.lastIdle
        dispMax := if branch = 0 ∧ ns > k.dispMax then ns else k.dispMax } }
      let s2 := if x.cls = 6 then s1.setQueue c.q { x with v := x.v + 65536 / x.weight } else s1
      .next (s2.dispatch c core)

/-! ## Completions (R343 to R345, R357, R472, R473) -/

/-- A number no larger than `m`. -/
def capAt (m n : Nat) : Nat := if n > m then m else n

/-- The entry is late when its completion is written (Table 11-3). -/
def entryLate (e : QEntry) (bell : Nat) : Bool := decide (weDeadline e.word ≠ 0 ∧ bell > e.arrB + weDeadline e.word)

/-- A completion entry (Table 11-3), number `k`, written at `bell`. -/
def completionEntry (e : QEntry) (k bell : Nat) : List Byte :=
  let ran := decide (e.lcore ≠ 0xFF)
  let v := e.num % 2 ^ 32 * 2 ^ 192 + e.status % 16 * 2 ^ 188 + (if entryLate e bell then 2 ^ 187 else 0) + e.lcore % 256 * 2 ^ 176
    + weTag e.word * 2 ^ 160 + k % 2 ^ 16 * 2 ^ 144 + (if ran then capAt 65535 (e.dispB - e.arrB) else 0) * 2 ^ 128
    + (if ran then capAt 65535 (e.endB - e.dispB) else 0) * 2 ^ 112 + bell % 2 ^ 48 * 2 ^ 64 + e.result % 2 ^ 64
  leBytes 28 v ++ leBytes 4 (crc32c (leBytes 28 v))

/-- The entry whose completion is written next: with ORDER the one numbered COMPLETED, otherwise the first to finish that nothing holds
back. -/
def Queue.completes (x : Queue) : Option QEntry :=
  let free := x.entries.filter (fun e => decide (e.st = 3 ∧ e.mask = 0#16 ∧ e.taint = 0#16))
  if x.order then free.find? (fun e => decide (e.num = x.completed)) else leastBy (fun a b => decide (a.fin < b.fin)) free

/-- The scheduler's writes into rings. -/
def State.schedAgent (s : State) : Agent := ⟨⟨none, 256, 0⟩, none, { Acc.plain with cls := s.val 0xA040 15 0 }, false⟩

/-- The seal record of completion `k` of a sealed queue: CTR is k + 1; the tag is the cipher's (a free value). -/
def State.sealCompletion (s : State) (q k : Nat) : State × AccSt :=
  let x := s.queue q
  if !x.sealed ∨ x.prod = prodLocal then (s, .ok)
  else
    let keyid := ((s.sec.keys.find? (fun e => decide (e.2.st = 1 ∧ e.2.use = 2 ∧ e.2.part = s.queuePart q))).map (·.1)).getD 0
    let f := s.fresh
    f.1.agentWrite s.schedAgent (x.cq + 32 * 2 ^ x.logsz + 32 * (k % 2 ^ x.logsz))
      (leBytes 6 0 ++ leBytes 2 keyid ++ leBytes 8 (k + 1) ++ leBytes 16 f.2) false

/-- COMPLETION_WRITE (R343, R345): the next completion of a queue is written, COMPLETED advances, a HOST queue asks for its vector. -/
def execCompletionWrite (queue : Fin 1048576) (s : State) : Res :=
  let q := queue.val
  let x := s.queue q
  match x.completes with
  | none => .next s
  | some e =>
    let k := x.completed
    let w := s.agentWrite s.schedAgent (x.cq + 32 * (k % 2 ^ x.logsz)) (completionEntry e k s.bell.count) false
    let z := w.1.sealCompletion q k
    match w.2, z.2 with
    | .wait, _ => .next s.waits
    | _, .wait => .next s.waits
    | _, _ =>
      let y := z.1.queue q
      let s1 := z.1.setQueue q { y with
        completed := k + 1
        entries := y.entries.filter (fun d => decide (d.num ≠ e.num ∨ d.st ≠ 3)) }
      let s2 := { s1 with sched := { s1.sched with late := s1.sched.late + (if entryLate e s.bell.count then 1 else 0) } }
      .next (if x.prod = prodHost then s2.askVector x.msix else s2)

/-! ## Queue commands (R334, R335, R360, R364, R365) -/

/-- The values of one WQ_CMD: staged subindices 1 to 14. -/
structure WqArgs where
  id : Nat
  ctx : Nat
  prod : Nat
  cls : Nat
  rcls : Nat
  logsz : Nat
  maxinfl : Nat
  weight : Nat
  flags : Nat
  clmask : Nat
  ebench : Nat
  sq : Nat
  cq : Nat
  msix : Nat

def State.wqArgs (s : State) (who : Nat) : WqArgs :=
  let g := fun sub d => s.staged who 0x6800 sub d
  ⟨g 1 0, g 2 0, g 3 0, g 4 6, g 5 0, g 6 8, g 7 1, g 8 1, g 9 0, g 10 0, g 11 0, g 12 0, g 13 0, g 14 0⟩

/-- A staged value is out of range or misaligned (Table 11-9, first row). -/
def WqArgs.bad (a : WqArgs) : Bool :=
  decide (a.id ≥ 2 ^ 20) || decide (a.ctx > 4095) || decide (a.prod > 2) || decide (a.cls > 7) || decide (a.rcls > 5) || decide (a.logsz < 4)
    || decide (a.logsz > 15) || decide (a.maxinfl < 1) || decide (a.maxinfl > 256) || decide (a.weight < 1) || decide (a.weight > 255)
    || decide (a.flags ≥ 16) || decide (a.clmask = 0) || decide (a.ebench % 64 ≠ 0) || decide (a.ebench + 64 > benchSize)
    || decide (a.sq % 64 ≠ 0) || decide (a.cq % 32 ≠ 0) || decide (a.msix > 2047)

/-- The queue these values make, before its counters. -/
def WqArgs.queue (a : WqArgs) (sealed : Bool) (old : Queue) : Queue :=
  { old with
    prod := a.prod, cls := a.cls, rcls := a.rcls, order := Nat.testBit a.flags 0, latedrop := Nat.testBit a.flags 1,
    retry := Nat.testBit a.flags 2, mirq := Nat.testBit a.flags 3, sealed := sealed, logsz := a.logsz, maxinfl := a.maxinfl,
    weight := a.weight, ctx := a.ctx, ebench64 := a.ebench / 64, msix := a.msix, clmask := BitVec.ofNat 32 a.clmask, sq := a.sq, cq := a.cq }

/-- The reservation in force that holds a span wholly, of a kind and partition. -/
def State.rsvHolds (s : State) (kind part base n : Nat) : Option Nat :=
  (s.market.rsv.find? (fun e => decide (e.2.kind = kind ∧ e.2.part = part ∧ e.2.base ≤ base ∧ base + n ≤ e.2.base + e.2.rows * 0x400000)
    && (List.range ((n + base % 0x10000 + 0xFFFF) / 0x10000)).all (fun i => s.addrOk (base / 0x10000 * 0x10000 + i * 0x10000)))).map (·.1)

/-- Both rings lie in LANDING frames of one reservation of the producer's kind (R333). -/
def State.ringsHoused (s : State) (x : Queue) (part : Nat) : Bool :=
  let kind := if x.prod = prodFabric then 2 else 1
  match s.rsvHolds kind part x.sq x.sqBytes, s.rsvHolds kind part x.cq x.cqBytes with
  | some a, some b => decide (a = b)
  | _, _ => false

def spansMeet (a n b m : Nat) : Bool := decide (a < b + m ∧ b < a + n)

/-- A ring overlaps a ring of another queue, or the queue's own other ring. -/
def State.ringsMeet (s : State) (id : Nat) (x : Queue) : Bool :=
  spansMeet x.sq x.sqBytes x.cq x.cqBytes ||
  s.sched.queues.any (fun e => decide (e.1 ≠ id ∧ e.2.st ≠ qFree) &&
    (spansMeet x.sq x.sqBytes e.2.sq e.2.sqBytes || spansMeet x.sq x.sqBytes e.2.cq e.2.cqBytes
      || spansMeet x.cq x.cqBytes e.2.sq e.2.sqBytes || spansMeet x.cq x.cqBytes e.2.cq e.2.cqBytes))

/-- Latency-class queues that are not FREE (WQ_LAT_QUEUES). -/
def State.latQueues (s : State) : Nat := (s.sched.queues.filter (fun e => decide (e.2.st ≠ qFree ∧ e.2.cls ≤ 5))).length

/-- The mirroring of the partition's starter is configured: it has a partner (R360). -/
def State.mirrorable (s : State) (part : Nat) : Bool := decide (s.val (0x5400 + part) 1 0xFFFF ≠ 0xFFFF)

/-- The refusal of a CREATE or SET that would make queue `x` under number `a.id` (Table 11-9, Table 19-5); 0: none. -/
def State.wqRefusal (s : State) (a : WqArgs) (x old : Queue) (create : Bool) : Nat :=
  let c := Tab.get Ctx.blank s.pager.ctxs x.ctx
  if a.bad then 0x0301
  else if x.cls ≤ 5 ∧ (create ∨ old.cls > 5) ∧ s.latQueues ≥ 65536 then 0x0301
  else if create ∧ old.st ≠ qFree then 0x0401
  else if s.ringsMeet a.id x then 0x0401
  else if (!create ∧ old.st = qFree) ∨ !c.active then 0x0402
  else if (List.range 32).any (fun k => x.clmask.getLsbD k && decide (s.clusterPart k ≠ some c.part)) then 0x0402
  else if !s.ringsHoused x c.part then 0x0402
  else if x.mirq ∧ (x.prod ≠ prodFabric ∨ !s.mirrorable c.part) then 0x0402
  else if !create ∧ old.infl ≠ 0 ∧ x.ebench64 ≠ old.ebench64 then 0x0402
  else 0

/-- A descriptor as 60 bytes with its CRC (Table 11-1). -/
def Queue.descriptor (x : Queue) : List Byte :=
  let b (f : Bool) (i : Nat) : Nat := if f then 2 ^ i else 0
  let v := x.st * 2 ^ 477 + x.prod * 2 ^ 475 + x.cls * 2 ^ 472 + x.rcls * 2 ^ 469 + b x.order 468 + b x.latedrop 467 + b x.sealed 466
    + x.logsz % 16 * 2 ^ 462 + (x.maxinfl - 1) % 256 * 2 ^ 454 + x.weight % 256 * 2 ^ 446 + x.ctx % 4096 * 2 ^ 434 + x.ebench64 % 8192 * 2 ^ 421
    + x.msix % 2048 * 2 ^ 410 + b x.retry 409 + b x.mirq 408 + x.clmask.toNat * 2 ^ 352 + x.sq % 2 ^ 48 * 2 ^ 304 + x.cq % 2 ^ 48 * 2 ^ 256
    + x.arrived % 2 ^ 64 * 2 ^ 192 + x.taken % 2 ^ 64 * 2 ^ 128 + x.completed % 2 ^ 64 * 2 ^ 64 + x.infl % 2 ^ 16 * 2 ^ 48
    + x.draftn % 2 ^ 16 * 2 ^ 32 + x.lastbell % 2 ^ 32
  leBytes 60 v ++ leBytes 4 (crc32c (leBytes 60 v))

/-- The engine that carries the records firmware emits for a partition: that of the half of its first quarter. -/
def State.recordEngine (s : State) (p : Nat) : Nat := match (s.partQuarters p).head? with | some q => quarterHalf q | none => 0

/-- A firmware record of a partition's starter stream (R452). -/
def State.firmRecord (s : State) (p kind ctx keyv : Nat) (body : List Byte) : State :=
  let st := (Tab.get Starter.blank s.fabric.starters p).st
  if st = 1 ∨ st = 2 then s.mirrorTo (s.recordEngine p) ⟨kind, p, ctx, 0, 0, 0#16, keyv, body⟩ else s

/-- The record of a mirrored queue's COMPLETED and kept seal counter (R360, R558). -/
def State.queueDone (s : State) (q : Nat) : State :=
  let x := s.queue q
  if x.mirq then s.firmRecord (s.queuePart q) 6 0 q (leBytes 8 x.completed ++ leBytes 8 x.ctr ++ leBytes 16 0) else s

/-- The record of a mirrored queue's descriptor (R360). -/
def State.queueDesc (s : State) (q : Nat) : State :=
  let x := s.queue q
  if x.mirq then s.firmRecord (s.queuePart q) 5 0 q x.descriptor else s

/-- Subindices 1 to 14 of 0x6800. -/
def wqSubs : List (Nat × Nat × Nat) :=
  [(1, 4, 0), (2, 2, 0), (3, 1, 0), (4, 1, 6), (5, 1, 0), (6, 1, 8), (7, 2, 1), (8, 1, 1), (9, 1, 0), (10, 4, 0), (11, 4, 0), (12, 8, 0),
   (13, 8, 0), (14, 2, 0)]

/-- A queue of these values would be sealed: the context's partition is, and the producer is not LOCAL (R558). -/
def State.wqSealed (s : State) (a : WqArgs) : Bool :=
  decide ((Tab.get Seal.blank s.sec.seals (Tab.get Ctx.blank s.pager.ctxs a.ctx).part).st = 1) && decide (a.prod ≠ 2)

/-- The queue that CREATE makes: PAUSED, with zero counters. -/
def WqArgs.created (a : WqArgs) (sealed : Bool) : Queue := { a.queue sealed Queue.blank with st := qPaused }

/-- The values of a SET: the context, the producer, the sizes and the rings stay. -/
def WqArgs.kept (a : WqArgs) (old : Queue) : WqArgs := { a with ctx := old.ctx, prod := old.prod, logsz := old.logsz, sq := old.sq, cq := old.cq }

/-- A queue is stored unless a row of Table 11-9 refuses it. -/
def State.wqStore (s : State) (id refusal : Nat) (x : Queue) : State :=
  match refusal with
  | 0 => ((s.setQueue id x).queueDesc id).answer 0
  | e => s.answer e

/-- WQ_CMD CREATE: a FREE queue becomes PAUSED, with zero counters. -/
def State.wqCreate (s : State) (who : Nat) : State :=
  let a := s.wqArgs who
  let x := a.created (s.wqSealed a)
  s.wqStore a.id (s.wqRefusal a x (s.queue a.id) true) x

/-- WQ_CMD SET: class, regulation class, MAXINFL, weight, flags, CLMASK, MSIX and EBENCH change. -/
def State.wqSet (s : State) (who : Nat) : State :=
  let a := s.wqArgs who
  let old := s.queue a.id
  let x := (a.kept old).queue old.sealed old
  s.wqStore a.id (s.wqRefusal (if old.st = qFree then a else a.kept old) x old false) x

/-- A command that only changes the state of queue WQ_ID: FREE queues and numbers out of range refused first. -/
def State.wqState (s : State) (who : Nat) (k : Nat → Queue → State) : State :=
  let id := s.staged who 0x6800 1 0
  if id ≥ 2 ^ 20 then s.answer 0x0301
  else if (s.queue id).st = qFree then s.answer 0x0402
  else k id (s.queue id)

def State.wqPause (s : State) (who : Nat) : State :=
  s.wqState who (fun q x => ((s.setQueue q { x with st := if x.st = qEnabled then qPaused else x.st }).queueDone q).answer 0)
def State.wqEnable (s : State) (who : Nat) : State :=
  s.wqState who (fun q x => if x.st = qMigrating then s.answer 0x0402 else (s.setQueue q { x with st := qEnabled }).answer 0)
/-- DRAIN: untaken entries complete DROPPED; PAUSED once no task is in flight. -/
def State.wqDrain (s : State) (who : Nat) : State :=
  s.wqState who (fun q x =>
    let s1 := (s.setQueue q { x with st := qDraining }).dropEntries q
    ((s1.setQueue q (s1.queue q).settle).queueDone q).answer 0)
def State.wqDestroy (s : State) (who : Nat) : State :=
  s.wqState who (fun q x => if x.st ≠ qPaused ∨ x.infl ≠ 0 then s.answer 0x0402 else (s.setQueue q Queue.blank).answer 0)
def State.wqSelect (s : State) (who : Nat) : State :=
  s.wqState who (fun _ x => (s.select who 0x6800 16 64 (leNat x.descriptor)).answer 0)

def execWqCreate (who : Fin 16) (s : State) : Res := .next (s.command who.val 0x6800 (s.authPlain who.val) (fun s => (s.wqCreate who.val).appliedIf who.val 0x6800 wqSubs))
def execWqSet (who : Fin 16) (s : State) : Res := .next (s.command who.val 0x6800 (s.authPlain who.val) (fun s => (s.wqSet who.val).appliedIf who.val 0x6800 wqSubs))
def execWqPause (who : Fin 16) (s : State) : Res := .next (s.command who.val 0x6800 (s.authPlain who.val) (fun s => (s.wqPause who.val).appliedIf who.val 0x6800 wqSubs))
def execWqEnable (who : Fin 16) (s : State) : Res := .next (s.command who.val 0x6800 (s.authPlain who.val) (fun s => (s.wqEnable who.val).appliedIf who.val 0x6800 wqSubs))
def execWqDrain (who : Fin 16) (s : State) : Res := .next (s.command who.val 0x6800 (s.authPlain who.val) (fun s => (s.wqDrain who.val).appliedIf who.val 0x6800 wqSubs))
def execWqDestroy (who : Fin 16) (s : State) : Res := .next (s.command who.val 0x6800 (s.authPlain who.val) (fun s => (s.wqDestroy who.val).appliedIf who.val 0x6800 wqSubs))
def execWqSelect (who : Fin 16) (s : State) : Res := .next (s.command who.val 0x6800 (s.authPlain who.val) (fun s => (s.wqSelect who.val).appliedIf who.val 0x6800 wqSubs))

/-- QUEUE_MIRROR (R360): at a bell that is a multiple of WQ_MIRROR_PERIOD, COMPLETED of every mirrored queue enters the stream. -/
def execQueueMirror (s : State) : Res :=
  .next (if s.bell.count % s.val 0x6810 16 1000 ≠ 0 then s
    else s.sched.queues.foldl (fun s e => if e.2.st ≠ qFree then s.queueDone e.1 else s) s)

/-- A descriptor loaded from the table in HBM fails its CRC: the queue is PAUSED and the event recorded (R335). -/
def State.descriptorBad (s : State) (q : Nat) : State :=
  let x := s.queue q
  if x.st = qFree then s else (s.setQueue q { x with st := qPaused }).event 0x50 1 q 0

/-- Every cluster of a queue's mask has left READY: recorded once (R359). -/
def State.queuesLost (s : State) : State :=
  s.sched.queues.foldl (fun s e =>
    let x := s.queue e.1
    let gone := (List.range 32).all (fun k => !x.clmask.getLsbD k || !s.inService ukCluster k)
    if x.st ≠ qFree ∧ gone ∧ !x.lostRec then (s.setQueue e.1 { x with lostRec := true }).event 0x50 3 e.1 x.clmask.toNat else s) s

end Sys2Proof.Machine
end

