-- ==== Sys2Proof/Machine/Fabric.lean ====
section
/-!
DEFINITION. The Gwengo transport (chapter 14): frame headers, peers, planes, flows, what is sent and resent, acceptance and
acknowledgement, how a message ends.
-/

namespace Sys2Proof.Machine
open Sys2Proof

/-! ## The base header (Table 14-2) -/

def frVer (h : BitVec 512) : Nat := bits 511 508 h
def frType (h : BitVec 512) : Nat := bits 507 504 h
def frSealed (h : BitVec 512) : Bool := bitAt h 503
def frPx (h : BitVec 512) : Bool := bitAt h 502
def frDb (h : BitVec 512) : Bool := bitAt h 501
def frLast (h : BitVec 512) : Bool := bitAt h 500
def frCe (h : BitVec 512) : Bool := bitAt h 499
def frColl (h : BitVec 512) : Bool := bitAt h 498
def frPlen (h : BitVec 512) : Nat := bits 495 483 h
def frSrc (h : BitVec 512) : Nat := bits 479 464 h
def frDst (h : BitVec 512) : Nat := bits 463 448 h
def frPsn (h : BitVec 512) : Nat := bits 447 416 h
def frKeyid (h : BitVec 512) : Nat := bits 415 400 h
def frDeadline (h : BitVec 512) : Nat := bits 399 384 h
def frRclass (h : BitVec 512) : Nat := bits 383 380 h
def frTkind (h : BitVec 512) : Nat := bits 379 379 h
def frWin (h : BitVec 512) : Nat := bits 375 364 h
def frAddr (h : BitVec 512) : Nat := bits 363 308 h
def frMsg (h : BitVec 512) : Nat := bits 307 292 h
def frFrag (h : BitVec 512) : Nat := bits 291 279 h
def frSectors (h : BitVec 512) : Nat := bits 278 259 h + 1
def frDbq (h : BitVec 512) : Nat := bits 255 236 h
def frDbtail (h : BitVec 512) : Nat := bits 235 204 h
def frCflags (h : BitVec 512) : Nat := bits 203 200 h
def frGroup (h : BitVec 512) : Nat := bits 199 192 h
def frInst (h : BitVec 512) : Nat := bits 191 184 h
def frFmt (h : BitVec 512) : Nat := bits 255 252 h
def frAnchor (h : BitVec 512) : Int := sext 11 (bits 251 241 h)
def frDflags (h : BitVec 512) : Nat := bits 255 252 h

def tPut : Nat := 0
def tGetreq : Nat := 1
def tGetresp : Nat := 2
def tFold : Nat := 3
def tDone : Nat := 4
def tMirror : Nat := 5
def tRedirect : Nat := 6
def tAck : Nat := 8
def tNack : Nat := 9
def tBeat : Nat := 10

/-- A reserved field, or a field the type does not use, is nonzero, or the type is undefined. -/
def frReserved (h : BitVec 512) : Bool :=
  decide (bits 497 496 h ≠ 0) || decide (bits 482 480 h ≠ 0) || decide (bits 378 376 h ≠ 0) || decide (bits 258 256 h ≠ 0)
  || (decide (frTkind h = 0) && decide (frWin h ≠ 0))
  || (match frType h with
      | 0 => decide (bits 183 32 h ≠ 0)
      | 1 => decide (bits 255 32 h ≠ 0)
      | 2 => decide (bits 255 32 h ≠ 0)
      | 3 => decide (bits 240 200 h ≠ 0) || decide (bits 183 32 h ≠ 0)
      | 4 => decide (bits 251 32 h ≠ 0)
      | 5 => decide (bits 255 32 h ≠ 0)
      | 6 => decide (bits 223 32 h ≠ 0)
      | 8 => decide (bits 63 32 h ≠ 0)
      | 9 => decide (bits 211 32 h ≠ 0)
      | 10 => decide (bits 105 32 h ≠ 0)
      | _ => true)

/-- `n` bytes, most significant first (R8). -/
def beBytes (n v : Nat) : List Byte := (leBytes n v).reverse

/-- The CRC of a header with its extensions (R424). -/
def frameCrc (h : Nat) (pmap : QWord) (tag : Nat) (px sealed : Bool) : Nat :=
  crc32c ((beBytes 64 h).take 60 ++ (if px then beBytes 16 pmap.toNat else []) ++ (if sealed then beBytes 16 tag else []))

/-- The fields of a header that the sender fills. -/
structure Hdr where
  type : Nat
  db : Bool := false
  last : Bool := false
  ce : Bool := false
  coll : Bool := false
  plen : Nat := 0
  dst : Nat
  deadline : Nat := 0xFFFF
  rclass : Nat := 0
  tkind : Nat := 0
  win : Nat := 0
  addr : Nat := 0
  msg : Nat := 0
  frag : Nat := 0
  msectm1 : Nat := 0
  /-- bits [255:0] without the CRC -/
  body : Nat := 0

/-- The header without its CRC. -/
def Hdr.word (h : Hdr) (src psn keyid : Nat) (px : Bool) : Nat :=
  let b (f : Bool) (i : Nat) : Nat := if f then 2 ^ i else 0
  2 ^ 508 + h.type % 16 * 2 ^ 504 + b (decide (keyid ≠ 0)) 503 + b px 502 + b h.db 501 + b h.last 500 + b h.ce 499 + b h.coll 498
    + h.plen % 2 ^ 13 * 2 ^ 483 + src % 2 ^ 16 * 2 ^ 464 + h.dst % 2 ^ 16 * 2 ^ 448 + psn % 2 ^ 32 * 2 ^ 416 + keyid % 2 ^ 16 * 2 ^ 400
    + h.deadline % 2 ^ 16 * 2 ^ 384 + h.rclass % 16 * 2 ^ 380 + h.tkind % 2 * 2 ^ 379 + h.win % 4096 * 2 ^ 364 + h.addr % 2 ^ 56 * 2 ^ 308
    + h.msg % 2 ^ 16 * 2 ^ 292 + h.frag % 2 ^ 13 * 2 ^ 279 + h.msectm1 % 2 ^ 20 * 2 ^ 259 + h.body % 2 ^ 256

/-! ## Identity, peers, planes (R421, R435, R446) -/

/-- The device's own identifier (R421). -/
def State.selfId (s : State) : Nat := s.fabric.domain * 2 ^ 13 + s.fabric.device

def State.peer (s : State) (p : Nat) : Peer := Tab.get Peer.blank s.fabric.peers p
def State.setPeer (s : State) (p : Nat) (x : Peer) : State :=
  { s with fabric := { s.fabric with peers := Tab.set Peer.blank s.fabric.peers p x } }
def flowKey (e peer : Nat) : Nat := e * 65536 + peer
def State.flow (s : State) (e peer : Nat) : Flow := Tab.get Flow.blank s.fabric.flows (flowKey e peer)
def State.setFlow (s : State) (e peer : Nat) (x : Flow) : State :=
  { s with fabric := { s.fabric with flows := Tab.set Flow.blank s.fabric.flows (flowKey e peer) x } }
def State.onFlow (s : State) (e peer : Nat) (f : Flow → Flow) : State := s.setFlow e peer (f (s.flow e peer))
def State.fbCount (s : State) (i n : Nat) : State := { s with fabric := { s.fabric with cnt := Tab.modify 0 s.fabric.cnt i (· + n) } }
def State.port (s : State) (i : Nat) : Port := Tab.get Port.blank s.fabric.ports i
def State.setPort (s : State) (i : Nat) (x : Port) : State :=
  { s with fabric := { s.fabric with ports := Tab.set Port.blank s.fabric.ports i x } }

/-- The device whose ports frames named for `dst` go to (R457). -/
def State.routeTo (s : State) (dst : Nat) : Nat :=
  match (Tab.get Redirect.blank s.fabric.redirects dst).new1 with
  | 0 => dst
  | n + 1 => n

def enginePlanes (e : Nat) : List Nat := (List.range 9).map (· + 9 * e)

/-- Plane `i` is usable toward a peer (R435). -/
def State.planeUsable (s : State) (peer i : Nat) : Bool :=
  let p := s.peer peer
  s.inService ukPort i && Nat.testBit p.ports i && decide (Tab.get 0 p.excluded i ≤ s.bell.count)

/-- The weight of a plane, in halves: 4 at 800 Gb/s, 2 otherwise, half of it for 16 µs after a CE echo (R435). -/
def State.planeWeight (s : State) (f : Flow) (i : Nat) : Int :=
  let w := if (s.port i).speed = 800 then 4 else 2
  if Tab.get 0 f.ceUntil i > s.bell.count then w / 2 else w

/-- The plane of greatest accumulated weight, the lowest of equals. -/
def bestPlane : List (Nat × Int) → Option (Nat × Int)
  | [] => none
  | x :: r => match bestPlane r with
    | none => some x
    | some y => if y.2 > x.2 then some y else some x

/-- The plane for the next data frame by smooth weighted round-robin, other than `avoid` when there is one (R435, R436): the plane and
the weights after. -/
def State.pickPlane (s : State) (e peer : Nat) (avoid : Option Nat) : Option (Nat × Tab Int) :=
  let f := s.flow e peer
  let all := (enginePlanes e).filter (fun i => s.planeUsable peer i)
  let other := all.filter (fun i => decide (avoid ≠ some i))
  let us := if other.isEmpty then all else other
  let total := us.foldl (fun a i => a + s.planeWeight f i) 0
  let sums := us.map (fun i => (i, Tab.get 0 f.spray i + s.planeWeight f i))
  (bestPlane sums).map (fun b =>
    (b.1, sums.foldl (fun t x => Tab.set 0 t x.1 (if x.1 = b.1 then x.2 - total else x.2)) f.spray))

/-- A plane for a control frame: the ports in service that the peer's BEAT shows up, else any in service, in turn. -/
def State.controlPlane (s : State) (e peer : Nat) : Option Nat :=
  let up := (enginePlanes e).filter (fun i => s.inService ukPort i)
  let both := up.filter (fun i => s.planeUsable peer i)
  let us := if both.isEmpty then up else both
  us[s.fabric.beatSel % us.length]?

/-! ## Sending -/

/-- DSCP of a frame (R417). -/
def State.dscp (s : State) (h : BitVec 512) : Nat :=
  let v := s.val 0x5020 6 0x002E220A
  if frType h ≥ 8 then v / 2 ^ 16 % 256
  else if frType h = tMirror ∨ (frTkind h = 0 ∧ (frType h = tPut ∨ frType h = tGetreq ∨ frType h = tFold)) then v / 2 ^ 8 % 256
  else v % 256

/-- A frame leaves on a port: the plane, then DSCP, the device it is addressed to, header, poison map, tag, payload length and payload. -/
def State.putOnWire (s : State) (plane : Nat) (hdr : BitVec 512) (pmap : QWord) (tag : Nat) (payload : List Byte) : State :=
  let p := s.port plane
  (s.setPort plane { p with tx := p.tx + 1 }).emit .fabric plane
    [s.dscp hdr, s.routeTo (frDst hdr), hdr.toNat, pmap.toNat, tag, payload.length, leNat payload]

/-- The FABRIC key an engine sends under for a partition: none for one that is not SEALED (R557, R560). -/
def State.sendKey (s : State) (part : Option Nat) : Nat :=
  match part with
  | none => 0
  | some p =>
    if s.sealed p then ((s.sec.keys.find? (fun e => decide (e.2.st = 1 ∧ e.2.use = 1 ∧ e.2.part = p))).map (·.1)).getD 0 else 0

/-- The IV of a frame (R427). -/
def frameIv (src dst e cls psn : Nat) : Nat := src * 2 ^ 80 + dst * 2 ^ 64 + e * 2 ^ 33 + cls * 2 ^ 32 + psn % 2 ^ 32

/-- A frame with its CRC, its tag and its payload as sent. -/
def State.seal' (s : State) (h : Hdr) (e cls psn keyid : Nat) (px : Bool) (pmap : QWord) (payload : List Byte) : BitVec 512 × Nat × List Byte :=
  let w := h.word s.selfId psn keyid px
  let key := (Tab.get KeyRec.blank s.sec.keys keyid).key
  let iv := frameIv s.selfId h.dst e cls psn
  let tag := if keyid = 0 then 0 else Config.gcmTag key iv ((beBytes 64 w).take 60 ++ (if px then beBytes 16 pmap.toNat else []))
  (BitVec.ofNat 512 (w + frameCrc w pmap tag px (decide (keyid ≠ 0))), tag, if keyid = 0 then payload else Config.counterMode key iv payload)

/-- The flow reached PSN 2^31 under the key (R557). -/
def Flow.keyWaits (f : Flow) (keyid : Nat) : Bool := f.spent.contains keyid

/-- The flow has taken a PSN under a key (0: none); at PSN 2^31 the keys used so far are spent (R557). -/
def Flow.tookPsn (f : Flow) (keyid : Nat) : Flow :=
  let u := if keyid = 0 ∨ f.used.contains keyid then f.used else f.used ++ [keyid]
  let n := (f.next + 1) % 2 ^ 32
  if n = 2 ^ 31 then { f with next := n, used := [], spent := f.spent ++ u.filter (fun k => !f.spent.contains k) }
  else { f with next := n, used := u }

/-- Sends a new data frame of a flow; none: the window is full, no plane is usable, or the keys must be switched first (R433, R435,
R437, R557). -/
def State.sendData (s : State) (e : Nat) (h : Hdr) (part : Option Nat) (pmap : QWord) (payload : List Byte) : Option State :=
  let peer := s.routeTo h.dst
  let f := s.flow e peer
  let keyid := s.sendKey part
  if f.unacked.length ≥ f.w ∨ f.keyWaits keyid then none
  else
    (s.pickPlane e peer none).map (fun pl =>
      let fr := s.seal' h e 0 f.next keyid (decide (pmap ≠ 0#128)) pmap payload
      let tx : TxFrame := ⟨fr.1, pmap, fr.2.1, fr.2.2, pl.1, s.bell.count, 1, 0⟩
      (s.setFlow e peer { f.tookPsn keyid with
        open' := true
        unacked := f.unacked ++ [tx], spray := pl.2 }).putOnWire pl.1 fr.1 pmap fr.2.1 fr.2.2)

/-- Sends a control frame, which is neither acknowledged nor resent (R425); with no port in service it is lost. -/
def State.sendControl (s : State) (e peer : Nat) (h : Hdr) (part : Option Nat) : State :=
  match s.controlPlane e peer with
  | none => s
  | some i =>
    let f := s.flow e peer
    let fr := s.seal' h e 1 f.ctl (s.sendKey part) false 0#128 []
    let s1 := s.setFlow e peer { f with ctl := (f.ctl + 1) % 2 ^ 32 }
    { s1 with fabric := { s1.fabric with beatSel := s1.fabric.beatSel + 1 } }.putOnWire i fr.1 0#128 fr.2.1 []

/-! ## Messages at the sender -/

def State.onMsgs (s : State) (p : Msg → Bool) (f : Msg → Msg) : State :=
  { s with fabric := { s.fabric with msgs := s.fabric.msgs.map (fun m => if p m then f m else m) } }

/-- Types whose MSG names a message of the sender of the frame. -/
def ownsMsg (t : Nat) : Bool := decide (t = tPut ∨ t = tGetreq ∨ t = tFold ∨ t = tMirror ∨ t = tRedirect)

/-- The message that a frame sent by engine `e` belongs to. -/
def Msg.ofFrame (e : Nat) (h : BitVec 512) (m : Msg) : Bool := ownsMsg (frType h) && decide (m.engine = e ∧ m.num = frMsg h)

/-- A data frame goes out again, on another plane when there is one (R436). -/
def State.resend (s : State) (e peer psn : Nat) : State :=
  let f := s.flow e peer
  match f.unacked.find? (fun t => decide (frPsn t.hdr = psn)) with
  | none => s
  | some t =>
    match s.pickPlane e peer (some t.plane) with
    | none => s
    | some pl =>
      let t1 := { t with plane := pl.1, sent := s.bell.count, tries := t.tries + 1, again := 0 }
      let s1 := s.setFlow e peer { f with
        unacked := f.unacked.map (fun x => if frPsn x.hdr = psn then t1 else x), spray := pl.2 }
      ((s1.onMsgs (Msg.ofFrame e t.hdr) (fun m => { m with retx := m.retx + 1 })).fbCount 3 1).putOnWire pl.1 t.hdr t.pmap t.tag t.payload

/-- A message ends with a status of Table 14-5. -/
def Msg.finish (status detail : Nat) (m : Msg) : Msg := if m.ended = 0 then { m with ended := status + 1, detail := detail } else m

/-- Every message toward a device ends. -/
def State.endMessagesTo (s : State) (peer status : Nat) : State :=
  s.onMsgs (fun m => decide (s.routeTo m.dst = peer ∨ m.dst = peer)) (Msg.finish status 0)

/-- A collective that has lost a member, or whose message ended so, ends (R445). -/
def State.endColls (s : State) (p : Coll → Bool) (status : Nat) : State :=
  { s with fabric := { s.fabric with colls := s.fabric.colls.map (fun c => if p c ∧ c.status = 0 then { c with status := status + 1 } else c) } }

/-- Collectives with a message that ended PEER_RESET or TIMEOUT, or refused. -/
def State.settleColls (s : State) : State :=
  s.fabric.msgs.foldl (fun s m =>
    if m.ended ≥ 2 ∧ m.coll ≠ 0 then s.endColls (fun c => decide (c.engine = m.engine ∧ c.chan = m.chan)) (m.ended - 1) else s) s

/-- Data frames of the message. -/
def Msg.frames (m : Msg) (mtu : Nat) : Nat := if m.kind = tPut ∨ m.kind = tFold then (m.sectors * 32 + mtu - 1) / mtu else 1

def State.mtu (s : State) : Nat := s.val 0x5020 4 4096

/-- The message is complete by R432. -/
def Msg.complete (m : Msg) (mtu : Nat) : Bool :=
  if m.kind = tGetreq then decide (m.got ≥ m.sectors)
  else decide (m.sent = m.frames mtu ∧ m.acked ≥ m.frames mtu) && (decide (m.kind ≠ tFold) || m.doneIn)

/-! ## Acknowledgements at the sender (R436, R437) -/

/-- `a` lies before `b`, modulo 2^32. -/
def psnBefore (a b : Nat) : Bool := let d := (b + 2 ^ 32 - a % 2 ^ 32) % 2 ^ 32; decide (0 < d ∧ d < 2 ^ 31)

/-- An ACK with CUMPSN, SBASE and SACK covers a PSN. -/
def ackCovers (cum sbase sack psn : Nat) : Bool :=
  psnBefore psn cum || (let k := (psn + 2 ^ 32 - sbase) % 2 ^ 32; decide (k < 128) && Nat.testBit sack k)

/-- W after an ACK: halved on a CE echo at most once per 10 µs, with a floor of 8; otherwise 1 more for each W frames (R437). -/
def Flow.window (f : Flow) (n now max : Nat) (ce : Bool) : Flow :=
  if ce then
    if f.halved ≠ 0 ∧ now < f.halved - 1 + 10 then f
    else { f with w := if f.w / 2 < 8 then 8 else f.w / 2, halved := now + 1, grow := 0 }
  else
    let g := f.grow + n
    if g ≥ f.w then { f with grow := g - f.w, w := if f.w < max then f.w + 1 else f.w } else { f with grow := g }

/-- An ACK arrives on a plane. -/
def State.applyAck (s : State) (e peer plane cum sbase sack : Nat) (ce : Bool) : State :=
  let f := s.flow e peer
  let done := f.unacked.filter (fun t => ackCovers cum sbase sack (frPsn t.hdr))
  let left := f.unacked.filter (fun t => !ackCovers cum sbase sack (frPsn t.hdr))
  let f1 := { f with
    unacked := left, backoff := 0
    planeTo := done.foldl (fun t (x : TxFrame) => Tab.set 0 t x.plane 0) f.planeTo
    ceUntil := if ce then Tab.set 0 f.ceUntil plane (s.bell.count + 16) else f.ceUntil }
  let s1 := s.setFlow e peer (f1.window done.length s.bell.count (s.val 0x5030 5 1024) ce)
  let s2 := done.foldl (fun s t => s.onMsgs (Msg.ofFrame e t.hdr) (fun m => { m with acked := m.acked + 1 })) s1
  let reorder := s.val 0x5030 4 4
  let late := left.filter (fun t => done.any (fun d => decide (t.sent + reorder ≤ d.sent)))
  late.foldl (fun s t => s.resend e peer (frPsn t.hdr)) s2

/-- The retransmission timeout of a flow in bells: FB_RTO doubled with each consecutive timeout, up to 1 ms (R436). -/
def State.rto (s : State) (f : Flow) : Nat :=
  let t := s.val 0x5030 3 50 * 2 ^ f.backoff
  if t > 1000 then 1000 else t

/-- The oldest frame of a flow that no ACK covers within the timeout goes out again; W becomes 8; a plane with 8 consecutive timeouts is
excluded for the peer for 100 ms (R435 to R437). -/
def State.timeoutFlow (s : State) (e peer : Nat) : State :=
  let f := s.flow e peer
  match f.unacked.find? (fun t => decide (t.sent + s.rto f ≤ s.bell.count)) with
  | none => s
  | some t =>
    let n := Tab.get 0 f.planeTo t.plane + 1
    let s1 := s.setFlow e peer { f with
      w := 8, grow := 0, backoff := f.backoff + 1, planeTo := Tab.set 0 f.planeTo t.plane (if n ≥ 8 then 0 else n) }
    let p := s1.peer peer
    let s2 := if n ≥ 8 then s1.setPeer peer { p with excluded := Tab.set 0 p.excluded t.plane (s.bell.count + 100000) } else s1
    s2.resend e peer (frPsn t.hdr)

/-! ## Acceptance at the receiver (R433, R434) -/

/-- The SACK of an ACK from `sbase` on. -/
def Flow.sack (f : Flow) (sbase : Nat) : Nat :=
  (List.range 128).foldl (fun a k => if (sbase + k) % 2 ^ 32 ∈ f.got then a + 2 ^ k else a) 0

/-- Sends the ACKs of a flow: one for each 128 PSNs that the holes span. -/
def State.sendAck (s : State) (e peer : Nat) : State :=
  let f := s.flow e peer
  let span := f.got.foldl (fun a p => let d := (p + 2 ^ 32 - f.cum) % 2 ^ 32 + 1; if d > a then d else a) 0
  let n := if span = 0 then 1 else (span + 127) / 128
  let s1 := (List.range n).foldl (fun s i =>
    let base := (f.cum + 128 * i) % 2 ^ 32
    s.sendControl e peer { type := tAck, dst := peer, ce := f.ce, body := f.cum * 2 ^ 224 + base * 2 ^ 192 + f.sack base * 2 ^ 64 } none) s
  s1.onFlow e peer (fun f => { f with sinceAck := 0, oldest := 0, ce := false })

/-- CUMPSN moves past the PSNs accepted. -/
def advanceCum : Nat → Nat → List Nat → Nat × List Nat
  | 0, c, g => (c, g)
  | n + 1, c, g => if c ∈ g then advanceCum n ((c + 1) % 2 ^ 32) (g.filter (· ≠ c)) else (c, g)

/-- A doorbell whose message and every frame before it have been accepted takes effect (R438, R439). -/
def State.flowBell (s : State) (b : FlowBell) : State :=
  let x := s.queue b.queue
  let a := x.arrived
  let tail := a + ((b.tail + 2 ^ 32 - (a + 1) % 2 ^ 32) % 2 ^ 32) + 1
  if b.part1 = 0 ∨ x.st = qFree ∨ x.prod ≠ prodFabric ∨ s.queuePart b.queue + 1 ≠ b.part1 ∨ s.partResetting (s.queuePart b.queue) then
    s.ignoreBell b.queue
  else s.ringQueue b.queue prodFabric tail 0#16

/-- A PSN is accepted: CUMPSN moves, doorbells in flow order take effect, an ACK goes after 16 frames. -/
def State.accept (s : State) (e peer psn : Nat) (ce : Bool) : State :=
  let f := s.flow e peer
  let g := if psn = f.cum ∨ psn ∉ f.got then psn :: f.got else f.got
  let c := advanceCum (g.length + 1) f.cum g
  let ready := f.bells.filter (fun b => psnBefore b.psn c.1)
  let s1 := s.setFlow e peer { f with
    open' := true, cum := c.1, got := c.2, sinceAck := f.sinceAck + 1, oldest := if f.sinceAck = 0 then s.bell.count else f.oldest
    ce := f.ce || ce, bells := f.bells.filter (fun b => !psnBefore b.psn c.1) }
  let s2 := ready.foldl State.flowBell s1
  if f.sinceAck + 1 ≥ 16 then s2.sendAck e peer else s2

/-- A NACK of a frame (Table 14-6). -/
def State.sendNack (s : State) (e : Nat) (h : BitVec 512) (code detail : Nat) : State :=
  (s.sendControl e (frSrc h) { type := tNack, dst := frSrc h, msg := frMsg h, body := frPsn h * 2 ^ 224 + code * 2 ^ 220 + detail * 2 ^ 212 } none).fbCount 4 1

/-! ## Messages at the receiver -/

def RxMsg.is (e peer num kind : Nat) (m : RxMsg) : Bool := decide (m.engine = e ∧ m.peer = peer ∧ m.num = num ∧ m.kind = kind)

def State.rxMsg (s : State) (e : Nat) (h : BitVec 512) : RxMsg :=
  (s.fabric.rxMsgs.find? (RxMsg.is e (frSrc h) (frMsg h) (frType h))).getD ⟨e, frSrc h, frMsg h, frType h, 0, frSectors h, 0, 0, frPsn h⟩

/-- Keeps an open message, or forgets one of which every sector has arrived. -/
def State.setRxMsg (s : State) (m : RxMsg) : State :=
  let rest := s.fabric.rxMsgs.filter (fun x => !RxMsg.is m.engine m.peer m.num m.kind x)
  { s with fabric := { s.fabric with rxMsgs := if m.sectors ≥ m.total then rest else rest ++ [m] } }

/-- A frame of `n` sectors has been taken into its message. -/
def RxMsg.took (m : RxMsg) (n psn : Nat) : RxMsg := { m with sectors := m.sectors + n, psn := if psnBefore m.psn psn then psn else m.psn }

/-- The frame leaves the engine's buffer. -/
def State.dropRx (s : State) (r : RxFrame) : State := { s with fabric := { s.fabric with rxQ := s.fabric.rxQ.erase r } }

/-- The frame is refused with a NACK other than NOTREADY, which accepts its PSN (R434, R440). -/
def State.refuseFrame (s : State) (e : Nat) (h : BitVec 512) (ce : Bool) (code detail : Nat) : State :=
  let n := if frType h = tGetreq then frSectors h else frPlen h / 32
  let m := { (s.rxMsg e h).took n (frPsn h) with nack := code * 256 + detail }
  ((s.sendNack e h code detail).setRxMsg m).accept e (frSrc h) (frPsn h) ce

end Sys2Proof.Machine
end

