-- ==== Sys2Proof/Machine/Bell.lean ====
section
/-!
DEFINITION. The bell (chapter 16): the time base and the scheduled-event table.
-/

namespace Sys2Proof.Machine
open Sys2Proof

def State.onBell (s : State) (f : Bell → Bell) : State := { s with bell := f s.bell }

/-! ## The scheduled-event table (R492 to R495) -/

def evFreq : Nat := 1
def evActivate : Nat := 2
def evPowerup : Nat := 3
def evGpio : Nat := 4
def evRecord : Nat := 5

def esFree : Nat := 0
def esArmed : Nat := 1
def esPerformed : Nat := 2
def esDeferred : Nat := 3
def esTimelost : Nat := 4
def esCancelled : Nat := 5
def esStepped : Nat := 6
def esRefused : Nat := 7

def tsUnset : Nat := 0
def tsLocking : Nat := 1
def tsLocked : Nat := 2
def tsHoldover : Nat := 3
def tsFreerun : Nat := 4

def State.slot (s : State) (i : Nat) : EvSlot := Tab.get EvSlot.blank s.bell.slots i
def State.setSlot (s : State) (i : Nat) (x : EvSlot) : State := s.onBell (fun b => { b with slots := Tab.set EvSlot.blank b.slots i x })

/-- The slot's event is waiting. -/
def EvSlot.waiting (x : EvSlot) : Bool := decide (x.st = esArmed ∨ x.st = esDeferred)

/-- The lowest FREE slot, otherwise the lowest whose record is final (R492). -/
def State.freeSlot (s : State) : Option Nat :=
  match (List.range 64).find? (fun i => (s.slot i).st = esFree) with
  | some i => some i
  | none => (List.range 64).find? (fun i => !(s.slot i).waiting)

/-- Least lead and largest horizon (Table 16-4). -/
def evLead (kind : Nat) : Nat := if kind = evFreq then 200 else if kind = evActivate then 1000 else if kind = evRecord then 1 else 2
def evHorizon (kind : Nat) : Nat := if kind = evFreq then 60000000 else if kind = evPowerup then 1000000 else 3600000000

/-- The bell does not satisfy the limits of Table 16-4. -/
def State.bellOut (s : State) (kind bell : Nat) : Bool :=
  decide (bell < s.bell.count + evLead kind ∨ bell > s.bell.count + evHorizon kind)

/-- The conflicts of R495. -/
def State.evConflict (s : State) (kind param bell : Nat) : Bool :=
  s.freeSlot.isNone || (List.range 64).any (fun i =>
    let x := s.slot i
    decide (x.st = esArmed ∧ x.kind = kind) &&
      (if kind = evFreq then decide (x.param / 256 = param / 256 ∧ bell ≤ x.bell + 200 ∧ x.bell ≤ bell + 200)
       else if kind = evActivate then true
       else if kind = evGpio then decide (x.param % 8 = param % 8 ∧ x.bell = bell)
       else false))

/-- Why arming is refused: 0 when it is not (R493, R495, Table 16-4). -/
def State.armRefusal (s : State) (kind param bell : Nat) : Nat :=
  if s.bellOut kind bell then 0x0301
  else if s.bell.st = tsUnset ∧ kind ≠ evPowerup ∧ kind ≠ evRecord then 0x0402
  else if s.evConflict kind param bell then 0x0401
  else 0

/-- The event is armed in the slot R492 takes; without one nothing is armed. -/
def State.arm (s : State) (kind owner param bell : Nat) : State :=
  match s.freeSlot with
  | none => s
  | some i => s.setSlot i ⟨kind, esArmed, owner, param, bell, 0⟩

/-- An arming write that is accepted answers 0x0501 with the bell (R632). -/
def State.answerBell (s : State) (bell : Nat) : State := s.emit .dict 0x0501 [bell]

/-- A slot's record as bytes (Table 16-3). -/
def EvSlot.bytes (x : EvSlot) : Nat :=
  x.kind % 16 * 2 ^ 124 + x.st % 16 * 2 ^ 120 + x.owner % 256 * 2 ^ 112 + x.param % 2 ^ 48 * 2 ^ 64 + x.bell % 2 ^ 64

/-! ## Commands of entry 0x3010 (R493, R498, R667) -/

def seSubs : List (Nat × Nat × Nat) := [(1, 1, 0), (2, 8, 0), (3, 8, 0), (5, 1, 0)]

/-- SE_CMD ARM. -/
def State.seArm (s : State) (who : Nat) : State :=
  let kind := s.staged who 0x3010 1 0
  let bell := s.staged who 0x3010 2 0
  let param := s.staged who 0x3010 3 0
  if kind = 0 ∨ kind > 5 then s.answer 0x0301
  else if kind < evGpio then s.answer 0x0402
  else if (if kind = evGpio then decide (param ≥ 16) else decide (param ≥ 2 ^ 32)) ∨ s.bellOut kind bell then s.answer 0x0301
  else if kind = evGpio ∧ s.val 0x1200 (param % 8 + 1) 0 ≠ 3 then s.answer 0x0402
  else
    let e := s.armRefusal kind param bell
    if e ≠ 0 then s.answer e
    else
      let i := s.freeSlot.getD 0
      (((s.arm kind 0 param bell).applied who 0x3010 seSubs).stage who 0x3010 5 1 i |>.setVal 0x3010 5 1 i).answerBell bell

/-- SE_CMD CANCEL: a GPIO or RECORD event that waits. -/
def State.seCancel (s : State) (who : Nat) : State :=
  let i := s.staged who 0x3010 5 0
  let x := s.slot i
  if i > 63 then s.answer 0x0301
  else if !x.waiting ∨ x.kind < evGpio then s.answer 0x0402
  else (((s.setSlot i { x with st := esCancelled }).onBell (fun b => { b with cancelled := b.cancelled + 1 })).applied who 0x3010 seSubs).answer 0

/-- SE_CMD SELECT. -/
def State.seSelect (s : State) (who : Nat) : State :=
  let i := s.staged who 0x3010 5 0
  if i > 63 then s.answer 0x0301
  else ((s.select who 0x3010 6 16 (s.slot i).bytes).applied who 0x3010 seSubs).answer 0

def execSeArm (who : Fin 16) (s : State) : Res := .next (s.command who.val 0x3010 (s.authPlain who.val) (fun s => s.seArm who.val))
def execSeCancel (who : Fin 16) (s : State) : Res := .next (s.command who.val 0x3010 (s.authPlain who.val) (fun s => s.seCancel who.val))
def execSeSelect (who : Fin 16) (s : State) : Res := .next (s.command who.val 0x3010 (s.authPlain who.val) (fun s => s.seSelect who.val))

/-! ## Steps of the bell (R487, R488, R496, R497) -/

/-- A bell plus one, 0 for none, moved by `d`. -/
def shift1 (d b : Nat) : Nat := if b = 0 then 0 else b + d

/-- The task's deadline moves. -/
def Task.shift (d : Nat) (t : Task) : Task := { t with deadline := shift1 d t.deadline }

/-- Every bell value that is the start or stamp of a remaining time moves with the first step (R487): arrival bells, stamps, deadlines, armed
events, waiting sends, and the timers that the model holds as bells. -/
def State.shiftBells (s : State) (d : Nat) : State :=
  let req (r : HbmReq) : HbmReq := { r with bell := r.bell + d }
  let f := s.fabric
  { s with
    sched := { s.sched with queues := Tab.mapVals Queue.blank (fun _ x =>
      { x with entries := x.entries.map (fun e => { e with arrB := e.arrB + d, dispB := e.dispB + d }) }) s.sched.queues }
    hbm := { s.hbm with stks := Tab.mapVals Stack.blank (fun _ k =>
      { k with readQ := k.readQ.map req, writeQ := k.writeQ.map req, inService := k.inService.map req }) s.hbm.stks }
    cores := Tab.mapVals Core.blank (fun _ x => { x with task := x.task.shift d, dispatched := x.dispatched.map (Task.shift d) }) s.cores
    fabric := { f with
      chans := Tab.mapVals Chan.blank (fun _ x => { x with reps := x.reps.map (fun r => (r.1, r.2 + d)) }) f.chans
      waits := f.waits.map (fun w => { w with startB := (w.startB + d) % 2 ^ 32 })
      msgs := f.msgs.map (fun m => { m with deadline := shift1 d m.deadline, first := shift1 d m.first })
      peers := Tab.mapVals Peer.blank (fun _ p => { p with lastHeard := p.lastHeard + d, excluded := Tab.mapVals 0 (fun _ b => b + d) p.excluded }) f.peers
      flows := Tab.mapVals Flow.blank (fun _ x =>
        { x with
          unacked := x.unacked.map (fun t => { t with sent := t.sent + d, again := shift1 d t.again })
          halved := shift1 d x.halved, oldest := x.oldest + d, ceUntil := Tab.mapVals 0 (fun _ b => b + d) x.ceUntil }) f.flows
      hosted := Tab.mapVals Hosted.blank (fun _ h => if h.st = 2 then { h with started := h.started + d } else h) f.hosted }
    host := { s.host with waits := s.host.waits.map (fun w => (w.1, w.2.1, w.2.2 + d)) }
    sec := { s.sec with
      keys := Tab.mapVals KeyRec.blank (fun _ k => if k.st = 3 then { k with bell := k.bell + d } else k) s.sec.keys
      sessions := Tab.mapVals Session.blank (fun _ x => if x.used then { x with bell := x.bell + d } else x) s.sec.sessions
      authEvent := Tab.mapVals 0 (fun _ b => b + d) s.sec.authEvent }
    dict := { s.dict with reqs := Tab.mapVals Requester.blank (fun _ r =>
      { r with
        bell := if r.used then r.bell + d else r.bell
        trans := r.trans.map (fun t => { t with bell := t.bell + d }), memo := r.memo.map (fun m => { m with bell := m.bell + d }) }) s.dict.reqs }
    thermal := { s.thermal with profiles := Tab.mapVals Profile.blank (fun _ p => if p.on then { p with start := p.start + d } else p) s.thermal.profiles }
    power := { s.power with lastL2 := s.power.lastL2 + d }
    fw := { s.fw with
      procs := Tab.mapVals Proc.blank (fun _ p => { p with restarts := p.restarts.map (· + d) }) s.fw.procs
      loader := { s.fw.loader with solicit := s.fw.loader.solicit + d, lastData := s.fw.loader.lastData + d
                                   reads := s.fw.loader.reads.map (fun r => { r with bell := r.bell + d }) }
      pcStart := if s.fw.pcState = 0 then s.fw.pcStart else s.fw.pcStart + d
      pcBell := if s.fw.pcState = 0 then s.fw.pcBell else s.fw.pcBell + d
      pcFirst := if s.fw.pcState = 0 then s.fw.pcFirst else s.fw.pcFirst + d }
    dev := { s.dev with bootStart := s.dev.bootStart + d, loaderWait := shift1 d s.dev.loaderWait, safeWait := shift1 d s.dev.safeWait }
    pins := { s.pins with lastTrig := Tab.mapVals 0 (fun _ b => b + d) s.pins.lastTrig }
    bell := { s.bell with slots := Tab.mapVals EvSlot.blank (fun _ x => if x.waiting then { x with bell := x.bell + d } else x) s.bell.slots } }

/-- BT_OFFSET in a record: clamped to I32, as 32 bits. -/
def offset32 (o : Int) : Nat :=
  let c := if o > 2147483647 then 2147483647 else if o < -2147483648 then -2147483648 else o
  (c % 4294967296).toNat

/-- A record of class TIME: 1 state change, 2 step, 3 TIMELOST, 4 STEPPED. -/
def State.timeEvent (s : State) (detail what : Nat) : State := s.event 0x60 detail what (offset32 s.bell.offset)

/-- The time state changes, and the change is recorded (R486). -/
def State.timeState (s : State) (st : Nat) : State :=
  if s.bell.st = st then s else (s.onBell (fun b => { b with st := st, good := 0, bad := 0 })).timeEvent 1 st

/-- The bell moves forward: recorded with the bell before the step, and counted. -/
def State.stepBell (s : State) (d : Nat) : State :=
  (s.timeEvent 2 s.bell.st).onBell (fun b => { b with count := (b.count + d) % 2 ^ 64, steps := b.steps + 1 })

/-- The events that a STEP under R488 ends: STEPPED, recorded; an activation is armed again (R496, R584). -/
def State.stepEvents (s : State) : State :=
  (List.range 64).foldl (fun s i =>
    let x := s.slot i
    if !x.waiting then s
    else
      let s1 := ((s.setSlot i { x with st := esStepped }).onBell (fun b => { b with cancelled := b.cancelled + 1 })).timeEvent 4 i
      if x.kind = evActivate then
        let b := if s1.fw.pcFirst > s1.bell.count + 1000 then s1.fw.pcFirst else s1.bell.count + 1000
        ({ s1 with fw := { s1.fw with pcState := 1, pcBell := b, pcRearmed := false } }).arm evActivate 2 x.param b
      else s1) s

/-- Sends whose awaited bell a STEP passes over start at once (R497). -/
def State.startPassed (s : State) (d : Nat) : State :=
  { s with fabric := { s.fabric with
    waits := s.fabric.waits.filter (fun w => !decide (0 < (w.startB + 2 ^ 32 - s.bell.count % 2 ^ 32) % 2 ^ 32
      ∧ (w.startB + 2 ^ 32 - s.bell.count % 2 ^ 32) % 2 ^ 32 ≤ d)) } }

/-- BT_CMD STEP: refused out of range before out of state (R488, R631). -/
def State.btStep (s : State) : State :=
  if s.bell.offset < 0 then s.answer 0x0301
  else if !s.bell.valid then s.answer 0x0402
  else
    let d := (s.bell.offset / 1000).toNat
    (((s.startPassed d).stepBell d).stepEvents).answer 0

def execBtStep (who : Fin 16) (s : State) : Res := .next (s.command who.val 0x3002 (s.authPlain who.val) State.btStep)

/-! ## Sources and time states (R483 to R488) -/

/-- The source that BT_SOURCE selects now: 0 none, 1 the management port, 2 + i fabric port i. -/
def State.timeSource (s : State) : Nat :=
  let b := s.val 0x3001 1 1
  if b = 1 ∨ b = 3 then 1
  else if b = 2 ∨ b = 4 then
    let l := s.val 0x3001 3 0xFFFF0900
    match ((List.range 4).map (fun i => l / 256 ^ i % 256)).find? (fun p => decide (p < 18) && s.inService ukPort p) with
    | some p => p + 2
    | none => 0
  else 0

/-- PPS is part of the source. -/
def State.ppsSource (s : State) : Bool := decide (s.val 0x3001 1 1 ≥ 3)

/-- A valid measurement after the first (R486, R488). -/
def State.measured (s : State) (offset : Int) : State :=
  let near := decide (offset.natAbs ≤ s.val 0x3001 5 20)
  let s1 := s.onBell (fun b => { b with offset := offset, valid := true, last := b.count })
  if offset > (s.val 0x3001 9 10 * 1000000 : Nat) then
    if s1.bell.st = tsFreerun then s1.timeEvent 1 tsFreerun else s1.timeState tsFreerun
  else if s1.bell.st = tsLocking then
    let s2 := s1.onBell (fun b => { b with good := if near then b.good + 1 else 0 })
    if s2.bell.good ≥ 16 then s2.timeState tsLocked else s2
  else if s1.bell.st = tsLocked then
    let s2 := s1.onBell (fun b => { b with bad := if near then 0 else b.bad + 1 })
    if s2.bell.bad ≥ 4 then s2.timeState tsLocking else s2
  else (s1.timeState tsLocking).onBell (fun b => { b with good := if near then 1 else 0 })

/-- PTP_MEASUREMENT: `offset` is local time minus source time in ns, `time` the source's time in whole µs. A measurement of another source than
the one followed is none. -/
def execPtpMeasurement (src : Fin 20) (offset : Int) (time : DWord) (s : State) : Res :=
  if s.dev.st = devCold ∨ src.val = 0 ∨ src.val ≠ s.timeSource then .next s
  else
    let s0 := s.onBell (fun b => { b with src := src.val })
    if s0.bell.acquired then .next (s0.measured offset)
    else
      let d := time.toNat - s0.bell.count
      let s1 := s0.onBell (fun b => { b with offset := offset, acquired := true })
      let s2 := if d = 0 then s1 else (s1.stepBell d).shiftBells d
      .next (s2.measured offset)

/-- PPS_EDGE: the edge's distance in ns from the second that PTP gives, or none where an edge is missing (R484). -/
def execPpsEdge (dev : Option Int) (s : State) : Res :=
  if !s.ppsSource ∨ !s.bell.acquired then .next s
  else
    let good := match dev with | some d => decide (d.natAbs ≤ s.val 0x3001 11 500) | none => false
    if good then
      let n := s.bell.ppsGood + 1
      .next (s.onBell (fun b =>
        { b with
          ppsBad := 0, ppsGood := n, ppsOff := b.ppsOff && decide (n < 8)
          offset := if b.ppsOff && decide (n < 8) then b.offset else dev.getD 0 }))
    else
      .next (s.onBell (fun b =>
        { b with
          ppsReject := if dev.isSome then b.ppsReject + 1 else b.ppsReject
          ppsBad := b.ppsBad + 1, ppsGood := 0, ppsOff := b.ppsOff || decide (b.ppsBad + 1 ≥ 3) }))

/-- SOURCE_LOSS: no valid measurement for BT_LOSS_TIMEOUT. -/
def execSourceLoss (s : State) : Res :=
  .next (if (s.bell.st = tsLocked ∨ s.bell.st = tsLocking) ∧ s.bell.count ≥ s.bell.last + s.val 0x3001 6 2000 * 1000 then
      (s.onBell (fun b => { b with valid := false })).timeState tsHoldover
    else s)

/-- HOLDOVER_EXPIRY: BT_HOLDOVER_MAX has passed since the last valid measurement. -/
def execHoldoverExpiry (s : State) : Res :=
  .next (if s.bell.st = tsHoldover ∧ s.bell.count ≥ s.bell.last + s.val 0x3001 7 10 * 1000000 then s.timeState tsFreerun else s)

/-- BT_ERR_EST (R489). -/
def State.errEst (s : State) : Nat :=
  let lock := s.val 0x3001 5 20
  if s.bell.st = tsLocked then lock
  else if s.bell.st = tsLocking then s.bell.offset.natAbs + lock
  else if s.bell.st = tsHoldover then lock + s.val 0x3001 10 100 * (s.bell.count - s.bell.last) / 1000000
  else 0xFFFFFFFF

/-- BT_SRC_ACTIVE (Table 16-5). -/
def State.srcActive (s : State) : Nat := s.timeSource + (if s.ppsSource && !s.bell.ppsOff then 128 else 0)

end Sys2Proof.Machine
end

