-- ==== Sys2Proof/Machine/Binding.lean ====
section
/-!
DEFINITION. Commands on runner channels: BIND, UNBIND, and the report of a watched ring header (R274, R276).
-/

namespace Sys2Proof.Machine
open Sys2Proof

/-- Subindices 1 to 5 of 0x4100. -/
def rbSubs : List (Nat × Nat × Nat) := [(1, 1, 0), (2, 1, 0), (3, 2, 0), (4, 8, 0), (5, 1, 4)]

/-- BIND of a runner channel with the requester's staged subindices. -/
def State.rbBind (s : State) (who : Nat) : State :=
  let u := s.staged who 0x4100 1 0
  (s.bindChan u (s.staged who 0x4100 2 0) (s.staged who 0x4100 3 0) (s.staged who 0x4100 4 0) (s.staged who 0x4100 5 4) 63
    (decide (u < 16)) (s.runnerOk u) (some ((s.quarterPart (u / 4)).getD 4))).appliedIf
    who 0x4100 rbSubs

/-- UNBIND of a runner channel. -/
def State.rbUnbind (s : State) (who : Nat) : State :=
  let u := s.staged who 0x4100 1 0
  (s.unbindChan u (s.staged who 0x4100 2 0) 63 (decide (u < 16))).appliedIf who 0x4100 rbSubs

/-- RB_CMD BIND (R274). -/
def execRbBind (who : Fin 16) (s : State) : Res := .next (s.command who.val 0x4100 (s.authPlain who.val) (fun s => s.rbBind who.val))
/-- RB_CMD UNBIND (R274). -/
def execRbUnbind (who : Fin 16) (s : State) : Res := .next (s.command who.val 0x4100 (s.authPlain who.val) (fun s => s.rbUnbind who.val))

/-- RING_TAIL_REPORT (R276, R298): a report of TAIL with the writer's mask reaches the unit. -/
def execRingTailReport (unit : Fin 18) (chan : Fin 256) (tail : DWord) (mask : Half) (s : State) : Res :=
  .next (s.tailReport unit.val chan.val tail.toNat mask)

end Sys2Proof.Machine
end

