-- ==== Sys2Proof/Machine/MarketCmd.lean ====
section
/-!
DEFINITION. Requests at the market (R219, R220, R249 to R257) and reservations (R222 to R227).
-/

namespace Sys2Proof.Machine
open Sys2Proof

/-- A request that its injection point holds (R391): class and HBM stack of its address. -/
def State.heldAtEntry (s : State) (acc : Acc) (addr : Nat) : Bool :=
  isHbmAddr addr &&
    (let l := (s.stack (stackOf addr)).level
     let c := acc.cls
     decide (1 ≤ l ∧ (c = 6 ∨ c = 7)) || decide (2 ≤ l ∧ 3 ≤ c ∧ c ≤ 5))

def State.holdRequest (s : State) : State := ({ s with hbm := { s.hbm with held := s.hbm.held + 1 } }).waits

/-- What a request reports to its sender: 2 done with the data, 3 no such address, 4 cancelled. -/
def State.replyData (s : State) (bs : List Byte) (poison stale : Bool) (taint : Half) : State :=
  s.emit .sender 2 [leNat bs, if poison then 1 else 0, if stale then 1 else 0, taint.toNat]

def State.replySt (s0 s : State) (st : AccSt) (k : State → State) : State :=
  match st with
  | .ok => k s
  | .wait => s0.waits
  | .fault a => s.emit .sender 3 [a]
  | .stale a => s.emit .sender 3 [a]
  | .cancelled => s.emit .sender 4 []

/-- A stale read is counted against a core when a unit of one made it (R247). -/
def State.staleOf (s : State) (core : Option CoreIx) (stale : Bool) : State :=
  match core with
  | some c => s.staleBy c.val stale
  | none => s

/-- MARKET_READ (R220, R245 to R247, R262): a read request of one line, by device-local address. -/
def execMarketRead (acc : Acc) (addr n : Nat) (core : Option CoreIx) (s : State) : Res :=
  if s.heldAtEntry acc addr then .next s.holdRequest
  else
    let r := (piecesOf 32 addr n).foldl (agentPiece false acc) ⟨s, .ok, [], [], 0#16, 0, false⟩
    .next (State.replySt s r.s r.st (fun s => (s.staleOf core (decide (r.stale ≠ 0))).replyData r.bytes r.poison (decide (r.stale ≠ 0)) r.taint))

/-- MARKET_WRITE (R219, R249, R261, R404): a write of whole or part sectors of one line. -/
def execMarketWrite (acc : Acc) (addr : Nat) (data : List Byte) (poison : Bool) (s : State) : Res :=
  if s.heldAtEntry acc addr then .next s.holdRequest
  else
    let r := (piecesOf 32 addr data.length).foldl (agentWritePiece acc poison) ⟨s, .ok, data⟩
    .next (State.replySt s r.s r.st (fun s => s.emit .sender 2 []))

/-- One lane's step of an atomic on a word of `n` bytes: operand `b`, compare value `c` (R141, R142). -/
def AtomOp.apply (op : AtomOp) (n b c v : Nat) : Nat :=
  let w := 2 ^ (8 * n)
  let less (x y : Nat) : Bool := decide (sext (8 * n) x < sext (8 * n) y)
  let fp (f : Word → Word → Word) : Nat := (f (BitVec.ofNat 32 v) (BitVec.ofNat 32 b)).toNat
  match op with
  | .add => (v + b) % w
  | .min => if less b v then b else v
  | .max => if less v b then b else v
  | .minu => if b < v then b else v
  | .maxu => if v < b then b else v
  | .and' => v &&& b
  | .or' => v ||| b
  | .xor => v ^^^ b
  | .xchg => b
  | .cas => if v = c then b else v
  | .fmin => fp fpMin
  | .fmax => fp fpMax
  | .fadd => fp fadd32

/-- The value each lane of a request finds, in the order of the lanes (R142). -/
def atomChain (op : AtomOp) (n : Nat) : Nat → List (Nat × Nat) → List Nat
  | _, [] => []
  | v, x :: r => v :: atomChain op n (op.apply n x.1 x.2 v) r

def atomEnd (op : AtomOp) (n v : Nat) (l : List (Nat × Nat)) : Nat := l.foldl (fun v x => op.apply n x.1 x.2 v) v

/-- STALL_ATOMIC (R141 to R143, R404): one combined or chained request to a word of 4 or 8 bytes; each lane gets the word's value just
before its own step. -/
def execStallAtomic (acc : Acc) (op : AtomOp) (wide : Bool) (addr : Nat) (lanes : List (Nat × Nat)) (s : State) : Res :=
  let n := if wide then 8 else 4
  if s.heldAtEntry acc addr then .next s.holdRequest
  else
    let r := s.modifySector acc (addr / 32) true (sectorUpdate (addr % 32) n (fun v => atomEnd op n v lanes))
    match r.2.1 with
    | .ok =>
      let old := leNat (sliceSector (addr % 32) n r.2.2.data)
      let rets := if r.2.2.poison then lanes.map (fun _ => old) else atomChain op n old lanes
      .next (r.1.emit .sender 2 ((if r.2.2.poison then 1 else 0) :: r.2.2.taint.toNat :: rets))
    | .wait => .next s.waits
    | .fault => .next (r.1.emit .sender 3 [addr])
    | .cancelled => .next (r.1.emit .sender 4 [])

/-! ## Fold-ins at the stall (R252, R257) -/

/-- FOLD_IN_ARRIVE (R252): the request is queued behind every earlier one of its line; a line with 64 queued, or a stall with 256,
makes it wait at the port. -/
def execFoldInArrive (acc : Acc) (sector fmt : Nat) (elems : List (Nat × FoldOperand)) (source : Nat) (s : State) : Res :=
  let req : FoldReq := ⟨sector, fmt, elems, acc.taint, acc.pageU, acc.anchor, acc.mir, source⟩
  let l := req.sector / 4
  if !s.addrOk (32 * req.sector) then .next (s.emit .sender 3 [32 * req.sector])
  else if s.maskCancelled req.taint then .next (s.emit .sender 4 [])
  else
    match s.lineHome l with
    | none => .next (s.emit .sender 3 [32 * req.sector])
    | some (st, _) =>
      let q := Tab.get [] s.market.foldQ st
      if q.length ≥ 256 ∨ (q.filter (fun r => r.sector / 4 = l)).length ≥ 64 then .next s.waits
      else .next { s with market := { s.market with foldQ := Tab.set [] s.market.foldQ st (q ++ [req]) } }

/-- The fold-in the unit applies next: the oldest of the stall. -/
def execFoldUnitApply (stall : StallIx) (s : State) : Res :=
  match Tab.get [] s.market.foldQ stall.val with
  | [] => .next s
  | r :: rest =>
    let x := s.foldApply r.acc r.sector r.fmt r.elems
    let done (t : State) : State := { t with market := { t.market with foldQ := Tab.set [] t.market.foldQ stall.val rest } }
    match x.2.1 with
    | .wait => .next s.waits
    | .fault => .next ((done x.1).emit .sender 3 [32 * r.sector])
    | .cancelled => .next ((done x.1).emit .sender 4 [])
    | .ok =>
      let b (f : Bool) : Nat := if f then 1 else 0
      .next ((done x.1).emit .sender 5 [r.source, b x.2.2.refused, b x.2.2.flags.sat, b x.2.2.flags.lostlow, b x.2.2.flags.nan])

/-- CACHE_FILL (R219): a sector that a miss requested arrives from HBM and becomes valid. -/
def execCacheFill (acc : Acc) (sector : Nat) (s : State) : Res :=
  let n := sector
  if !isHbmAddr (32 * n) || !s.addrOk (32 * n) || s.lineClosed (n / 4) || decide ((s.sector n).base ≠ .absent) then .next s
  else
    match s.ensureLine acc (n / 4) with
    | none => .next s.waits
    | some s1 =>
      let r := s1.hbmRead acc n
      .next (r.1.setSector n { (r.1.sector n) with
        base := .valid, data := r.2.data, chk := r.2.chk, dirty := false, pageU := acc.pageU, anchor := acc.anchor, mir := acc.mirAt n })

/-- A sector of a line that closes, as it will be written back. -/
def State.closeSector (q : State × List Sector) (n : Nat) : State × List Sector :=
  let x := q.1.sector n
  let r := if (x.base = .valid && x.dirty) || x.base = .partl then q.1.readOut n x else (q.1, x)
  (r.1, q.2 ++ [r.2])

/-- EVICTION (R219, R257): the line's queue empties and its way closes; a way with nothing to write back is free at once. -/
def execEviction (line : Nat) (s : State) : Res :=
  let s1 := s.drainLine line
  match s.lineHome line with
  | none => .next s
  | some (st, set) =>
    if (s.line line).row1 = 0 ∨ s.lineClosed line then .next s
    else if s1.foldQueued line then .next s.waits
    else
      let out := (lineSectors line).foldl State.closeSector (s1, [])
      let secs := out.2
      let dirty := secs.any (fun x => (x.base = .valid && x.dirty) || x.base = .partl)
      let row := (s1.line line).row1 - 1
      let s2 := (lineSectors line).foldl (fun s n => s.setSector n { Sector.blank with sh := (s.sector n).sh }) out.1
      let s3 := s2.setLine line LineRec.blank
      .next (if dirty then
          { s3 with market := { s3.market with closed := s3.market.closed ++ [⟨line, st, set, row, secs.map (fun x => { x with sh := Shadow.none })⟩] } }
        else s3)

/-- One sector of a closed way goes to HBM. -/
def State.acceptSector (s : State) (n : Nat) (x : Sector) : State :=
  match x.base with
  | .valid => if x.dirty then s.hbmWrite Acc.plain n ⟨x.data, x.chk⟩ else s
  | .partl => s.hbmMerge Acc.plain n x
  | _ => s

/-- WRITEBACK_ACCEPT (R257): the controller accepts the write-back of a closed way, which becomes eligible. -/
def execWritebackAccept (line : Nat) (s : State) : Res :=
  match s.market.closed.find? (fun c => c.line = line) with
  | none => .next s
  | some c =>
    let k := s.stack (stackOf (128 * line))
    if k.writeQ.length + 4 > 256 ∨ (k.mergeQ.length + 4 > 64 ∧ c.secs.any (fun x => x.base = .partl)) then .next s.waits
    else
      let s1 := (c.secs.zipIdx).foldl (fun s x => s.acceptSector (4 * line + x.2) x.1) s
      .next { s1 with market := { s1.market with closed := s1.market.closed.filter (· ≠ c) } }

/-! ## Reservations (R222 to R227) -/

def rsvHost : Nat := 1
def rsvFabric : Nat := 2
def rsvStarter : Nat := 3

def State.rsv (s : State) (n : Nat) : Rsv := Tab.get Rsv.blank s.market.rsv n

/-- Frames of rows `row0` to `row0 + rows - 1` of a quarter. -/
def rowFrames (row0 rows : Nat) : List Nat := (List.range (64 * rows)).map (· + 64 * row0)

def Rsv.overlaps (r : Rsv) (q row0 rows : Nat) : Bool :=
  decide (r.kind ≠ 0 ∧ r.quarter = q ∧ r.row0 < row0 + rows ∧ row0 < r.row0 + r.rows)

/-- Frames of the range that are not ABSENT (R222). -/
def State.presentFrames (s : State) (q row0 rows : Nat) : List Nat :=
  (rowFrames row0 rows).filter (fun f => s.frameRole q f ≠ .absent)

/-- The first row of Table 7-3 that an application of these values to entry `n` meets; 0: none. -/
def State.rsvRefusal (s : State) (n kind part q row0 rows : Nat) : Nat :=
  let hosts := s.market.rsv.filter (fun e => e.2.kind = rsvHost)
  if kind > 3 ∨ part > 3 ∨ q > 3 ∨ rows < 1 ∨ rows > 304 ∨ row0 > 319 ∨ row0 + rows > 320 then 0x0301
  else if (s.rsv n).kind ≠ 0 then 0x0401
  else if s.quarterPart q ≠ some part then 0x0402
  else if s.market.rsv.any (fun e => e.2.overlaps q row0 rows) then 0x0401
  else if (s.presentFrames q row0 rows).any (fun f => s.frameRole q f = .placed) then 0x0402
  else if (List.range 64).any (fun i => s.stallPresent (64 * q + i) && decide (s.cacheFrames (64 * q + i) < 16 + ((s.presentFrames q row0 rows).filter (fun f => f % 64 = i)).length)) then 0x0301
  else if kind = rsvHost ∧ (hosts.length ≥ 4 ∨ hosts.foldl (fun a e => a + e.2.rows) 0 + rows > 16) then 0x0301
  else if kind = rsvStarter ∧ s.market.rsv.any (fun e => decide (e.2.kind = rsvStarter ∧ e.2.part = part)) then 0x0401
  else 0

/-- The frames of a reservation leave the cache role (R214, R222); none: the change waits. -/
def State.landFrames (s : State) (q row0 rows : Nat) : Option State := State.takeFrames .landing q (64 * rows) (64 * row0) s

/-- A reservation that passed its checks comes into force. -/
def State.rsvSet (s : State) (n kind part q row0 rows : Nat) : Option State :=
  (s.landFrames q row0 rows).map (fun t =>
    let bytes := (s.presentFrames q row0 rows).length * 0x10000
    { t with market := { t.market with rsv := Tab.set Rsv.blank t.market.rsv n ⟨kind, part, q, row0, rows, directBase + q * quarterDirect + row0 * 0x400000, bytes⟩ } })

def rsvIndex (n : Nat) : Nat := 0x4010 + n

/-- The values of a reservation entry are recorded. -/
def State.rsvKeep (s : State) (n kind part q row0 rows : Nat) : State :=
  let i := rsvIndex n
  ((((s.keepVal i 1 1 kind).keepVal i 2 1 part).keepVal i 3 1 q).keepVal i 4 2 row0).keepVal i 5 2 rows

/-- An enabled LANDING window lies in the reservation (R422). -/
def State.windowIn (s : State) (base n : Nat) : Bool :=
  s.fabric.windows.any (fun e => e.2.enabled && decide (e.2.kind = 1 ∧ e.2.base < base + n ∧ base < e.2.base + e.2.bytes))

/-- A registered host ring lies in the reservation, an enabled LANDING window does, or an active starter uses it (Table 7-3, R422). -/
def State.rsvInUse (s : State) (n : Nat) : Bool :=
  let r := s.rsv n
  (decide (r.kind = rsvHost) && s.ringsIn r.base (r.rows * 0x400000))
    || (decide (r.kind = rsvFabric) && s.windowIn r.base (r.rows * 0x400000))
    || (decide (r.kind = rsvStarter) && s.starterUses r.part)

/-- The BAR4 map: the host-ring reservations in ascending entry order (R226, R466); EVTSTAT bit 0 tells the host. -/
def State.remapBar4 (s : State) (kind : Nat) : State :=
  if kind = rsvHost then
    ({ s with host := { s.host with bar4 := (s.market.rsv.filter (fun (e : Nat × Rsv) => e.2.kind = rsvHost)).map (fun (e : Nat × Rsv) => (e.2.base, e.2.rows * 0x400000)) } }).raiseEvt 0
  else s

/-- RSV_APPLY (R225, R226): a nonzero KIND applies the requester's staged values. -/
def State.rsvApply (s : State) (who n kind : Nat) : State :=
  let i := rsvIndex n
  let part := s.staged who i 2 0
  let q := s.staged who i 3 0
  let row0 := s.staged who i 4 0
  let rows := s.staged who i 5 0
  match s.rsvRefusal n kind part q row0 rows with
  | 0 =>
    match s.rsvSet n kind part q row0 rows with
    | none => s.waits
    | some t => ((t.rsvKeep n kind part q row0 rows).remapBar4 kind).answer 0
  | e => s.answer e

/-- RSV_RELEASE (R225, R226): KIND 0 releases. -/
def State.rsvRelease (s : State) (n : Nat) : State :=
  let r := s.rsv n
  if s.rsvInUse n then s.answer 0x0401
  else if r.kind = 0 then (s.keepVal (rsvIndex n) 1 1 0).answer 0
  else
    let s1 := s.releaseFrames r.quarter (64 * r.row0) (64 * r.rows)
    ((({ s1 with market := { s1.market with rsv := Tab.set Rsv.blank s1.market.rsv n Rsv.blank } }).keepVal (rsvIndex n) 1 1 0).remapBar4 r.kind).answer 0

def execRsvApply (who : Fin 16) (entry : Fin 16) (kind : Nat) (s : State) : Res :=
  .next (s.command who.val (rsvIndex entry.val) (s.authPlain who.val) (fun s => s.rsvApply who.val entry.val kind))
def execRsvRelease (who : Fin 16) (entry : Fin 16) (s : State) : Res :=
  .next (s.command who.val (rsvIndex entry.val) (s.authPlain who.val) (fun s => s.rsvRelease entry.val))

end Sys2Proof.Machine
end

