-- ==== Sys2Proof/Machine/Frames.lean ====
section
/-!
DEFINITION. The slots of the function rings (R475, R476), and the frames that leave the dictionary (R622): responses, aborts, the responses owed for
commands that wait (R630).
-/

namespace Sys2Proof.Machine
open Sys2Proof

def State.onHost (s : State) (f : HostIf → HostIf) : State := { s with host := f s.host }

/-- Requests reach the endpoint: the link is up. -/
def State.linkUp (s : State) : Bool := decide (s.host.lanes ≠ 0)

/-! ## Function rings (R475, R476) -/

def State.ring (s : State) (f : Nat) : FnRing := Tab.get FnRing.blank s.host.rings f
def State.setRing (s : State) (f : Nat) (x : FnRing) : State :=
  s.onHost (fun h => { h with rings := Tab.set FnRing.blank h.rings f x })

/-- Requests that wait in a ring, and responses that the host has not read. -/
def FnRing.waiting (x : FnRing) : Nat := (x.rqTail + 2 ^ 32 - x.rqHead) % 2 ^ 32
def FnRing.unread (x : FnRing) : Nat := (x.rsTail + 2 ^ 32 - x.rsHead) % 2 ^ 32

/-- BAR0 offset of request or response slot `i`. -/
def requestSlot (f i : Nat) : Nat := 0x100000 + f * 0x8000 + 256 * (i % 64)
def responseSlot (f i : Nat) : Nat := requestSlot f i + 0x4000

/-- A request may be taken from a ring: one waits, the ring serves, the responses have room. -/
def State.ringReady (s : State) (f : Nat) : Bool :=
  let x := s.ring f
  decide (x.st = 0 ∧ x.waiting ≠ 0 ∧ x.held = [] ∧ x.unread < 64)

/-- The frame of the next request. -/
def State.ringFrame (s : State) (f : Nat) : List Byte :=
  let a := requestSlot f (s.ring f).rqHead
  let n := Tab.le 0#8 s.host.slots a 2
  Tab.bytes 0#8 s.host.slots (a + 4) (if n > 252 then 252 else n)

/-- The next request has been taken. -/
def State.ringTake (s : State) (f : Nat) : State :=
  let x := s.ring f
  s.setRing f { x with rqHead := (x.rqHead + 1) % 2 ^ 32 }

/-- Writes one response into its slot; FR_MSIX asks for its vector. -/
def State.putResponse (s : State) (f : Nat) (frame : List Byte) : State :=
  let x := s.ring f
  let a := responseSlot f x.rsTail
  let s1 := s.onHost (fun h => { h with slots := Tab.setBytes 0#8 h.slots a (leBytes 2 frame.length ++ leBytes 2 0 ++ frame) })
  let s2 := s1.setRing f { x with rsTail := (x.rsTail + 1) % 2 ^ 32 }
  if Nat.testBit x.msix 15 then s2.askVector (x.msix % 2048) else s2

/-- A response leaves firmware: into its slot, or held while the response bound is reached. -/
def State.ringRespond (s : State) (f : Nat) (frame : List Byte) : State :=
  let x := s.ring f
  if x.held ≠ [] ∨ x.unread ≥ 64 then s.setRing f { x with held := x.held ++ [frame] } else s.putResponse f frame

/-- Held responses go out while there is room. -/
def State.releaseHeld (f : Nat) : Nat → State → State
  | 0, s => s
  | n + 1, s =>
    let x := s.ring f
    match x.held with
    | [] => s
    | r :: rest => if x.unread ≥ 64 then s else State.releaseHeld f n ((s.setRing f { x with held := rest }).putResponse f r)

/-! ## Frames of the dictionary (R622) -/

/-- The words of a frame's header, data and all (Table 22-3). -/
structure DictFrame where
  op : Nat
  tid : Nat
  index : Nat
  sub : Nat
  status : Nat
  seg : Nat
  total : Nat
  part : Bool
  data : List Byte
  crc : Nat

/-- Bytes 0 to 11 of the header. -/
def DictFrame.head (f : DictFrame) : List Byte :=
  leBytes 12 (2 ^ 92 + f.op % 16 * 2 ^ 88 + f.tid % 256 * 2 ^ 80 + f.index % 65536 * 2 ^ 64 + f.sub % 256 * 2 ^ 56 + f.status % 65536 * 2 ^ 40
    + f.seg % 256 * 2 ^ 32 + f.total % 8192 * 2 ^ 19 + f.data.length % 256 * 2 ^ 11 + (if f.part then 2 ^ 10 else 0))

/-- The frame as it travels, with its CRC. -/
def DictFrame.bytes (f : DictFrame) : List Byte := f.head ++ leBytes 4 (crc32c (f.head ++ f.data)) ++ f.data

/-- Bits `hi` to `lo` of a number. -/
def natBits (hi lo v : Nat) : Nat := v / 2 ^ lo % 2 ^ (hi + 1 - lo)

/-- A frame that is not discarded (R623): its fields; OP one that a requester sends. -/
def readFrame (b : List Byte) : Option DictFrame :=
  let h := leNat (b.take 16)
  let op := natBits 91 88 h
  if b.length ≥ 16 ∧ natBits 127 96 h = crc32c (b.take 12 ++ b.drop 16) ∧ natBits 95 92 h = 1 ∧ [1, 2, 3, 4, 9].contains op ∧ natBits 9 0 h = 0
      ∧ natBits 18 11 h ≤ 236 ∧ b.length = 16 + natBits 18 11 h then
    some ⟨op, natBits 87 80 h, natBits 79 64 h, natBits 63 56 h, natBits 55 40 h, natBits 39 32 h, natBits 31 19 h, Nat.testBit h 10, b.drop 16,
      natBits 127 96 h⟩
  else none

/-- A frame goes to a requester on its path: into ring 0, or as a message with what addresses it. -/
def State.sendOd (s : State) (path source : Nat) (b : List Byte) : State :=
  if path = pathRing then s.ringRespond 0 b else s.emit (if path = pathPcie then .host else .mgmt) 0x7E [path, source, b.length, leNat b]

/-- The response to a request frame is remembered, as one of the last 16 (R627). -/
def State.remember (s : State) (who : Nat) (key : List Nat) (b : List Byte) : State :=
  let r := s.requester who
  s.setRequester who { r with memo := (r.memo ++ [(⟨key, [b.length, leNat b], s.bell.count⟩ : Memo)]).drop (r.memo.length + 1 - 16) }

/-- A frame answers a request that came by a path from a source, and is remembered. A requester that its own request has released (a warm reset)
has the answer sent all the same, but for the host ring, which is reset with it. -/
def State.respondVia (s : State) (path source who : Nat) (key : List Nat) (f : DictFrame) : State :=
  if (s.requester who).used then (s.remember who key f.bytes).sendOd path source f.bytes
  else if path = pathRing then s
  else s.sendOd path source f.bytes

/-- A frame answers a request of a requester. -/
def State.respond (s : State) (who : Nat) (key : List Nat) (f : DictFrame) : State :=
  let r := s.requester who
  s.respondVia r.path r.source who key f

/-- RESPONSE to a segment, with its data. -/
def State.respondWith (s : State) (who : Nat) (key : List Nat) (tid index sub status seg total : Nat) (part : Bool) (data : List Byte) : State :=
  s.respond who key ⟨8, tid, index, sub, status, seg, total, part, data, 0⟩

/-- ABORT in answer to a frame, counted in OD_ABORTS. -/
def State.respondAbort (s : State) (who : Nat) (key : List Nat) (tid index sub reason : Nat) : State :=
  ({ s with dict := { s.dict with aborts := s.dict.aborts + 1 } }).respond who key ⟨9, tid, index, sub, reason, 0, 0, false, [], 0⟩

/-- A command that waited is answered: the response that is owed for it goes out (R630). -/
def State.answerLate (s : State) (tag : List Nat) (status : Nat) : State :=
  let s1 := s.answer status
  match s1.dict.owed.find? (fun o => o.tag = tag) with
  | none => s1
  | some o =>
    let s2 := { s1 with dict := { s1.dict with owed := s1.dict.owed.erase o } }
    s2.respondWith o.who o.key o.tid o.index o.sub status o.seg 0 false []

end Sys2Proof.Machine
end

