-- ==== Sys2Proof/Machine/Pager.lean ====
section
/-!
DEFINITION. The pager's commands (chapter 10): contexts, ranges, walks and demand allocation, heat, the interval procedure, moves.
-/

namespace Sys2Proof.Machine
open Sys2Proof

/-- Insertion sort by a relation "goes before"; equal elements keep their order. -/
def insertBy {α : Type} (lt : α → α → Bool) (x : α) : List α → List α
  | [] => [x]
  | y :: r => if lt y x then y :: insertBy lt x r else x :: y :: r
def sortBy {α : Type} (lt : α → α → Bool) (l : List α) : List α := l.foldr (insertBy lt) []

/-! ## Contexts (R305 to R308) -/

/-- The values of a CX_CMD: CX_ID, part, half, quotas. -/
structure CxArgs where
  id : Nat
  part : Nat
  half : Nat
  hbm : Nat
  pmax : Nat
  pmin : Nat

def State.cxArgs (s : State) (who : Nat) : CxArgs :=
  let g := fun sub => s.staged who 0x4200 sub 0
  ⟨g 1, g 2, g 3, g 4, g 5, g 6⟩

def cxSubs : List (Nat × Nat × Nat) := [(1, 2, 0), (2, 1, 0), (3, 1, 0), (4, 4, 0), (5, 4, 0), (6, 4, 0)]

/-- The sum of PLACE_MIN over the partition's ACTIVE contexts other than `skip`, in MiB. -/
def State.placeMins (s : State) (p skip : Nat) : Nat :=
  (s.pager.ctxs.filter (fun e => e.2.active && decide (e.2.part = p ∧ e.1 ≠ skip))).foldl (fun n e => n + e.2.placeMin) 0

/-- CX_CMD CREATE. -/
def State.cxCreate (s : State) (who : Nat) : State :=
  let a := s.cxArgs who
  let c := s.ctx a.id
  if a.id > 4095 ∨ a.part > 3 ∨ a.half > 1 ∨ a.pmin > a.pmax then s.answer 0x0301
  else if c.active then s.answer 0x0401
  else if (s.partQuarters a.part).all (fun q => quarterHalf q ≠ a.half) then s.answer 0x0402
  else if 16 * (s.placeMins a.part a.id + a.pmin) > s.placeCap a.part then s.answer 0x0401
  else
    (s.setCtx a.id
      { active := true, part := a.part, half := a.half, hbmQuota := a.hbm, placeMax := a.pmax, placeMin := a.pmin, key := 0#64,
        faults := c.faults }).answer 0

/-- CX_CMD SET. -/
def State.cxSet (s : State) (who : Nat) : State :=
  let a := s.cxArgs who
  let c := s.ctx a.id
  if a.id > 4095 ∨ a.pmin > a.pmax then s.answer 0x0301
  else if !c.active then s.answer 0x0402
  else if 16 * (s.placeMins c.part a.id + a.pmin) > s.placeCap c.part then s.answer 0x0401
  else (s.setCtx a.id { c with hbmQuota := a.hbm, placeMax := a.pmax, placeMin := a.pmin }).answer 0

/-- CX_CMD SETKEY: the staged key is cleared at apply. -/
def State.cxSetkey (s : State) (who : Nat) : State :=
  let id := s.staged who 0x4200 1 0
  if id > 4095 then s.answer 0x0301
  else if !(s.ctx id).active then s.answer 0x0402
  else ((s.setCtx id { s.ctx id with key := BitVec.ofNat 64 (s.staged who 0x4200 7 0) }).unstage who 0x4200 7).answer 0

/-! ## Freeing pages (R310, R312) -/

/-- A page is forgotten: placed frames return to CACHE, home space to the partition. -/
def State.freePage (s : State) (k : Nat) : State :=
  let p := s.page k
  let s1 := if p.loc = 1 then s.releaseFrames (p.frame / 20480) (p.frame % 20480) (pageFrames p.big)
    else s.forgetSectors (p.quarter * 2 ^ 38 + p.home) (pageBytes p.big)
  { s1 with pager := { s1.pager with
    pages := Tab.set Page.blank s1.pager.pages k Page.blank
    gathered := s1.pager.gathered.filter (fun e => e.1 / 512 ≠ k) } }

/-- Keys of the populated pages that lie in `[va, va + n)` of a context. -/
def State.pagesIn (s : State) (ctx va n : Nat) : List Nat :=
  (s.pager.pages.filter (fun e => decide (e.2.ctx = ctx ∧ va ≤ e.2.va ∧ e.2.va < va + n))).map (·.1)

/-- A range is removed; one that owns its pages frees them. -/
def State.dropRange (s : State) (r : Range) : State :=
  let s1 := { s with pager := { s.pager with ranges := s.pager.ranges.filter (· ≠ r) } }
  let s2 := if r.isAlias then s1 else (s1.pagesIn r.ctx r.va r.bytes).foldl State.freePage s1
  if attrMIR r.attr && !r.isAlias then s2.firmRecord (s.ctx r.ctx).part 4 r.ctx r.va [] else s2

/-- A line of a range that owns its pages holds a shadow way. -/
def State.rangeShadowed (s : State) (r : Range) : Bool :=
  !r.isAlias && (s.pagesIn r.ctx r.va r.bytes).any (fun k => s.pageShadowed (s.page k))

/-- Some alias held by a context that `by'` allows reaches the pages of the range. -/
def State.rangeAliased (s : State) (r : Range) (by' : Nat → Bool) : Bool :=
  s.pager.ranges.any (fun x => x.isAlias && by' x.ctx && decide (x.srcCtx = r.ctx ∧ r.va ≤ x.srcVa ∧ x.srcVa < r.va + r.bytes))

/-- A task in flight runs in the context: at a sequencer, dispatched to one, or waiting in a local queue. -/
def State.ctxTasks (s : State) (c : Nat) : Bool :=
  s.cores.any (fun e =>
    decide (e.2.task.source ≠ 0 ∧ e.2.task.ctx = c) || (match e.2.dispatched with | some t => decide (t.ctx = c) | none => false)
      || e.2.localQ.any (fun w => decide (bits 95 84 w = c)))

/-- CX_CMD DESTROY: every range goes as FREE does. -/
def State.cxDestroy (s : State) (who : Nat) : State :=
  let id := s.staged who 0x4200 1 0
  let c := s.ctx id
  let mine := s.pager.ranges.filter (fun r => r.ctx = id)
  if id > 4095 then s.answer 0x0301
  else if !c.active then s.answer 0x0402
  else if s.sched.queues.any (fun e => decide (e.2.st ≠ qFree ∧ e.2.ctx = id)) || s.fabric.chans.any (fun e => e.2.bound && decide (e.2.ctx = id))
      || s.ctxTasks id || mine.any (fun r => s.rangeAliased r (fun x => decide (x ≠ id)) || s.rangeShadowed r) then s.answer 0x0402
  else ((mine.foldl State.dropRange s).setCtx id { Ctx.blank with faults := c.faults }).answer 0

/-- CX_CMD SELECT. -/
def State.cxSelect (s : State) (who : Nat) : State :=
  let id := s.staged who 0x4200 1 0
  if id > 4095 then s.answer 0x0301
  else if !(s.ctx id).active then s.answer 0x0402
  else
    ((((s.select who 0x4200 9 1 1).select who 0x4200 10 4 (s.ctxUsed id)).select who 0x4200 11 4 (s.ctxPlaced id)).select who 0x4200 12 8
      (s.ctx id).faults).answer 0

/-- CX_CMD other than SETKEY needs operator authorisation (R552). -/
def State.cxCommand (s : State) (who : Nat) (k : State → State) : State :=
  s.command who 0x4200 (s.authPlain who) (fun s => (k s).appliedIf who 0x4200 cxSubs)

def execCxCreate (who : Fin 16) (s : State) : Res := .next (s.cxCommand who.val (fun s => s.cxCreate who.val))
def execCxSet (who : Fin 16) (s : State) : Res := .next (s.cxCommand who.val (fun s => s.cxSet who.val))
def execCxDestroy (who : Fin 16) (s : State) : Res := .next (s.cxCommand who.val (fun s => s.cxDestroy who.val))
def execCxSelect (who : Fin 16) (s : State) : Res := .next (s.cxCommand who.val (fun s => s.cxSelect who.val))
/-- SETKEY is decided against the partition of context CX_ID (R307, R552). -/
def execCxSetkey (who : Fin 16) (s : State) : Res :=
  .next (s.command who.val 0x4200 (s.authTenant who.val (s.ctx (s.staged who.val 0x4200 1 0)).part) (fun s =>
    (s.cxSetkey who.val).appliedIf who.val 0x4200 cxSubs))

/-! ## Ranges (R309 to R312) -/

structure RgArgs where
  ctx : Nat
  va : Nat
  bytes : Nat
  attr : Word
  src : Nat
  srcVa : Nat

def State.rgArgs (s : State) (who : Nat) : RgArgs :=
  let g := fun sub => s.staged who 0x4210 sub 0
  ⟨g 1, g 2, g 3, BitVec.ofNat 32 (g 4), g 5, g 6⟩

def rgSubs : List (Nat × Nat × Nat) := [(1, 2, 0), (2, 8, 0), (3, 8, 0), (4, 4, 0), (5, 2, 0), (6, 8, 0)]

def State.rangeMeets (s : State) (ctx va n : Nat) : Bool :=
  s.pager.ranges.any (fun r => decide (r.ctx = ctx ∧ r.va < va + n ∧ va < r.va + r.bytes))

/-- Alignment or length outside R309. -/
def spanMisfit (big : Bool) (va n : Nat) : Bool :=
  decide (va % pageBytes big ≠ 0 ∨ n % pageBytes big ≠ 0 ∨ n = 0 ∨ va + n > 2 ^ 56)

def State.addRange (s : State) (r : Range) : State := { s with pager := { s.pager with ranges := s.pager.ranges ++ [r] } }

/-- RG_CMD MAP. -/
def State.rgMap (s : State) (who : Nat) : State :=
  let a := s.rgArgs who
  let r : Range := ⟨a.ctx, a.va, a.bytes, a.attr, false, 0, 0, false⟩
  let c := s.ctx a.ctx
  if spanMisfit (attrPS a.attr) a.va a.bytes || attrBad a.attr then s.answer 0x0301
  else if !c.active then s.answer 0x0402
  else if s.rangeMeets a.ctx a.va a.bytes then s.answer 0x0401
  else if s.tablesOf (s.pager.ranges ++ [r]) c.part > s.pager.policy.tablePool c.part * 2 ^ 20 then s.answer 0x0301
  else
    let s1 := s.addRange r
    (if attrMIR a.attr then s1.firmRecord c.part 3 a.ctx a.va (leBytes 8 a.bytes ++ leBytes 4 a.attr.toNat ++ leBytes 20 0) else s1).answer 0

/-- The range that owns the pages a span of a context reaches, through any alias, with the owning address and whether the named range
permits writes (R310). -/
def State.resolveSpan (s : State) (ctx va n : Nat) : Option (Range × Nat × Bool) :=
  match s.rangeAt ctx va with
  | none => none
  | some r =>
    if va + n > r.va + r.bytes then none
    else
      let o := r.owner va
      (s.rangeAt o.1 o.2).map (fun x => (x, o.2, attrW r.attr))

/-- RG_CMD ALIAS. -/
def State.rgAlias (s : State) (who : Nat) : State :=
  let a := s.rgArgs who
  let x := s.resolveSpan a.src a.srcVa a.bytes
  let big := match x with | some y => attrPS y.1.attr | none => attrPS a.attr
  if spanMisfit big a.va a.bytes || spanMisfit big a.srcVa a.bytes || attrBad a.attr then s.answer 0x0301
  else if !(s.ctx a.ctx).active ∨ !(s.ctx a.src).active ∨ (s.ctx a.ctx).part ≠ (s.ctx a.src).part then s.answer 0x0402
  else
    match x with
    | none => s.answer 0x0402
    | some (o, ova, w) =>
      if s.rangeMeets a.ctx a.va a.bytes then s.answer 0x0401
      else
        let attr := if w && attrW a.attr then o.attr else o.attr &&& 0x7FFFFFFF#32
        let r : Range := ⟨a.ctx, a.va, a.bytes, attr, true, o.ctx, ova, false⟩
        if s.tablesOf (s.pager.ranges ++ [r]) (s.ctx a.ctx).part > s.pager.policy.tablePool (s.ctx a.ctx).part * 2 ^ 20 then s.answer 0x0301
        else (s.addRange r).answer 0

/-- What a FREE or a PIN that waits is known by (R630). -/
def freeTag (who : Nat) : List Nat := [who, 3]
def pinTag (who ctx va : Nat) : List Nat := [who, 4, ctx, va]

/-- RG_CMD FREE: the range goes at once; the command completes with the shootdown (R312, R318). -/
def State.rgFree (s : State) (who : Nat) : State :=
  let a := s.rgArgs who
  if !(s.ctx a.ctx).active then s.answer 0x0402
  else
    match s.pager.ranges.find? (fun r => r.ctx = a.ctx ∧ r.va = a.va) with
    | none => s.answer 0x0402
    | some r =>
      if !r.isAlias ∧ s.rangeAliased r (fun _ => true) then s.answer 0x0401
      else if s.rangeShadowed r || s.ringHolds r.ctx r.va r.bytes
          || (!r.isAlias && s.pager.ranges.any (fun x => x.isAlias && decide (x.srcCtx = r.ctx ∧ r.va ≤ x.srcVa ∧ x.srcVa < r.va + r.bytes)
            && s.ringHolds x.ctx x.va x.bytes)) then s.answer 0x0402
      else
        let s1 := s.dropRange r
        ({ s1 with pager := { s1.pager with shootWait := s1.pager.shootWait ++ [who] } }).applied who 0x4210 rgSubs

/-- SHOOTDOWN_COMPLETE (R318): every cache has acknowledged: the oldest FREE that waits is answered. -/
def execShootdownComplete (s : State) : Res :=
  match s.pager.shootWait with
  | [] => .next s
  | who :: rest =>
    .next ((({ s with pager := { s.pager with shootWait := rest } }).pagerCount (fun c => { c with shootdowns := c.shootdowns + 1 })).answerLate (freeTag who) 0)

/-- A page is held placed: by PIN, or by a ring of a bound channel (R312). -/
def State.pinned (s : State) (p : Page) : Bool := p.pin || s.ringHolds p.ctx p.va (pageBytes p.big)

/-- Pages (starts in the owning context) of a range, and its owning attributes. -/
def State.rangePages (s : State) (r : Range) : List Nat × Nat × Word :=
  let o := r.owner r.va
  let attr := s.ownerAttr r r.va
  let sz := pageBytes (attrPS attr)
  ((List.range (r.bytes / sz)).map (fun i => o.2 + i * sz), o.1, attr)

def State.partPlacedPinned (s : State) (p : Nat) : Nat :=
  (s.pager.pages.filter (fun e => decide ((s.ctx e.2.ctx).part = p) && s.pinned e.2)).foldl (fun n e => n + pageFrames e.2.big) 0

/-- Homes for the unpopulated pages of a PIN can all be found: tried in order. -/
def State.homesFor (ctx : Nat) (attr : Word) : List Nat → State → Bool
  | [], _ => true
  | va :: r, s =>
    if (s.page (pageKey ctx va)).v then State.homesFor ctx attr r s
    else
      match s.findHome (s.ctx ctx) (attrPS attr) (attrHL attr) with
      | none => false
      | some (q, a) =>
        State.homesFor ctx attr r (s.setPage (pageKey ctx va) { Page.blank with v := true, ctx := ctx, va := va, big := attrPS attr, home := a, quarter := q })

/-- Where a page that PIN or the interval promotes is searched from (R324). -/
def Page.start (p : Page) : TierStart := if p.affSet then .cluster p.affinity else .partition

/-- Promotes one page if a place exists. -/
def State.tryPromote (s : State) (key : Nat) : State :=
  let p := s.page key
  let c := s.ctx p.ctx
  if !p.v ∨ p.loc ≠ 0 ∨ s.pageShadowed p ∨ s.ctxPlaced p.ctx + pageKiB p.big > c.placeMax * 1024 then s
  else
    match s.findFrames c p.big (attrHL p.attr) p.start with
    | none => s
    | some (fq, f) => (s.promotePage key fq f).getD s

/-- PIN of one page: allocated, marked, promoted. -/
def State.pinPage (ctx : Nat) (attr : Word) (s : State) (va : Nat) : State :=
  let k := pageKey ctx va
  let s1 := if (s.page k).v then s else (s.allocPage ctx va attr .partition true).1
  let s2 := s1.setPage k { (s1.page k) with pin := true }
  s2.tryPromote k

/-- Every page of the range that holds `va` is placed. -/
def State.pinDone (s : State) (ctx va : Nat) : Bool :=
  match s.rangeAt ctx va with
  | none => true
  | some r => let x := s.rangePages r; x.1.all (fun a => decide ((s.page (pageKey x.2.1 a)).loc = 1))

/-- PIN commands whose pages are all placed complete. -/
def State.settlePins (s : State) : State :=
  let done := s.pager.pinWait.filter (fun w => s.pinDone w.2.1 w.2.2)
  let s1 := { s with pager := { s.pager with pinWait := s.pager.pinWait.filter (fun w => !s.pinDone w.2.1 w.2.2) } }
  done.foldl (fun s w => s.answerLate (pinTag w.1 w.2.1 w.2.2) 0) s1

/-- RG_CMD PIN. -/
def State.rgPin (s : State) (who : Nat) : State :=
  let a := s.rgArgs who
  if !(s.ctx a.ctx).active then s.answer 0x0402
  else
    match s.rangeAt a.ctx a.va with
    | none => s.answer 0x0402
    | some r =>
      let x := s.rangePages r
      let c := s.ctx x.2.1
      let big := attrPS x.2.2
      let keys := x.1.map (pageKey x.2.1)
      let newPins := (keys.filter (fun k => !(s.page k).v || !s.pinned (s.page k))).length
      let newPlaced := (keys.filter (fun k => (s.page k).loc ≠ 1)).length
      let newPages := (keys.filter (fun k => !(s.page k).v)).length
      if 100 * (s.partPlacedPinned c.part + newPins * pageFrames big) > s.pager.policy.pinPct * s.placeCap c.part then s.answer 0x0401
      else if s.ctxPlaced x.2.1 + newPlaced * pageKiB big > c.placeMax * 1024 ∨ attrPLACE x.2.2 = 1 then s.answer 0x0301
      else if s.ctxUsed x.2.1 + newPages * pageKiB big > c.hbmQuota * 1024 ∨ !State.homesFor x.2.1 x.2.2 x.1 s then s.answer 0x0301
      else
        let s1 := x.1.foldl (State.pinPage x.2.1 x.2.2) s
        if s1.pinDone a.ctx a.va then (s1.answer 0).applied who 0x4210 rgSubs
        else ({ s1 with pager := { s1.pager with pinWait := s1.pager.pinWait ++ [(who, a.ctx, a.va)] } }).applied who 0x4210 rgSubs

/-- A command on the range that holds RG_VA. -/
def State.rgOn (s : State) (who : Nat) (k : Range → State) : State :=
  let a := s.rgArgs who
  if !(s.ctx a.ctx).active then s.answer 0x0402
  else match s.rangeAt a.ctx a.va with | none => s.answer 0x0402 | some r => k r

/-- RG_CMD UNPIN. -/
def State.rgUnpin (s : State) (who : Nat) : State :=
  s.rgOn who (fun r =>
    let x := s.rangePages r
    (x.1.foldl (fun s a => let k := pageKey x.2.1 a; if (s.page k).v then s.setPage k { (s.page k) with pin := false } else s) s).answer 0)

/-- A leaf entry (Table 10-7). -/
def State.leafEntry (s : State) (p : Page) : Nat :=
  if !p.v then 0
  else
    2 ^ 127 + 2 ^ 126 + p.loc % 4 * 2 ^ 123 + (if s.pinned p then 2 ^ 122 else 0) + p.attr.toNat / 2 ^ 9 * 2 ^ 99 + p.affinity % 32 * 2 ^ 94
      + p.heat % 2 ^ 16 * 2 ^ 76 + p.ctx % 4096 * 2 ^ 64 + (p.quarter * 2 ^ 38 + p.home) / 2 ^ 16 % 2 ^ 24 * 2 ^ 40
      + (if p.loc = 0 then 0 else p.frame % 2 ^ 17 * 2 ^ 23)

/-- RG_CMD SELECT. -/
def State.rgSelect (s : State) (who : Nat) : State :=
  s.rgOn who (fun r =>
    let a := s.rgArgs who
    let o := r.owner a.va
    let p := s.page (pageKey o.1 (pageStart (attrPS (s.ownerAttr r a.va)) o.2))
    (s.select who 0x4210 8 16 (s.leafEntry p)).answer 0)

def State.rgCommand (s : State) (who : Nat) (k : State → State) : State :=
  s.command who 0x4210 (s.authPlain who) (fun s => (k s).appliedIf who 0x4210 rgSubs)

def execRgMap (who : Fin 16) (s : State) : Res := .next (s.rgCommand who.val (fun s => s.rgMap who.val))
def execRgAlias (who : Fin 16) (s : State) : Res := .next (s.rgCommand who.val (fun s => s.rgAlias who.val))
def execRgFree (who : Fin 16) (s : State) : Res := .next (s.command who.val 0x4210 (s.authPlain who.val) (fun s => s.rgFree who.val))
def execRgPin (who : Fin 16) (s : State) : Res := .next (s.command who.val 0x4210 (s.authPlain who.val) (fun s => s.rgPin who.val))
def execRgUnpin (who : Fin 16) (s : State) : Res := .next (s.rgCommand who.val (fun s => s.rgUnpin who.val))
def execRgSelect (who : Fin 16) (s : State) : Res := .next (s.rgCommand who.val (fun s => s.rgSelect who.val))

/-! ## Walks (R317, R319, R321) -/

/-- A requester: a core's unit, or another unit at a node. -/
def State.walkWho (s : State) (core : Option CoreIx) (cluster : Nat) : Who :=
  match core with
  | some c => s.coreWho c.val
  | none => ⟨some ((s.clusterPart cluster).getD 4), 256, cluster⟩

/-- WALK (R317): one miss that reaches a walker set: 0 a valid leaf with its device-local address, 1 a DEM entry, 2 a fault with its
cause. -/
def execWalk (core : Option CoreIx) (cluster : ClusterIx) (ctx : Fin 4096) (va : Nat) (write : Bool) (s : State) : Res :=
  let s1 := s.pagerCount (fun c => { c with walks := c.walks + 1 })
  let w := s.walkWho core cluster.val
  match s.trCause w ctx.val va write with
  | some cause => .next ((s1.trFault w ctx.val va cause).emit .core 2 [cause])
  | none =>
    match s.rangeAt ctx.val va with
    | none => .next s1
    | some r =>
      let o := r.owner va
      let start := pageStart (attrPS (s.ownerAttr r va)) o.2
      let p := s.page (pageKey o.1 start)
      .next (if p.v then s1.emit .core 0 [p.phys (o.2 - start)] else s1.emit .core 1 [])

/-- DEMAND_ALLOC (R315, R319 to R321): the page under a DEM entry is allocated and zeroed, and the translation granted; or the fault. -/
def execDemandAlloc (core : Option CoreIx) (cluster : ClusterIx) (ctx : Fin 4096) (va : Nat) (write : Bool) (s : State) : Res :=
  let t := s.translate (s.walkWho core cluster.val) ctx.val va write
  match t.2 with
  | .ok phys _ _ => .next (t.1.emit .core 0 [phys])
  | .fault cause => .next (t.1.emit .core 2 [cause])

/-! ## Heat (R325, R326) -/

/-- The cluster that a translation cache counts for. -/
def cacheCluster (cache : Nat) : Nat := if cache < 256 then cache / 8 else cache - 256

/-- A cache adds its count to a page: HEAT saturates; the largest flush of the interval writes AFFINITY. -/
def State.flush (s : State) (e : Nat × Nat) : State :=
  let k := e.1 / 512
  let c := cacheCluster (e.1 % 512)
  let p := s.page k
  let h := if p.heat + e.2 > 65535 then 65535 else p.heat + e.2
  let win := decide (e.2 > p.flushMax) || (decide (e.2 = p.flushMax) && p.affSet && decide (c < p.affinity))
  let s1 := { s with pager := { s.pager with gathered := Tab.set 0 s.pager.gathered e.1 0 } }
  if !p.v then s1
  else s1.setPage k { p with heat := h, affinity := if win then c else p.affinity, affSet := p.affSet || win, flushMax := if e.2 > p.flushMax then e.2 else p.flushMax }

/-- HEAT_FLUSH (R325): a cache (a core's 0 to 255, or 256 + cluster) evicts its entry of a page. -/
def execHeatFlush (cache : Fin 288) (ctx : Fin 4096) (va : Nat) (s : State) : Res :=
  match s.rangeAt ctx.val va with
  | none => .next s
  | some r =>
    let o := r.owner va
    let key := pageKey o.1 (pageStart (attrPS (s.ownerAttr r va)) o.2) * 512 + cache.val
    let n := Tab.get 0 s.pager.gathered key
    .next (if n = 0 then s else s.flush (key, n))

/-! ## The interval (R327, R331) -/

/-- The policy that the dictionary holds. -/
def State.policyNow (s : State) : PagerPolicy :=
  let v := fun sub d => s.val 0x4220 sub d
  { interval := v 1 1000, promoteMin := v 2 64, demoteMax := v 3 4, hyst := v 4 200, moveBudget := v 5 64, placePct := v 6 70, pinPct := v 7 25,
    moveClass := v 8 7, tableMib := s.pager.policy.tableMib }

/-- Where a partition's procedure stands: the budget left in KiB, whether the step has stopped. -/
structure Sweep where
  s : State
  budget : Nat
  stop : Bool

def State.skipPage (s : State) : State := s.pagerCount (fun c => { c with skipped := c.skipped + 1 })

/-- Demotes a page within the budget; a page with shadows is skipped. -/
def Sweep.demote (w : Sweep) (k : Nat) : Sweep :=
  let p := w.s.page k
  if w.stop then w
  else if w.s.pageShadowed p then { w with s := w.s.skipPage }
  else if w.budget < pageKiB p.big then { w with stop := true }
  else { w with s := w.s.demotePage k, budget := w.budget - pageKiB p.big }

/-- Placed, unpinned pages of a partition in ascending density. -/
def State.coldPages (s : State) (part : Nat) : List Nat :=
  (sortBy (fun (a b : Nat × Page) => decide (a.2.dens < b.2.dens))
    (s.pager.pages.filter (fun e => decide ((s.ctx e.2.ctx).part = part ∧ e.2.loc = 1) && !s.pinned e.2))).map (·.1)

/-- Step 1: cold frames go back to the cache role. -/
def Sweep.cold (part : Nat) (w : Sweep) : Sweep :=
  ((w.s.coldPages part).filter (fun k => decide ((w.s.page k).dens < w.s.pager.policy.demoteMax))).foldl Sweep.demote { w with stop := false }

/-- Step 2: the partition over its cap, then contexts over PLACE_MAX. -/
def Sweep.excess (part : Nat) (w : Sweep) : Sweep :=
  let w1 := (w.s.coldPages part).foldl (fun w k =>
    if w.s.framesIn part .placed > w.s.placeCap part then w.demote k else w) { w with stop := false }
  (w1.s.pager.ctxs.filter (fun e => decide (e.2.part = part))).foldl (fun w e =>
    ((w.s.coldPages part).filter (fun k => decide ((w.s.page k).ctx = e.1))).foldl (fun w k =>
      if w.s.ctxPlaced e.1 > e.2.placeMax * 1024 then w.demote k else w) { w with stop := false }) w1

/-- The pages that hold a list of frame keys. -/
def State.pagesOnFrames (s : State) (fs : List Nat) : List Nat :=
  (s.pager.pages.filter (fun e => decide (e.2.loc = 1) && fs.any (fun f => decide (e.2.frame ≤ f ∧ f < e.2.frame + pageFrames e.2.big)))).map (·.1)

/-- A page that a promotion of `key` may displace: unpinned, and not of another context at or below its PLACE_MIN. -/
def State.mayDisplace (s : State) (key k : Nat) : Bool :=
  let p := s.page k
  !s.pinned p && !s.pageShadowed p && (decide (p.ctx = (s.page key).ctx) || decide (s.ctxPlaced p.ctx > (s.ctx p.ctx).placeMin * 1024))

/-- Greatest density of a list of pages. -/
def State.maxDens (s : State) (ks : List Nat) : Nat := ks.foldl (fun m k => if (s.page k).dens > m then (s.page k).dens else m) 0

/-- The victims for a page (R327 step 3): in the first tier that holds one, the page, or the whole group of pages, of lowest density. -/
def State.victims (s : State) (key : Nat) : Option (List Nat) :=
  let p := s.page key
  let c := s.ctx p.ctx
  let best (l : List (List Nat)) : Option (List Nat) :=
    leastBy (fun a b => decide (s.maxDens a < s.maxDens b)) (l.filter (fun g => !g.isEmpty && g.all (s.mayDisplace key)))
  if p.big then
    (s.tiersBig c (attrHL p.attr) p.start).findSome? (fun t =>
      best (((List.range 640).filter (fun g => t.2.contains (g % 2))).filterMap (fun g =>
        let fs := (List.range 32).map (fun i => t.1 * 20480 + 32 * g + i)
        if fs.all (fun f => decide (s.frameRole t.1 (f % 20480) = .placed)) then some (s.pagesOnFrames fs) else none)))
  else
    (s.tiersSmall c (attrHL p.attr) p.start).findSome? (fun stalls =>
      best ((s.pager.pages.filter (fun e => decide (e.2.loc = 1) && (List.range (pageFrames e.2.big)).any (fun i =>
        stalls.contains (frameStall (e.2.frame / 20480) (e.2.frame % 20480 + i))))).map (fun e => [e.1])))

/-- Promotes one candidate, displacing colder pages where no frame is free. -/
def Sweep.promote (w : Sweep) (k : Nat) : Sweep :=
  let p := w.s.page k
  let c := w.s.ctx p.ctx
  let size := pageKiB p.big
  if w.stop then w
  else if w.s.pageShadowed p then { w with s := w.s.skipPage }
  else if w.budget < size then { w with stop := true }
  else if w.s.ctxPlaced p.ctx + size > c.placeMax * 1024 then w
  else
    match w.s.findFrames c p.big (attrHL p.attr) p.start with
    | some (fq, f) =>
      match w.s.promotePage k fq f with
      | some t => { w with s := t, budget := w.budget - size }
      | none => { w with s := w.s.skipPage }
    | none =>
      match w.s.victims k with
      | none => w
      | some v =>
        let vs := v.foldl (fun n k => n + pageKiB (w.s.page k).big) 0
        if w.s.maxDens v * w.s.pager.policy.hyst / 100 ≥ p.dens then w
        else if w.budget < size + vs then { w with stop := true }
        else
          let s1 := v.foldl State.demotePage w.s
          let w1 := { w with s := s1, budget := w.budget - vs }
          match s1.findFrames c p.big (attrHL p.attr) p.start with
          | none => w1
          | some (fq, f) =>
            match s1.promotePage k fq f with
            | some t => { w1 with s := t, budget := w1.budget - size }
            | none => { w1 with s := w1.s.skipPage }

/-- Step 3: hot pages go to the market. -/
def Sweep.hot (part : Nat) (w : Sweep) : Sweep :=
  let s := w.s
  let below (e : Nat × Page) : Bool := decide (s.ctxPlaced e.2.ctx < (s.ctx e.2.ctx).placeMin * 1024)
  let before (a b : Nat × Page) : Bool :=
    if below a ≠ below b then below a
    else if a.2.dens ≠ b.2.dens then decide (a.2.dens > b.2.dens)
    else decide (a.1 < b.1)
  let cand := sortBy before (s.pager.pages.filter (fun e =>
    decide ((s.ctx e.2.ctx).part = part ∧ e.2.loc = 0 ∧ attrPLACE e.2.attr ≠ 1 ∧ e.2.dens ≥ s.pager.policy.promoteMin)))
  (cand.map (·.1)).foldl Sweep.promote { w with stop := false }

/-- Step 4: heat decays, and a new interval of flushes begins. -/
def State.decay (s : State) (part : Nat) : State :=
  { s with pager := { s.pager with
    pages := Tab.mapVals Page.blank (fun _ p => if (s.ctx p.ctx).part = part then { p with heat := p.heat / 2, flushMax := 0 } else p) s.pager.pages } }

/-- The procedure of one partition. -/
def State.interval (s : State) (part : Nat) : State :=
  let w : Sweep := ⟨s, s.pager.policy.moveBudget * 1024, false⟩
  (((w.cold part).excess part).hot part).s.decay part

/-- Pages of PIN commands that wait are placed where they can be now. -/
def State.retryPins (s : State) : State :=
  (s.pager.pages.foldl (fun s e => if e.2.pin ∧ e.2.loc = 0 then s.tryPromote e.1 else s) s).settlePins

/-- PAGER_INTERVAL (R327): at a bell that is a multiple of PG_INTERVAL. -/
def execPagerInterval (s : State) : Res :=
  let pol := s.policyNow
  if s.bell.count % pol.interval ≠ 0 then .next s
  else
    let s1 := { s with pager := { s.pager with policy := pol } }
    let s2 := s1.pager.gathered.foldl State.flush s1
    .next ((List.range 4).foldl State.interval s2).retryPins

/-- PROMOTE (R328): the pager promotes one page of HBM that is not to stay there. -/
def execPromote (ctx : Fin 4096) (va : Nat) (s : State) : Res :=
  let k := pageKey ctx.val va
  if attrPLACE (s.page k).attr = 1 then .next s else .next (s.tryPromote k).settlePins

/-- DEMOTE (R328): the pager demotes one placed page that nothing holds. -/
def execDemote (ctx : Fin 4096) (va : Nat) (s : State) : Res :=
  let k := pageKey ctx.val va
  let p := s.page k
  if !p.v ∨ p.loc ≠ 1 ∨ s.pinned p ∨ s.pageShadowed p then .next s else .next (s.demotePage k)

end Sys2Proof.Machine
end

