-- ==== Sys2Proof/Machine/FabricRx.lean ====
section
/-!
DEFINITION. What a Gwengo engine does with the frames that arrive (R422 to R427, R432 to R440, R443, R446, R449): checks and admission,
then one command for each type of frame that has been admitted.
-/

namespace Sys2Proof.Machine
open Sys2Proof

/-! ## Admission (R422, R424, R433, R443) -/

/-- The hosted starter whose source an alias names (R457). -/
def State.aliasPart (s : State) (dst : Nat) : Option Nat := (s.fabric.aliases.find? (fun a => a.1 = dst)).map (·.2)

/-- DST names this device or an alias. -/
def State.forMe (s : State) (dst : Nat) : Bool := decide (dst = s.selfId) || (s.aliasPart dst).isSome

def State.window' (s : State) (w : Nat) : Window := Tab.get Window.blank s.fabric.windows w

/-- A LANDING address of a frame for an alias, rebased from the source's window to the recreated one (R457). -/
def State.rebase (s : State) (dst a n : Nat) : Nat :=
  match s.aliasPart dst with
  | none => a
  | some p =>
    match (Tab.get Hosted.blank s.fabric.hosted p).windows.find? (fun e => decide (e.2.kind = 1 ∧ e.2.base ≤ a ∧ a + n ≤ e.2.base + e.2.bytes)) with
    | some e => (s.window' e.1).base + (a - e.2.base)
    | none => a

/-- The enabled window that holds `n` bytes of a frame's target, with its number and the address its base stands for: a device-local
address of a LANDING window, a virtual one of a CONTEXT window. -/
def State.frameTarget (s : State) (h : BitVec 512) (n : Nat) : Option (Window × Nat) :=
  if frTkind h = 0 then
    let a := s.rebase (frDst h) (frAddr h) n
    (s.fabric.windows.find? (fun e => e.2.enabled && decide (e.2.kind = 1 ∧ e.2.base ≤ a ∧ a + n ≤ e.2.base + e.2.bytes))).map
      (fun e => (e.2, a))
  else
    let w := s.window' (frWin h)
    if w.enabled ∧ frAddr h + n ≤ w.bytes then some (w, w.base + frAddr h) else none

/-- SRC passes the source filter of a window (Table 14-11). -/
def Window.passes (w : Window) (src : Nat) : Bool :=
  Nat.testBit (w.src / 2 ^ 56) (src / 2 ^ 13) && decide (w.src / 2 ^ 16 % 2 ^ 13 ≤ src % 2 ^ 13 ∧ src % 2 ^ 13 ≤ w.src % 2 ^ 13)

/-- The frame is SEALED under the key that a window requires, or under its NEXT successor (R422, R557). -/
def State.keyFits (s : State) (w : Window) (h : BitVec 512) : Bool :=
  decide (w.keyid = 0) || (frSealed h && (decide (frKeyid h = w.keyid)
    || (let k := Tab.get KeyRec.blank s.sec.keys (frKeyid h)
        decide (k.pred = w.keyid ∧ k.st = 2 ∧ (Tab.get KeyRec.blank s.sec.keys w.keyid).st = 1))))

/-- Why a frame that names a target is refused: code and detail; none: admitted. -/
def State.admitTarget (s : State) (h : BitVec 512) : Option (Nat × Nat) :=
  let n := if frType h = tGetreq then 32 * frSectors h else frPlen h
  let op := if frType h = tPut then 0 else if frType h = tGetreq then 1 else 2
  match s.frameTarget h n with
  | none => some (2, 1)
  | some (w, _) =>
    if s.partResetting w.part then some (1, 0)
    else if w.closing then some (2, 1)
    else if !Nat.testBit w.perm op then some (2, 2)
    else if !w.passes (frSrc h) then some (2, 3)
    else if !s.keyFits w h then some (2, 4)
    else none

/-- This device has issued instance `t` of a group (R443). -/
def State.issued (s : State) (g t : Nat) : Bool := decide ((Tab.get 0 s.fabric.inst g + 511 - t) % 256 < 128)

/-- The hosted starter that records of a source go to: a partition that names it and holds a starter-landing reservation (R451). -/
def State.hostedOf (s : State) (src : Nat) : Option Nat :=
  (List.range 4).find? (fun p => decide (s.val (0x5410 + p) 1 0xFFFF = src)
    && s.market.rsv.any (fun e => decide (e.2.kind = 3 ∧ e.2.part = p))
    && decide ((Tab.get Hosted.blank s.fabric.hosted p).st ≤ 1))

/-- Bytes of the starter-landing reservation of a partition, and of the starter records of a source that wait there (R454). -/
def State.landingBytes (s : State) (p : Nat) : Nat :=
  (s.market.rsv.filter (fun e => decide (e.2.kind = 3 ∧ e.2.part = p))).foldl (fun a e => a + e.2.bytes) 0
def State.landingUsed (s : State) (src : Nat) : Nat :=
  (s.fabric.rxQ.filter (fun r => decide (frType r.hdr = tMirror ∧ frSrc r.hdr = src))).foldl (fun a r => a + frPlen r.hdr) 0

/-- A data frame inside the flow's bitmap is refused, or joins the frames to be applied. -/
def State.admitFrame (s : State) (r : RxFrame) : State :=
  let h := r.hdr
  let e := r.port / 9
  let t := frType h
  let queue (s : State) : State := { s with fabric := { s.fabric with rxQ := s.fabric.rxQ ++ [r] } }
  let held := (s.rxMsg e h).nack
  if held ≠ 0 then s.refuseFrame e h r.ce (held / 256) (held % 256)
  else if t = tPut ∨ t = tGetreq ∨ t = tFold then
    match s.admitTarget h with
    | some (c, d) => s.refuseFrame e h r.ce c d
    | none => if frColl h ∧ !s.issued (frGroup h) (frInst h) then s.sendNack e h 3 0 else queue s
  else if t = tMirror then
    match s.hostedOf (frSrc h) with
    | none => s.refuseFrame e h r.ce 2 1
    | some p =>
      if s.partResetting p then s.refuseFrame e h r.ce 1 0
      else if s.landingUsed (frSrc h) + frPlen h > s.landingBytes p then s
      else queue s
  else queue s

/-- A data frame of a flow: beyond the bitmap it is discarded, already accepted it is acknowledged again (R433). -/
def State.dataFrame (s : State) (r : RxFrame) : State :=
  let h := r.hdr
  let e := r.port / 9
  let f := s.flow e (frSrc h)
  let d := (frPsn h + 2 ^ 32 - f.cum) % 2 ^ 32
  if d ≥ 2 ^ 31 ∨ frPsn h ∈ f.got then s.sendAck e (frSrc h)
  else if d > 1024 then s
  else if s.fabric.rxQ.any (fun x => decide (x.port / 9 = e ∧ frSrc x.hdr = frSrc h ∧ frPsn x.hdr = frPsn h ∧ frType x.hdr ≤ 6)) then s
  else s.admitFrame r

/-- A SEALED frame authenticates: its key is an installed FABRIC key, and its tag verifies (`tagOk`). -/
def State.frameAuth (s : State) (h : BitVec 512) (tagOk : Bool) : Bool :=
  !frSealed h || (tagOk && decide ((Tab.get KeyRec.blank s.sec.keys (frKeyid h)).st ≠ 0 ∧ (Tab.get KeyRec.blank s.sec.keys (frKeyid h)).use = 1))

/-- The checks of R424 that come before the tag. -/
def State.frameOk (s : State) (h : BitVec 512) (pmap : QWord) (tag : QWord) (payload : List Byte) (fcsOk : Bool) : Bool :=
  fcsOk && decide (frameCrc (h.toNat / 2 ^ 32 * 2 ^ 32) pmap tag.toNat (frPx h) (frSealed h) = bits 31 0 h) && decide (frVer h = 1)
    && !frReserved h && decide (frPlen h % 32 = 0 ∧ frPlen h ≤ s.mtu ∧ payload.length = frPlen h)
    && (frSealed h || decide (frKeyid h = 0)) && s.forMe (frDst h)

/-- A valid frame from a peer: the last bell it was heard (R447); a peer that was unknown is alive. -/
def State.hearPeer (s : State) (p : Nat) : State :=
  s.setPeer p { s.peer p with lastHeard := s.bell.count, st := if (s.peer p).st = 0 then 1 else (s.peer p).st }

/-- SRC has been redirected and is fenced, or DST has been redirected away from this device (Table 14-6, R458). -/
def State.redirectedFrame (s : State) (h : BitVec 512) : Bool :=
  let n := (Tab.get Redirect.blank s.fabric.redirects (frDst h)).new1
  decide ((Tab.get Redirect.blank s.fabric.redirects (frSrc h)).new1 ≠ 0) || decide (n ≠ 0 ∧ n ≠ s.selfId + 1)

/-- FRAME_RECEIVE (R424, R433, R446, R447, R458): a frame arrives on a port, its payload deciphered; `fcsOk` and `tagOk` are the verdicts of
the frame check and of the authentication tag, `ce` the mark of IPv6. -/
def execFrameReceive (port : Fin 18) (hdr : BitVec 512) (pmap tag : QWord) (payload : List Byte) (fcsOk tagOk ce : Bool) (s : State) : Res :=
  let i := port.val
  if !s.inService ukPort i then .next s
  else
    let p := s.port i
    let s := s.setPort i { p with rx := p.rx + 1 }
    let src := frSrc hdr
    let r : RxFrame := ⟨i, hdr, if frPx hdr then pmap else 0#128, payload, 0, ce⟩
    if !s.frameOk hdr pmap tag payload fcsOk then .next (s.fbCount 1 1)
    else if !s.frameAuth hdr tagOk then .next ((s.fbCount 2 1).authFailed (2 * 2 ^ 32 + src) 0)
    else if frType hdr = tBeat ∧ src = s.selfId then
      let f := s.fresh
      .next (f.1.event 0x40 (f.2 % 65536) src 0)
    else
      let s := s.hearPeer src
      if s.redirectedFrame hdr then
        .next (if frType hdr ≤ 6 ∨ frType hdr = tBeat then s.sendNack (i / 9) hdr 4 0 else s)
      else if frType hdr ≥ 8 then .next { s with fabric := { s.fabric with rxQ := s.fabric.rxQ ++ [r] } }
      else if (s.peer src).st = 2 then .next s
      else .next (s.dataFrame r)

/-! ## Frames admitted -/

/-- The first frame of a type that an engine holds. -/
def State.firstRx (s : State) (e t : Nat) : Option RxFrame := s.fabric.rxQ.find? (fun r => decide (r.port / 9 = e ∧ frType r.hdr = t))

/-- An access to the target of a frame: class 9 at a landing target, the frame's class and deadline through a CONTEXT window (R423). -/
def targetAgent (w : Window) (h : BitVec 512) (e : Nat) : Agent :=
  let who : Who := ⟨none, 256, if e = 0 then 7 else 23⟩
  if w.kind = 1 then ⟨who, none, { Acc.plain with cls := 9, src := 3 }, false⟩
  else ⟨who, some w.ctx, { Acc.plain with cls := frRclass h, deadline := frDeadline h, src := 3 }, false⟩

/-- The sectors of a payload: 32 bytes each, the last one what is left. -/
def payloadSectors (bs : List Byte) : List (List Byte) := (List.range ((bs.length + 31) / 32)).map (fun i => (bs.drop (32 * i)).take 32)

/-- Writes the sectors of a payload, each with its poison tag (R426). -/
def State.writeSectors (g : Agent) (pmap : QWord) : List (List Byte) → Nat → Nat → State → State × AccSt
  | [], _, _, s => (s, .ok)
  | x :: rest, a, j, s =>
    let r := s.agentWrite g a x (pmap.getLsbD j)
    match r.2 with
    | .ok => State.writeSectors g pmap rest (a + 32) (j + 1) r.1
    | st => (r.1, st)

def State.writePayload (g : Agent) (pmap : QWord) (bs : List Byte) (a j : Nat) (s : State) : State × AccSt :=
  State.writeSectors g pmap (payloadSectors bs) a j s

/-- The collectives running here that a frame belongs to. -/
def Coll.isOf (h : BitVec 512) (e : Nat) (c : Coll) : Bool := decide (c.engine = e ∧ c.group = frGroup h ∧ c.inst = frInst h)

def State.onColls (s : State) (p : Coll → Bool) (f : Coll → Coll) : State :=
  { s with fabric := { s.fabric with colls := s.fabric.colls.map (fun c => if p c then f c else c) } }

/-- The frame has been applied: it leaves the buffer, counts in its message, and its PSN is accepted. -/
def State.frameDone (s : State) (e : Nat) (r : RxFrame) (m : RxMsg) : State :=
  ((s.dropRx r).setRxMsg m).accept e (frSrc r.hdr) (frPsn r.hdr) r.ce

/-- The mark, beside the flags of a collective, that a sector received for it carried poison. -/
def collPoison (r : RxFrame) : Nat := if r.pmap = 0#128 then 0 else 16

/-- PUT_FRAME (R425, R426, R439): the payload is written at the target; with DB set the message rings a queue in flow order. -/
def execPutFrame (engine : Fin 2) (s : State) : Res :=
  let e := engine.val
  match s.firstRx e tPut with
  | none => .next s
  | some r =>
    let h := r.hdr
    match s.frameTarget h (frPlen h) with
    | none => .next ((s.dropRx r).refuseFrame e h r.ce 2 1)
    | some (w, a) =>
      let x := State.writePayload (targetAgent w h e) r.pmap r.payload a 0 s
      match x.2 with
      | .ok =>
        let m := (x.1.rxMsg e h).took (frPlen h / 32) (frPsn h)
        let whole := decide (m.sectors ≥ m.total)
        let s1 := if whole ∧ frColl h then
            x.1.onColls (Coll.isOf h e) (fun c => { c with puts := c.puts + 1, flags := c.flags ||| frCflags h ||| collPoison r })
          else if frColl h then x.1.onColls (Coll.isOf h e) (fun c => { c with flags := c.flags ||| collPoison r })
          else x.1
        let s2 := if whole ∧ frDb h then
            s1.onFlow e (frSrc h) (fun f => { f with bells := f.bells ++ [⟨frDbq h, frDbtail h, if w.kind = 1 then w.part + 1 else 0, m.psn⟩] })
          else s1
        .next (s2.frameDone e r m)
      | .wait => .next s.waits
      | .fault _ => .next ((x.1.dropRx r).refuseFrame e h r.ce 2 5)
      | _ => .next ((x.1.dropRx r).refuseFrame e h r.ce 1 0)

/-- Reads sectors with their poison tags: bytes, poison map, how it ended and after how many sectors. -/
def State.readSectors (g : Agent) : Nat → Nat → Nat → State → State × AccSt × List Byte × Nat
  | 0, _, _, s => (s, .ok, [], 0)
  | n + 1, a, j, s =>
    let r := s.agentRead g a 32
    match r.st with
    | .ok =>
      let t := State.readSectors g n (a + 32) (j + 1) r.s
      (t.1, t.2.1, r.bytes ++ t.2.2.1, (if r.poison then 2 ^ j else 0) + t.2.2.2)
    | .fault _ => (r.s, .fault a, [], 0)
    | st => (r.s, st, [], 0)

/-- GETREQ (R425): the target answers with the next GETRESP frame; after the last the request is accepted. -/
def execGetreq (engine : Fin 2) (s : State) : Res :=
  let e := engine.val
  match s.firstRx e tGetreq with
  | none => .next s
  | some r =>
    let h := r.hdr
    match s.frameTarget h (32 * frSectors h) with
    | none => .next ((s.dropRx r).refuseFrame e h r.ce 2 1)
    | some (w, a) =>
      let per := s.mtu / 32
      let n := if frSectors h - r.pos < per then frSectors h - r.pos else per
      let x := State.readSectors (targetAgent w h e) n (a + 32 * r.pos) 0 s
      match x.2.1 with
      | .ok =>
        let last := decide (r.pos + n ≥ frSectors h)
        let hd : Hdr := { type := tGetresp, last := last, plen := 32 * n, dst := frSrc h, deadline := frDeadline h, rclass := frRclass h, tkind := frTkind h, win := frWin h, addr := frAddr h + 32 * r.pos, msg := frMsg h, frag := r.pos / per, msectm1 := frSectors h - 1 }
        match x.1.sendData e hd (some w.part) (BitVec.ofNat 128 x.2.2.2) x.2.2.1 with
        | none => .next s.waits
        | some t =>
          if last then .next (t.frameDone e r ((t.rxMsg e h).took (frSectors h) (frPsn h)))
          else .next { t with fabric := { t.fabric with rxQ := t.fabric.rxQ.map (fun y => if y = r then { y with pos := r.pos + n } else y) } }
      | .wait => .next s.waits
      | .fault _ => .next ((x.1.dropRx r).refuseFrame e h r.ce 2 5)
      | _ => .next ((x.1.dropRx r).refuseFrame e h r.ce 1 0)

/-- The job of a send channel ends with a status of Table 14-5. -/
def State.endJob (s : State) (e ch status pos : Nat) : State :=
  s.onChan (16 + e) ch (fun x => { x with run := x.run.map (fun j => if j.ended then j else { j with ended := true, status := status, pos := pos }) })

/-- GETRESP (R429, R432): requested sectors are written at LADDR; a fault there halts the channel (R430). -/
def execGetresp (engine : Fin 2) (s : State) : Res :=
  let e := engine.val
  match s.firstRx e tGetresp with
  | none => .next s
  | some r =>
    let h := r.hdr
    let fin (s : State) : State := (s.dropRx r).accept e (frSrc h) (frPsn h) r.ce
    match s.fabric.msgs.find? (fun m => decide (m.engine = e ∧ m.num = frMsg h ∧ m.kind = tGetreq ∧ m.ended = 0)) with
    | none => .next (fin s)
    | some m =>
      let at' := m.laddr + (frAddr h - m.raddr)
      let x := State.writePayload (s.chanAgent (16 + e) m.chan 0#16) r.pmap r.payload at' 0 s
      match x.2 with
      | .ok =>
        .next (fin (x.1.onMsgs (fun y => decide (y = m)) (fun y =>
          { y with got := y.got + frPlen h / 32, poison := y.poison || decide (r.pmap ≠ 0#128) })))
      | .wait => .next s.waits
      | _ => .next (fin (x.1.endJob e m.chan 2 ((frAddr h - m.raddr) / 32)))

/-- The flags of a fold-in's completion: SAT 8, LOSTLOW 4, NAN 2, REFUSED 1 (Table 14-2). -/
def foldDFlags (x : FoldEnd) : Nat :=
  (if x.flags.sat then 8 else 0) + (if x.flags.lostlow then 4 else 0) + (if x.flags.nan then 2 else 0) + (if x.refused then 1 else 0)

/-- The operands of one payload sector (R444): an anchored-128 element counts from the frame's ANCHOR. -/
def foldSector (fmt : Nat) (anchor : Int) (bs : List Byte) : List (Nat × FoldOperand) :=
  let d := BitVec.ofNat 256 (leNat bs)
  (List.range (256 / fmtBits fmt)).map (fun i =>
    let v := sectorElem (fmtBits fmt) d i
    (i, if fmt = 0xF then FoldOperand.grid (sext 128 v) anchor else partialOperand fmt v))

/-- Issues the fold-ins of a payload, sector by sector; a flagged sector adds nothing and reports NAN (R426). -/
def State.foldSectors (g : Agent) (fmt : Nat) (anchor : Int) (pmap : QWord) : List (List Byte) → Nat → Nat → State → State × AccSt × Nat
  | [], _, _, s => (s, .ok, 0)
  | y :: rest, a, j, s =>
    let r : State × AccSt × Nat :=
      if pmap.getLsbD j then (s, .ok, 2)
      else
        let x := s.agentFold g a fmt (foldSector fmt anchor y)
        (x.1, x.2.1, foldDFlags x.2.2)
    match r.2.1 with
    | .ok =>
      let t := State.foldSectors g fmt anchor pmap rest (a + 32) (j + 1) r.1
      (t.1, t.2.1, r.2.2 ||| t.2.2)
    | st => (r.1, st, 0)

def State.foldPayload (g : Agent) (fmt : Nat) (anchor : Int) (pmap : QWord) (bs : List Byte) (a j : Nat) (s : State) : State × AccSt × Nat :=
  State.foldSectors g fmt anchor pmap (payloadSectors bs) a j s

/-- FOLD_FRAME (R425, R438, R444): the fold-ins are issued; after the last frame of the message a DONE reports their flags. -/
def execFoldFrame (engine : Fin 2) (s : State) : Res :=
  let e := engine.val
  match s.firstRx e tFold with
  | none => .next s
  | some r =>
    let h := r.hdr
    match s.frameTarget h (frPlen h) with
    | none => .next ((s.dropRx r).refuseFrame e h r.ce 2 1)
    | some (w, a) =>
      let x := State.foldPayload (targetAgent w h e) (frFmt h) (frAnchor h) r.pmap r.payload a 0 s
      match x.2.1 with
      | .ok =>
        let m0 := (x.1.rxMsg e h).took (frPlen h / 32) (frPsn h)
        let m := { m0 with flags := m0.flags ||| x.2.2 }
        let s0 := if frColl h then x.1.onColls (Coll.isOf h e) (fun c => { c with flags := c.flags ||| collPoison r }) else x.1
        if m.sectors ≥ m.total then
          let s1 := if frColl h then s0.onColls (Coll.isOf h e) (fun c => { c with folds := c.folds + 1, flags := c.flags ||| m.flags, own := c.own ||| m.flags }) else s0
          match s1.sendData e { type := tDone, last := true, dst := frSrc h, msg := frMsg h, body := m.flags * 2 ^ 252 } (some w.part) 0#128 [] with
          | none => .next s.waits
          | some t => .next (t.frameDone e r m)
        else .next (s0.frameDone e r m)
      | .wait => .next s.waits
      | .fault _ => .next ((x.1.dropRx r).refuseFrame e h r.ce 2 5)
      | _ => .next ((x.1.dropRx r).refuseFrame e h r.ce 1 0)

/-- DONE_FRAME (R432): the flags of a FOLD message's completions arrive. -/
def execDoneFrame (engine : Fin 2) (s : State) : Res :=
  let e := engine.val
  match s.firstRx e tDone with
  | none => .next s
  | some r =>
    let h := r.hdr
    let mine (m : Msg) : Bool := decide (m.engine = e ∧ m.num = frMsg h ∧ m.kind = tFold)
    let s1 := s.onMsgs mine (fun m => { m with doneIn := true, flags := m.flags ||| frDflags h })
    let s2 := s.fabric.msgs.foldl (fun s m => if mine m ∧ m.coll ≠ 0 then
      s.onColls (fun c => decide (c.engine = e ∧ c.chan = m.chan)) (fun c => { c with flags := c.flags ||| frDflags h }) else s) s1
    .next ((s2.dropRx r).accept e (frSrc h) (frPsn h) r.ce)

/-- ACK (R434, R436, R437). -/
def execAck (engine : Fin 2) (s : State) : Res :=
  let e := engine.val
  match s.firstRx e tAck with
  | none => .next s
  | some r =>
    let h := r.hdr
    .next ((s.dropRx r).applyAck e (frSrc h) r.port (bits 255 224 h) (bits 223 192 h) (bits 191 64 h) (frCe h))

def State.starter (s : State) (p : Nat) : Starter := Tab.get Starter.blank s.fabric.starters p
def State.setStarter (s : State) (p : Nat) (x : Starter) : State :=
  { s with fabric := { s.fabric with starters := Tab.set Starter.blank s.fabric.starters p x } }
def State.hosted (s : State) (p : Nat) : Hosted := Tab.get Hosted.blank s.fabric.hosted p
def State.setHosted (s : State) (p : Nat) (x : Hosted) : State :=
  { s with fabric := { s.fabric with hosted := Tab.set Hosted.blank s.fabric.hosted p x } }

/-- Records of a partition leave the engines' buffers unsent. -/
def State.dropStream (s : State) (p : Nat) : State :=
  { s with fabric := { s.fabric with out := Tab.mapVals [] (fun _ l => l.filter (fun r => decide (r.part ≠ p))) s.fabric.out } }

/-- Starters whose partner is the device stop. -/
def State.stopStarters (s : State) (peer : Nat) : State :=
  (List.range 4).foldl (fun s p =>
    if s.val (0x5400 + p) 1 0xFFFF = peer ∧ ((s.starter p).st = 1 ∨ (s.starter p).st = 2) then
      ((s.dropStream p).setStarter p { s.starter p with st := 3 }).event 0x40 5 peer 3
    else s) s

/-- The device has been redirected away: queues of its mirrored partitions pause, its starters stop (R458). -/
def State.redirectedAway (s : State) (new : Nat) : State :=
  let mirrored (p : Nat) : Bool := decide ((Tab.get Starter.blank s.fabric.starters p).st = 1 ∨ (Tab.get Starter.blank s.fabric.starters p).st = 2)
  let s1 := s.sched.queues.foldl (fun s e =>
    if e.2.st = qEnabled ∧ mirrored (s.queuePart e.1) then s.setQueue e.1 { s.queue e.1 with st := qPaused } else s) s
  let s2 := { s1 with fabric := { s1.fabric with
    starters := Tab.mapVals Starter.blank (fun _ x => if x.st = 1 ∨ x.st = 2 then { x with st := 3 } else x) s1.fabric.starters } }
  s2.event 0x40 4 s.selfId new

/-- NACK (R440, Table 14-6): it completes the message, or has the frame sent again after 2 µs. A partner that refuses a MIRROR frame has no
room for a MAP (R455). -/
def execNack (engine : Fin 2) (s : State) : Res :=
  let e := engine.val
  match s.firstRx e tNack with
  | none => .next s
  | some r =>
    let h := r.hdr
    let psn := bits 255 224 h
    let code := bits 223 220 h
    let detail := bits 219 212 h
    let peer := frSrc h
    let s1 := (s.dropRx r).fbCount 5 1
    let mirror := (s.flow e peer).unacked.any (fun t => decide (frPsn t.hdr = psn ∧ frType t.hdr = tMirror))
    let own := !((s.flow e peer).unacked.any (fun t => decide (frPsn t.hdr = psn) && !ownsMsg (frType t.hdr)))
    let fin (status : Nat) (s : State) : State :=
      if own then (s.onMsgs (fun m => decide (m.engine = e ∧ m.num = frMsg h ∧ s.routeTo m.dst = peer)) (Msg.finish status detail)).settleColls else s
    .next (match code with
      | 1 => fin 4 s1
      | 2 => if mirror then (fin 5 s1).stopStarters peer else fin 5 s1
      | 3 => s1.onFlow e peer (fun f => { f with unacked := f.unacked.map (fun t => if frPsn t.hdr = psn then { t with again := s.bell.count + 3 } else t) })
      | 4 => (fin 3 s1).redirectedAway peer
      | _ => s1)

/-- The flows with a peer restart: messages toward it end PEER_RESET, the receiver begins at NEXTPSN (R449). -/
def State.resetFlows (s : State) (peer nextPsn e : Nat) : State :=
  let s1 := (s.endMessagesTo peer 4).settleColls
  let s2 := (List.range 2).foldl (fun s i => s.onFlow i peer (fun f =>
    { Flow.blank with next := f.next, used := f.used, spent := f.spent, ctl := f.ctl, cum := if i = e then nextPsn else 0, open' := false })) s1
  let s3 := { s2 with fabric := { s2.fabric with
    rxQ := s2.fabric.rxQ.filter (fun r => decide (frSrc r.hdr ≠ peer ∨ frType r.hdr ≥ 8)), rxMsgs := s2.fabric.rxMsgs.filter (fun m => decide (m.peer ≠ peer)) } }
  s3.event 0x40 6 peer 0

/-- BEAT (R446, R447, R449): the peer's ports, state and incarnation; a new INCARN, or a BEAT from a LOST peer, resets the flows, and
each engine's flow begins at the NEXTPSN that its own BEAT carries. -/
def execBeat (engine : Fin 2) (s : State) : Res :=
  let e := engine.val
  match s.firstRx e tBeat with
  | none => .next s
  | some r =>
    let h := r.hdr
    let peer := frSrc h
    let p := s.peer peer
    let incarn := bits 191 160 h
    let next := bits 159 128 h
    let s1 := s.dropRx r
    let again := decide (p.st = 2) || (p.heard && decide (p.incarn ≠ incarn))
    let s2 := if again then s1.resetFlows peer next e
      else if !(s1.flow e peer).open' then s1.onFlow e peer (fun f => { f with cum := next, open' := true })
      else s1
    let theirs := bits 255 192 h
    let diff := (if theirs ≥ s.bell.count then theirs - s.bell.count else s.bell.count - theirs) * 1000
    let skew := if diff > 0xFFFFFFFF then 0xFFFFFFFF else diff
    let s2 := if skew > s2.bell.skewMax then { s2 with bell := { s2.bell with skewMax := skew } } else s2
    .next (s2.setPeer peer { p with st := if p.st = 3 then 3 else 1, ports := bits 123 106 h, lastHeard := s.bell.count, incarn := incarn, heard := true })

end Sys2Proof.Machine
end

