-- ==== Sys2Proof/Machine/Send.lean ====
section
/-!
DEFINITION. Send channels of the Gwengo engines (R428 to R432, Table 14-4, Table 14-5): descriptors, the frames of a message, collectives
(R442 to R445), completion.
-/

namespace Sys2Proof.Machine
open Sys2Proof

/-! ## Descriptor (Table 14-4) -/

def sdOp (d : BitVec 512) : Nat := bits 479 476 d
def sdFmt (d : BitVec 512) : Nat := bits 475 472 d
def sdAnchor (d : BitVec 512) : Nat := bits 471 461 d
def sdTkind (d : BitVec 512) : Nat := bits 460 460 d
def sdWin (d : BitVec 512) : Nat := bits 459 448 d
def sdDst (d : BitVec 512) : Nat := bits 447 432 d
def sdGroup (d : BitVec 512) : Nat := bits 439 432 d
def sdRaddr (d : BitVec 512) : Nat := bits 431 376 d
def sdLaddr (d : BitVec 512) : Nat := bits 375 320 d
def sdSectors (d : BitVec 512) : Nat := bits 319 300 d + 1
def sdDbq (d : BitVec 512) : Nat := bits 299 280 d
def sdDbtail (d : BitVec 512) : Nat := bits 279 248 d
def sdDb (d : BitVec 512) : Bool := bitAt d 247
def sdRclass (d : BitVec 512) : Nat := bits 245 242 d
def sdDeadline (d : BitVec 512) : Nat := bits 241 226 d
def sdStartB (d : BitVec 512) : Nat := bits 225 194 d
def sdTag (d : BitVec 512) : Nat := bits 15 0 d

def State.group (s : State) (g : Nat) : List Nat := Tab.get [] s.fabric.groups g

/-- The position of a device in a group. -/
def rankIn (id : Nat) (l : List Nat) : Option Nat := (l.zipIdx.find? (fun x => x.1 = id)).map (·.2)

/-- The descriptor breaks R429 or Table 14-4. A collective over a group that is undefined or without this device breaks it too. -/
def State.sendBad (s : State) (d : BitVec 512) : Bool :=
  let op := sdOp d
  let n := (s.group (sdGroup d)).length
  decide (op > 5) || decide (bits 193 16 d ≠ 0) || decide (sdRclass d > 7)
    || (decide (op ≥ 2) && !([0xD, 0xE, 0xC, 0xA, 0xF].contains (sdFmt d)))
    || (decide (op ≥ 3) && (decide (bits 447 440 d ≠ 0) || (rankIn s.selfId (s.group (sdGroup d))).isNone || decide (sdSectors d % (4 * n) ≠ 0)))

/-! ## Messages -/

/-- The next message number of an engine that no open message of it holds. -/
def State.freeMsg (s : State) (e : Nat) : Nat :=
  let n := Tab.get 0 s.fabric.msgNext e
  let used := (s.fabric.msgs.filter (fun m => m.engine = e)).map (·.num)
  (((List.range (used.length + 1)).map (fun k => (n + k) % 65536)).find? (fun x => x ∉ used)).getD n

/-- Opens a message under the next number. -/
def State.openMsg (s : State) (m : Msg) : State :=
  let n := s.freeMsg m.engine
  { s with fabric := { s.fabric with
    msgs := s.fabric.msgs ++ [{ m with num := n }], msgNext := Tab.set 0 s.fabric.msgNext m.engine ((n + 1) % 65536) } }

/-- A message with nothing sent. -/
def Msg.blank (e ch kind dst : Nat) : Msg :=
  { num := 0, engine := e, chan := ch, kind := kind, dst := dst, laddr := 0, raddr := 0, sectors := 1, tkind := 0, win := 0, rclass := 0,
    deadline := 0, fmt := 0, anchor := 0, db := 0, coll := 0, cflags := 0, sent := 0, acked := 0, got := 0, doneIn := false, flags := 0,
    poison := false, ended := 0, detail := 0, retx := 0, first := 0 }

/-- The bell of a job's deadline plus one, 0 none: DEADLINE bells after the report that announced it. -/
def Chan.sendDeadline (x : Chan) (j : RunJob) : Nat :=
  if sdDeadline j.desc = 0xFFFF then 0
  else match x.reps.find? (fun r => later j.num r.1) with
    | some r => r.2 + sdDeadline j.desc + 1
    | none => 0

/-- A message of a job: `off` sectors of its buffers are left out in front. -/
def State.jobMsg (s : State) (e ch : Nat) (j : RunJob) (kind dst off sectors : Nat) : Msg :=
  let d := j.desc
  { Msg.blank e ch kind dst with
    laddr := sdLaddr d + 32 * off, raddr := sdRaddr d + 32 * off, sectors := sectors, tkind := sdTkind d, win := sdWin d, rclass := sdRclass d
    deadline := (s.chan (16 + e) ch).sendDeadline j, fmt := sdFmt d, anchor := sdAnchor d }

/-- Messages of a channel. -/
def State.chanMsgs (s : State) (e ch : Nat) : List Msg := s.fabric.msgs.filter (fun m => decide (m.engine = e ∧ m.chan = ch))

/-- DEADLINE of a frame sent now. -/
def Msg.remaining (m : Msg) (now : Nat) : Nat :=
  if m.deadline = 0 then 0xFFFF else if m.deadline - 1 - now > 0xFFFE then 0xFFFE else m.deadline - 1 - now

/-- Header of the next frame of a message: `n` payload sectors, `per` in every frame but the last. -/
def Msg.header (m : Msg) (now per n : Nat) : Hdr :=
  let colls := if m.coll = 0 then 0 else (m.coll - 1) * 2 ^ 184
  { type := m.kind, db := decide (m.kind = tPut ∧ m.db ≠ 0), last := decide (per * m.sent + n ≥ m.sectors), coll := decide (m.coll ≠ 0)
    plen := if m.kind = tGetreq then 0 else 32 * n, dst := m.dst, deadline := m.remaining now, rclass := m.rclass, tkind := m.tkind
    win := if m.tkind = 1 then m.win else 0, addr := m.raddr + 32 * per * m.sent, msg := m.num, frag := m.sent, msectm1 := m.sectors - 1
    body := if m.kind = tPut then m.db % 2 ^ 52 * 2 ^ 204 + m.cflags * 2 ^ 200 + colls
      else if m.kind = tFold then m.fmt * 2 ^ 252 + m.anchor % 2 ^ 11 * 2 ^ 241 + colls else 0 }

/-- A frame of a message has gone. -/
def State.sentOne (s : State) (e num : Nat) (poison : Bool) : State :=
  s.onMsgs (fun m => decide (m.engine = e ∧ m.num = num)) (fun m =>
    { m with sent := m.sent + 1, poison := m.poison || poison, first := if m.first = 0 then s.bell.count + 1 else m.first })

/-- A frame counts among the job's. -/
def State.countFrame (s : State) (e ch : Nat) : State :=
  s.onChan (16 + e) ch (fun x => { x with run := x.run.map (fun j => { j with hits := j.hits + 1 }) })

/-- The next frame of message `m` of a channel: the sectors are read, and the frame goes when its flow has room (R429, R430, R435). `s0`
is the state to which the command goes back when it must wait. -/
def State.sendFrame (s s0 : State) (e ch : Nat) (j : RunJob) (m : Msg) : State :=
  let part := some (s.ctx (s.chan (16 + e) ch).ctx).part
  let now := s.bell.count
  if m.kind = tGetreq then
    match s.sendData e { m.header now m.sectors m.sectors with last := true } part 0#128 [] with
    | none => s0.waits
    | some t => (t.sentOne e m.num false).countFrame e ch
  else
    let per := s.mtu / 32
    let n := if m.sectors - per * m.sent < per then m.sectors - per * m.sent else per
    let x := State.readSectors (s.chanAgent (16 + e) ch 0#16) n (m.laddr + 32 * per * m.sent) 0 s
    match x.2.1 with
    | .ok =>
      let pm := BitVec.ofNat 128 x.2.2.2
      (match x.1.sendData e (m.header now per n) part pm x.2.2.1 with
      | none => s0.waits
      | some t => (t.sentOne e m.num (decide (pm ≠ 0#128))).countFrame e ch)
    | .fault a => x.1.endJob e ch 2 ((a - sdLaddr j.desc) / 32)
    | _ => s0.waits

/-- The message of a channel that still has frames to send. -/
def State.sending (s : State) (e ch : Nat) : Option Msg :=
  (s.chanMsgs e ch).find? (fun m => decide (m.ended = 0 ∧ m.sent < m.frames s.mtu))

/-- Opens a message and sends its first frame. -/
def State.openAndSend (s : State) (e ch : Nat) (j : RunJob) (m : Msg) : State :=
  let s1 := s.openMsg m
  match s1.sending e ch with
  | none => s1
  | some x => s1.sendFrame s e ch j x

/-! ## PUT, GET, FOLD -/

/-- One frame of a plain message; RESUME begins a GET again at POS. -/
def State.plainSend (kind e ch : Nat) (s : State) (j : RunJob) : State :=
  match s.sending e ch with
  | some m => s.sendFrame s e ch j m
  | none =>
    if (s.chanMsgs e ch).isEmpty then
      let m := s.jobMsg e ch j kind (sdDst j.desc) j.pos (sdSectors j.desc - j.pos)
      s.openAndSend e ch j { m with db := if kind = tPut ∧ sdDb j.desc then 2 ^ 52 + sdDbq j.desc * 2 ^ 32 + sdDbtail j.desc else 0 }
    else s

/-! ## Collectives (R442 to R445) -/

def State.coll (s : State) (e ch : Nat) : Option Coll := s.fabric.colls.find? (fun c => decide (c.engine = e ∧ c.chan = ch))

/-- The collective is issued: it takes the next instance number of its group. -/
def State.issueColl (s : State) (e ch : Nat) (j : RunJob) : State :=
  let g := sdGroup j.desc
  let l := s.group g
  let t := Tab.get 0 s.fabric.inst g
  let c : Coll := ⟨e, ch, g, t, l.length, (rankIn s.selfId l).getD 0, decide (sdOp j.desc = 5), 0, 0, 0, 0, 0, 0⟩
  { s with fabric := { s.fabric with colls := s.fabric.colls ++ [c], inst := Tab.set 0 s.fabric.inst g ((t + 1) % 256) } }

/-- Its message in place `k` of the present half: the member (r + k) mod N, and the slice that goes there. -/
def State.collMsg (s : State) (e ch : Nat) (j : RunJob) (c : Coll) (k : Nat) : Msg :=
  let dstAt := (c.rank + k) % c.members
  let size := sdSectors j.desc / c.members
  let slice := if c.gather then c.rank else dstAt
  let m := s.jobMsg e ch j (if c.gather then tPut else tFold) ((s.group c.group)[dstAt]?.getD 0) (slice * size) size
  { m with coll := c.group * 256 + c.inst + 1, tkind := 1, cflags := if c.gather then c.own % 16 else 0 }

/-- The collective of a channel takes its next step. -/
def State.collStep (e ch : Nat) (s : State) (j : RunJob) : State :=
  let s0 := if (s.coll e ch).isNone then s.issueColl e ch j else s
  match s0.coll e ch with
  | none => s
  | some c =>
    if c.status ≠ 0 then s0
    else
      match s0.sending e ch with
      | some m => s0.sendFrame s0 e ch j m
      | none =>
        let me (x : Coll) : Bool := decide (x.engine = e ∧ x.chan = ch)
        if c.step + 1 < c.members then
          let s1 := s0.onColls me (fun x => { x with step := x.step + 1 })
          let s2 := s1.openMsg (s0.collMsg e ch j c (c.step + 1))
          match s2.sending e ch with
          | none => s2
          | some m => s2.sendFrame s2 e ch j m
        else if !c.gather ∧ c.folds + 1 < c.members then s0.waits
        else if !c.gather ∧ sdOp j.desc ≠ 4 then s0.onColls me (fun x => { x with gather := true, step := 0 })
        else if !(s0.chanMsgs e ch).all (fun m => m.complete s0.mtu) then s0.waits
        else if c.gather ∧ c.puts + 1 < c.members then s0.waits
        else s0.endJob e ch 0 0

/-! ## The job of a channel -/

/-- A job of operation `op` goes on: a mask, or a start bell, holds it (R431, R497). -/
def State.sendGo (s : State) (e ch : Nat) (go : State → RunJob → State) (j : RunJob) : State :=
  if j.mask ≠ 0#16 ∨ s.fabric.waits.any (fun w => decide (w.engine = e ∧ w.chan = ch)) then s.waits else go s j

/-- The job that stands at a channel, or the next of the ring (R275 to R277, R428, R429). -/
def State.sendJob (s : State) (e ch op : Nat) (go : State → RunJob → State) : State :=
  let u := 16 + e
  let x := s.chan u ch
  if !x.bound ∨ x.st = 3 then s
  else
    match x.run with
    | some j => if j.ended ∨ sdOp j.desc ≠ op then s else s.sendGo e ch go j
    | none =>
      match x.next with
      | .none => s
      | .beyond => (s.onChan u ch (fun x => { x with ovr := true })).chanState u ch 3
      | .job num m =>
        if s.activeJobs u ≥ 64 ∨ s.noNewWork then s.waits
        else
          let j0 : RunJob := ⟨num, 0#512, m, decide (m ≠ 0#16), 0, 0, 0, 0, 0, 0, 0, false, false, []⟩
          let r := s.agentRead (s.chanAgent u ch m) (x.slot num) 64
          let put (s : State) (j : RunJob) : State := s.onChan u ch (fun x => { x with run := some j, st := if x.st = 4 then 4 else 2 })
          match r.st with
          | .ok =>
            let d : BitVec 512 := BitVec.ofNat 512 (leNat r.bytes)
            let j := { j0 with desc := d, mask := m ||| r.taint }
            if r.poison then put r.s { j0 with mask := m ||| r.taint, status := 1, ended := true }
            else if !jobCrcOk d ∨ s.sendBad d then put r.s { j with status := 8, ended := true }
            else if sdOp d ≠ op then s.waits
            else
              let s1 := (put r.s j).chanState u ch (if x.st = 4 then 4 else 2)
              let s2 := if sdStartB d = 0 then s1 else { s1 with fabric := { s1.fabric with waits := s1.fabric.waits ++ [⟨e, ch, sdStartB d⟩] } }
              s2.sendGo e ch go j
          | .fault _ => put r.s { j0 with status := 2, ended := true }
          | _ => s.waits

/-- SEND_PUT (R429). -/
def execSendPut (engine : Fin 2) (chan : Fin 256) (s : State) : Res :=
  .next (s.sendJob engine.val chan.val 0 (State.plainSend tPut engine.val chan.val))
/-- SEND_GET (R429). -/
def execSendGet (engine : Fin 2) (chan : Fin 256) (s : State) : Res :=
  .next (s.sendJob engine.val chan.val 1 (State.plainSend tGetreq engine.val chan.val))
/-- SEND_FOLD (R429). -/
def execSendFold (engine : Fin 2) (chan : Fin 256) (s : State) : Res :=
  .next (s.sendJob engine.val chan.val 2 (State.plainSend tFold engine.val chan.val))
/-- ALLREDUCE (R442). -/
def execAllreduce (engine : Fin 2) (chan : Fin 256) (s : State) : Res :=
  .next (s.sendJob engine.val chan.val 3 (State.collStep engine.val chan.val))
/-- REDUCESCATTER (R442). -/
def execReducescatter (engine : Fin 2) (chan : Fin 256) (s : State) : Res :=
  .next (s.sendJob engine.val chan.val 4 (State.collStep engine.val chan.val))
/-- ALLGATHER (R442). -/
def execAllgather (engine : Fin 2) (chan : Fin 256) (s : State) : Res :=
  .next (s.sendJob engine.val chan.val 5 (State.collStep engine.val chan.val))

/-- SEND_START (R497): the awaited bell has come. -/
def execSendStart (engine : Fin 2) (chan : Fin 256) (s : State) : Res :=
  .next { s with fabric := { s.fabric with
    waits := s.fabric.waits.filter (fun w => !decide (w.engine = engine.val ∧ w.chan = chan.val ∧ w.startB = s.bell.count % 2 ^ 32)) } }

/-! ## Completion (R432, R445, Table 14-5) -/

/-- A completion record. -/
def sendRecord (j : RunJob) (status detail flags retx bell : Nat) (poison : Bool) : List Byte :=
  let v := status % 16 * 2 ^ 220 + flags % 16 * 2 ^ 216 + (if poison then 2 ^ 215 else 0) + (if j.tainted then 2 ^ 214 else 0)
    + sdTag j.desc * 2 ^ 192 + detail % 256 * 2 ^ 184 + j.hits % 2 ^ 32 * 2 ^ 128 + retx % 2 ^ 32 * 2 ^ 96
    + (if status = 2 then j.pos % 2 ^ 20 * 2 ^ 76 else 0) + bell % 2 ^ 64
  leBytes 28 v ++ leBytes 4 (crc32c (leBytes 28 v))

/-- The messages and the collective of a channel are forgotten. -/
def State.dropSends (s : State) (e ch : Nat) : State :=
  { s with fabric := { s.fabric with
    msgs := s.fabric.msgs.filter (fun m => !decide (m.engine = e ∧ m.chan = ch)), colls := s.fabric.colls.filter (fun c => !decide (c.engine = e ∧ c.chan = ch)) } }

/-- How the job of a channel stands: status and DETAIL once it has completed. -/
def State.sendEnd (s : State) (e ch : Nat) (j : RunJob) : Option (Nat × Nat) :=
  if j.ended then some (j.status, 0)
  else if sdOp j.desc ≥ 3 then
    match s.coll e ch with
    | some c => if c.status = 0 then none else some (c.status - 1, 0)
    | none => none
  else
    match (s.chanMsgs e ch).head? with
    | none => none
    | some m => if m.ended ≠ 0 then some (m.ended - 1, m.detail) else if m.complete s.mtu then some (0, 0) else none

/-- The record of a send goes into its slot. -/
def State.putSendRecord (s : State) (e ch : Nat) (j : RunJob) (status detail : Nat) : State :=
  let ms := s.chanMsgs e ch
  let flags := (match s.coll e ch with | some c => c.flags | none => 0) ||| ms.foldl (fun a m => a ||| m.flags) 0
  let poison := Nat.testBit flags 4 || ms.any (·.poison)
  let retx := ms.foldl (fun a m => a + m.retx) 0
  (s.agentWrite (s.chanAgent (16 + e) ch 0#16) ((s.chan (16 + e) ch).slot j.num + 64) (sendRecord j status detail flags retx s.bell.count poison) false).1

/-- SEND_COMPLETE: the record is written; a job that met poison in its descriptor or a translation fault halts its channel, any other
moves DONE. -/
def execSendComplete (engine : Fin 2) (chan : Fin 256) (s : State) : Res :=
  let e := engine.val
  let c := chan.val
  match (s.chan (16 + e) c).run with
  | none => .next s
  | some j =>
    if (s.chan (16 + e) c).st = 3 then .next s
    else
      match s.sendEnd e c j with
      | none => .next s
      | some (status, detail) =>
        if j.mask ≠ 0#16 then .next s.waits
        else
          let s1 := s.putSendRecord e c j status detail
          .next (if status = 1 ∨ status = 2 then s1.chanState (16 + e) c 3 else (s1.dropSends e c).chanDone (16 + e) c (j.num + 1))

/-! ## What CTRL asks of a halted channel (R300, R430) -/

/-- CTRL acts: its mask is empty and the channel is HALTED. -/
def State.ctrl (s : State) (unit ch : Nat) (mask : Half) (k : Chan → State) : State :=
  let x := s.chan unit ch
  if !x.bound ∨ x.st ≠ 3 ∨ mask ≠ 0#16 then s else k x

/-- The job after RESUME: none when its descriptor was never read. -/
def RunJob.resume (j : RunJob) : Option RunJob :=
  if j.desc = 0#512 then none else some { j with ended := false, status := 0 }

/-- RING_RESUME (R300): the halted job starts again at POS. A channel halted beyond its ring stays halted (R276). -/
def execRingResume (unit : Fin 18) (chan : Fin 256) (mask : Half) (s : State) : Res :=
  let u := unit.val
  let c := chan.val
  .next (s.ctrl u c mask (fun x =>
    match x.run with
    | none => s
    | some j =>
      let s1 := if u ≥ 16 ∧ sdOp j.desc = 1 then s.dropSends (u - 16) c else s
      (s1.onChan u c (fun y => { y with run := j.resume, st := 1 })).chanSettle u c))

/-- RING_SKIP (R300): DONE moves past the halted job, whose record stays. -/
def execRingSkip (unit : Fin 18) (chan : Fin 256) (mask : Half) (s : State) : Res :=
  let u := unit.val
  let c := chan.val
  .next (s.ctrl u c mask (fun x =>
    match x.run with
    | none => s
    | some j => (if u ≥ 16 then s.dropSends (u - 16) c else s).chanDone u c (j.num + 1)))

/-- The record ABORTED of a job: that of the halted job keeps what it counted; a later job's has only its tag. -/
def State.abortRecord (s : State) (unit ch num : Nat) : State :=
  let x := s.chan unit ch
  let g := s.chanAgent unit ch 0#16
  let a := x.slot num
  let j : RunJob := match x.run with
    | some j => if j.num = num then j else ⟨num, BitVec.ofNat 512 (leNat (s.agentRead g a 64).bytes), 0#16, false, 0, 0, 0, 0, 0, 0, 0, false, false, []⟩
    | none => ⟨num, BitVec.ofNat 512 (leNat (s.agentRead g a 64).bytes), 0#16, false, 0, 0, 0, 0, 0, 0, 0, false, false, []⟩
  if unit < 16 then (s.agentWrite g (a + 64) (jobRecord j 5 s.bell.count) false).1
  else s.putSendRecord (unit - 16) ch j 7 0

/-- RING_ABORT (R300): the halted job and every later one up to TAIL become ABORTED, DONE moves to TAIL, the channel is IDLE. -/
def execRingAbort (unit : Fin 18) (chan : Fin 256) (mask : Half) (s : State) : Res :=
  let u := unit.val
  let c := chan.val
  .next (s.ctrl u c mask (fun x =>
    let n := (x.known + 2 ^ 64 - x.done) % 2 ^ 64
    let slots := if n > 2 ^ x.ent then 2 ^ x.ent else n
    let s1 := (List.range slots).foldl (fun s i =>
      let t := s.abortRecord u c ((x.done + i) % 2 ^ 64)
      if u ≥ 16 then t.dropSends (u - 16) c else t) s
    (s1.onChan u c (fun y => { y with ovr := false })).chanDone u c x.known))

end Sys2Proof.Machine
end

