-- ==== Sys2Proof/Machine/FabricCmd.lean ====
section
/-!
DEFINITION. What is commanded of the fabric through the dictionary (Table 14-11): send channels, windows, groups, redirects; and the
engines' timers and keys (R434 to R436, R440, R446, R557).
-/

namespace Sys2Proof.Machine
open Sys2Proof

/-! ## Send channels (0x5200) -/

def scSubs : List (Nat × Nat × Nat) := [(1, 1, 0), (2, 1, 0), (3, 2, 0), (4, 8, 0), (5, 1, 4)]

/-- SC_CMD BIND. -/
def State.scBind (s : State) (who : Nat) : State :=
  let e := s.staged who 0x5200 1 0
  (s.bindChan (16 + e) (s.staged who 0x5200 2 0) (s.staged who 0x5200 3 0) (s.staged who 0x5200 4 0) (s.staged who 0x5200 5 4) 255
    (decide (e < 2)) true none).appliedIf who 0x5200 scSubs

/-- SC_CMD UNBIND. -/
def State.scUnbind (s : State) (who : Nat) : State :=
  let e := s.staged who 0x5200 1 0
  let c := s.staged who 0x5200 2 0
  let t := s.unbindChan (16 + e) c 255 (decide (e < 2))
  let x := s.chan (16 + e) c
  (if e < 2 ∧ c ≤ 255 ∧ x.bound ∧ x.st ≠ 2 ∧ x.st ≠ 4 then t.dropSends e c else t).appliedIf who 0x5200 scSubs

def execScBind (who : Fin 16) (s : State) : Res := .next (s.command who.val 0x5200 (s.authPlain who.val) (fun s => s.scBind who.val))
def execScUnbind (who : Fin 16) (s : State) : Res := .next (s.command who.val 0x5200 (s.authPlain who.val) (fun s => s.scUnbind who.val))

/-! ## Windows (0x5100, R422, Table 19-5) -/

def wnSubs : List (Nat × Nat × Nat) :=
  [(1, 2, 0), (2, 1, 0), (3, 1, 0), (4, 2, 0), (5, 8, 0), (6, 8, 0), (7, 1, 0), (8, 8, 0), (9, 2, 0)]

/-- The window that a requester's staged values describe. -/
def State.wnArgs (s : State) (who : Nat) : Window :=
  let g := fun sub => s.staged who 0x5100 sub 0
  { enabled := true, closing := false, kind := g 2, part := g 3, ctx := g 4, base := g 5, bytes := g 6, perm := g 7, src := g 8, keyid := g 9 }

/-- The ring of a LOCAL queue of the window's context lies in it; or that of a bound channel. -/
def State.windowOverRings (s : State) (w : Window) : Bool :=
  let lo := w.base / 2 ^ 16 * 2 ^ 16
  let hi := (w.base + w.bytes + 65535) / 2 ^ 16 * 2 ^ 16
  let phys := (List.range ((hi - lo) / 2 ^ 16)).filterMap (fun i =>
    (s.resolveSpan w.ctx (lo + i * 2 ^ 16) 1).map (fun x => pageKey x.1.ctx (pageStart (attrPS x.1.attr) x.2.1)))
  let pages := (phys.map s.page).filter (fun p => p.v)
  let inPage (a n : Nat) : Bool := pages.any (fun p => decide (a < p.phys 0 + pageBytes p.big ∧ p.phys 0 < a + n))
  s.ringHolds w.ctx lo (hi - lo) || s.sched.queues.any (fun e => decide (e.2.st ≠ qFree ∧ e.2.prod = prodLocal)
    && (inPage e.2.sq e.2.sqBytes || inPage e.2.cq e.2.cqBytes))

/-- The refusal of a CREATE: range, state, conflict (R631); 0: none. -/
def State.wnRefusal (s : State) (id : Nat) (w : Window) : Nat :=
  let sealed := s.sealed w.part
  let k := Tab.get KeyRec.blank s.sec.keys w.keyid
  if id > 4095 ∨ (w.kind ≠ 1 ∧ w.kind ≠ 2) ∨ w.part > 3 ∨ w.perm > 7 ∨ w.base % 32 ≠ 0 ∨ w.bytes % 32 ≠ 0 ∨ w.bytes = 0
      ∨ (w.kind = 2 ∧ (w.ctx > 4095 ∨ w.base + w.bytes > 2 ^ 56)) then 0x0301
  else if sealed ∧ ¬ (k.st ≠ 0 ∧ k.use = 1 ∧ k.part = w.part) then 0x0402
  else if w.kind = 1 ∧ (s.rsvHolds rsvFabric w.part w.base w.bytes).isNone then 0x0402
  else if w.kind = 2 ∧ ¬ ((s.ctx w.ctx).active ∧ (s.ctx w.ctx).part = w.part) then 0x0402
  else if sealed ∧ w.kind = 2 ∧ (w.perm % 2 = 1 ∨ w.perm / 4 = 1) ∧ s.windowOverRings w then 0x0401
  else if (s.window' id).enabled then 0x0401
  else if w.kind = 1 ∧ s.fabric.windows.any (fun e => e.2.enabled && decide (e.2.kind = 1) && spansMeet w.base w.bytes e.2.base e.2.bytes) then 0x0401
  else 0

/-- A window as the 64-byte body of a starter record: in the order of the subindices of 0x5100, with PERM 0xFF once it is destroyed (the
model's own layout; Table 14-7 gives the length). -/
def Window.body (w : Window) : List Byte :=
  leBytes 1 w.kind ++ leBytes 1 w.part ++ leBytes 2 w.ctx ++ leBytes 1 (if w.enabled then w.perm else 0xFF) ++ leBytes 3 0 ++ leBytes 8 w.base
    ++ leBytes 8 w.bytes ++ leBytes 8 w.src ++ leBytes 2 w.keyid ++ leBytes 30 0

def Window.ofBody (b : List Byte) : Window :=
  let f (off n : Nat) : Nat := leNat ((b.drop off).take n)
  { enabled := decide (f 4 1 ≠ 0xFF), closing := false, kind := f 0 1, part := f 1 1, ctx := f 2 2, base := f 8 8, bytes := f 16 8, perm := f 4 1 % 8
    src := f 24 8, keyid := f 32 2 }

def State.setWindow (s : State) (id : Nat) (w : Window) : State :=
  { s with fabric := { s.fabric with windows := Tab.set Window.blank s.fabric.windows id w } }

/-- WN_CMD CREATE. -/
def State.wnCreate (s : State) (who : Nat) : State :=
  let id := s.staged who 0x5100 1 0
  let w := s.wnArgs who
  match s.wnRefusal id w with
  | 0 => (((s.setWindow id w).firmRecord w.part 8 0 id w.body).answer 0).appliedIf who 0x5100 wnSubs
  | x => s.answer x

/-- A frame admitted to the window waits to be applied. -/
def State.windowBusy (s : State) (id : Nat) : Bool :=
  let w := s.window' id
  s.fabric.rxQ.any (fun r =>
    decide (frType r.hdr = tPut ∨ frType r.hdr = tGetreq ∨ frType r.hdr = tFold)
      && (if frTkind r.hdr = 1 then decide (frWin r.hdr = id)
          else let a := s.rebase (frDst r.hdr) (frAddr r.hdr) 1; decide (w.kind = 1 ∧ w.base ≤ a ∧ a < w.base + w.bytes)))

/-- WN_CMD DESTROY: frames that arrive later are refused at once; the window goes once those admitted have been applied. -/
def State.wnDestroy (s : State) (who : Nat) : State :=
  let id := s.staged who 0x5100 1 0
  let w := s.window' id
  if id > 4095 then s.answer 0x0301
  else if !w.enabled then s.answer 0x0402
  else if s.windowBusy id then (s.setWindow id { w with closing := true }).waits
  else (((s.setWindow id Window.blank).firmRecord w.part 8 0 id { w with enabled := false }.body).answer 0).appliedIf who 0x5100 wnSubs

/-- WN_CMD SELECT: the fields of the window for the requester. -/
def State.wnSelect (s : State) (who : Nat) : State :=
  let id := s.staged who 0x5100 1 0
  let w := s.window' id
  if id > 4095 then s.answer 0x0301
  else
    (([(2, 1, w.kind), (3, 1, w.part), (4, 2, w.ctx), (5, 8, w.base), (6, 8, w.bytes), (7, 1, w.perm), (8, 8, w.src), (9, 2, w.keyid)] :
      List (Nat × Nat × Nat)).foldl (fun (s : State) (x : Nat × Nat × Nat) => s.select who 0x5100 x.1 x.2.1 x.2.2) s).answer 0

def execWnCreate (who : Fin 16) (s : State) : Res := .next (s.command who.val 0x5100 (s.authPlain who.val) (fun s => s.wnCreate who.val))
def execWnDestroy (who : Fin 16) (s : State) : Res := .next (s.command who.val 0x5100 (s.authPlain who.val) (fun s => s.wnDestroy who.val))
def execWnSelect (who : Fin 16) (s : State) : Res := .next (s.command who.val 0x5100 (s.authPlain who.val) (fun s => s.wnSelect who.val))

/-! ## Groups (0x5300, R442) -/

/-- The length and the content of a staged value of bytes. -/
def State.stagedBytes (s : State) (who index sub : Nat) : Nat × Nat :=
  let x := Tab.get 0 s.dict.staged (who * 2 ^ 24 + dictKey index sub)
  if x = 0 then (0, 0) else (valLen x, decVal x)

/-- Two-byte values, the first at the lowest address. -/
def halves : Nat → Nat → List Nat
  | 0, _ => []
  | n + 1, v => v % 65536 :: halves n (v / 65536)

/-- A collective of the group runs. -/
def State.groupRuns (s : State) (g : Nat) : Bool := s.fabric.colls.any (fun c => c.group = g)

/-- GR_CMD DEFINE. -/
def State.grDefine (s : State) (who : Nat) : State :=
  let g := s.staged who 0x5300 1 0
  let m := s.stagedBytes who 0x5300 2
  if g > 255 ∨ m.1 < 4 ∨ m.1 > 512 ∨ m.1 % 2 ≠ 0 then s.answer 0x0301
  else if s.group g ≠ [] ∨ s.groupRuns g then s.answer 0x0401
  else
    ({ s with fabric := { s.fabric with groups := Tab.set [] s.fabric.groups g (halves (m.1 / 2) m.2), inst := Tab.set 0 s.fabric.inst g 0 } }.answer 0).appliedIf
      who 0x5300 [(1, 1, 0)]

/-- GR_CMD DELETE. -/
def State.grDelete (s : State) (who : Nat) : State :=
  let g := s.staged who 0x5300 1 0
  if g > 255 then s.answer 0x0301
  else if s.group g = [] then s.answer 0x0402
  else if s.groupRuns g then s.answer 0x0401
  else ({ s with fabric := { s.fabric with groups := Tab.set [] s.fabric.groups g [], inst := Tab.set 0 s.fabric.inst g 0 } }.answer 0).appliedIf who 0x5300 [(1, 1, 0)]

/-- GR_CMD SELECT: the members of the group for the requester. -/
def State.grSelect (s : State) (who : Nat) : State :=
  let g := s.staged who 0x5300 1 0
  let l := s.group g
  if g > 255 then s.answer 0x0301
  else (s.select who 0x5300 2 (2 * l.length) (l.foldr (fun x a => x % 65536 + 65536 * a) 0)).answer 0

def execGrDefine (who : Fin 16) (s : State) : Res := .next (s.command who.val 0x5300 (s.authPlain who.val) (fun s => s.grDefine who.val))
def execGrDelete (who : Fin 16) (s : State) : Res := .next (s.command who.val 0x5300 (s.authPlain who.val) (fun s => s.grDelete who.val))
def execGrSelect (who : Fin 16) (s : State) : Res := .next (s.command who.val 0x5300 (s.authPlain who.val) (fun s => s.grSelect who.val))

/-! ## Redirects (0x5440, R457, R458) -/

/-- Both directions of every flow with a device are discarded; the sequences under the keys in use go on. -/
def State.discardFlows (s : State) (peer : Nat) : State :=
  let s1 := (List.range 2).foldl (fun s i => s.onFlow i peer (fun f =>
    { Flow.blank with next := f.next, used := f.used, spent := f.spent, ctl := f.ctl })) s
  { s1 with fabric := { s1.fabric with
    rxQ := s1.fabric.rxQ.filter (fun r => decide (frSrc r.hdr ≠ peer ∨ frType r.hdr ≥ 8)), rxMsgs := s1.fabric.rxMsgs.filter (fun m => decide (m.peer ≠ peer)) } }

/-- A redirect from OLD to NEW: frames named for OLD go to NEW; messages to OLD that are open complete UNREACHABLE. A device redirected
itself keeps the redirect, by which it answers frames for it (Table 14-6), pauses its mirrored queues and stops its starters. -/
def State.redirect (s : State) (old new : Nat) : State :=
  if old = s.selfId then
    ({ s with fabric := { s.fabric with redirects := Tab.set Redirect.blank s.fabric.redirects old ⟨new + 1, s.bell.count⟩ } }.fbCount 8 1).redirectedAway new
  else
    let s1 := ((s.endMessagesTo old 3).settleColls).discardFlows old
    let s2 := { s1 with fabric := { s1.fabric with redirects := Tab.set Redirect.blank s1.fabric.redirects old ⟨new + 1, s.bell.count⟩ } }
    ((s2.setPeer old { s2.peer old with st := 3 }).fbCount 8 1).event 0x40 4 old new

/-- REDIRECT_FRAME (R457). -/
def execRedirectFrame (engine : Fin 2) (s : State) : Res :=
  let e := engine.val
  match s.firstRx e tRedirect with
  | none => .next s
  | some r =>
    let h := r.hdr
    .next (((s.dropRx r).accept e (frSrc h) (frPsn h) r.ce).redirect (bits 255 240 h) (bits 239 224 h))

def rdSubs : List (Nat × Nat × Nat) := [(1, 2, 0xFFFF), (2, 2, 0xFFFF)]

/-- RD_CMD SET: at most 64 redirects. -/
def State.rdSet (s : State) (who : Nat) : State :=
  let old := s.staged who 0x5440 1 0xFFFF
  let new := s.staged who 0x5440 2 0xFFFF
  if (Tab.get Redirect.blank s.fabric.redirects old).new1 = 0 ∧ s.fabric.redirects.length ≥ 64 then s.answer 0x0301
  else ((s.redirect old new).answer 0).appliedIf who 0x5440 rdSubs

/-- RD_CMD CLEAR. -/
def State.rdClear (s : State) (who : Nat) : State :=
  let old := s.staged who 0x5440 1 0xFFFF
  if (Tab.get Redirect.blank s.fabric.redirects old).new1 = 0 then s.answer 0x0402
  else
    let s1 := { s with fabric := { s.fabric with redirects := Tab.set Redirect.blank s.fabric.redirects old Redirect.blank } }
    ((s1.setPeer old { s1.peer old with st := 0 }).answer 0).appliedIf who 0x5440 rdSubs

/-- RD_CMD SELECT: NEW and the bell of the redirect of RD_OLD; 0 where there is none. -/
def State.rdSelect (s : State) (who : Nat) : State :=
  let r := Tab.get Redirect.blank s.fabric.redirects (s.staged who 0x5440 1 0xFFFF)
  ((s.select who 0x5440 2 2 (r.new1 - 1)).select who 0x5440 4 8 r.bell).answer 0

def execRdSet (who : Fin 16) (s : State) : Res := .next (s.command who.val 0x5440 (s.authPlain who.val) (fun s => s.rdSet who.val))
def execRdClear (who : Fin 16) (s : State) : Res := .next (s.command who.val 0x5440 (s.authPlain who.val) (fun s => s.rdClear who.val))
def execRdSelect (who : Fin 16) (s : State) : Res := .next (s.command who.val 0x5440 (s.authPlain who.val) (fun s => s.rdSelect who.val))

/-! ## Timers of the engines -/

/-- ACK_TIMER (R434): 2 µs after the oldest acceptance that no ACK reported. -/
def execAckTimer (engine : Fin 2) (peer : Fin 65536) (s : State) : Res :=
  let f := s.flow engine.val peer.val
  .next (if f.sinceAck > 0 ∧ s.bell.count ≥ f.oldest + 2 then s.sendAck engine.val peer.val else s)

/-- RTO_EXPIRY (R436). -/
def execRtoExpiry (engine : Fin 2) (peer : Fin 65536) (s : State) : Res := .next (s.timeoutFlow engine.val peer.val)

/-- NOTREADY_RESEND (R440): frames whose 2 µs have passed go out again. -/
def execNotreadyResend (engine : Fin 2) (peer : Fin 65536) (s : State) : Res :=
  let due := (s.flow engine.val peer.val).unacked.filter (fun t => decide (t.again ≠ 0 ∧ t.again - 1 ≤ s.bell.count))
  .next (due.foldl (fun s t => s.resend engine.val peer.val (frPsn t.hdr)) s)

/-- MSG_TIMEOUT (R432): FB_MSG_TIMEOUT after its first frame a message of the engine ends TIMEOUT. -/
def execMsgTimeout (engine : Fin 2) (s : State) : Res :=
  let t := s.val 0x5030 6 100 * 1000
  .next (s.onMsgs (fun m => decide (m.engine = engine.val ∧ m.first ≠ 0 ∧ m.first - 1 + t ≤ s.bell.count) && !m.complete s.mtu) (Msg.finish 6 0)).settleColls

/-- Devices of FB_BEATLIST. -/
def State.beatList (s : State) : List Nat := ((List.range 64).map (fun i => s.val 0x5031 (i + 1) 0xFFFF)).filter (· ≠ 0xFFFF)

/-- Ports up, bit by port. -/
def State.portsUp (s : State) : Nat := (List.range 18).foldl (fun a i => if s.inService ukPort i then a + 2 ^ i else a) 0

/-- BEAT_SEND (R446): the engine sends a BEAT to every device of FB_BEATLIST. -/
def execBeatSend (engine : Fin 2) (s : State) : Res :=
  let e := engine.val
  .next (s.beatList.foldl (fun s p =>
    let body := s.bell.count % 2 ^ 64 * 2 ^ 192 + s.fabric.incarn % 2 ^ 32 * 2 ^ 160 + (s.flow e (s.routeTo p)).next * 2 ^ 128 + s.dev.st % 16 * 2 ^ 124
      + s.portsUp * 2 ^ 106
    s.sendControl e (s.routeTo p) { type := tBeat, dst := p, body := body } none) s)

/-! ## Keys (R557) -/

/-- A key is destroyed; its KEYID may be used afresh. -/
def State.destroyKey (s : State) (id : Nat) : State :=
  { s with
    sec := { s.sec with keys := Tab.set KeyRec.blank s.sec.keys id KeyRec.blank }
    fabric := { s.fabric with flows := Tab.mapVals Flow.blank (fun _ f =>
      { f with used := f.used.filter (· ≠ id), spent := f.spent.filter (· ≠ id) }) s.fabric.flows } }

/-- The successor of a key that is NEXT. -/
def State.nextKey (s : State) (id : Nat) : Option Nat :=
  (s.sec.keys.find? (fun e => decide (e.2.st = 2 ∧ e.2.use = 1 ∧ e.2.pred = id ∧ e.2.part = (Tab.get KeyRec.blank s.sec.keys id).part))).map (·.1)

/-- A message of engine `e` toward `peer` that goes out under a partition's key. -/
def State.msgUnder (s : State) (e peer part : Nat) (m : Msg) : Bool :=
  decide (m.engine = e ∧ m.ended = 0 ∧ m.chan < 256 ∧ s.routeTo m.dst = peer ∧ (s.ctx (s.chan (16 + e) m.chan).ctx).part = part) && !m.complete s.mtu

/-- A key spent on a flow gives way to its successor, or its messages there end REFUSED, detail 4. -/
def State.switchKey (s : State) (e peer id : Nat) : State :=
  let k := Tab.get KeyRec.blank s.sec.keys id
  if k.st ≠ 1 ∨ k.use ≠ 1 then s
  else
    match s.nextKey id with
    | some n =>
      let kn := Tab.get KeyRec.blank s.sec.keys n
      let t := Tab.set KeyRec.blank (Tab.set KeyRec.blank s.sec.keys id { k with st := 3, bell := s.bell.count }) n { kn with st := 1 }
      { s with sec := { s.sec with keys := t } }.event 0x70 6 k.part n
    | none =>
      if s.fabric.msgs.any (s.msgUnder e peer k.part) then
        ((s.onMsgs (s.msgUnder e peer k.part) (Msg.finish 5 4)).settleColls).event 0x70 6 k.part id
      else s

/-- KEY_SWITCH: a flow has reached PSN 2^31 under keys that are ACTIVE. -/
def execKeySwitch (engine : Fin 2) (peer : Fin 65536) (s : State) : Res :=
  .next ((s.flow engine.val peer.val).spent.foldl (fun s k => s.switchKey engine.val peer.val k) s)

/-- KEY_RETIRE: no flow holds an unacknowledged frame under the RETIRING key, or FB_MSG_TIMEOUT has passed. -/
def execKeyRetire (keyid : Fin 65536) (s : State) : Res :=
  let id := keyid.val
  let k := Tab.get KeyRec.blank s.sec.keys id
  let held := s.fabric.flows.any (fun e => e.2.unacked.any (fun t => decide (frKeyid t.hdr = id)))
  .next (if k.st = 3 ∧ k.use = 1 ∧ (!held ∨ s.bell.count ≥ k.bell + s.val 0x5030 6 100 * 1000) then
      (s.destroyKey id).event 0x70 6 k.part id
    else s)

end Sys2Proof.Machine
end

