-- ==== Sys2Proof/Machine/HbmCmd.lean ====
section
/-!
DEFINITION. HBM and bandwidth regulation (chapter 12): arbitration, refresh and upkeep of a stack, the merge unit, congestion
levels and regulation windows.
-/

namespace Sys2Proof.Machine
open Sys2Proof

/-! ## Arbitration (R387 to R389) -/

/-- The remaining deadline of a request in bells; 0xFFFF: none (R387). -/
def HbmReq.rem (now : Nat) (r : HbmReq) : Nat := if r.deadline = 0xFFFF then 0xFFFF else r.deadline - (now - r.bell)

/-- REG_TARGETc. -/
def State.regTarget (s : State) (c : Nat) : Nat := s.val 0xA040 (c + 1) ([150, 250, 400, 800, 2000, 10000].getD c 150)

/-- The level of a latency class at a controller (R388). -/
def State.latLevel (s : State) (k : Stack) (c : Nat) : Nat :=
  let l := 8 * Tab.get 0 k.lat c / (s.regTarget c * 2 ^ 16)
  if l < 7 then l else 7

/-- The level of a request, if it has one (R389). -/
def State.reqLevel (s : State) (k : Stack) (r : HbmReq) : Option Nat :=
  if r.cls ≤ 5 then some (s.latLevel k r.cls)
  else if r.cls ≥ 8 then some 4
  else if (s.bell.count - r.bell) * 1000 ≥ s.val 0xA040 12 20000 then some 0
  else none

/-- The first of a list by an order. -/
def firstBy {α : Type} (before : α → α → Bool) : List α → Option α
  | [] => none
  | x :: r => match firstBy before r with
    | none => some x
    | some y => if before y x then some y else some x

/-- Candidates of a pseudo-channel: the request of each sector that was accepted first (R371, R389). -/
def Stack.candidates (k : Stack) (pc : Nat) : List HbmReq :=
  let all := (k.readQ ++ k.writeQ).filter (fun r => hbmPc r.addr = pc)
  all.filter (fun r => all.all (fun x => decide (x.addr ≠ r.addr ∨ r.seq ≤ x.seq)))

def Stack.openRow (k : Stack) (r : HbmReq) : Bool :=
  decide (Tab.get 0 k.rowOpen (hbmPc r.addr * 64 + hbmBank r.addr) = hbmRow r.addr + 1)

/-- An urgent request (R375, R389). -/
def State.urgent (s : State) (r : HbmReq) : Bool := decide (r.rem s.bell.count ≤ s.val 0xA040 11 2)

/-- Classes 6 and 7 by weighted round robin: class 6 in the first REG_W6 turns of each REG_W6 + REG_W7 (R389). -/
def State.bulkPick (s : State) (k : Stack) (pc : Nat) (cs : List HbmReq) : Option HbmReq :=
  let w6 := s.val 0xA040 9 3
  let w7 := s.val 0xA040 10 1
  let turn := Tab.get 0 k.rr7 pc % (w6 + w7)
  let older (a b : HbmReq) : Bool := decide (a.seq < b.seq)
  let of (c : Nat) := firstBy older (cs.filter (fun r => r.cls = c))
  if turn < w6 then (of 6).or (of 7) else (of 7).or (of 6)

/-- The choice of R389 before open rows are looked at, and whether the last branch made it. -/
def State.hbmChoose (s : State) (k : Stack) (pc share8 share9 : Nat) : Option (HbmReq × Bool) :=
  let now := s.bell.count
  let cs := k.candidates pc
  let older (a b : HbmReq) : Bool := decide (a.seq < b.seq)
  let byRem (a b : HbmReq) : Bool :=
    if a.rem now ≠ b.rem now then decide (a.rem now < b.rem now)
    else if a.cls ≠ b.cls then decide (a.cls < b.cls) else older a b
  let byLevel (a b : HbmReq) : Bool :=
    let la := (s.reqLevel k a).getD 0
    let lb := (s.reqLevel k b).getD 0
    if la ≠ lb then decide (la > lb)
    else if a.cls ≠ b.cls then decide (a.cls < b.cls)
    else if a.rem now ≠ b.rem now then decide (a.rem now < b.rem now)
    else older a b
  match firstBy byRem (cs.filter s.urgent) with
  | some r => some (r, false)
  | none =>
    let c8 := cs.filter (fun r => r.cls = 8)
    let c9 := cs.filter (fun r => r.cls = 9)
    if !c8.isEmpty ∧ share8 < s.val 0xA040 7 5 then (firstBy older c8).map (·, false)
    else if !c9.isEmpty ∧ share9 < s.val 0xA040 8 15 then (firstBy older c9).map (·, false)
    else
      match firstBy byLevel (cs.filter (fun r => (s.reqLevel k r).isSome)) with
      | some r => some (r, false)
      | none => (s.bulkPick k pc cs).map (·, true)

/-- Within the class and level picked, a request to an open row passes an older one to a closed row, at most 4 times in a row (R389). -/
def State.passRow (s : State) (k : Stack) (pc : Nat) (r : HbmReq) : HbmReq × Nat :=
  let same (x : HbmReq) : Bool := decide (x.cls = r.cls) && decide (s.reqLevel k x = s.reqLevel k r) && k.openRow x && !s.urgent x
  if k.openRow r ∨ s.urgent r ∨ Tab.get 0 k.passes pc ≥ 4 then (r, 0)
  else
    match firstBy (fun (a b : HbmReq) => decide (a.seq < b.seq)) ((k.candidates pc).filter same) with
    | some x => (x, Tab.get 0 k.passes pc + 1)
    | none => (r, 0)

/-- The request leaves its queue for the stack: its row is open, a power-down ends (R372). -/
def Stack.issue (k : Stack) (r : HbmReq) : Stack :=
  let pc := hbmPc r.addr
  { k with
    readQ := k.readQ.filter (· ≠ r)
    writeQ := k.writeQ.filter (· ≠ r)
    inService := if r.kind = 0 then k.inService ++ [r] else k.inService
    rowOpen := Tab.set 0 k.rowOpen (pc * 64 + hbmBank r.addr) (hbmRow r.addr + 1)
    poweredDown := Tab.set false k.poweredDown pc false }

/-- HBM_ARBITRATE (R389): the pseudo-channel chooses its next request; `share8` and `share9` are the percentages of the controller's
transfers in the last 1,024 MCLK that classes 8 and 9 received. -/
def execHbmArbitrate (stack : Fin 16) (pc : Fin 64) (share8 share9 : Nat) (s : State) : Res :=
  let k := s.stack stack.val
  match s.hbmChoose k pc.val share8 share9 with
  | none => .next s
  | some (r, bulk) =>
    let x := s.passRow k pc.val r
    .next (s.setStack stack.val { k.issue x.1 with
      passes := Tab.set 0 k.passes pc.val x.2
      rr7 := if bulk then Tab.modify 0 k.rr7 pc.val (· + 1) else k.rr7 })

/-- HBM_READ_COMPLETE (R388): the read that the pseudo-channel issued first completes after `ns`. -/
def execHbmReadComplete (stack : Fin 16) (pc : Fin 64) (ns : Nat) (s : State) : Res :=
  let k := s.stack stack.val
  match k.inService.find? (fun r => hbmPc r.addr = pc.val) with
  | none => .next s
  | some r =>
    let l : Int := ((Tab.get 0 k.lat r.cls : Nat) : Int)
    let l1 : Int := l + ((ns * 2 ^ 16 : Int) - l) / 16
    .next (s.setStack stack.val { k with
      inService := k.inService.erase r
      lat := if r.cls ≤ 5 then Tab.set 0 k.lat r.cls l1.toNat else k.lat })

/-! ## Refresh, temperature, power-down, training (R372 to R379) -/

/-- REFRESH (R375): a refresh of a bank falls due; an urgent request for the bank postpones it, at most 8 of one bank; a refresh that is
performed makes up one that was postponed. -/
def execRefresh (stack : Fin 16) (pc bank : Fin 64) (s : State) : Res :=
  let k := s.stack stack.val
  let key := pc.val * 64 + bank.val
  let waits := (k.readQ ++ k.writeQ).any (fun r => decide (hbmPc r.addr = pc.val ∧ hbmBank r.addr = bank.val) && s.urgent r)
  let p := Tab.get 0 k.postponed key
  .next (s.setStack stack.val (
    if waits ∧ p < 8 then { k with postponed := Tab.set 0 k.postponed key (p + 1), refPostponed := k.refPostponed + 1 }
    else { k with postponed := Tab.set 0 k.postponed key (p - 1), rowOpen := Tab.set 0 k.rowOpen key 0 }))

/-- The band of a temperature from the present band: bounds 45, 85 and 100 °C, a return 2 °C below the bound (R240, R374). -/
def bandOf (now : Nat) (t : Int) : Nat :=
  let up := if t ≥ 100 then 3 else if t ≥ 85 then 2 else if t ≥ 45 then 1 else 0
  let down := if t > 98 then 3 else if t > 83 then 2 else if t > 43 then 1 else 0
  if up ≥ now then up else if down < now then down else now

/-- Refresh interval of a bank in picoseconds, by band (Table 12-4). -/
def refreshInterval (band : Nat) : Nat := if band ≤ 1 then 3900000 else if band = 2 then 1950000 else 975000

/-- STACK_TEMP_READ (R374, R376): a reading in °C, none when the sensor did not answer, which counts as above 105 °C; above 105 °C the
controller asks for emergency level 2. -/
def execStackTempRead (stack : Fin 16) (reading : Option Int) (s : State) : Res :=
  let k := s.stack stack.val
  let t := reading.getD 106
  .next (s.setStack stack.val { k with temp := reading.getD k.temp, band := bandOf k.band t, hotRequest := decide (t > 105) }).settleLevel

/-- POWER_DOWN_ENTRY (R372): a pseudo-channel that has been idle for HBM_PD_IDLE enters power-down. -/
def execPowerDownEntry (stack : Fin 16) (pc : Fin 64) (idle : Nat) (s : State) : Res :=
  let k := s.stack stack.val
  let limit := s.val 0x4310 7 256
  let busy := (k.readQ ++ k.writeQ ++ k.inService).any (fun r => hbmPc r.addr = pc.val)
  if limit = 0 ∨ idle < limit ∨ busy then .next s
  else .next (s.setStack stack.val { k with poweredDown := Tab.set false k.poweredDown pc.val true })

/-- The stack becomes FENCED (R379): reads return poison, writes are discarded. -/
def State.fenceStack (s : State) (j : Nat) : State :=
  if s.inService ukStack j then (s.moveUnit ukStack j usFenced 9).event 0x31 4 j (s.stack j).rate else s

/-- PHASE_RETRAIN (R379): the retraining of every 1 ms; a new window of parity errors begins. -/
def execPhaseRetrain (stack : Fin 16) (pc : Fin 64) (ok : Bool) (s : State) : Res :=
  let k := s.stack stack.val
  let s1 := s.setStack stack.val { k with parityRun := Tab.set 0 k.parityRun pc.val 0 }
  .next (if ok then s1 else s1.fenceStack stack.val)

/-- PARITY_ERROR (R379): failure number `attempt` of one command. It is replayed up to 3 times; a fourth failure, or the 16th error of
the pseudo-channel within 1 ms, retrains the channel, and a channel that fails that makes the stack FENCED. -/
def execParityError (stack : Fin 16) (pc : Fin 64) (attempt : Fin 5) (retrainOk : Bool) (s : State) : Res :=
  let k := s.stack stack.val
  let run := Tab.get 0 k.parityRun pc.val + 1
  let retrain := attempt.val ≥ 4 ∨ run ≥ 16
  let k1 := { k with
    parity := k.parity + (if attempt.val ≤ 3 then 1 else 0)
    parityRun := Tab.set 0 k.parityRun pc.val (if retrain then 0 else run)
    retrains := k.retrains + (if retrain then 1 else 0) }
  let s1 := s.setStack stack.val k1
  .next (if retrain ∧ !retrainOk then s1.fenceStack stack.val else s1)

/-- STACK_NOT_ANSWERING (R379): the stack becomes FENCED. -/
def execStackNotAnswering (stack : Fin 16) (s : State) : Res := .next (s.fenceStack stack.val)

/-! ## Merge unit (R380 to R383) -/

/-- MERGE (R380): the merge unit performs its oldest merge. -/
def execMerge (stack : Fin 16) (s : State) : Res :=
  let k := s.stack stack.val
  match k.mergeQ with
  | [] => .next s
  | m :: rest => .next ((s.setStack stack.val { k with mergeQ := rest }).mergeNow m)

/-! ## Congestion and class levels (R390, R391) -/

/-- CONGESTION_LEVEL (R391): the controller's level from its combined occupancy. -/
def execCongestionLevel (stack : Fin 16) (s : State) : Res :=
  let k := s.stack stack.val
  let occ := 100 * (k.readQ.length + k.writeQ.length)
  let level :=
    if occ > s.val 0xA041 2 90 * 768 then 2
    else if occ > s.val 0xA041 1 75 * 768 then 1
    else if occ < s.val 0xA041 3 60 * 768 then 0
    else k.level
  .next (s.setStack stack.val { k with level := level })

/-- LEVEL_BROADCAST (R390): the network takes, for each class, the largest level of the controllers. -/
def execLevelBroadcast (s : State) : Res :=
  .next { s with hbm := { s.hbm with netLevel := (List.range 6).foldl (fun t c =>
    Tab.set 0 t c ((List.range 16).foldl (fun m j => Nat.max m (s.latLevel (s.stack j) c)) 0)) s.hbm.netLevel } }

/-! ## Regulation windows (R386, R393, R394) -/

def State.window (s : State) (w : Nat) : RegWindow := Tab.get RegWindow.blank s.hbm.windows w

/-- The first row of Table 12-10 that an ENABLE of these values meets; 0: none. -/
def State.windowRefusal (s : State) (w base stop sources cls : Nat) : Nat :=
  if base % 0x10000 ≠ 0 ∨ stop % 0x10000 ≠ 0 ∨ base ≥ stop ∨ stop > 0x010140000000 ∨ sources ≥ 64 ∨ sources = 0 ∨ cls > 7 then 0x0301
  else if s.hbm.windows.any (fun e =>
      decide (e.1 ≠ w) && e.2.enabled && decide (e.2.base < stop ∧ base < e.2.stop) && decide (e.2.sources &&& sources ≠ 0)) then 0x0401
  else if (s.window w).enabled then 0x0402
  else 0

def windowSubs : List (Nat × Nat × Nat) := [(1, 8, 0), (2, 8, 0), (3, 2, 0), (4, 1, 0)]

/-- ENABLE with the requester's staged values. -/
def State.rwEnable (s : State) (who w : Nat) : State :=
  let i := 0xA000 + w
  let base := s.staged who i 1 0
  let stop := s.staged who i 2 0
  let sources := s.staged who i 3 0
  let cls := s.staged who i 4 0
  match s.windowRefusal w base stop sources cls with
  | 0 =>
    let s1 := (((((s.keepVal i 1 8 base).keepVal i 2 8 stop).keepVal i 3 2 sources).keepVal i 4 1 cls).keepVal i 5 1 1)
    ({ s1 with hbm := { s1.hbm with windows := Tab.set RegWindow.blank s1.hbm.windows w ⟨true, base, stop, sources, cls⟩ } }).answer 0
  | e => s.answer e

/-- DISABLE. -/
def State.rwDisable (s : State) (w : Nat) : State :=
  if !(s.window w).enabled then s.answer 0x0402
  else
    let s1 := s.keepVal (0xA000 + w) 5 1 2
    ({ s1 with hbm := { s1.hbm with windows := Tab.set RegWindow.blank s1.hbm.windows w RegWindow.blank } }).answer 0

def execRwEnable (who : Fin 16) (window : Fin 64) (s : State) : Res :=
  .next (s.command who.val (0xA000 + window.val) (s.authPlain who.val) (fun s => s.rwEnable who.val window.val))
def execRwDisable (who : Fin 16) (window : Fin 64) (s : State) : Res :=
  .next (s.command who.val (0xA000 + window.val) (s.authPlain who.val) (fun s => s.rwDisable window.val))

end Sys2Proof.Machine
end

