-- ==== Sys2Proof/Machine/Protect.lean ====
section
/-!
DEFINITION. Stored-data protection (chapter 13): correcting write-backs, the patrol scrub, retirement and the split-write test mode.
-/

namespace Sys2Proof.Machine
open Sys2Proof

/-! ## Correcting write-backs (R401) -/

/-- The places a correcting write-back may go to: 0 the base of a market sector, 1 HBM, 2 a bench word, 3 a market sector's shadow. -/
def State.correctingWb (s : State) (place unit addr : Nat) (was : BitVec 256) (chk : Half) : State :=
  match place with
  | 0 =>
    let x := s.sector addr
    if x.data = was ∧ x.chk = chk then
      match sectorDecide was chk with
      | .corrected i d =>
        let p := s.sectorPlace addr
        (s.setSector addr { x with data := d, chk := 0#16 }).eccWroteBack 0 p.1 i p.2
      | _ => s
    else s
  | 1 =>
    let x := s.hbmSector addr
    if x = ⟨was, chk⟩ then
      match s.hbmDecide addr x with
      | .corrected i d => (s.setHbmSector addr ⟨d, 0#16⟩).eccWroteBack 1 (stackOf (32 * addr)) i (32 * addr)
      | _ => s
    else s
  | 2 =>
    let x := s.core unit
    let e := Tab.get 0#8 x.benchChk addr
    let w := Tab.le 0#8 x.bench (8 * addr) 8
    if e = BitVec.ofNat 8 chk.toNat ∧ w = was.toNat % 2 ^ 64 ∧ e ≠ 0#8 ∧ e ≠ Config.wordPoison then
      match Config.wordBit e with
      | some i =>
        (s.setCore unit { x with
          bench := Tab.setLe 0#8 x.bench (8 * addr) 8 (if i < 64 then w ^^^ 2 ^ i else w)
          benchChk := Tab.set 0#8 x.benchChk addr 0#8 }).eccWroteBack 2 unit i (8 * addr)
      | none => s
    else s
  | _ =>
    let x := s.sector addr
    if x.sh.data = was ∧ x.sh.chk = chk then
      match sectorDecide was chk with
      | .corrected i d =>
        let p := s.sectorPlace addr
        (s.setSector addr { x with sh := { x.sh with data := d, chk := 0#16 } }).eccWroteBack 0 p.1 i p.2
      | _ => s
    else s

/-- CORRECTING_WRITEBACK (R401): with what its correcting read found; it is performed only while the unit still holds exactly that, since
every request that changes the unit stores fresh check bits, and dropped otherwise. -/
def execCorrectingWriteback (place : Fin 4) (unit addr : Nat) (was : BitVec 256) (chk : Half) (s : State) : Res :=
  .next (s.correctingWb place.val unit addr was chk)

/-! ## Patrol scrub (R405, R406) -/

/-- The scrub's request: class 7. -/
def Acc.scrub : Acc := { Acc.plain with cls := 7 }

/-- The base of a market sector is scrubbed. -/
def State.scrubBase (s : State) (n : Nat) : State :=
  let x := s.sector n
  let p := s.sectorPlace n
  match x.state n with
  | .absent => s
  | .dead => s
  | _ =>
    match sectorDecide x.data x.chk with
    | .clean => s
    | .poison => s.eccPoisonRead
    | .corrected i d =>
      ((s.eccCorrected 0 p.1 i p.2).setSector n { x with data := d, chk := 0#16 }).eccWroteBack 0 p.1 i p.2
    | .bad =>
      if isHbmAddr (32 * n) && decide (x.base = .valid) && !x.dirty && decide (x.sh.kind = .none) then
        let s1 := { s with ecc := { s.ecc with refetched := s.ecc.refetched + 1 } }
        let r := (s1.eccNote 3 0 p.1 0xFF p.2).hbmRead Acc.scrub n
        r.1.setSector n { x with data := r.2.data, chk := r.2.chk }
      else (s.eccFresh 4 0 p.1 p.2).setSector n { x with chk := Config.poison }

/-- The shadow of a market sector is scrubbed. -/
def State.scrubShadow (s : State) (n : Nat) : State :=
  let x := s.sector n
  let p := s.sectorPlace n
  match x.sh.kind with
  | .none => s
  | .dead => s
  | _ =>
    match sectorDecide x.sh.data x.sh.chk with
    | .clean => s
    | .poison => s.eccPoisonRead
    | .corrected i d =>
      ((s.eccCorrected 0 p.1 i p.2).setSector n { x with sh := { x.sh with data := d, chk := 0#16 } }).eccWroteBack 0 p.1 i p.2
    | .bad => (s.eccFresh 4 0 p.1 p.2).setSector n { x with sh := { x.sh with chk := Config.poison } }

/-- A sector of HBM is scrubbed at its stack. -/
def State.scrubHbm (s : State) (n : Nat) : State :=
  let j := stackOf (32 * n)
  let s1 := (s.settleMerges n).hbmAccept Acc.scrub (32 * n) 0
  let k := s1.stack j
  let s2 := s1.setStack j { k with reads := k.reads + 1 }
  let x := s2.hbmSector n
  match s2.hbmDecide n x with
  | .clean => s2
  | .poison => s2.eccPoisonRead
  | .corrected i d => ((s2.eccCorrected 1 j i (32 * n)).setHbmSector n ⟨d, 0#16⟩).eccWroteBack 1 j i (32 * n)
  | .bad => (s2.eccFresh 4 1 j (32 * n)).setHbmSector n ⟨x.data, Config.poison⟩

/-- The lines whose base and whose shadow stall `st` holds at stall-local line `l` (R212, R217). -/
def State.lineAt (s : State) (st l : Nat) : Option Nat × Option Nat :=
  let row := l / 512
  let set := l % 512
  let q := st / 64
  let f := 64 * row + st % 64
  let here (k row1 : Nat) : Bool := decide (row1 = row + 1) && decide (s.lineHome k = some (st, set))
  let sh := (s.market.shWays.find? (fun e => here e.1 e.2)).map (·.1)
  match s.frameRole q f with
  | .cache => ((s.market.lines.find? (fun e => here e.1 e.2.row1)).map (·.1), sh)
  | .absent => (none, none)
  | _ => (some (frameAddr q f / 128 + set), none)

/-- Lines of a stall: 320 frame rows of 512. -/
def stallLines : Nat := 163840

/-- The next present stall from `n`, below 256. -/
def State.nextStall (s : State) (n : Nat) : Option Nat := ((List.range 256).find? (fun i => decide (n ≤ i) && s.stallPresent i))

def State.scrubPass (s : State) : State := { s with ecc := { s.ecc with scrubPasses := s.ecc.scrubPasses + 1 } }

/-- The market scrub reads the sector at its position and moves on: ascending stall-local line, then the next stall. -/
def State.scrubMarket (s : State) : State :=
  match s.nextStall s.ecc.scrubStall with
  | none => { s with ecc := { s.ecc with scrubStall := 0, scrubLine := 0 } }
  | some st =>
    let pos := if st = s.ecc.scrubStall then s.ecc.scrubLine else 0
    let at' := s.lineAt st (pos / 4)
    let s1 := match at'.1 with
      | some l => s.scrubBase (4 * l + pos % 4)
      | none => s
    let s2 := match at'.2 with
      | some l => s1.scrubShadow (4 * l + pos % 4)
      | none => s1
    if pos + 1 < 4 * stallLines then { s2 with ecc := { s2.ecc with scrubStall := st, scrubLine := pos + 1 } }
    else
      match s2.nextStall (st + 1) with
      | some n => { s2 with ecc := { s2.ecc with scrubStall := n, scrubLine := 0 } }
      | none => { s2 with ecc := { s2.ecc with scrubStall := 0, scrubLine := 0 } }.scrubPass

/-- The HBM scrub reads the sector at its position and moves on: ascending address within each quarter. -/
def State.scrubNextHbm (s : State) : State :=
  let q := s.ecc.scrubQuarter
  let a := q * 2 ^ 38 + s.ecc.scrubAddr
  let s1 := if s.hbmInstalled q && s.inService ukStack (stackOf a) then s.scrubHbm (a / 32) else s
  if s.ecc.scrubAddr + 32 < quarterHbm then { s1 with ecc := { s1.ecc with scrubAddr := s.ecc.scrubAddr + 32 } }
  else if q < 3 then { s1 with ecc := { s1.ecc with scrubQuarter := q + 1, scrubAddr := 0 } }
  else { s1 with ecc := { s1.ecc with scrubQuarter := 0, scrubAddr := 0 } }.scrubPass

/-- SCRUB_READ (R405, R406): one of the two patrols reads its next sector; in SAFE, and with the device not in service, it pauses. -/
def execScrubRead (hbm : Bool) (s : State) : Res :=
  if s.dev.st ≠ devReady ∧ s.dev.st ≠ devDegraded then .next s
  else .next (if hbm then s.scrubNextHbm else s.scrubMarket)

/-! ## Retirement (R409, R410) -/

/-- A block at the top of a quarter that no page's home may use: a table pool, the queue-descriptor table, the starter region. -/
def State.systemBlock (s : State) (a : Nat) : Bool := decide (a % 2 ^ 38 ≥ s.homeLimit (a / 2 ^ 38))

/-- The populated page whose home holds a block. -/
def State.pageOfBlock (s : State) (a : Nat) : Option (Nat × Page) :=
  s.pager.pages.find? (fun e => e.2.v && decide (e.2.quarter = a / 2 ^ 38 ∧ e.2.home ≤ a % 2 ^ 38 ∧ a % 2 ^ 38 < e.2.home + pageBytes e.2.big))

/-- The populated page placed at a frame. -/
def State.pageOfFrame (s : State) (q f : Nat) : Option (Nat × Page) :=
  s.pager.pages.find? (fun e => e.2.v && decide (e.2.loc = 1 ∧ e.2.frame / 20480 = q ∧ e.2.frame % 20480 ≤ f ∧ f < e.2.frame % 20480 + pageFrames e.2.big))

/-- Spare banks left in a physical stall: 2 less those that boot-time repair and retirement took (R409, R410). -/
def State.sparesLeft (s : State) (st : Nat) : Nat :=
  2 - (s.ecc.bankMap.filter (fun e => e.1 = st)).length - (s.dev.bankRepairs.filter (fun e => e.1 = st)).length

/-- A line of `[lo, lo + n)` holds a shadow way. -/
def State.shadowIn (s : State) (lo n : Nat) : Bool := s.market.shWays.any (fun e => decide (lo / 128 ≤ e.1 ∧ e.1 < (lo + n) / 128))

/-- A shadow way lies in a frame, or a line of the frame's placed page holds one. -/
def State.shadowInFrame (s : State) (q f : Nat) : Bool :=
  s.market.shWays.any (fun e => decide (e.2 = frameRow f + 1) && decide ((s.lineHome e.1).map (·.1) = some (frameStall q f)))
    || s.shadowIn (frameAddr q f) 0x10000

/-- The logical stall of a physical one. -/
def State.stallLogical (s : State) (phys : Nat) : Option Nat := (List.range 256).find? (fun n => decide (Tab.get 0 s.dev.stallSite n = phys + 1))

/-- A shadow way lies in a bank (L mod 160) of a physical stall. -/
def State.shadowInBank (s : State) (phys bank : Nat) : Bool :=
  match s.stallLogical phys with
  | none => false
  | some n => s.market.shWays.any (fun e => match s.lineHome e.1 with
    | some (st, set) => decide (st = n ∧ (512 * (e.2 - 1) + set) % 160 = bank)
    | none => false)

/-- The first row of Table 13-4 that a retirement meets; 0: none. -/
def State.retireRefusal (s : State) (kind unit addr : Nat) : Nat :=
  match kind with
  | 1 =>
    if unit ≠ 0 ∨ addr % 0x10000 ≠ 0 ∨ !isHbmAddr addr ∨ addr % 2 ^ 38 + 0x10000 > quarterHbm ∨ s.ecc.retBlocks.length ≥ 1024 then 0x0301
    else if addr ∈ s.ecc.retBlocks then 0x0401
    else if s.systemBlock addr then 0x0401
    else if s.shadowIn addr 0x10000 then 0x0402
    else
      match s.pageOfBlock addr with
      | none => 0
      | some e =>
        if s.shadowIn (e.2.quarter * 2 ^ 38 + e.2.home) (pageBytes e.2.big) then 0x0402
        else if ({ s with ecc := { s.ecc with retBlocks := s.ecc.retBlocks ++ [addr] } }.findHome (s.ctx e.2.ctx) e.2.big (attrHL e.2.attr)).isNone then 0x0402
        else 0
  | 2 =>
    let q := directQuarter addr
    let f := directFrame addr
    if unit ≠ 0 ∨ addr % 0x10000 ≠ 0 ∨ !isDirectAddr addr ∨ s.ecc.retFrames.length ≥ 1024 then 0x0301
    else if addr ∈ s.ecc.retFrames then 0x0401
    else if s.frameRole q f = .absent then 0x0301
    else if s.frameRole q f = .landing then 0x0401
    else if s.frameRole q f = .cache ∧ s.cacheFrames (frameStall q f) < 17 then 0x0402
    else if s.shadowInFrame q f then 0x0402
    else 0
  | 3 =>
    if unit ≥ 288 ∨ addr ≥ 160 then 0x0301
    else if (unit, addr) ∈ s.ecc.bankMap then 0x0401
    else if s.sparesLeft unit = 0 then 0x0402
    else if s.shadowInBank unit addr then 0x0402
    else 0
  | _ => 0x0301

/-- One sector of a home that moves: as its controller delivers it, poison included. -/
def State.moveHbmSector (lo dst : Nat) (s : State) (n : Nat) : State :=
  let r := s.hbmChecked n
  (r.1.setHbmSector n HbmSector.blank).hbmWrite Acc.plain (n - lo / 32 + dst / 32) r.2

/-- The home of a page moves to a free block; a page that is not placed takes its content along, with a shootdown (R409). -/
def State.moveHome (s : State) (key q a : Nat) : State :=
  let p := s.page key
  let lo := p.quarter * 2 ^ 38 + p.home
  let n := pageBytes p.big
  let dst := q * 2 ^ 38 + a
  let moved (s : State) : State := s.setPage key { p with quarter := q, home := a }
  if p.loc = 1 then moved s
  else
    let ls := (s.market.lines.filter (fun e => decide (lo / 128 ≤ e.1 ∧ e.1 < (lo + n) / 128))).map (·.1)
    let s1 := (ls.foldl (fun s l => (s.drainLine l).evictLine Acc.plain l) s).settleRange lo n
    let ns := (s1.hbm.sectors.map (·.1)).filter (fun k => decide (lo ≤ 32 * k ∧ 32 * k < lo + n))
    (moved (ns.foldl (State.moveHbmSector lo dst) (s1.zeroHbm dst n))).pagerCount (fun c => { c with shootdowns := c.shootdowns + 1 })

/-- A retirement that passed its checks; none: it must wait. -/
def State.retire (s : State) (kind unit addr : Nat) : Option State :=
  match kind with
  | 1 =>
    let s1 := { s with ecc := { s.ecc with retBlocks := s.ecc.retBlocks ++ [addr] } }
    match s.pageOfBlock addr with
    | none => some s1
    | some e =>
      match s1.findHome (s.ctx e.2.ctx) e.2.big (attrHL e.2.attr) with
      | some (q, a) => some (s1.moveHome e.1 q a)
      | none => none
  | 2 =>
    let q := directQuarter addr
    let f := directFrame addr
    let s1 := match s.pageOfFrame q f with
      | some e => s.demotePage e.1
      | none => s
    (s1.vacateFrame q f).map (fun t =>
      let t1 := (t.forgetSectors addr 0x10000).setFrame q f .absent
      { t1 with ecc := { t1.ecc with retFrames := t1.ecc.retFrames ++ [addr] } })
  | _ => some { s with ecc := { s.ecc with bankMap := s.ecc.bankMap ++ [(unit, addr)] } }

def State.rtRetire (s : State) (who : Nat) : State :=
  let kind := s.staged who 0x4420 1 0
  let unit := s.staged who 0x4420 2 0
  let addr := s.staged who 0x4420 3 0
  match s.retireRefusal kind unit addr with
  | 0 =>
    match s.retire kind unit addr with
    | none => s.waits
    | some t => (t.applied who 0x4420 [(1, 1, 0), (2, 2, 0), (3, 8, 0)]).answer 0
  | e => s.answer e

/-- SELECT loads a stall's spare banks. -/
def State.rtSelect (s : State) (who : Nat) : State :=
  let unit := s.staged who 0x4420 2 0
  if unit ≥ 288 then s.answer 0x0301 else (s.select who 0x4420 5 1 (s.sparesLeft unit)).answer 0

def execRtRetire (who : Fin 16) (s : State) : Res := .next (s.command who.val 0x4420 (s.authPlain who.val) (fun s => s.rtRetire who.val))
def execRtSelect (who : Fin 16) (s : State) : Res := .next (s.command who.val 0x4420 (s.authPlain who.val) (fun s => s.rtSelect who.val))

/-! ## Split-write test mode (R411) -/

/-- The target of the test mode: stored data, stored check bits (low 8 for the bench), the decision on them. -/
structure TsUnit where
  data : Nat
  check : Nat
  decision : Nat
  deriving DecidableEq, Repr

def decisionCode : Decode → Nat
  | .clean => 0
  | .corrected _ _ => 1
  | .bad => 2
  | .poison => 3

def wordDecision (e : Byte) : Nat :=
  if e = 0#8 then 0 else if e = Config.wordPoison then 3 else if (Config.wordBit e).isSome then 1 else 2

/-- The unit that an address names is in TESTING, its address in range: 0, else the refusal. -/
def State.tsRefusal (s : State) (mem a : Nat) : Nat :=
  match mem with
  | 0 =>
    if a % 32 ≠ 0 ∨ !isDirectAddr a then 0x0301
    else
      match Tab.get 0 s.dev.stallSite (frameStall (directQuarter a) (directFrame a)) with
      | 0 => 0x0402
      | p + 1 => if s.unit ukStall p = usTesting then 0 else 0x0402
  | 1 => if a % 32 ≠ 0 ∨ !isHbmAddr a ∨ a % 2 ^ 38 ≥ quarterHbm then 0x0301 else if s.unit ukStack (stackOf a) = usTesting then 0 else 0x0402
  | 2 => if a % 8 ≠ 0 ∨ a % 2 ^ 56 ≥ benchSize then 0x0301 else if s.unit ukCore (a / 2 ^ 56) = usTesting then 0 else 0x0402
  | _ => 0x0301

def State.tsRead (s : State) (mem a : Nat) : TsUnit :=
  match mem with
  | 0 =>
    let x := s.sector (a / 32)
    ⟨x.data.toNat, (Config.sectorCheck x.data ^^^ x.chk).toNat, decisionCode (sectorDecide x.data x.chk)⟩
  | 1 =>
    let n := a / 32
    let x := s.hbmSector n
    let d := Config.xts (s.hbmKey n) n x.data
    ⟨d.toNat, (Config.sectorCheck d ^^^ x.chk).toNat, decisionCode (sectorDecide d x.chk)⟩
  | _ =>
    let x := s.core (a / 2 ^ 56)
    let w := a % 2 ^ 56 / 8
    let d := Tab.le 0#8 x.bench (8 * w) 8
    let e := Tab.get 0#8 x.benchChk w
    ⟨d, (Config.wordCheck (BitVec.ofNat 64 d) ^^^ e).toNat, wordDecision e⟩

/-- Stores data and check bits as given. -/
def State.tsStore (s : State) (mem a data check : Nat) : State :=
  match mem with
  | 0 =>
    let d := BitVec.ofNat 256 data
    let x := s.sector (a / 32)
    s.setSector (a / 32) { x with base := .valid, data := d, chk := BitVec.ofNat 16 check ^^^ Config.sectorCheck d }
  | 1 =>
    let n := a / 32
    let d := BitVec.ofNat 256 data
    s.setHbmSector n ⟨Config.xtsInverse (s.hbmKey n) n d, BitVec.ofNat 16 check ^^^ Config.sectorCheck d⟩
  | _ =>
    let w := a % 2 ^ 56 / 8
    s.onCore (a / 2 ^ 56) (fun x => { x with
      bench := Tab.setLe 0#8 x.bench (8 * w) 8 data
      benchChk := Tab.set 0#8 x.benchChk w (BitVec.ofNat 8 check ^^^ Config.wordCheck (BitVec.ofNat 64 data)) })

/-- A TS_CMD write: 1 WRITE_DATA, 2 WRITE_CHECK, 3 WRITE_BOTH, 4 READ_RAW. -/
def State.tsCommand (s : State) (op : Nat) : State :=
  let mem := s.val 0x4430 1 0
  let a := s.val 0x4430 2 0
  match s.tsRefusal mem a with
  | 0 =>
    let u := s.tsRead mem a
    let n := if mem = 2 then 8 else 32
    let data := s.val 0x4430 3 0 % 256 ^ n
    let check := s.val 0x4430 4 0 % 2 ^ (if mem = 2 then 8 else 16)
    (match op with
    | 1 => s.tsStore mem a data u.check
    | 2 => s.tsStore mem a u.data check
    | 3 => s.tsStore mem a data check
    | _ => ((s.setVal 0x4430 3 n u.data).setVal 0x4430 4 2 u.check).setVal 0x4430 6 1 u.decision).answer 0
  | e => s.answer e

def execTsWriteData (who : Fin 16) (s : State) : Res := .next (s.command who.val 0x4430 (s.authPlain who.val) (fun s => s.tsCommand 1))
def execTsWriteCheck (who : Fin 16) (s : State) : Res := .next (s.command who.val 0x4430 (s.authPlain who.val) (fun s => s.tsCommand 2))
def execTsWriteBoth (who : Fin 16) (s : State) : Res := .next (s.command who.val 0x4430 (s.authPlain who.val) (fun s => s.tsCommand 3))
def execTsReadRaw (who : Fin 16) (s : State) : Res := .next (s.command who.val 0x4430 (s.authPlain who.val) (fun s => s.tsCommand 4))

end Sys2Proof.Machine
end

