-- ==== Sys2Proof/Machine/Host.lean ====
section
/-!
DEFINITION. The PCIe endpoint (chapter 15): BAR4, the function rings, MSI-X, resets and loss of the link.
-/

namespace Sys2Proof.Machine
open Sys2Proof

/-- A request is answered with Unsupported Request, or a write discarded (Tables 15-2, 15-7, 15-8). -/
def State.hostUr (s : State) : State := (s.onHost (fun h => { h with ur := h.ur + 1 })).emit .host 1 []
def State.hostDrop (s : State) : State := s.onHost (fun h => { h with dropped := h.dropped + 1 })

/-! ## BAR4 (R466, R467, R469, R474) -/

/-- The device-local address behind a BAR4 offset. -/
def bar4Walk : List (Nat × Nat) → Nat → Option Nat
  | [], _ => none
  | (base, n) :: rest, o => if o < n then some (base + o) else bar4Walk rest (o - n)

/-- A span lies in the extent of a registered ring (R470): submission or completion ring of a HOST or LOCAL queue, with its seal array. -/
def State.inRing (s : State) (a n : Nat) : Bool :=
  s.sched.queues.any (fun e => decide (e.2.st ≠ qFree ∧ e.2.prod ≠ prodFabric)
    && (decide (e.2.sq ≤ a ∧ a + n ≤ e.2.sq + e.2.sqBytes) || decide (e.2.cq ≤ a ∧ a + n ≤ e.2.cq + e.2.cqBytes)))

/-- The span that a BAR4 request reaches; none: it is not served (unmapped, ABSENT, a partition being reset, not a ring while RINGONLY). -/
def State.bar4At (s : State) (off n : Nat) : Option Nat :=
  match bar4Walk s.host.bar4 off, bar4Walk s.host.bar4 (off + n - 1) with
  | some a, some b =>
    let part := (s.quarterPart (directQuarter a)).getD 4
    if b = a + n - 1 ∧ s.addrOk a ∧ s.addrOk b ∧ !s.partResetting part ∧ (s.host.lanes ≥ 4 ∨ s.inRing a n) then some a else none
  | _, _ => none

def hostAgent : Agent := ⟨⟨none, 256, 0⟩, none, { Acc.plain with cls := 8, src := 4 }, false⟩

/-- The partition's bulk key (R556); 0 when none is installed. -/
def State.bulkKey (s : State) (p : Nat) : Nat :=
  ((s.sec.keys.find? (fun e => decide (e.2.st = 1 ∧ e.2.use = 3 ∧ e.2.part = p))).map (fun e => e.2.key)).getD 0

/-- The pad byte of a device-local address: direction 0 writes, 1 reads (R474). -/
def State.bulkByte (s : State) (p dir a : Nat) : Byte :=
  let gen := s.val 0x5520 (1 + p + 4 * dir) 0
  BitVec.ofNat 8 (Config.bulkPad (s.bulkKey p) (gen % 2 ^ 64 * 2 ^ 64 + dir * 2 ^ 63 + a / 16) / 256 ^ (a % 16))

/-- The bytes of a transfer as they pass the endpoint: enciphered outside the rings of a sealed partition. -/
def State.bulk (s : State) (dir a : Nat) (bs : List Byte) : List Byte :=
  match s.quarterPart (directQuarter a) with
  | none => bs
  | some p =>
    if (s.seal p).st = 1 then
      bs.zipIdx.map (fun x => if s.inRing (a + x.2) 1 then x.1 else x.1 ^^^ s.bulkByte p dir (a + x.2))
    else bs

/-- BAR4_READ: the completion carries the bytes, with EP set when a sector is poison (R463). -/
def execBar4Read (offset : Fin 67108864) (len : Fin 4097) (s : State) : Res :=
  let n := len.val
  if !s.linkUp ∨ n = 0 then .next s
  else if s.host.d3hot then .next s.hostUr
  else
    match s.bar4At offset.val n with
    | none => .next s.hostUr
    | some a =>
      let r := s.agentRead hostAgent a n
      match r.st with
      | .ok => .next (r.s.emit .host 0 [if r.poison then 1 else 0, n, leNat (r.s.bulk 1 a r.bytes)])
      | _ => .next s.waits

/-- BAR4_WRITE: a posted write; `poisoned` says that the TLP is (R463). -/
def execBar4Write (offset : Fin 67108864) (bytes : List Byte) (poisoned : Bool) (s : State) : Res :=
  if !s.linkUp ∨ bytes.isEmpty then .next s
  else if s.host.d3hot then .next s.hostUr
  else
    match s.bar4At offset.val bytes.length with
    | none => .next s.hostDrop
    | some a =>
      let r := s.agentWrite hostAgent a (s.bulk 0 a bytes) poisoned
      match r.2 with
      | .ok => .next r.1
      | _ => .next s.waits

/-! ## Function rings (R475, R476) -/

/-- RQ_TAIL: a doorbell of a function ring; requests beyond the bound of 64 are discarded, a lower value is ignored. After an FLR the ring
serves again once RQ_TAIL equals RQ_HEAD (Table 15-6). -/
def execRqTail (ring : Fin 4) (value : Word) (s : State) : Res :=
  let f := ring.val
  let x := s.ring f
  let v := value.toNat
  let up := (v + 2 ^ 32 - x.rqTail) % 2 ^ 32
  if !s.linkUp then .next s
  else if s.host.d3hot then .next s.hostUr
  else if x.st = 2 then .next (if v = x.rqHead then s.setRing f { x with st := 0, rqTail := v } else s)
  else if up ≥ 2 ^ 31 then .next s
  else
    let n := (v + 2 ^ 32 - x.rqHead) % 2 ^ 32
    if n ≤ 64 then .next (s.setRing f { x with rqTail := v })
    else .next ((s.setRing f { x with rqTail := (x.rqHead + 64) % 2 ^ 32 }).onHost (fun h => { h with dropped := h.dropped + (n - 64) }))

/-- RS_HEAD: the host has read responses. -/
def execRsHead (ring : Fin 4) (value : Word) (s : State) : Res :=
  let f := ring.val
  let x := s.ring f
  if !s.linkUp then .next s
  else if s.host.d3hot then .next s.hostUr
  else .next (State.releaseHeld f x.held.length (s.setRing f { x with rsHead := value.toNat }))

/-! ## MSI-X (R477, R478) -/

/-- MSIX_SEND: a vector that was asked for and is not masked sends its message, HL_MSIX_MOD ns after the one before; `ns` is the time
since then. -/
def execMsixSend (vector : Fin 2048) (ns : Nat) (s : State) : Res :=
  let x := s.vec vector.val
  .next (if (x.asked ∨ x.pend) ∧ !x.masked ∧ s.linkUp ∧ !s.host.d3hot ∧ ns ≥ s.val 0x5510 1 0 then
      (s.setVec vector.val { x with asked := false, pend := false }).emit .host 2 [vector.val, x.addr, x.data]
    else s)

/-! ## Resets and loss (R479, R469, R662) -/

/-- What an FLR, PERST_N or a hot reset does to the host interface (Table 15-7). -/
def State.hostReset (s : State) : State :=
  let s1 := s.onHost (fun h => { h with
    vectors := [], rings := (List.range 4).foldl (fun t f => Tab.set FnRing.blank t f { FnRing.blank with st := 2 }) [],
    waits := [], evtstat := 0, evtmsix := 0, d3hot := false })
  { s1 with sched := { s1.sched with queues := Tab.mapVals Queue.blank (fun _ x =>
      if x.st ≠ qFree ∧ x.prod = prodHost then { x with st := qPaused } else x) s1.sched.queues } }

/-- The endpoint takes part: neither COLD, nor latched, nor before step 5 of a cold boot (R595) or W4 of a warm one (Table 21-5). -/
def State.endpointOn (s : State) : Bool :=
  decide (s.dev.st ≠ devCold ∧ s.dev.st ≠ devLatched) && !decide (s.dev.st = devBooting ∧ (s.dev.bootStep < 5 ∨ 16 < s.dev.bootStep ∧ s.dev.bootStep < 20))

/-- FLR. -/
def execFlr (s : State) : Res :=
  .next (if s.linkUp then ((s.hostReset).raiseEvt 5).event 0x41 3 s.host.lanes 0 else s)

/-- PERST_N asserted, or a hot reset: as FLR, and the link retrains. -/
def execPerstN (s : State) : Res :=
  .next (if s.endpointOn then s.hostReset.onHost (fun h => { h with lanes := 0, speed := 0 }) else s)

/-- The link goes down: vectors asked for become pending. -/
def State.linkDown (s : State) : State :=
  s.onHost (fun h => { h with
    lanes := 0, speed := 0, vectors := Tab.mapVals MsixVec.blank (fun _ v => if v.asked then { v with asked := false, pend := true } else v) h.vectors })

/-- LINK_LOSS. -/
def execLinkLoss (s : State) : Res :=
  .next (if s.linkUp then
      (s.linkDown.onHost (fun h => { h with wasLost := true, linkdowns := h.linkdowns + 1 })).event 0x41 2 s.host.lanes 0
    else s)

/-- The code of a speed in DEVSTATE. -/
def speedCode (mts : Nat) : Nat :=
  if mts ≥ 64000 then 6 else if mts ≥ 32000 then 5 else if mts ≥ 16000 then 4 else if mts ≥ 8000 then 3 else if mts ≥ 5000 then 2 else 1

/-- LINK_UP: the link trains at a width and speed; a training below x16 or 64 GT/s is recorded. -/
def execLinkUp (lanes : Fin 17) (mts : Nat) (s : State) : Res :=
  let n := lanes.val
  .next (if !s.endpointOn ∨ n = 0 then s
    else
      let changed := decide (s.host.lanes ≠ n ∨ s.host.speed ≠ mts)
      let lost := s.host.wasLost
      let s1 := s.onHost (fun h => { h with lanes := n, speed := mts, wasLost := false })
      let s2 := if changed then s1.raiseEvt 1 else s1
      let s3 := if lost then s2.raiseEvt 4 else s2
      if n < 16 ∨ mts < 64000 then s3.event 0x41 1 n (speedCode mts) else s3)

/-- D3HOT_ENTRY: the endpoint enters or leaves D3hot. -/
def execD3hotEntry (enter : Bool) (s : State) : Res :=
  .next (if s.linkUp then s.onHost (fun h => { h with d3hot := enter }) else s)

end Sys2Proof.Machine
end

