-- ==== Sys2Proof/Machine/Copy.lean ====
section
/-!
DEFINITION. The copy engines (R188, R236 to R239).
-/

namespace Sys2Proof.Machine
open Sys2Proof

def cpBytes (p : BitVec 92) : Nat := 32 * (bits 83 60 p + 1)
def cpMode (p : BitVec 92) : Nat := bits 59 56 p

def OpReg.stride (r : OpReg) : Nat := 8 * r.stride8

/-- Rows and columns of a transposing copy, from its bytes and columns: source rows, bytes of a source row. -/
def transShape (e : CopyEntry) : Nat × Nat :=
  let row := if e.mode = 3 then 2 * e.src.sstride else e.src.sstride
  (if row = 0 then 0 else e.bytes / row, row)

/-- A span of an operand leaves the bench. -/
def spanBad (space : Bool) (lo n : Nat) : Bool := !space && decide (lo + n > benchSize)

/-- The descriptor is malformed (R183, R188, R238, Table 6-10). -/
def copyBad (e : CopyEntry) : Bool :=
  let off32 (n : Nat) : Bool := decide (n % 32 ≠ 0)
  let useSrc := decide (e.mode ≠ 4)
  let useDst := decide (e.mode ≠ 5)
  let sh := transShape e
  decide (e.mode > 5)
  || (useSrc && off32 e.src.addr) || (useDst && off32 e.dst.addr)
  || (match e.mode with
      | 0 => spanBad e.src.space e.src.addr e.bytes || spanBad e.dst.space e.dst.addr e.bytes
      | 1 =>
        let r := e.src.sstride
        off32 e.src.stride || off32 e.dst.stride || off32 r || decide (r = 0) || decide (e.bytes % r ≠ 0)
          || spanBad e.src.space e.src.addr ((e.bytes / r - 1) * e.src.stride + r)
          || spanBad e.dst.space e.dst.addr ((e.bytes / r - 1) * e.dst.stride + r)
      | 4 => spanBad e.dst.space e.dst.addr e.bytes
      | 5 => spanBad e.src.space e.src.addr e.bytes
      | _ =>
        off32 e.src.stride || off32 e.dst.stride || off32 e.src.sstride || decide (sh.2 = 0)
          || decide (e.bytes % sh.2 ≠ 0) || decide (sh.1 % 32 ≠ 0)
          || spanBad e.src.space e.src.addr ((sh.1 - 1) * e.src.stride + sh.2)
          || spanBad e.dst.space e.dst.addr ((e.src.sstride - 1) * e.dst.stride + e.bytes / e.src.sstride))

/-- How a copy stands: the state, the end so far, whether it met poison, the union of masks. -/
structure CopyRun where
  s : State
  st : AccSt
  halted : Bool
  taint : Half

/-- One 32-byte unit from one place to another. -/
def copyUnit (e : Env) (sva dva : Bool) (q : CopyRun) (x : Nat × Nat) : CopyRun :=
  match q.st, q.halted with
  | .ok, false =>
    let r := q.s.unitRead e sva x.1 32
    match r.st with
    | .ok =>
      if r.poison then { q with s := r.s, halted := true }
      else
        let m := q.taint ||| r.taint
        let w := r.s.unitWrite { e with taint := m } dva x.2 r.bytes false
        ⟨w.1, w.2.past, false, m⟩
    | st => { q with s := r.s, st := st.past }
  | _, _ => q

/-- The source sectors of a block, read in order. -/
def blockRead (e : Env) (sva : Bool) (q : CopyRun × List (List Byte)) (a : Nat) : CopyRun × List (List Byte) :=
  match q.1.st, q.1.halted with
  | .ok, false =>
    let r := q.1.s.unitRead e sva a 32
    match r.st with
    | .ok => (⟨r.s, .ok, r.poison, q.1.taint ||| r.taint⟩, q.2 ++ [r.bytes])
    | st => ({ q.1 with s := r.s, st := st.past }, q.2)
  | _, _ => q

/-- Output row `j` of a transpose block of `w`-byte elements (R233). -/
def blockRow (rows : List (List Byte)) (w j : Nat) : List Byte := rows.flatMap (fun r => (r.drop (w * j)).take w)

/-- One transpose block: 32 stored rows at one 32-byte column offset (R233, R236). -/
def copyBlock (e : Env) (c : CopyEntry) (w : Nat) (q : CopyRun) (b : Nat × Nat) : CopyRun :=
  match q.st, q.halted with
  | .ok, false =>
    let r := ((List.range 32).map (fun i => c.src.addr + (32 * b.1 + i) * c.src.stride + 32 * b.2)).foldl
      (blockRead e c.src.space) (q, [])
    (List.range (32 / w)).foldl (fun q j =>
      match q.st, q.halted with
      | .ok, false =>
        let o := q.s.unitWrite { e with taint := q.taint } c.dst.space
          (c.dst.addr + (32 / w * b.2 + j) * c.dst.stride + 32 * w * b.1) (blockRow r.2 w j) false
        { q with s := o.1, st := o.2.past }
      | _, _ => q) r.1
  | _, _ => q

/-- One sector of a PREFETCH: fetched when it is in HBM space and ABSENT (R238). -/
def prefetchUnit (e : Env) (q : CopyRun) (a : Nat) : CopyRun :=
  match q.st with
  | .ok =>
    let t := q.s.translate (q.s.coreWho e.core) e.ctx a false
    match t.2 with
    | .fault _ => { q with s := t.1, st := .fault a }
    | .ok phys attr own =>
      if isHbmAddr phys && decide ((t.1.sector (phys / 32)).base = .absent) then
        let acc := attrAcc attr own phys (q.s.envAcc e)
        match t.1.ensureLine acc (phys / 128) with
        | none => { q with st := .wait }
        | some s1 => { q with s := (s1.baseView acc (phys / 32)).1 }
      else { q with s := t.1 }
  | _ => q

/-- Everything a copy does (Table 7-7). -/
def State.copyRun (s : State) (e : Env) (c : CopyEntry) : CopyRun :=
  let q : CopyRun := ⟨s, .ok, false, c.taint⟩
  let units := List.range (c.bytes / 32)
  let sh := transShape c
  match c.mode with
  | 0 => (units.map (fun i => (c.src.addr + 32 * i, c.dst.addr + 32 * i))).foldl (copyUnit e c.src.space c.dst.space) q
  | 1 =>
    let per := c.src.sstride / 32
    (units.map (fun i => (c.src.addr + i / per * c.src.stride + 32 * (i % per), c.dst.addr + i / per * c.dst.stride + 32 * (i % per)))).foldl
      (copyUnit e c.src.space c.dst.space) q
  | 4 =>
    units.foldl (fun q i =>
      match q.st with
      | .ok =>
        let w := q.s.unitWrite e c.dst.space (c.dst.addr + 32 * i) (List.replicate 32 0#8) false
        { q with s := w.1, st := w.2.past }
      | _ => q) q
  | 5 => if c.src.space then units.foldl (fun q i => prefetchUnit e q (c.src.addr + 32 * i)) q else q
  | _ =>
    ((List.range (sh.1 / 32)).flatMap (fun i => (List.range (sh.2 / 32)).map (fun j => (i, j)))).foldl
      (copyBlock e c (if c.mode = 3 then 2 else 1)) q

/-- A COPY descriptor (class 0xA, R179, R188): queued with its operand registers. -/
def State.issueCopy (s : State) (c : Nat) (p : BitVec 92) (crc : Word) : State :=
  s.decodeDesc c 0xA p crc (fun s =>
    let x := s.core c
    if x.copyQ.length ≥ 4 then (s.setQfull c 8).waits
    else
      let e : CopyEntry :=
        { mode := cpMode p, bytes := cpBytes p, src := Tab.get OpReg.blank x.ors (bits 91 88 p),
          dst := Tab.get OpReg.blank x.ors (bits 87 84 p), scen := bitAt p 55, sc := bits 54 52 p, ctx := x.task.ctx,
          taint := x.workTaint, index := x.task.index }
      if decide (bits 51 0 p ≠ 0) || copyBad e then s.malformed c 0x03 unitSeq
      else (s.onCore c (fun x => ({ x.taken with copyQ := x.copyQ ++ [e] }).scAdd e.scen e.sc)).clearQfull c 8)

/-- COPY, mode LINEAR. -/
def execCopyLinear (core : CoreIx) (payload : BitVec 92) (crc : Word) (s : State) : Res := .next (s.issueCopy core.val payload crc)
/-- COPY, mode STRIDED. -/
def execCopyStrided (core : CoreIx) (payload : BitVec 92) (crc : Word) (s : State) : Res := .next (s.issueCopy core.val payload crc)
/-- COPY, mode TRANSPOSE8. -/
def execCopyTranspose8 (core : CoreIx) (payload : BitVec 92) (crc : Word) (s : State) : Res := .next (s.issueCopy core.val payload crc)
/-- COPY, mode TRANSPOSE16. -/
def execCopyTranspose16 (core : CoreIx) (payload : BitVec 92) (crc : Word) (s : State) : Res := .next (s.issueCopy core.val payload crc)
/-- COPY, mode FILL. -/
def execCopyFill (core : CoreIx) (payload : BitVec 92) (crc : Word) (s : State) : Res := .next (s.issueCopy core.val payload crc)
/-- COPY, mode PREFETCH. -/
def execCopyPrefetch (core : CoreIx) (payload : BitVec 92) (crc : Word) (s : State) : Res := .next (s.issueCopy core.val payload crc)

/-- COPY_COMPLETE (R188, R239): the first copy of the core's queue moves its bytes and completes; poison halts the channel
and a fault ends the copy, each with its trap. -/
def execCopyComplete (core : CoreIx) (s : State) : Res :=
  let c := core.val
  let x := s.core c
  match x.copyQ with
  | [] => .next s
  | e :: rest =>
    if x.copyHalted then .next s.waits
    else
      let env : Env := ⟨c, e.ctx, e.taint, x.task.cls, x.task.deadline, false, 0, false⟩
      let q := s.copyRun env e
      match q.st with
      | .wait => .next s.waits
      | st =>
        let k := q.s.cluster (coreCluster c)
        let s1 := (q.s.setCluster (coreCluster c) { k with copyTurn := (c + 1) % 8 }).onCore c (fun x =>
          ({ x with copyQ := rest, copyHalted := q.halted }).scSub e.scen e.sc)
        let s2 := match st with
          | .fault a => s1.trap c 0x31 unitCopy false (q.taint ≠ 0#16) e.index a
          | _ => if q.halted then s1.trap c 0x30 unitCopy true (q.taint ≠ 0#16) e.index 0 else s1
        .next (s2.recheck c)

end Sys2Proof.Machine
end

