-- ==== Sys2Proof/Machine/Sequencer.lean ====
section
/-!
DEFINITION. The core sequencer and the control core's window (chapter 06): tasks, the descriptor stream, control
descriptors, trap replies, the queues of the cluster window.
-/

namespace Sys2Proof.Machine
open Sys2Proof

/-! ## Tasks (R176, R180, R198, R205) -/

/-- A task begins: registers zero, bindings NONE, counters zero, phase 0 (R180, R181, R198). -/
def Core.begin (x : Core) (t : Task) : Core :=
  { x with
    task := t, seqState := 1, seqWait := .none, phase := 0, fetched := [], ors := [], vbs := [], x0 := 0#32, x1 := 0#32
    indexBase := 0#32, draw := 0#32, stream := 0#64, sc := [], outTraps := [] }

/-- The task of a local task word (Table 6-17); the key is the context's now (R60). -/
def State.localTask (s : State) (w : QWord) (taint : Half) : Task :=
  { Task.blank with
    source := 2, ctx := bits 95 84 w, tag := bits 71 56 w, taint := taint, recovery := bitAt w 82
    key := (s.ctx (bits 95 84 w)).key, cls := s.val 0xA040 13 3, deadline := 0, space := bitAt w 83, addr := bits 55 0 w }

/-- A core that runs a task now holds a phase identifier (R521). -/
def State.holdPhase (s : State) (p : Nat) : State :=
  { s with power := { s.power with phases := s.power.phases ||| BitVec.ofNat 16 (2 ^ p), ranTask := true } }

/-- TASK_START (R176, R180, R205): an idle sequencer begins its first local task, otherwise the task dispatched to it. -/
def execTaskStart (core : CoreIx) (s : State) : Res :=
  let c := core.val
  let x := s.core c
  if x.seqState ≠ 0 ∨ x.heldComp ≠ [] then .next s.waits
  else
    match x.localQ, x.localTaint with
    | w :: ws, m :: ms =>
      if s.noNewWork ∨ (Tab.get Proc.blank s.fw.procs (32 + coreCluster c)).st = 1 then .next s.waits
      else .next ((s.onCore c (fun x => ({ x with localQ := ws, localTaint := ms }).begin (s.localTask w m))).holdPhase 0)
    | _, _ =>
      match x.dispatched with
      | some t => .next ((s.onCore c (fun x => ({ x with dispatched := none }).begin t)).holdPhase 0)
      | none => .next s

/-- The next 64-byte block of the stream, from the descriptor at `a` on. -/
def blockBytes (a : Nat) : Nat := 64 - a % 64

/-- Descriptors of a block with the mask they were fetched under (R197). -/
def descriptorsOf (m : Half) : Nat → List Byte → List (QWord × Half)
  | 0, _ => []
  | n + 1, bs => (BitVec.ofNat 128 (leNat (bs.take 16)), m) :: descriptorsOf m n (bs.drop 16)

/-- DESCRIPTOR_FETCH (R177, R193, R197): the next block arrives; poison or a fault on the block the sequencer needs raises
the descriptor-fetch trap. -/
def execDescriptorFetch (core : CoreIx) (s : State) : Res :=
  let c := core.val
  let x := s.core c
  let t := x.task
  let n := blockBytes t.addr
  if x.seqState = 0 ∨ x.seqState ≥ 3 ∨ x.fetched.length + n / 16 > 32 then .next s
  else
    let fail (s : State) (poison : Bool) (a : Nat) : State :=
      if x.fetched ≠ [] then s
      else (s.trap c 0x02 unitSeq poison (x.task.taint ≠ 0#16) t.index a).onCore c (fun x => { x with fetchErr := true })
    if t.addr % 16 ≠ 0 then .next (fail s false t.addr)
    else
      let r := s.unitRead (x.env c t.taint 0) t.space t.addr n
      match r.st with
      | .ok =>
        if r.poison then .next (fail r.s true t.addr)
        else .next (r.s.onCore c (fun x => { x with
          fetched := x.fetched ++ descriptorsOf r.taint (n / 16) r.bytes
          task := { x.task with addr := t.addr + n } }))
      | .wait => .next s.waits
      | .fault a => .next (fail r.s false a)
      | _ => .next r.s

/-! ## Descriptors of the sequencer (R183, R185, R186, R189) -/

/-- A sequencer descriptor that is not malformed: `f` acts and the index moves on. -/
def State.seqDesc (s : State) (c cls : Nat) (p : BitVec 92) (crc : Word) (bad : Bool) (f : State → State) : State :=
  s.decodeDesc c cls p crc (fun s =>
    if bad then s.malformed c 0x03 unitSeq else f (s.onCore c Core.taken))

/-- OPD (R183): the element part of an operand register. -/
def execOpd (core : CoreIx) (payload : BitVec 92) (crc : Word) (s : State) : Res :=
  let p := payload
  let space := bitAt p 87
  .next (s.seqDesc core.val 2 p crc (decide (bits 85 80 p ≠ 0) || (!space && decide (bits 55 19 p ≠ 0))) (fun s =>
    s.onCore core.val (fun x => { x with ors := Tab.modify OpReg.blank x.ors (bits 91 88 p) (fun r =>
      { r with space := space, trans := bitAt p 86, stride8 := bits 79 56 p, addr := bits 55 0 p }) })))

/-- OPS (R183): the scale part of an operand register. -/
def execOps (core : CoreIx) (payload : BitVec 92) (crc : Word) (s : State) : Res :=
  let p := payload
  let space := bitAt p 87
  .next (s.seqDesc core.val 3 p crc
    (decide (bits 86 76 p ≠ 0) || (!space && decide (bits 55 19 p ≠ 0)) || decide (bits 55 0 p % 32 ≠ 0)) (fun s =>
      s.onCore core.val (fun x => { x with ors := Tab.modify OpReg.blank x.ors (bits 91 88 p) (fun r =>
        { r with sspace := space, sstride := bits 75 56 p, saddr := bits 55 0 p }) })))

/-- The binding that BIND writes. -/
def bindOf (p : BitVec 92) : Bind :=
  { Bind.blank with
    kind := bits 88 85 p, fmt := bits 84 81 p, transpose := bitAt p 80, param := bits 79 56 p, addr := bits 55 0 p }

/-- BIND (R185): writes a binding and clears its extension. -/
def execBind (core : CoreIx) (payload : BitVec 92) (crc : Word) (s : State) : Res :=
  let b := bindOf payload
  .next (s.seqDesc core.val 5 payload crc
    (!([0, 1, 2, 3, 4, 5, 6, 8].contains b.kind) || (decide (b.kind = 8) && decide (b.mode > 14 ∨ b.dest > 4))) (fun s =>
      s.onCore core.val (fun x => { x with vbs := Tab.set Bind.blank x.vbs (bits 91 89 payload) b })))

/-- BINDX (R185): the scale address and the output row stride. -/
def execBindx (core : CoreIx) (payload : BitVec 92) (crc : Word) (s : State) : Res :=
  let p := payload
  .next (s.seqDesc core.val 6 p crc (decide (bits 88 80 p ≠ 0) || decide (bits 55 0 p % 32 ≠ 0)) (fun s =>
    s.onCore core.val (fun x => { x with vbs := Tab.modify Bind.blank x.vbs (bits 91 89 p) (fun b =>
      { b with ext := true, ostride := bits 79 56 p, saddr := bits 55 0 p }) })))

/-- VARG is malformed (Table 6-10). -/
def vargBad (p : BitVec 92) : Bool := decide (bits 91 88 p > 2) || decide (bits 87 64 p ≠ 0)

/-- What VARG writes, by its SEL (R186). -/
def Core.varg (x : Core) (p : BitVec 92) : Core :=
  let hi : Word := BitVec.ofNat 32 (bits 63 32 p)
  let lo : Word := BitVec.ofNat 32 (bits 31 0 p)
  match bits 91 88 p with
  | 0 => { x with x1 := hi, x0 := lo }
  | 1 => { x with stream := hi ++ lo }
  | _ => { x with draw := hi, indexBase := lo }

/-- VARG with SEL 0: X0 and X1. -/
def execVargX (core : CoreIx) (payload : BitVec 92) (crc : Word) (s : State) : Res :=
  .next (s.seqDesc core.val 7 payload crc (vargBad payload) (fun s => s.onCore core.val (fun x => x.varg payload)))
/-- VARG with SEL 1: STREAM. -/
def execVargStream (core : CoreIx) (payload : BitVec 92) (crc : Word) (s : State) : Res :=
  .next (s.seqDesc core.val 7 payload crc (vargBad payload) (fun s => s.onCore core.val (fun x => x.varg payload)))
/-- VARG with SEL 2: DRAW and INDEX_BASE. -/
def execVargDraw (core : CoreIx) (payload : BitVec 92) (crc : Word) (s : State) : Res :=
  .next (s.seqDesc core.val 7 payload crc (vargBad payload) (fun s => s.onCore core.val (fun x => x.varg payload)))

/-- The sequencer holds issue until the condition is met, which may be at once. -/
def State.hold (s : State) (c : Nat) (w : SeqWait) : State :=
  (s.onCore c (fun x => { x with seqState := 2, seqWait := w })).recheck c

/-- WAIT (R189): until a counter is low enough, or every earlier descriptor has completed. -/
def execWaitDesc (core : CoreIx) (payload : BitVec 92) (crc : Word) (s : State) : Res :=
  let p := payload
  let all := bitAt p 88
  .next (s.seqDesc core.val 0xB p crc
    (decide (bits 71 0 p ≠ 0) || (all && decide (bits 91 89 p ≠ 0 ∨ bits 87 72 p ≠ 0))) (fun s =>
      s.hold core.val (if all then .all else .counter (bits 91 89 p) (bits 87 72 p))))

/-- PHASE (R198): the phase identifier, at issue. -/
def execPhaseDesc (core : CoreIx) (payload : BitVec 92) (crc : Word) (s : State) : Res :=
  .next (s.seqDesc core.val 0xC payload crc (decide (bits 87 0 payload ≠ 0)) (fun s =>
    (s.onCore core.val (fun x => { x with phase := bits 91 88 payload })).holdPhase (bits 91 88 payload)))

/-- FENCE (R192): until earlier descriptors have completed; a completed one is visible at every scope. -/
def execFenceDesc (core : CoreIx) (payload : BitVec 92) (crc : Word) (s : State) : Res :=
  .next (s.seqDesc core.val 0xD payload crc (decide (bits 91 90 payload = 3) || decide (bits 89 0 payload ≠ 0)) (fun s =>
    s.hold core.val .fence))

/-- BCLR (R189, R197): zeroes blocks with their masks and CANCEL bits after every earlier descriptor. -/
def execBclr (core : CoreIx) (payload : BitVec 92) (crc : Word) (s : State) : Res :=
  let blk := bits 91 83 payload
  let n := bits 82 74 payload + 1
  .next (s.seqDesc core.val 0xE payload crc (decide (bits 73 0 payload ≠ 0) || decide (blk + n > 512)) (fun s =>
    s.hold core.val (.clear blk n)))

/-- END (R193): waits for all the task's work, then the task's completion is reported. -/
def execEndTask (core : CoreIx) (payload : BitVec 92) (crc : Word) (s : State) : Res :=
  .next (s.seqDesc core.val 0xF payload crc (decide (bits 91 0 payload ≠ 0)) (fun s => s.hold core.val .finish))

/-- JUMP (R189): the stream continues at ADDR. -/
def execJumpDesc (core : CoreIx) (payload : BitVec 92) (crc : Word) (s : State) : Res :=
  let p := payload
  .next (s.seqDesc core.val 0xF p crc
    (decide (bits 91 88 p ≠ 1) || decide (bits 86 56 p ≠ 0) || decide (bits 55 0 p % 16 ≠ 0)) (fun s =>
      s.onCore core.val (fun x => { x with
        fetched := []
        task := { x.task with space := bitAt p 87, addr := bits 55 0 p } })))

/-- NOP (R189). -/
def execNopDesc (core : CoreIx) (payload : BitVec 92) (crc : Word) (s : State) : Res :=
  .next (s.seqDesc core.val 0xF payload crc (decide (bits 91 88 payload ≠ 2) || decide (bits 87 0 payload ≠ 0)) (fun s => s))

/-! ## Trap replies (R201, R202) -/

/-- The first record without a reply that names the slot, and the list without it. -/
def takeRecord (slot : Nat) : List (Nat × Nat × Nat) → Option ((Nat × Nat × Nat) × List (Nat × Nat × Nat))
  | [] => none
  | r :: rs =>
    if r.2.1 = slot then some (r, rs)
    else (takeRecord slot rs).map (fun x => (x.1, r :: x.2))

/-- Restarts issue once every record of the task has its reply (R201). -/
def State.restart (s : State) (c : Nat) : State :=
  let x := s.core c
  if x.seqState = 3 ∧ ¬ x.outTraps.any (fun r => r.1 ≠ unitTray) then
    (s.onCore c (fun x => { x with seqState := if x.seqWait = .none then 1 else 2 })).recheck c
  else s

/-- The trapping descriptor is fetched again: what is fetched ahead is dropped. -/
def Core.refetch (x : Core) : Core :=
  { x with
    task := { x.task with addr := x.task.addr - 16 * x.fetched.length }
    fetched := [] }

/-- A reply to the first record that names the slot: `tray` acts on a stopped tray, `other` on the sequencer. -/
def State.reply (s : State) (c slot : Nat) (tray : Nat → Tray → Tray) (other : Nat → State → State) : State :=
  match takeRecord slot (s.core c).outTraps with
  | none => s
  | some (r, rest) =>
    let s1 := s.onCore c (fun x => { x with outTraps := rest })
    if r.1 = unitTray then
      if r.2.2 = 0x05 then s1
      else s1.setTray c slot { tray r.2.2 ((s1.core c).tray slot) with trap := 0, trapAddr := 0 }
    else
      let s2 := if r.1 = unitCopy then s1.onCore c (fun x => { x with copyHalted := false }) else s1
      (other r.2.2 s2).restart c

/-- TRAP_RESUME (R201, R202): issue restarts at the first unissued descriptor, or the tray's instruction is re-executed. -/
def execTrapResume (core : CoreIx) (slot : Fin 16) (s : State) : Res :=
  .next (s.reply core.val slot.val (fun code t => if code = 0x26 then { t with progress := 0 } else t)
    (fun code s => if code = 0x01 ∨ code = 0x02 then s.onCore core.val Core.refetch else s))

/-- TRAP_SKIP (R201, R202): issue restarts after the trapping descriptor, or the tray continues at the next instruction. -/
def execTrapSkip (core : CoreIx) (slot : Fin 16) (s : State) : Res :=
  .next (s.reply core.val slot.val (fun _ t => { t.next with wait := none, pack := none })
    (fun code s =>
      if code = 0x01 then s.onCore core.val Core.taken
      else if code = 0x02 then s.onCore core.val (fun x => { x with
        task := { x.task with addr := x.task.addr + 16, index := x.task.index + 1 } })
      else s))

/-- TRAP_ABORT (R201, R202): the task drains and completes as aborted, or the tray ends and releases its locks. -/
def execTrapAbort (core : CoreIx) (slot : Fin 16) (s : State) : Res :=
  let c := core.val
  .next ((s.reply c slot.val (fun _ t => { t with ending := true, active := 0#64, wait := none, pack := none })
    (fun _ s => s.onCore c (fun x =>
      { x with
        seqState := 4
        seqWait := .none
        task := { x.task with aborted := true }
        outTraps := x.outTraps.filter (fun r => r.1 = unitTray) }))).recheck c)

/-! ## The cluster window (R203 to R207) -/

/-- SUMHEAD_READ (R203, R207): the control core reads the head record; its TAINT joins DTAINT. -/
def execSumheadRead (cluster : ClusterIx) (s : State) : Res :=
  let k := s.cluster cluster.val
  match k.sumQ with
  | [] => .next (s.emit .core 0 [cluster.val, 0])
  | r :: _ =>
    .next ((s.setCluster cluster.val { k with dtaint := k.dtaint ||| recordTaint r }).emit .core 0 [cluster.val, r.toNat])

/-- SUMACK (R203): removes n summary records; a number above the count is ignored. -/
def execSumack (cluster : ClusterIx) (n : Nat) (s : State) : Res :=
  let k := s.cluster cluster.val
  .next (if n > k.sumQ.length then s else s.setCluster cluster.val { k with sumQ := k.sumQ.drop n })

/-- Records held by the cores of a cluster enter the trap queue while it has room (R200). -/
def State.refillTraps (s : State) (k : Nat) : State :=
  (List.range 8).foldl (fun s i =>
    let c := 8 * k + i
    let held := (s.core c).heldTraps
    let room := 64 - (s.cluster k).trapQ.length
    if held.isEmpty ∨ room = 0 then s
    else
      (s.setCluster k ({ s.cluster k with trapQ := (s.cluster k).trapQ ++ held.take room }.raise 1)).onCore c (fun x =>
        { x with heldTraps := held.drop room })) s

/-- TRAPACK (R200, R203): removes n trap records; records held for room enter. -/
def execTrapack (cluster : ClusterIx) (n : Nat) (s : State) : Res :=
  let k := s.cluster cluster.val
  .next (if n > k.trapQ.length then s
    else (s.setCluster cluster.val { k with trapQ := k.trapQ.drop n }).refillTraps cluster.val)

/-- COMPACK (R203): removes n completion records. -/
def execCompack (cluster : ClusterIx) (n : Nat) (s : State) : Res :=
  let k := s.cluster cluster.val
  .next (if n > k.compQ.length then s else s.setCluster cluster.val { k with compQ := k.compQ.drop n })

/-- TASKPORT (R205, R206, R207): a task word enters the local queue of a rank; a full queue or a held rejection sets
OVERRUN, a wrong CRC gives a completion record with status rejected. -/
def execTaskport (cluster : ClusterIx) (rank : Fin 8) (word : QWord) (s : State) : Res :=
  let c := 8 * cluster.val + rank.val
  let x := s.core c
  let k := s.cluster cluster.val
  if x.localQ.length ≥ 4 ∨ x.heldReject ≠ none then .next (s.onCore c (fun x => { x with overrun := true }))
  else if crc32c (leBytes 12 word.toNat) ≠ bits 127 96 word then
    let r := compRecord c 4 k.dtaint (bits 71 56 word)
    if k.compQ.length ≥ 64 then .next (s.onCore c (fun x => { x with heldReject := some r }))
    else .next (s.setCluster cluster.val ({ k with compQ := k.compQ ++ [r] }.raise 2))
  else .next (s.onCore c (fun x => { x with localQ := x.localQ ++ [word], localTaint := x.localTaint ++ [k.dtaint] }))

/-- COMPLETION_RECORD_ENTER (R206): a held completion record, or a held rejection, enters the queue once it has room. -/
def execCompletionRecordEnter (core : CoreIx) (s : State) : Res :=
  let c := core.val
  let k := s.cluster (coreCluster c)
  let x := s.core c
  if k.compQ.length ≥ 64 then .next s.waits
  else
    match x.heldComp, x.heldReject with
    | r :: rs, _ =>
      .next ((s.setCluster (coreCluster c) ({ k with compQ := k.compQ ++ [r] }.raise 2)).onCore c (fun x => { x with heldComp := rs }))
    | [], some r =>
      .next ((s.setCluster (coreCluster c) ({ k with compQ := k.compQ ++ [r] }.raise 2)).onCore c (fun x => { x with heldReject := none }))
    | [], none => .next s

end Sys2Proof.Machine
end

