-- ==== Sys2Proof/Machine/Starter.lean ====
section
/-!
DEFINITION. The starter (R451 to R455) and the takeover of a shard (R456 to R459): the stream of records, the image that a partner holds,
the steps of a takeover.
-/

namespace Sys2Proof.Machine
open Sys2Proof

/-! ## Records on the wire (Table 14-7) -/

/-- Bytes of the body of a kind; none: a reserved kind. -/
def recBody (kind : Nat) : Option Nat :=
  match kind with
  | 0 => some 32 | 1 => some 32 | 2 => some 0 | 3 => some 32 | 4 => some 0 | 5 => some 64 | 6 => some 32 | 7 => some 32 | 8 => some 64
  | _ => none

def MirRec.bytes (r : MirRec) : List Byte :=
  leBytes 16 (r.kind % 16 * 2 ^ 124 + r.ctx % 4096 * 2 ^ 112 + r.fmt % 16 * 2 ^ 108 + (r.anchor % 2 ^ 11).toNat * 2 ^ 97 + r.emask.toNat * 2 ^ 81
    + r.keyv % 2 ^ 56) ++ r.body

/-- The records of a payload; what is left at the end is padding. -/
def parseRecords (part : Nat) : Nat → List Byte → List MirRec
  | 0, _ => []
  | n + 1, bs =>
    let h : QWord := BitVec.ofNat 128 (leNat (bs.take 16))
    match recBody (bits 127 124 h) with
    | none => []
    | some k =>
      if bs.length < 16 + k then []
      else
        { kind := bits 127 124 h, part := part, ctx := bits 123 112 h, fmt := bits 111 108 h, anchor := sext 11 (bits 107 97 h),
          emask := BitVec.ofNat 16 (bits 96 81 h), keyv := bits 55 0 h, body := (bs.drop 16).take k } :: parseRecords part n (bs.drop (16 + k))

/-! ## The source (R451 to R455) -/

/-- A WRITE record of a sector's content, or DROP of a dropped one, read at its stall; no use is counted. -/
def State.copySector (ctx : Nat) (s : State) (e : Nat × Nat) : State :=
  let n := e.2
  let half := s.sectorHalf n
  let p := (s.ctx ctx).part
  if (s.sector n).state n = .dead then s.mirrorTo half ⟨2, p, ctx, 0, 0, 0#16, e.1, []⟩
  else
    let r := (s.drainLine (n / 4)).baseView { Acc.plain with cls := 9 } n
    r.1.mirrorTo half ⟨0, p, ctx, 0, 0, 0#16, e.1, sectorBytes r.2.data⟩

/-- The records of a MIR range: MAP, and every sector of its populated pages; the image of the others is zeros. -/
def State.copyRange (s : State) (r : Range) : State :=
  let p := (s.ctx r.ctx).part
  let s1 := s.firmRecord p 3 r.ctx r.va (leBytes 8 r.bytes ++ leBytes 4 r.attr.toNat ++ leBytes 20 0)
  (s1.pagesIn r.ctx r.va r.bytes).foldl (fun s k =>
    let pg := s.page k
    ((List.range (pageBytes pg.big / 32)).map (fun i => (pg.va + 32 * i, pg.phys 0 / 32 + i))).foldl (State.copySector r.ctx) s) s1

/-- What a new starter needs before the records of changes: the MIR ranges with their content, the mirrored queues, the windows. -/
def State.copyShard (s : State) (p : Nat) : State :=
  let rs := s.pager.ranges.filter (fun r => !r.isAlias && attrMIR r.attr && decide ((s.ctx r.ctx).part = p))
  let s1 := rs.foldl State.copyRange s
  let s2 := s1.sched.queues.foldl (fun s e => if e.2.mirq ∧ s.queuePart e.1 = p then (s.queueDesc e.1).queueDone e.1 else s) s1
  s2.fabric.windows.foldl (fun s e => if e.2.enabled ∧ e.2.part = p then s.firmRecord p 8 0 e.1 e.2.body else s) s2

/-- FS_CMD START: refused without a partner, or when the rules of a sealed partition fail. -/
def State.fsStart (s : State) (p : Nat) (partnerOk : Bool) : State :=
  if s.val (0x5400 + p) 1 0xFFFF = 0xFFFF then s.answer 0x0402
  else if s.sealed p ∧ ¬ (partnerOk ∧ s.sendKey (some p) ≠ 0) then s.answer 0x0402
  else
    let x := s.starter p
    (((s.dropStream p).setStarter p { x with st := 1, generation := x.generation + 1, placed := [], sent := [] }).copyShard p).answer 0

/-- FS_START (R451): `partnerOk` says that the partner's hosting partition is SEALED for the same tenant. -/
def execFsStart (who : Fin 16) (part : PartIx) (partnerOk : Bool) (s : State) : Res :=
  .next (s.command who.val (0x5400 + part.val) (s.authPlain who.val) (fun s => s.fsStart part.val partnerOk))

/-- FS_STOP. -/
def execFsStop (who : Fin 16) (part : PartIx) (s : State) : Res :=
  .next (s.command who.val (0x5400 + part.val) (s.authPlain who.val) (fun s =>
    ((s.dropStream part.val).setStarter part.val { s.starter part.val with st := 0 }).answer 0))

/-- The records that fit one frame. -/
def frameRecords (room : Nat) : List MirRec → List MirRec
  | [] => []
  | r :: rest => if r.size > room then [] else r :: frameRecords (room - r.size) rest

/-- Bytes padded to whole sectors. -/
def padSectors (bs : List Byte) : List Byte := bs ++ List.replicate ((32 - bs.length % 32) % 32) 0#8

/-- The CUT records among those sent: FS_LASTCUT, and the first after START ends SYNCING once both engines have sent one. -/
def Starter.cutsSent (x : Starter) (e : Nat) (rs : List MirRec) : Starter :=
  rs.foldl (fun x r =>
    if r.kind = 7 then
      let t := Tab.set 0 x.sent e (r.keyv + 1)
      { x with lastCut := r.keyv, sent := t, st := if x.st = 1 ∧ Tab.get 0 t 0 ≠ 0 ∧ Tab.get 0 t 1 ≠ 0 then 2 else x.st }
    else x) x

/-- Sends the partition's records of an engine in MIRROR frames while the flow has room. -/
def State.sendMirror (e p : Nat) : Nat → State → State
  | 0, s => s
  | n + 1, s =>
    let l := (Tab.get [] s.fabric.out e).filter (fun r => decide (r.part = p))
    let rs := frameRecords s.mtu l
    if rs.isEmpty then s
    else
      let pay := padSectors (rs.flatMap MirRec.bytes)
      let f := s.fresh
      let h : Hdr := { type := tMirror, last := true, plen := pay.length, dst := s.val (0x5400 + p) 1 0xFFFF, rclass := 0,
                       addr := f.2 % 2 ^ 56, msg := s.freeMsg e, msectm1 := pay.length / 32 - 1 }
      match f.1.sendData e h (some p) 0#128 pay with
      | none => s
      | some t =>
        let t1 := { t with fabric := { t.fabric with
          out := Tab.modify [] t.fabric.out e (fun l => rs.foldl (fun l r => l.erase r) l)
          msgNext := Tab.set 0 t.fabric.msgNext e ((s.freeMsg e + 1) % 65536) } }
        State.sendMirror e p n (t1.setStarter p ((t1.starter p).cutsSent e rs))

/-- CUT_SEND (R453): at a bell that is a multiple of FS_PERIOD the CUT joins the stream behind every record its stalls have emitted; the
stream goes out while the flow has room. -/
def execCutSend (engine : Fin 2) (part : PartIx) (s : State) : Res :=
  let e := engine.val
  let p := part.val
  let x := s.starter p
  .next (if x.st ≠ 1 ∧ x.st ≠ 2 then s
    else
      let b := s.bell.count
      let s1 := if b % s.val (0x5400 + p) 3 1000 = 0 ∧ Tab.get 0 x.placed e ≠ b + 1 then
          (s.mirrorTo e ⟨7, p, 0, 0, 0, 0#16, b, leBytes 8 b ++ leBytes 8 x.generation ++ leBytes 16 0⟩).setStarter p { x with placed := Tab.set 0 x.placed e (b + 1) }
        else s
      State.sendMirror e p (Tab.get [] s1.fabric.out e).length s1)

/-! ## The host (R451, R453, R454) -/

/-- Bytes that the log and the image take in the starter region. -/
def Hosted.used (h : Hosted) : Nat :=
  h.log.foldl (fun a r => a + r.2.size) 0 + h.ranges.foldl (fun a r => a + r.2.2.1) 0

/-- Bytes that its ranges take once the log is applied. -/
def Hosted.mapped (h : Hosted) : Nat :=
  h.ranges.foldl (fun a r => a + r.2.2.1) 0 + h.log.foldl (fun a r => if r.2.kind = 3 then a + leNat (r.2.body.take 8) else a) 0

/-- MIRROR_FRAME (R453 to R455): the records of a frame join the log in the order of the flow; without room the frame is not accepted, and one
whose MAP would exceed the starter region is refused. -/
def execMirrorFrame (engine : Fin 2) (s : State) : Res :=
  let e := engine.val
  match s.fabric.rxQ.find? (fun r => decide (r.port / 9 = e ∧ frType r.hdr = tMirror ∧ frPsn r.hdr = (s.flow e (frSrc r.hdr)).cum)) with
  | none => .next s
  | some r =>
    let src := frSrc r.hdr
    match s.hostedOf src with
    | none => .next ((s.dropRx r).refuseFrame e r.hdr r.ce 2 1)
    | some p =>
      let h := s.hosted p
      let rs := (parseRecords p (r.payload.length / 16) r.payload).map (fun x => (e, x))
      let h1 := { h with st := if h.st = 0 then 1 else h.st, log := h.log ++ rs }
      if rs.any (fun r => decide (r.2.kind = 3)) ∧ h1.mapped > s.val (0x5410 + p) 2 0 * 1000000000 then .next ((s.dropRx r).refuseFrame e r.hdr r.ce 2 2)
      else if h1.used > s.val (0x5410 + p) 2 0 * 1000000000 then .next s.waits
      else .next (((s.setHosted p h1).dropRx r).accept e src (frPsn r.hdr) r.ce)

def imageKey (ctx va : Nat) : Nat := ctx * 2 ^ 51 + va / 32

/-- A FOLD record added into the image; anchored-128 elements lie on the grid of the record's anchor. -/
def imageFold (r : MirRec) (old : BitVec 256) : BitVec 256 :=
  (mergeSector r.fmt r.anchor old (bytesSector r.body) r.emask).1

/-- One record applied to the image (R453). -/
def Hosted.apply (h : Hosted) (r : MirRec) : Hosted :=
  let k := imageKey r.ctx r.keyv
  let w (off n : Nat) : Nat := leNat ((r.body.drop off).take n)
  match r.kind with
  | 0 => { h with image := Tab.set 0#256 h.image k (bytesSector r.body) }
  | 1 => { h with image := Tab.set 0#256 h.image k (imageFold r (Tab.get 0#256 h.image k)) }
  | 2 => { h with image := Tab.set 0#256 h.image k 0#256 }
  | 3 => { h with ranges := h.ranges.filter (fun x => !decide (x.1 = r.ctx ∧ x.2.1 = r.keyv)) ++ [(r.ctx, r.keyv, w 0 8, BitVec.ofNat 32 (w 8 4))] }
  | 4 =>
    let gone := h.ranges.filter (fun x => decide (x.1 = r.ctx ∧ x.2.1 = r.keyv))
    { h with
      ranges := h.ranges.filter (fun x => !decide (x.1 = r.ctx ∧ x.2.1 = r.keyv))
      image := h.image.filter (fun e => !gone.any (fun x => decide (imageKey x.1 x.2.1 ≤ e.1 ∧ e.1 < imageKey x.1 (x.2.1 + x.2.2.1)))) }
  | 5 => { h with queues := Tab.set 0 h.queues r.keyv (leNat r.body) }
  | 6 => { h with qdone := Tab.set 0 h.qdone r.keyv (w 0 8), qctr := Tab.set 0 h.qctr r.keyv (w 8 8) }
  | 8 =>
    let x := Window.ofBody r.body
    { h with windows := Tab.set Window.blank h.windows r.keyv (if x.enabled then x else Window.blank) }
  | _ => h

/-- The cuts of an engine in the log. -/
def Hosted.cuts (h : Hosted) (e : Nat) : List Nat := (h.log.filter (fun r => decide (r.1 = e ∧ r.2.kind = 7))).map (fun r => r.2.keyv)

/-- Splits the log at CUT(b) of each engine: what comes before in its engine's stream, and what stays. -/
def splitLog (b : Nat) : List (Nat × MirRec) → List Nat → List MirRec × List (Nat × MirRec)
  | [], _ => ([], [])
  | r :: rest, past =>
    if past.contains r.1 then
      let x := splitLog b rest past
      (x.1, r :: x.2)
    else
      let x := splitLog b rest (if r.2.kind = 7 ∧ r.2.keyv = b then r.1 :: past else past)
      (r.2 :: x.1, x.2)

/-- CUT_APPLY (R453): the log is applied up to the latest CUT that has come from both engines. -/
def execCutApply (part : PartIx) (s : State) : Res :=
  let p := part.val
  let h := s.hosted p
  match ((h.cuts 0).filter (fun b => (h.cuts 1).contains b)).getLast? with
  | none => .next s
  | some b =>
    let x := splitLog b h.log []
    .next (if h.st = 1 then s.setHosted p { x.1.foldl Hosted.apply h with log := x.2, cut := b } else s)

/-! ## Takeover (R456 to R459, Table 14-9) -/

/-- FH_CTXMAP: the standby context of a source context. -/
def State.ctxMap (s : State) (p c : Nat) : Option Nat :=
  (((List.range 64).map (fun i => s.val (0x5420 + p) (i + 1) 0)).find? (fun v => decide (v / 2 ^ 16 % 4096 = c))).map (· % 4096)

/-- The base of the source's fabric-receive reservation: no record carries it, so it is taken as the lowest mirrored ring or LANDING
window, at the start of its row of frames. -/
def Hosted.sourceBase (h : Hosted) : Nat :=
  let rings := h.queues.flatMap (fun e => [e.2 / 2 ^ 304 % 2 ^ 48, e.2 / 2 ^ 256 % 2 ^ 48])
  let wins := (h.windows.filter (fun e => e.2.kind = 1)).map (fun e => e.2.base)
  (minNat (rings ++ wins)).getD 0 / 0x400000 * 0x400000

/-- The fabric-receive reservation of the hosting partition. -/
def State.fabricRsv (s : State) (p : Nat) : Option Nat :=
  (s.market.rsv.find? (fun e => decide (e.2.kind = rsvFabric ∧ e.2.part = p))).map (fun e => e.2.base)

/-- A mirrored descriptor as the queue that the partner activates (R361). -/
def State.mirroredQueue (s : State) (p ctx rebase : Nat) (h : Hosted) (q v : Nat) : Queue :=
  let f (hi lo : Nat) : Nat := v / 2 ^ lo % 2 ^ (hi - lo + 1)
  let c := Tab.get 0 h.qdone q
  let mine := (List.range 32).foldl (fun a k => if s.clusterPart k = some p then a + 2 ^ k else a) 0
  { Queue.blank with
    st := qMigrating, prod := f 476 475, cls := f 474 472, rcls := f 471 469, order := Nat.testBit v 468, latedrop := Nat.testBit v 467
    sealed := Nat.testBit v 466, logsz := f 465 462, maxinfl := f 461 454 + 1, weight := f 453 446, ctx := ctx, ebench64 := f 433 421
    msix := f 420 410, retry := Nat.testBit v 409, mirq := Nat.testBit v 408, clmask := BitVec.ofNat 32 (f 383 352) &&& BitVec.ofNat 32 mine
    sq := f 351 304 - h.sourceBase + rebase, cq := f 303 256 - h.sourceBase + rebase, arrived := c, taken := c, completed := c, ctr := Tab.get 0 h.qctr q }

/-- Step 2: one mirrored queue is activated, or the refusal recorded. -/
def State.activateQueue (p : Nat) (h : Hosted) (s : State) (e : Nat × Nat) : State :=
  let no (s : State) : State := s.event 0x50 2 e.1 0
  match s.ctxMap p (e.2 / 2 ^ 434 % 4096), s.fabricRsv p with
  | some c, some base =>
    let x := s.mirroredQueue p c base h e.1 e.2
    if (s.queue e.1).st ≠ qFree ∨ ¬ ((s.ctx c).active ∧ (s.ctx c).part = p) ∨ !s.ringsHoused x p ∨ s.ringsMeet e.1 x then no s
    else s.setQueue e.1 x
  | _, _ => no s

/-- A free block of a starter region. -/
def State.freeRegion (s : State) (p : Nat) (big : Bool) : Option (Nat × Nat) :=
  let size := pageBytes big
  (s.partQuarters p).findSome? (fun q =>
    let lo := s.homeLimit q
    let hi := lo + s.starterShare p
    let taken := s.homesTaken q
    let cands := ((lo + size - 1) / size * size) :: taken.map (fun t => (t.1 + t.2 + size - 1) / size * size)
    (minNat (cands.filter (fun a => decide (lo ≤ a ∧ a + size ≤ hi) && taken.all (fun t => decide (a + size ≤ t.1 ∨ t.1 + t.2 ≤ a))))).map (fun a => (q, a)))

/-- The pages of a mirrored range become pages of a standby context; their homes hold the image. -/
def State.mapPages (p ctx srcCtx : Nat) (attr : Word) (image : Tab (BitVec 256)) : List Nat → State → Option State
  | [], s => some s
  | va :: rest, s =>
    let big := attrPS attr
    match s.freeRegion p big with
    | none => none
    | some (q, a) =>
      let s1 := s.zeroHbm (q * 2 ^ 38 + a) (pageBytes big)
      let lo := imageKey srcCtx va
      let mine := image.filter (fun e => decide (lo ≤ e.1 ∧ e.1 < lo + pageBytes big / 32))
      let s2 := mine.foldl (fun s e => s.setHbmSector ((q * 2 ^ 38 + a) / 32 + (e.1 - lo)) ⟨e.2, 0#16⟩) s1
      let pg : Page := { Page.blank with v := true, ctx := ctx, va := va, big := big, attr := attr, home := a, quarter := q }
      State.mapPages p ctx srcCtx attr image rest (s2.setPage (pageKey ctx va) pg)

/-- Step 3: one range is mapped into its standby context, or skipped and recorded. `ready` are the standby contexts that were empty. -/
def State.mapRange (p src : Nat) (h : Hosted) (ready : List Nat) (s : State) (r : Nat × Nat × Nat × Word) : State :=
  let no (s : State) : State := s.event 0x40 3 src 3
  match s.ctxMap p r.1 with
  | none => no s
  | some c =>
    let attr := r.2.2.2
    let n := r.2.2.1 / pageBytes (attrPS attr)
    if !ready.contains c ∨ s.rangeMeets c r.2.1 r.2.2.1 ∨ s.ctxUsed c + r.2.2.1 / 1024 > (s.ctx c).hbmQuota * 1024
        ∨ s.tablesOf (s.pager.ranges ++ [⟨c, r.2.1, r.2.2.1, attr, false, 0, 0, false⟩]) p > s.pager.policy.tablePool p * 2 ^ 20 then no s
    else
      match State.mapPages p c r.1 attr h.image ((List.range n).map (fun i => r.2.1 + i * pageBytes (attrPS attr))) s with
      | none => no s
      | some t => t.addRange ⟨c, r.2.1, r.2.2.1, attr, false, 0, 0, false⟩

/-- Step 3: one window is recreated under its number, or skipped and recorded. -/
def State.mapWindow (p src : Nat) (h : Hosted) (s : State) (e : Nat × Window) : State :=
  let no (s : State) : State := s.event 0x40 3 src 3
  let w := e.2
  if (s.window' e.1).enabled then no s
  else if w.kind = 1 then
    match s.fabricRsv p with
    | none => no s
    | some base =>
      let x := { w with part := p, base := w.base - h.sourceBase + base }
      if (s.rsvHolds rsvFabric p x.base x.bytes).isNone
          ∨ s.fabric.windows.any (fun y => y.2.enabled && decide (y.2.kind = 1) && spansMeet x.base x.bytes y.2.base y.2.bytes) then no s
      else s.setWindow e.1 x
  else
    match s.ctxMap p w.ctx with
    | none => no s
    | some c => if (s.ctx c).active ∧ (s.ctx c).part = p then s.setWindow e.1 { w with part := p, ctx := c } else no s

/-- The standby contexts of a hosting partition that are ACTIVE and empty. -/
def State.emptyCtxs (s : State) (p : Nat) : List Nat :=
  (s.pager.ctxs.filter (fun e => e.2.active && decide (e.2.part = p) && !s.pager.ranges.any (fun r => r.ctx = e.1))).map (·.1)

/-- Devices of FS_NOTIFY. -/
def State.notifyList (s : State) : List Nat :=
  (((List.range 16).flatMap (fun i => (List.range 255).map (fun j => s.val (0x5430 + i) (j + 1) 0xFFFF))).filter (· ≠ 0xFFFF)).eraseDups

/-- Step 4: a REDIRECT to one device, kept as a message. -/
def State.openRedirect (p : Nat) (s : State) (dst : Nat) : State :=
  let e := s.recordEngine p
  let n := s.freeMsg e
  let s1 := s.openMsg (Msg.blank e 256 tRedirect dst)
  s1.setHosted p { s1.hosted p with redirects := (s1.hosted p).redirects ++ [(e, n)] }

/-- REDIRECTs of a takeover that have not been sent go out while their flows have room. -/
def State.sendRedirects (s : State) (p old : Nat) : State :=
  (s.hosted p).redirects.foldl (fun s k =>
    match s.fabric.msgs.find? (fun m => decide (m.engine = k.1 ∧ m.num = k.2 ∧ m.kind = tRedirect ∧ m.sent = 0 ∧ m.ended = 0)) with
    | none => s
    | some m =>
      let h : Hdr := { type := tRedirect, last := true, dst := m.dst, msg := m.num, body := old * 2 ^ 240 + s.selfId * 2 ^ 224 }
      match s.sendData k.1 h (some p) 0#128 [] with
      | none => s
      | some t => t.sentOne k.1 k.2 false) s

/-- A takeover begins (R456). -/
def State.beginTakeover (s : State) (p : Nat) : State :=
  let h := s.hosted p
  ((s.setHosted p { h with st := 2, started := s.bell.count, redirects := [] }).fbCount 7 1).event 0x40 3 (s.val (0x5410 + p) 1 0xFFFF) 0

/-- TAKEOVER (Table 14-9): steps 1 to 4; then the REDIRECTs that could not go out at once. With 8 aliases in force already the takeover
fails. -/
def State.takeover (s : State) (p : Nat) : State :=
  let h := s.hosted p
  let src := s.val (0x5410 + p) 1 0xFFFF
  if h.st ≠ 2 then s
  else if h.redirects ≠ [] then s.sendRedirects p src
  else if s.fabric.aliases.length ≥ 8 then s.setHosted p { h with st := 4 }
  else
    let s1 := (s.setHosted p { h with log := [] }).event 0x40 3 src 1
    let s2 := (h.queues.foldl (State.activateQueue p h) s1).event 0x40 3 src 2
    let s3 := h.ranges.foldl (State.mapRange p src h (s2.emptyCtxs p)) s2
    let s4 := (h.windows.foldl (State.mapWindow p src h) s3).event 0x40 3 src 3
    let s5 := { s4 with fabric := { s4.fabric with aliases := s4.fabric.aliases ++ [(src, p)] } }
    let s6 := (s5.notifyList ++ (if s5.notifyList.contains src then [] else [src])).foldl (State.openRedirect p) s5
    ((s6.setHosted p { s6.hosted p with started := s6.bell.count }).sendRedirects p src).event 0x40 3 src 4

def execTakeover (part : PartIx) (s : State) : Res := .next (s.takeover part.val)

/-- FH_CMD TAKEOVER. -/
def execFhTakeover (who : Fin 16) (part : PartIx) (s : State) : Res :=
  .next (s.command who.val (0x5410 + part.val) (s.authPlain who.val) (fun s =>
    if (s.hosted part.val).st ≠ 1 then s.answer 0x0402 else ((s.beginTakeover part.val).takeover part.val).answer 0))

/-- FH_CMD DISCARD. -/
def execFhDiscard (who : Fin 16) (part : PartIx) (s : State) : Res :=
  let p := part.val
  .next (s.command who.val (0x5410 + p) (s.authPlain who.val) (fun s =>
    if (s.hosted p).st = 2 then s.answer 0x0402
    else
      let s1 := s.setHosted p Hosted.blank
      { s1 with fabric := { s1.fabric with aliases := s1.fabric.aliases.filter (fun a => decide (a.2 ≠ p)) } }.answer 0))

/-- REDIRECT_COMPLETE (Table 14-9, steps 5 and 6): every REDIRECT is acknowledged, or FH_REDIRECT_WAIT has passed. -/
def execRedirectComplete (part : PartIx) (s : State) : Res :=
  let p := part.val
  let h := s.hosted p
  let open' (k : Nat × Nat) : Bool := s.fabric.msgs.any (fun m => decide (m.engine = k.1 ∧ m.num = k.2 ∧ m.kind = tRedirect) && !m.complete s.mtu)
  .next (if h.st ≠ 2 ∨ h.redirects = [] then s
    else if h.redirects.any open' ∧ s.bell.count < h.started + s.val (0x5410 + p) 4 500 * 1000 then s
    else
      let s1 := { s with fabric := { s.fabric with
        msgs := s.fabric.msgs.filter (fun m => !(decide (m.kind = tRedirect) && h.redirects.contains (m.engine, m.num))) } }
      let s2 := h.queues.foldl (fun s e =>
        if (s.queue e.1).st = qMigrating then (s.setQueue e.1 { s.queue e.1 with st := qEnabled }).settleBells e.1 else s) s1
      (s2.setHosted p { h with st := 3, redirects := [] }).event 0x40 3 (s.val (0x5410 + p) 1 0xFFFF) 6)

/-! ## A lost peer (R447, R448, R455) -/

/-- PEER_LOST: a peer of the beat list, or with an open flow, has not been heard for FB_BEAT_TIMEOUT. -/
def execPeerLost (peer : Fin 65536) (s : State) : Res :=
  let p := peer.val
  let x := s.peer p
  let watched := s.beatList.contains p || (s.flow 0 p).open' || (s.flow 1 p).open'
  .next (if !watched ∨ x.st ≥ 2 ∨ s.bell.count < x.lastHeard + s.val 0x5030 2 20 * 1000 then s
    else
      let s1 := (s.endMessagesTo p 3).endColls (fun c => (s.group c.group).contains p) 3
      let s2 := ((s1.settleColls.discardFlows p).setPeer p { x with st := 2 }).fbCount 6 1
      let s3 := (s2.event 0x40 2 p 2).stopStarters p
      match s3.hostedOf p with
      | some q => if (s3.hosted q).st = 1 ∧ s3.val (0x5410 + q) 3 1 = 1 then s3.beginTakeover q else s3
      | none => s3)

end Sys2Proof.Machine
end

