-- ==== Sys2Proof/Machine/Device.lean ====
section
/-!
DEFINITION. What resets, losses and boots share (chapter 21): the device state, drain and absorb, storage clearing, moves to a spare site,
readiness, entry to SAFE.
-/

namespace Sys2Proof.Machine
open Sys2Proof

def State.onDev (s : State) (f : Device → Device) : State := { s with dev := f s.dev }

/-- The answer of a step as a state. -/
def Res.get (r : Res) (s : State) : State := match r with | .next t => t | _ => s

/-! ## The device state (R593, R603) -/

/-- The device state changes: EVTSTAT bit 0 (Table 15-4). -/
def State.setDev (s : State) (st : Nat) : State := if s.dev.st = st then s else (s.onDev (fun d => { d with st := st })).raiseEvt 0

/-- A market group is capped: it has failed regulators (R507). -/
def State.groupCapped (s : State) : Bool := !s.power.mktFailed.isEmpty

/-- Every condition of readiness holds (R603). -/
def State.allReady (s : State) : Bool :=
  (List.range 18).all (fun i => s.unit ukPort i = usReady) && (List.range 16).all (fun i => s.unit ukStack i = usReady && s.unit ukRunner i = usReady)
    && (List.range 256).all (fun c => s.unit ukCore c = usReady)
    && (List.range 256).all (fun c => match Tab.get 0 s.dev.stallSite c with | 0 => true | n + 1 => s.unit ukStall n ≠ usRetired)
    && !s.groupCapped

/-- Cores enabled and not RETIRED (DEV_CORES). -/
def State.coresEnabled (s : State) : Nat :=
  ((List.range 256).filter (fun c => Tab.get 0 s.dev.coreSite c ≠ 0 && s.unit ukCore c ≠ usRetired)).length

def State.anyPort (s : State) : Bool := (List.range 18).any (fun i => s.inService ukPort i)

/-- In service: READY or READY-DEGRADED. -/
def State.serving (s : State) : Bool := decide (s.dev.st = devReady ∨ s.dev.st = devDegraded)

/-! ## Sites and spares (R17 to R21) -/

/-- The physical site of a logical core. -/
def State.siteOf (s : State) (c : Nat) : Option Nat := match Tab.get 0 s.dev.coreSite c with | 0 => none | n + 1 => some n

/-- The logical core at a site. -/
def State.coreAt (s : State) (site : Nat) : Option Nat := (List.range 8).map (· + 8 * (site / 9)) |>.find? (fun c => s.siteOf c = some site)

def State.sensorFailed (s : State) (n : Nat) : Bool := (Tab.get Sensor.blank s.thermal.sensors n).failed

/-- The sensors of a site and of its stall are healthy (R531). -/
def State.siteSensed (s : State) (site : Nat) : Bool :=
  !s.sensorFailed (2 * site) && !s.sensorFailed (2 * site + 1) && !s.sensorFailed (576 + site)

/-- The usable spare site of a cluster, if any. -/
def State.spareOf (s : State) (k : Nat) : Option Nat :=
  if !s.inService ukCluster k then none else
  ((List.range 9).map (· + 9 * k)).find? (fun n =>
    !Tab.get false s.dev.siteBad n && (s.coreAt n).isNone && s.siteSensed n && !s.dev.moves.any (fun m => m.newSite = n ∨ m.oldSite = n)
      && !(List.range 8).any (fun i => Tab.get 0 s.dev.stallSite (8 * k + i) = n + 1))

/-- The spare that a move may take: its own regulator is healthy too (R506). -/
def State.spareFor (s : State) (k : Nat) : Option Nat := (s.spareOf k).filter (fun n => !s.power.failed.contains n)

def State.markSite (s : State) (site : Nat) : State := s.onDev (fun d => { d with siteBad := Tab.set false d.siteBad site true })

/-! ## Drain and absorb (R605, R153, R197, R206, R358) -/

/-- A core after a reset: the bench with its masks and CANCEL bits stays, with the records that wait for room in the cluster's queues. -/
def Core.reset (x : Core) : Core :=
  { Core.blank with
    bench := x.bench, benchChk := x.benchChk, blkTaint := x.blkTaint, blkCancel := x.blkCancel, hold := x.hold, overrun := x.overrun
    heldTraps := x.heldTraps, heldComp := x.heldComp, heldReject := x.heldReject }

/-- Copies still outstanding at the end of a drain are performed or not, which R605 leaves unspecified: a free value decides each. -/
def State.absorbCopies (c : Nat) : Nat → State → State
  | 0, s => s
  | n + 1, s =>
    if (s.core c).copyQ.isEmpty then s
    else
      let f := s.fresh
      let s1 := if f.2 % 2 = 1 then
          match execCopyComplete (Fin.ofNat 256 c) f.1 with
          | .next t => if (t.core c).copyQ.length < (s.core c).copyQ.length then t else f.1.onCore c (fun x => { x with copyQ := x.copyQ.drop 1 })
          | _ => f.1
        else f.1.onCore c (fun x => { x with copyQ := x.copyQ.drop 1 })
      State.absorbCopies c n s1

/-- Every lock of the core is released before its incarnation count rises (R146, R153). -/
def State.freeLocks (s : State) (c : Nat) : State := ((s.releaseLocks c (fun _ => true)).getD s).onCore c (fun x => { x with locks := [] })

/-- What a core still holds at the end of a drain is abandoned: outstanding copies, its task (R358), a task sent to it, its local queue. -/
def State.absorbCore (s : State) (c : Nat) : State :=
  let s1 := State.absorbCopies c (s.core c).copyQ.length s
  let s2 := s1.freeLocks c
  let s3 := if (s2.core c).task.source = 0 then s2 else s2.endTask c 2
  let s4 := match (s3.core c).dispatched with
    | some t => s3.taskEnded t.queue t.entry 2 c t.taint
    | none => s3
  let x := s4.core c
  let s5 := (x.localQ.zip x.localTaint).foldl (fun s e => s.completeLocal c (compRecord c 2 e.2 (bits 71 56 e.1))) s4
  s5.onCore c Core.reset

/-- The incarnation count rises (R145). -/
def State.reincarnate (s : State) (c : Nat) : State :=
  let r := s.unitRec ukCore c
  s.setUnit ukCore c { r with incarn := (r.incarn + 1) % 256 }

/-- A reset notice (R610): needs no reply. -/
def State.notice (s : State) (c : Nat) : State :=
  let r := trapRecord 0xF0 c 0 0 false false 0 (s.unit ukCore c % 16 * 2 ^ 48 + s.bell.count % 2 ^ 48)
  let k := s.cluster (coreCluster c)
  if k.trapQ.length ≥ 64 ∨ (s.core c).heldTraps ≠ [] then s.onCore c (fun x => { x with heldTraps := x.heldTraps ++ [r] })
  else s.setCluster (coreCluster c) ({ k with trapQ := k.trapQ ++ [r] }.raise 1)

/-- A unit in service begins to drain (R602). -/
def State.drainUnit (s : State) (kind i reason : Nat) : State := if s.inService kind i then s.moveUnit kind i usDraining reason else s

/-- A drained runner: jobs in progress are abandoned, its bound channels show STOPPED (R303). -/
def State.stopRunner (s : State) (r : Nat) : State :=
  (List.range 64).foldl (fun s ch =>
    if (s.chan r ch).bound then (s.onChan r ch (fun x => { x with run := none })).chanState r ch 5 else s) s

/-! ## Storage clearing (R559) -/

/-- The device-local address lies in the quarter's HBM space or market direct space. -/
def inQuarter (qs : List Nat) (a : Nat) : Bool :=
  if isHbmAddr a then qs.contains (a / 2 ^ 38) else isDirectAddr a && qs.contains (directQuarter a)

/-- Storage clearing of quarters: frames that are not CACHE hold zeros, cached lines go without write-back, the cores' stores are zero. -/
def State.clearStorage (s : State) (qs : List Nat) : State :=
  let m := s.market
  { s with
    market := { m with
      sectors := m.sectors.filter (fun e => !inQuarter qs (32 * e.1))
      lines := m.lines.filter (fun e => !inQuarter qs (128 * e.1))
      shWays := m.shWays.filter (fun e => !inQuarter qs (128 * e.1))
      closed := m.closed.filter (fun c => !inQuarter qs (128 * c.line))
      foldQ := m.foldQ.filter (fun e => !qs.contains (e.1 / 64)) }
    cores := Tab.mapVals Core.blank (fun c x => if qs.contains (c / 64) then
      { Core.blank with hold := x.hold, overrun := x.overrun, heldTraps := x.heldTraps, heldComp := x.heldComp, heldReject := x.heldReject }
      else x) s.cores }

/-- A partition draws an HBM key (R553, R554). -/
def State.drawKey (s : State) (p : Nat) : State :=
  State.rekeyedFrom s { s with sec := { s.sec with hbmKeys := Tab.modify 0 s.sec.hbmKeys p (· + 1) } }

/-! ## The objects of a partition (Table 21-7) -/

/-- Its contexts, ranges, pages, queues, windows, channels and open epochs go. -/
def State.clearPartition (s : State) (p : Nat) : State :=
  let mine (c : Nat) : Bool := decide ((s.ctx c).active ∧ (s.ctx c).part = p)
  let open' := maskWhere 0xFFFF#16 (fun e => decide ((s.epoch e).st = 1 ∧ (s.epoch e).part = p))
  let s1 := if open' = 0#16 then s else s.cancelEpochs open' 2 whoSelf
  let f := s1.fabric
  let s2 := { s1 with
    sched := { s1.sched with queues := s1.sched.queues.filter (fun e => !mine e.2.ctx) }
    fabric := { f with
      windows := f.windows.filter (fun e => decide (e.2.part ≠ p))
      chans := f.chans.filter (fun e => !mine e.2.ctx)
      msgs := f.msgs.filter (fun m => !decide (m.chan < 256 ∧ mine (Tab.get Chan.blank f.chans (chanKey (16 + m.engine) m.chan)).ctx))
      colls := f.colls.filter (fun c => !mine (Tab.get Chan.blank f.chans (chanKey (16 + c.engine) c.chan)).ctx)
      waits := f.waits.filter (fun w => !mine (Tab.get Chan.blank f.chans (chanKey (16 + w.engine) w.chan)).ctx) } }
  let s3 := (s2.pager.pages.filter (fun e => mine e.2.ctx)).foldl (fun s e => s.freePage e.1) s2
  { s3 with pager := { s3.pager with
    ranges := s3.pager.ranges.filter (fun r => !mine r.ctx)
    ctxs := Tab.mapVals Ctx.blank (fun c x => if mine c then { Ctx.blank with faults := x.faults } else x) s3.pager.ctxs
    pinWait := s3.pager.pinWait.filter (fun w => !mine w.2.1) } }

/-! ## Readiness and SAFE (R603, R604, R420) -/

/-- Entry to SAFE: every core drains; resets and moves that run are given up. -/
def State.enterSafe (s : State) (cause : Nat) : State :=
  if s.dev.st = devSafe then s
  else
    let s1 := (s.setDev devSafe).onDev (fun d =>
      { d with safeCause := cause, moves := [], assign := [], resets := [⟨7, 0, false, false, 0⟩] })
    let s2 := (List.range 256).foldl (fun s c => s.drainUnit ukCore c 0) s1
    s2.event 0x10 (0x8000 + s2.dev.bootStep) 0 cause

/-- After a unit has changed state: SAFE where Table 21-4 says so, otherwise READY becomes READY-DEGRADED; lost clusters are recorded (R359). -/
def State.settleUnits (s : State) : State :=
  let s0 := s.queuesLost
  if !s0.serving then s0
  else if !s0.anyPort then s0.enterSafe 1
  else if s0.coresEnabled = 0 then s0.enterSafe 4
  else if s0.dev.st = devReady && !s0.allReady then s0.setDev devDegraded
  else s0

/-! ## Losses of cores (R21, R608) -/

def State.moveOf (s : State) (c : Nat) : Option MoveRun := s.dev.moves.find? (fun m => m.core = c)
def State.setMove (s : State) (m : MoveRun) : State :=
  s.onDev (fun d => { d with moves := d.moves.map (fun x => if x.core = m.core then m else x) })
def State.dropMove (s : State) (c : Nat) : State := s.onDev (fun d => { d with moves := d.moves.filter (fun m => m.core ≠ c) })
def State.dropRun (s : State) (p : ResetRun → Bool) : State := s.onDev (fun d => { d with resets := d.resets.filter (fun r => !p r) })

/-- A core becomes RETIRED; the control core gets a notice (R20, R610). -/
def State.retireCore (s : State) (c reason : Nat) : State := ((s.dropMove c).moveUnit ukCore c usRetired reason).notice c

/-- A core is lost: it drains, and a move to the cluster's spare begins when there is one (`newSite` 288: none). -/
def State.loseCore (s : State) (c reason : Nat) : State :=
  match s.siteOf c with
  | none => s
  | some site =>
    let u := s.unit ukCore c
    if (s.moveOf c).isSome ∨ u = usOff ∨ u = usRetired then s
    else
      let s1 := (s.markSite site).dropRun (fun r => decide (r.scope = 1 ∧ r.index = c ∨ (r.scope = 5 ∨ r.scope = 6) ∧ r.index = unitKey ukCore c))
      let spare := (s1.spareFor (c / 8)).getD 288
      (s1.onDev (fun d => { d with moves := d.moves ++ [⟨c, site, spare, false, false, false, reason⟩] })).drainUnit ukCore c reason

/-- The placed pages that a stall holds. -/
def State.pagesAt (s : State) (st : Nat) : List Nat :=
  (s.pager.pages.filter (fun e => decide (e.2.loc = 1) && (List.range (pageFrames e.2.big)).any (fun i =>
    decide (frameStall (e.2.frame / 20480) (e.2.frame % 20480 + i) = st)))).map (·.1)

/-- A stall is lost with no spare (Table 21-9): its placed pages are demoted, its frames become ABSENT, a reservation that it served holds fewer
bytes. -/
def State.retireStall (s : State) (st : Nat) : State :=
  match Tab.get 0 s.dev.stallSite st with
  | 0 => s
  | phys + 1 =>
    let s1 := (s.pagesAt st).foldl State.demotePage s
    let q := st / 64
    let rows := (List.range 320).map (fun r => 64 * r + st % 64)
    let s2 := rows.foldl (fun s f => s.setFrame q f .absent) s1
    let s3 := { s2 with market := { s2.market with rsv := Tab.mapVals Rsv.blank (fun _ r =>
      if r.kind ≠ 0 ∧ r.quarter = q then { r with bytes := r.bytes - 65536 * r.rows } else r) s2.market.rsv } }
    let s4 := s3.onDev (fun d => { d with stallSite := Tab.set 0 d.stallSite st 0 })
    let s5 := if s4.inService ukStall phys then (s4.moveUnit ukStall phys usDraining 5).moveUnit ukStall phys usFenced 5 else s4
    s5.moveUnit ukStall phys usRetired 5

/-- The drain of a lost core has ended: FENCED, then the move's next steps, or RETIRED where no spare is left. -/
def State.lossDrained (s : State) (m : MoveRun) : State :=
  let c := m.core
  let s1 := (s.absorbCore c).reincarnate c
  let s2 := if s1.unit ukCore c = usFenced then s1 else s1.moveUnit ukCore c usFenced m.reason
  let s3 := (s2.onCore c (fun x => { x with bench := [], benchChk := [], blkTaint := [], blkCancel := [] })).notice c
  if m.newSite ≥ 288 then
    let s4 := s3.retireCore c 11
    (if m.reason = 5 then s4.retireStall c else s4).settleUnits
  else ((s3.setMove { m with drained := true }).arm evPowerup 1 m.newSite (s3.bell.count + 2)).settleUnits

/-- A move ends: the fence table maps the core and its home stall to the spare pair; the old stall is FENCED. -/
def State.moveDone (s : State) (m : MoveRun) : State :=
  let s1 := (s.dropMove m.core).onDev (fun d =>
    { d with coreSite := Tab.set 0 d.coreSite m.core (m.newSite + 1), stallSite := Tab.set 0 d.stallSite m.core (m.newSite + 1) })
  let s2 := (s1.moveUnit ukStall m.oldSite usDraining m.reason).moveUnit ukStall m.oldSite usFenced m.reason
  let s3 := (s2.moveUnit ukStall m.newSite usTesting m.reason).moveUnit ukStall m.newSite usReady m.reason
  (s3.moveUnit ukCore m.core usReady m.reason).settleUnits

/-- A move cannot be completed: the spare is marked unusable and the core becomes RETIRED (R608). -/
def State.moveFailed (s : State) (m : MoveRun) (reason : Nat) : State := ((s.markSite m.newSite).retireCore m.core reason).settleUnits

end Sys2Proof.Machine
end

