-- ==== Sys2Proof/Machine/Switch.lean ====
section
/-!
DEFINITION. Processors that switch their bank (R585, R587): sessions and requesters that go with the security image, the switch, the return.
-/

namespace Sys2Proof.Machine
open Sys2Proof

def State.onSec (s : State) (f : Security → Security) : State := { s with sec := f s.sec }

/-! ## Requesters and sessions (R549, R561, R621) -/

/-- A requester's state goes: transactions, remembered responses, staged values, SELECT results (R621). -/
def State.releaseReq (s : State) (w : Nat) : State :=
  let mine (k : Nat) : Bool := decide (k / 2 ^ 24 = w)
  { s with dict := { s.dict with
    reqs := Tab.set Requester.blank s.dict.reqs w Requester.blank
    staged := s.dict.staged.filter (fun e => !mine e.1), selected := s.dict.selected.filter (fun e => !mine e.1)
    owed := s.dict.owed.filter (fun o => decide (o.who ≠ w)) } }

/-- Every requester's state goes (R621). -/
def State.releaseReqs (s : State) : State := { s with dict := { s.dict with reqs := [], staged := [], selected := [], owed := [] } }

/-- A session ends; its requester goes with it. -/
def State.endSession (s : State) (n : Nat) : State :=
  let ws := (List.range 16).filter (fun w => decide ((s.requester w).used ∧ (s.requester w).path = pathSession ∧ (s.requester w).source = n))
  ws.foldl State.releaseReq (s.setSession n Session.blank)

def State.endSessions (s : State) : State := (List.range 8).foldl State.endSession s

def State.onFw (s : State) (f : Firmware → Firmware) : State := { s with fw := f s.fw }
def State.setProc (s : State) (p : Nat) (x : Proc) : State := s.onFw (fun f => { f with procs := Tab.set Proc.blank f.procs p x })

/-- The image of a set (0 RUNNING, 1 STAGED, 2 FALLBACK). -/
def State.image (s : State) (set type : Nat) : Image := Tab.get Image.blank s.fw.images (4 * set + type)

def Image.content (x : Image) : List Byte := Tab.bytes 0#8 x.bytes 0 x.size

/-- The processors that run an image of a type. -/
def typeProcs (t : Nat) : List Nat := if t < 3 then [t] else (List.range 32).map (· + 32)

/-- The set that PC_SLOT names. -/
def slotSet (slot : Nat) : Nat := if slot = 2 then 2 else 1

/-- The image that a type's processors run: that of the set on trial once they have switched, else RUNNING. -/
def State.running (s : State) (t : Nat) : Image :=
  if s.fw.pcSwitched.contains t then s.image (slotSet s.fw.pcSlot) t else s.image 0 t

/-! ## Rings of firmware (R475, Table 20-3) -/

/-- Every function ring that serves is paused (FR_STATE 1), or resumes. -/
def State.pauseRings (s : State) (paused : Bool) : State :=
  let f (r : FnRing) : FnRing := if r.st = 2 then r else { r with st := if paused then 1 else 0 }
  { s with host := { s.host with rings := (List.range 4).foldl (fun t i => Tab.modify FnRing.blank t i f) s.host.rings } }

/-! ## The switch (R585) -/

/-- The processors of a type start in the other bank; a new security image ends sessions and releases requesters. -/
def State.switchType (s : State) (t : Nat) : State :=
  let s1 := (typeProcs t).foldl (fun s p =>
    let x := s.proc p
    if x.st = 0 then s else s.setProc p { x with st := 1, bank := 1 - x.bank, healthy := false, beat := 0 }) s
  if t = 0 then
    let s2 := (s1.endSessions.releaseReqs).pauseRings true
    { s2 with dict := { s2.dict with paused := true } }
  else s1

/-- The types switch in order: control cores, scheduler, power, security. -/
def switchOrder : List Nat := [3, 2, 1, 0]

def State.switchTypes (s : State) (l : List Nat) : State :=
  l.foldl (fun s t => (s.switchType t).onFw (fun f => { f with pcSwitched := f.pcSwitched ++ [t] })) s

/-- Types of the set being activated. -/
def State.setTypes (s : State) : List Nat := switchOrder.filter (fun t => (s.image (slotSet s.fw.pcSlot) t).present)

/-- VERSION of the set's first image in type order. -/
def State.setVersion (s : State) (set : Nat) : Nat :=
  match (List.range 4).find? (fun t => (s.image set t).present) with | some t => (s.image set t).version | none => 0

/-- A record of class FIRMWARE about the set of the slot. -/
def State.slotEvent (s : State) (detail : Nat) : State := s.event 0x80 detail s.fw.pcSlot (s.setVersion (slotSet s.fw.pcSlot))

/-- Every type has switched: the images are on trial. -/
def State.probation (s : State) : State := s.onFw (fun f => { f with pcState := 4 })

/-- Processors that have switched return to their previous bank, the latest first. -/
def State.switchBack (s : State) (l : List Nat) : State :=
  l.foldl (fun s t => (s.switchType t).onFw (fun f => { f with pcSwitched := f.pcSwitched.filter (· ≠ t) })) s

/-- The power core's sample boundary during SWITCHING: it switches, and the security core after it; a level-2 emergency stops the switch and the
event is DEFERRED. -/
def State.switchPower (s : State) : State :=
  if s.power.level ≥ 2 then
    let s1 := (s.switchBack s.fw.pcSwitched.reverse).onFw (fun f => { f with pcState := 2, pcRearmed := false, deferrals := f.deferrals + 1 })
    { s1 with bell := { s1.bell with
      slots := Tab.mapVals EvSlot.blank (fun _ x => if x.kind = evActivate ∧ x.bell = s.fw.pcBell ∧ x.st = esPerformed then { x with st := esDeferred } else x)
        s1.bell.slots
      performed := s1.bell.performed - 1, deferred := s1.bell.deferred + 1 } }.slotEvent 3
  else (s.switchTypes (s.setTypes.filter (· < 2))).probation

/-- The rollback ends (R587). -/
def State.rolledBack (s : State) : State :=
  let s1 := s.switchBack s.fw.pcSwitched.reverse
  (s1.slotEvent 4).onFw (fun f =>
    { f with pcState := 0, pcBell := 0, pcSwitched := [], rollbacks := f.rollbacks + 1, stgState := if f.pcSlot = 1 then 4 else f.stgState })

/-- What a power sample's boundary means for an activation. -/
def State.sampleBoundary (s : State) : State :=
  if s.fw.pcState = 3 then s.switchPower
  else if s.fw.pcState = 5 ∧ s.power.level < 2 then s.rolledBack
  else s

/-! ## Debug grants (R566) -/

/-- A level is granted. -/
def State.debugGrant (s : State) (level : Nat) : State :=
  (s.onSec (fun c => { c with dbgLevel := level, dbgWaits := false })).event 0x70 4 level 0

/-- A grant of level 2 that waited for UNSEAL takes effect once no partition has a tenant. -/
def State.settleDebug (s : State) : State :=
  if s.sec.dbgWaits && (List.range 4).all (fun p => decide ((s.seal p).tenant = 0)) then s.debugGrant 2 else s

end Sys2Proof.Machine
end

