-- ==== Sys2Proof/Machine/Power.lean ====
section
/-!
DEFINITION. Power delivery, droop, capping, operating points (chapter 17).
-/

namespace Sys2Proof.Machine
open Sys2Proof

def State.onPower (s : State) (f : Power → Power) : State := { s with power := f s.power }
def State.onThermal (s : State) (f : Thermal → Thermal) : State := { s with thermal := f s.thermal }
def State.onPins (s : State) (f : Pins → Pins) : State := { s with pins := f s.pins }
def State.onRec (s : State) (f : Recorder → Recorder) : State := { s with recorder := f s.recorder }

/-! ## Limits (R503, R505, R513, R522) -/

/-- A site works: its core is neither OFF nor RETIRED (R505). -/
def State.siteWorks (s : State) (site : Nat) : Bool :=
  match s.coreAt site with
  | some c => s.unit ukCore c ≠ usOff && s.unit ukCore c ≠ usRetired && !s.dev.moves.any (fun m => m.core = c && m.drained)
  | none => s.dev.moves.any (fun m => m.newSite = site && m.powered)

def leastOf (l : List Nat) : Nat := l.foldl (fun a b => if b < a then b else a) 64

/-- λ of a site in 64ths (R513). -/
def State.siteLimit (s : State) (site : Nat) : Nat :=
  leastOf [s.power.cap, 64 - Tab.get 0 s.thermal.cut site, if s.power.failed.contains site then 38 else 64,
    64 - Tab.get 0 s.power.domCut (site / 9), if s.power.level ≥ 2 ∨ s.power.guardHold then 16 else 64,
    if Tab.get false s.power.trimCap (site / 9) then 48 else 64]

/-- Limit of a compute domain in mA (Table 17-2). -/
def State.domainLimit (s : State) (k : Nat) : Nat :=
  let h := 9 - (s.power.failed.filter (fun r => r / 9 = k)).length
  if 4550 * h < 31500 then 4550 * h else 31500

/-- The ALERT_N pin is asserted (R664). -/
def State.alertN (s : State) : Bool :=
  decide (2 ≤ s.power.level) || s.power.guardHold || decide (s.dev.st = devSafe ∨ s.dev.st = devLatched)

/-! ## Shutdown (R501, R516, R537, R644) -/

/-- Every on-die regulator goes off and the device latches; what is written at every entry is persisted (R539, R644). -/
def State.latchOff (s : State) (trip : Bool) : State :=
  let s1 := s.onPower (fun p => { p with causes := if trip then p.causes ||| 65536 else p.causes })
  let s2 := (s1.settleLevel.linkDown.setDev devLatched).onDev (fun d => { d with resets := [], moves := [], assign := [] })
  ((s2.onPins (fun p => { p with thermtrip := p.thermtrip || trip })).onRec (fun r => { r with opsecStored := r.opsec })).onThermal (fun t =>
    { t with saved := (t.armed, t.cyclePeak, t.trough) })

/-! ## The sample (R501, R503, R514) -/

/-- P₁ times the number of samples. -/
def Power.sum (p : Power) : Nat := p.samples.foldl (· + ·) 0

/-- λ_cap after a sample of `w` W with P₁ = `sum` / `n` (R514). -/
def capAfter (env guard cap w sum n : Nat) : Nat :=
  if 10 * w > 11 * env then (if cap < 24 then 16 else cap - 8)
  else if sum + guard * n > env * n then (if cap ≤ 16 then 16 else cap - 1)
  else if sum + 2 * guard * n < env * n then (if cap < 64 then cap + 1 else 64)
  else cap

/-- Sets or clears one bit of the level-2 causes. -/
def Power.cause (p : Power) (bit : Nat) (on : Bool) : Power :=
  { p with causes := if on then p.causes ||| 2 ^ bit else p.causes - (p.causes &&& 2 ^ bit) }

/-- The capper's part of a sample. -/
def State.capper (s : State) (w : Nat) : State :=
  let env := s.val 0x2100 1 1500
  s.onPower (fun p =>
    let p1 := { p with samples := (w :: p.samples).take 50 }
    let cap := capAfter env (s.val 0x2100 2 20) p.cap w p1.sum p1.samples.length
    let low := if cap = 16 ∧ p1.sum > env * p1.samples.length then p.capLow + 1 else 0
    { p1 with cap := cap, capLow := low }.cause 8 (decide (low ≥ 10)))

/-- POWER_SAMPLE: VIN_CORE in mV, estimated package power in W, the compute domains whose current exceeds their limit. -/
def execPowerSample (vin watts : Nat) (ovr : Word) (s : State) : Res :=
  if s.dev.st = devCold ∨ s.dev.st = devLatched then .next s
  else
    let out := decide (vin < 1710 ∨ vin > 1890)
    let bad := if out then s.power.vinBad + 1 else 0
    let vinOn := decide (vin < 1746 ∨ vin > 1854)
    let was := Nat.testBit s.power.causes 10
    let s1 := s.onPower (fun p => { p with vin := vin, vinBad := bad }.cause 10 vinOn)
    if bad ≥ 2 then .next ((s1.event 0x20 (6 * 256 + s1.power.level) s1.causes vin).latchOff false)
    else
      let s2 := (s1.capper watts).onPower (fun p =>
        { p with domCut := (List.range 32).foldl (fun t k =>
            if ovr.getLsbD k then Tab.modify 0 t k (fun v => if v < 64 then v + 1 else 64) else t) p.domCut }.cause 9
          (Nat.testBit p.causes 9 && decide (ovr ≠ 0#32)))
      let s3 := s2.settleLevel
      .next (if vinOn && !was then s3.event 0x20 (6 * 256 + s3.power.level) s3.causes vin else s3).sampleBoundary

/-- CLUSTER_OVERCURRENT: a compute domain has been above its limit for 10 µs. -/
def execClusterOvercurrent (_cluster : ClusterIx) (s : State) : Res :=
  .next (if s.dev.st = devCold ∨ s.dev.st = devLatched then s else (s.onPower (fun p => p.cause 9 true)).settleLevel)

/-- LEVEL2_RELEASE: no level-2 cause has been active for 100 bells. -/
def execLevel2Release (s : State) : Res :=
  let want := causeLevel s.causes
  .next (if s.power.level = 2 ∧ want < 2 ∧ s.bell.count ≥ s.power.lastL2 + 100 then
      (s.onPower (fun p => { p with level := want })).event 0x20 (256 + want) s.causes 0
    else s)

/-! ## Regulators (R504 to R507) -/

/-- Healthy ring neighbours of a site (R506). -/
def State.ringHealth (s : State) (site : Nat) : Nat :=
  let k := site / 9
  ([(site % 9 + 1) % 9, (site % 9 + 8) % 9].filter (fun i => !s.power.failed.contains (9 * k + i))).length

/-- Working sites of a cluster with failed regulators that are not going dark yet, in order of failure. -/
def State.weakSites (s : State) (k : Nat) : List Nat :=
  s.power.failed.filter (fun r => decide (r / 9 = k) && s.siteWorks r && !s.dev.moves.any (fun m => m.oldSite = r))

/-- Keeps one of the working sites with failed regulators: the one with fewest healthy neighbours, between equals the later failure, goes dark
first (R506). -/
def State.darken (k : Nat) : Nat → State → State
  | 0, s => s
  | n + 1, s =>
    match s.weakSites k with
    | a :: b :: rest =>
      let worst := (b :: rest).foldl (fun w x => if s.ringHealth x ≤ s.ringHealth w then x else w) a
      match s.coreAt worst with
      | some c => State.darken k n (s.loseCore c 4)
      | none => s
    | _ => s

/-- The cap of a market group with `n` failed regulators, in eighths (R507). -/
def groupCap (n : Nat) : Nat := if n = 1 then 6 else if n = 2 then 4 else if n = 3 then 2 else 0

def maskOnes (m : Nat) : Nat := ((List.range 16).filter (fun i => Nat.testBit m i)).length

/-- REGULATOR_FAIL: regulator 0 to 287 of a compute cluster, 288 + 4g + i of market group g. -/
def execRegulatorFail (reg : Fin 352) (s : State) : Res :=
  let r := reg.val
  if s.dev.st = devCold ∨ s.dev.st = devLatched then .next s
  else if r < 288 then
    if s.power.failed.contains r then .next s
    else
      let s1 := (s.onPower (fun p => { p with failed := p.failed ++ [r] })).event 0x20 (512 + s.power.level) r 0
      .next ((State.darken (r / 9) 9 s1).settleUnits)
  else
    let g := (r - 288) / 4
    let old := Tab.get 0 s.power.mktFailed g
    if Nat.testBit old (r % 4) then .next s
    else
      let m := old + 2 ^ (r % 4)
      let n := maskOnes m
      let s1 := (s.onPower (fun p => { p with mktFailed := Tab.set 0 p.mktFailed g m })).event 0x20 (512 + s.power.level) r 0
      let s2 := { s1 with market := { s1.market with
        stallCap := (List.range 18).foldl (fun t i => Tab.set 0 t (18 * g + i) (groupCap n)) s1.market.stallCap } }
      .next (if n = 4 then (if s2.serving then s2.enterSafe 2 else s2.settleUnits) else s2.settleUnits)

/-! ## Droop (R511, R512) -/

/-- DROOP: a detector of the cluster reads `mv`, below DR_TH1 or (`second`) below DR_TH2. -/
def execDroop (cluster : ClusterIx) (second : Bool) (mv : Fin 65536) (s : State) : Res :=
  let k := cluster.val
  let now := Tab.get 0 s.power.stretch k
  let new := if second then 2 else if now = 2 then 2 else 1
  let old := Tab.get 0 s.power.drMin k
  .next (if s.dev.st = devCold ∨ s.dev.st = devLatched then s
    else s.onPower (fun p =>
      { p with
        stretch := Tab.set 0 p.stretch k new
        stretch1 := if new = 1 ∧ now = 0 then p.stretch1 + 1 else p.stretch1
        stretch2 := if new = 2 ∧ now ≠ 2 then p.stretch2 + 1 else p.stretch2
        drMin := if old = 0 ∨ mv.val < old / 2 ^ 48 then Tab.set 0 p.drMin k (mv.val * 2 ^ 48 + s.bell.count % 2 ^ 48) else p.drMin }))

/-- DROOP_RECOVER: every detector of the cluster has been above DR_TH1 for 16 cycles. -/
def execDroopRecover (cluster : ClusterIx) (s : State) : Res :=
  .next (s.onPower (fun p => { p with stretch := Tab.set 0 p.stretch cluster.val 0 }))

/-- DR_CLEAR. -/
def execDrClear (who : Fin 16) (s : State) : Res :=
  .next (s.command who.val 0x2131 (s.authPlain who.val) (fun s => (s.onPower (fun p => { p with drMin := [] })).answer 0))

/-! ## Operating points (R517 to R522) -/

/-- V_k(n) of a cluster in mV. -/
def State.volts (s : State) (k n : Nat) : Nat := Tab.get 0 s.power.volt n + Tab.get 0 s.power.trim k

/-- The cluster has an enabled core. -/
def State.clusterUsed (s : State) (k : Nat) : Bool :=
  (List.range 8).any (fun i => Tab.get 0 s.dev.coreSite (8 * k + i) ≠ 0 && s.unit ukCore (8 * k + i) ≠ usRetired)

def State.pointOk (s : State) (n : Nat) : Bool := (List.range 32).all (fun k => !s.clusterUsed k || decide (s.volts k n ≤ 950))

/-- PW_PMAX (R517). -/
def State.pmax (s : State) : Nat := ((List.range 49).filter s.pointOk).getLast?.getD 0

def State.group1 (s : State) : Nat := s.val 0x2101 1 0

/-- FG_CMD SCHEDULE (R519, R632). -/
def State.fgSchedule (s : State) (who : Nat) : State :=
  let point := s.staged who 0x2101 2 48
  let bell := s.staged who 0x2101 3 0
  let param := s.group1 * 256 + point
  if point > s.pmax ∨ s.bellOut evFreq bell then s.answer 0x0301
  else if s.group1 = 0 ∨ s.bell.st = tsUnset then s.answer 0x0402
  else if s.evConflict evFreq param bell then s.answer 0x0401
  else ((s.arm evFreq 1 param bell).applied who 0x2101 [(2, 1, 48), (3, 8, 0)]).answerBell bell

def execFgSchedule (who : Fin 16) (s : State) : Res := .next (s.command who.val 0x2101 (s.authPlain who.val) (fun s => s.fgSchedule who.val))

/-- The device runs a point from now on: a change counts, ends R522's limit and suspends the site checks (R529). -/
def State.runPoint (s : State) (n : Nat) : State :=
  if n = s.power.point then s
  else
    (s.onPower (fun p => { p with point := n, changes := p.changes + 1, trimCap := [] })).onThermal (fun t =>
      { t with skip := (List.range 288).foldl (fun x i => Tab.set 0 x i 50) t.skip })

/-- A member falls out of step, which is recorded (R520). -/
def State.outOfStep (s : State) : State :=
  if s.group1 = 0 then s else (s.onPower (fun p => { p with fgState := 3 })).event 0x20 (1024 + s.power.level) s.power.point 0

/-- A FREQ event comes to its bell with time (R518, R520). -/
def State.performFreq (s : State) (new : Nat) : State :=
  let old := s.power.point
  if s.group1 ≠ 0 ∧ new > old ∧ s.power.level ≥ 2 then s.outOfStep
  else if new > s.pmax then (if s.pmax > old then s.runPoint s.pmax else s).outOfStep
  else
    let s1 := s.runPoint new
    if s1.group1 = 0 then s1 else s1.onPower (fun p => { p with fgState := 2 })

/-- A FREQ event that a device in FREERUN does not perform: TIMELOST (R496, R520). -/
def State.loseFreq (s : State) (i new : Nat) : State :=
  let s1 := ((s.setSlot i { s.slot i with st := esTimelost }).onBell (fun b => { b with timelost := b.timelost + 1 })).timeEvent 3 i
  if s1.group1 = 0 then s1 else (if new < s1.power.point then s1.runPoint new else s1).outOfStep

/-- The phase identifiers that running cores hold now. -/
def State.phasesNow (s : State) : Half :=
  s.cores.foldl (fun m e => if e.2.task.source = 0 then m else m ||| BitVec.ofNat 16 (2 ^ (e.2.phase % 16))) 0#16

/-- PHASE_EVAL (R521): the demand of the window; outside a group a change is armed at the bell + 200. -/
def execPhaseEval (s : State) : Res :=
  if !s.serving then .next s
  else
    let top := if s.power.ranTask then
        (List.range 16).foldl (fun m i => let v := s.val 0x2110 (i + 1) 48; if s.power.phases.getLsbD i && decide (v > m) then v else m) 0
      else s.val 0x2110 1 48
    let d := if top > s.pmax then s.pmax else top
    let now := s.phasesNow
    let s1 := s.onPower (fun p => { p with demand := d, phases := now, ranTask := decide (now ≠ 0#16) })
    let armed := (List.range 64).any (fun i => decide ((s.slot i).kind = evFreq ∧ (s.slot i).st = esArmed))
    let bell := s.bell.count + 200
    .next (if s1.group1 = 0 && d ≠ s.power.point && !armed && s1.armRefusal evFreq d bell = 0 then s1.arm evFreq 1 d bell else s1)

/-- One cluster of AGEING_TRIM: a replica below its guard band raises the trim by 5 mV, up to 50 mV. -/
def State.trimCluster (low : Word) (s : State) (k : Nat) : State :=
  let t := Tab.get 0 s.power.trim k
  if !low.getLsbD k ∨ t ≥ 50 then s
  else
    let s2 := (s.onPower (fun p => { p with trim := Tab.set 0 p.trim k (t + 5) })).keepVal 0x2140 (k + 1) 1 (t + 5)
    let s3 := s2.event 0x20 (1280 + s2.power.level) k 0
    if s3.volts k s3.power.point > 950 then s3.onPower (fun p => { p with trimCap := Tab.set false p.trimCap k true }) else s3

/-- AGEING_TRIM (R522): every 500 hours of operating time; `low` names the clusters with a replica below its guard band. -/
def execAgeingTrim (low : Word) (s : State) : Res :=
  let hours := s.recorder.opsec / 3600
  if !s.serving ∨ hours < s.power.agLast + 500 then .next s
  else .next (((List.range 32).foldl (State.trimCluster low) s).onPower (fun p => { p with agLast := hours }))

/-! ## Power-up admission (R508 to R510) -/

/-- The domain of a region (Table 17-3): compute cluster 0 to 31, market group as 32 + g; 99 for another kind or index. -/
def regionDomain (code : Nat) : Nat :=
  let i := code % 4096
  if code / 4096 = 0 ∧ i < 288 then i / 9
  else if code / 4096 = 1 ∧ i < 32 then i
  else if code / 4096 = 2 ∧ i < 16 then 32 + stackCluster i / 2
  else 99

/-- Estimate E in mA. -/
def regionEstimate (code : Nat) : Nat := if code / 4096 = 0 then 2500 else if code / 4096 = 1 then 2300 else 2400

def State.regionLimit (s : State) (d : Nat) : Nat := if d < 32 then s.domainLimit d else 20000

/-- What the admissions of one bell share: the peak current of each domain in mA, ρ as a ratio of frequencies, the estimates admitted. -/
structure Admit where
  peaks : List (Nat × Nat)
  num : Nat
  den : Nat
  given : List (Nat × Nat)

def Admit.peak (a : Admit) (d : Nat) : Nat := ((a.peaks.find? (fun e => e.1 = d)).map (·.2)).getD 0
def Admit.sum (a : Admit) (d : Nat) : Nat := (a.given.filter (fun e => e.1 = d)).foldl (fun n e => n + e.2) 0

/-- The power core admits the region now (R510). -/
def State.admits (s : State) (a : Admit) (code : Nat) : Bool :=
  let d := regionDomain code
  decide (s.power.level < 2) && decide (d ≠ 99)
    && decide (a.peak d * a.num + (a.sum d + regionEstimate code) * a.den ≤ s.regionLimit d * a.den)

/-- A region has power: a spare site begins its tests (Table 21-8). -/
def State.powered (s : State) (code : Nat) : State :=
  if code / 4096 = 0 then
    match s.dev.moves.find? (fun m => m.newSite = code % 4096) with
    | some m => ((s.setMove { m with powered := true }).moveUnit ukCore m.core usTesting m.reason).onThermal (fun t =>
        { t with skip := Tab.set 0 t.skip m.newSite 50 })
    | none => s
  else s

/-- One POWERUP event is tried (R494, R510). -/
def State.tryPowerup (p : State × Admit) (i : Nat) : State × Admit :=
  let s := p.1
  let x := s.slot i
  if s.admits p.2 x.param then
    ((((s.setSlot i { x with st := esPerformed }).onBell (fun b => { b with performed := b.performed + 1 })).onPower
      (fun q => { q with puAdmitted := q.puAdmitted + 1 })).powered x.param,
      { p.2 with given := p.2.given ++ [(regionDomain x.param, regionEstimate x.param)] })
  else
    let n := x.tries + 1
    let s1 := (s.onPower (fun q => { q with puDeferred := q.puDeferred + 1 })).onBell (fun b =>
      { b with deferred := if x.st = esArmed then b.deferred + 1 else b.deferred })
    if n > 100 then
      let s2 := ((s1.setSlot i { x with st := esRefused, tries := n }).onPower (fun q => { q with puRefused := q.puRefused + 1 })).event 0x20
        (768 + s1.power.level) x.param 0
      match s2.dev.moves.find? (fun m => decide (x.param / 4096 = 0 ∧ m.newSite = x.param % 4096)) with
      | some m => (s2.moveFailed m 8, p.2)
      | none => (s2, p.2)
    else (s1.setSlot i { x with st := esDeferred, tries := n }, p.2)

/-- POWERUP_RETRY: every deferred power-up is tried again at the next bell, in slot order; `peaks` gives each domain's highest current of the bell
before, in mA. -/
def execPowerupRetry (peaks : List (Nat × Nat)) (s : State) : Res :=
  let l := (List.range 64).filter (fun i => decide ((s.slot i).kind = evPowerup ∧ (s.slot i).st = esDeferred))
  .next (l.foldl State.tryPowerup (s, ⟨peaks, 1, 1, []⟩)).1

end Sys2Proof.Machine
end

