-- ==== Sys2Proof/Machine/Thermal.lean ====
section
/-!
DEFINITION. Temperature: sensors, the middle-layer check, throttling, trip, cycles, telemetry (chapter 18). Readings are in 0.25 °C.
-/

namespace Sys2Proof.Machine
open Sys2Proof

def State.sensor (s : State) (n : Nat) : Sensor := Tab.get Sensor.blank s.thermal.sensors n
def State.setSensor (s : State) (n : Nat) (x : Sensor) : State :=
  s.onThermal (fun t => { t with sensors := Tab.set Sensor.blank t.sensors n x })

/-- Sensors of `l` that have not failed. -/
def State.healthy (s : State) (l : List Nat) : List Nat := l.filter (fun n => !(s.sensor n).failed)

/-- Twice the median of readings. -/
def median2 (l : List Int) : Int :=
  let q := sortBy (fun (a b : Int) => decide (a < b)) l
  let n := q.length
  if n % 2 = 1 then 2 * q.getD (n / 2) 0 else q.getD (n / 2) 0 + q.getD (n / 2 - 1) 0

def hottest : List Int → Option Int
  | [] => none
  | a :: r => some (r.foldl (fun m b => if b > m then b else m) a)

def int16 (x : Int) : Nat := (x % 65536).toNat

/-! ## The checks (R529 to R533) -/

def clusterStallSensors (k : Nat) : List Nat := (List.range 9).map (fun i => 576 + 9 * k + i)

/-- Sensors of one kind in one half (R533): the PCIe SerDes and the management block are one group each. -/
def sensorGroups : List (List Nat) :=
  [(864, 32), (896, 32), (928, 9), (937, 9), (946, 2), (948, 36), (984, 36), (1020, 8), (1028, 8), (1036, 4)].map (fun g =>
    (List.range g.2).map (· + g.1))

/-- A sensor fails, which is recorded; its site is too hot, or unusable (R530, R531). -/
def State.failSensor (s : State) (n : Nat) (est : Int) : State :=
  let x := s.sensor n
  let s1 := (s.setSensor n { x with failed := true }).event 0x21 1 n (int16 x.last + 65536 * int16 est)
  if n < 576 then
    let site := n / 2
    if s1.siteWorks site then
      let s2 := s1.onThermal (fun t => { t with cut := Tab.set 0 t.cut site 48 })
      match s2.coreAt site with
      | some c => s2.loseCore c 3
      | none => s2.markSite site
    else s1.markSite site
  else if n < 864 then
    let site := n - 576
    let k := site / 9
    let s2 := if s1.siteWorks site then s1 else s1.markSite site
    if (s2.healthy (clusterStallSensors k)).isEmpty then s2.event 0x21 4 k 0 else s2
  else s1

/-- One check of a sensor against twice its estimate: the third deviation in a row beyond 8 °C fails it. -/
def State.checkSensor (s : State) (n : Nat) (est2 : Int) : State :=
  let x := s.sensor n
  if (2 * x.last - est2).natAbs > 64 then
    let s1 := (s.setSensor n { x with dev := x.dev + 1 }).onThermal (fun t => { t with deviations := t.deviations + 1 })
    if x.dev + 1 ≥ 3 then s1.failSensor n (est2 / 2) else s1
  else s.setSensor n { x with dev := 0 }

/-- Step 1, and R533's check: healthy sensors against their median; with fewer than `least` healthy the check is suspended. -/
def State.checkMedian (least : Nat) (s : State) (l : List Nat) : State :=
  let h := s.healthy l
  if h.length < least ∨ h = [] then s
  else
    let m := median2 (h.map (fun n => (s.sensor n).last))
    h.foldl (fun s n => s.checkSensor n m) s

/-- The stall term of a site (R529); none: no stall sensor of the cluster is healthy. -/
def State.stallTerm (s : State) (site : Nat) : Option Int :=
  if !(s.sensor (576 + site)).failed then some (s.sensor (576 + site)).last
  else hottest ((s.healthy (clusterStallSensors (site / 9))).map (fun n => (s.sensor n).last))

/-- Step 2 at one site, unless it is suspended there. -/
def State.checkSite (s : State) (site : Nat) : State :=
  let k := Tab.get 0 s.thermal.skip site
  if k > 0 then s.onThermal (fun t => { t with skip := Tab.set 0 t.skip site (k - 1) })
  else
    match s.stallTerm site with
    | none => s
    | some t =>
      let e := t + Tab.get 0 s.thermal.rise site
      (s.healthy [2 * site, 2 * site + 1]).foldl (fun s n => s.checkSensor n (2 * e)) s

/-! ## Throttling and emergency (R532 to R536) -/

def State.setpoint (s : State) : Int := 4 * s.val 0x2300 1 100

/-- λ_th in 64ths for an excess in 0.25 °C (R534). -/
def thermalLimit (gain : Nat) (e : Int) : Nat :=
  if e ≤ 0 then 64
  else
    let v := 64 * (400 - gain * e) / 400
    if v < 16 then 16 else v.toNat

/-- Temperature of a site: its healthy sensors and the stall sensor beneath. -/
def State.siteTemp (s : State) (site : Nat) : Option Int :=
  hottest ((s.healthy [2 * site, 2 * site + 1, 576 + site]).map (fun n => (s.sensor n).last))

/-- λ_th of a working site (R531, R532, R534). -/
def State.siteThermal (s : State) (site : Nat) : Nat :=
  let base := match s.siteTemp site with
    | some t => thermalLimit (s.val 0x2300 2 10) (t - s.setpoint)
    | none => 64
  let a := if (s.sensor (2 * site)).failed || (s.sensor (2 * site + 1)).failed then 16 else base
  if (s.healthy (clusterStallSensors (site / 9))).isEmpty && decide (a > 48) then 48 else a

def State.limitSite (s : State) (site : Nat) : State :=
  if !s.siteWorks site then s.onThermal (fun t => { t with cut := Tab.set 0 t.cut site 0, low := Tab.set 0 t.low site 0 })
  else
    let l := s.siteThermal site
    s.onThermal (fun t =>
      { t with
        cut := Tab.set 0 t.cut site (64 - l)
        low := Tab.set 0 t.low site (if l = 16 then Tab.get 0 t.low site + 1 else 0) })

/-- What a sensor reads for the emergency (R533, R535): none for a failed compute-site or stall sensor. -/
def State.emergRead (s : State) (n : Nat) : Option Int :=
  if !(s.sensor n).failed then some (s.sensor n).last
  else if n < 864 then none
  else
    match sensorGroups.find? (fun g => g.contains n) with
    | none => none
    | some g =>
      match hottest ((s.healthy g).map (fun m => (s.sensor m).last)) with
      | some t => some (t + 32)
      | none => some s.setpoint

def State.countHot (s : State) (n : Nat) : State :=
  let x := s.sensor n
  let hot := match s.emergRead n with | some t => decide (t ≥ 4 * (s.val 0x2300 3 110 : Nat)) | none => false
  s.setSensor n { x with hot := if hot then x.hot + 1 else 0 }

/-- The temperature of a site is above TH_SETPOINT. -/
def State.siteHot (s : State) (site : Nat) : Bool := match s.siteTemp site with | some t => decide (t > s.setpoint) | none => false

/-- The thermal emergency is active. -/
def State.thermalEmergency (s : State) : Bool :=
  s.thermal.sensors.any (fun e => decide (e.2.hot ≥ 3)) || s.thermal.low.any (fun e => decide (e.2 ≥ 50) && s.siteHot e.1)

/-- TH_MAX, TH_PEAK and TH_OVER105 after the sample (R536, Table 18-5). -/
def State.thermalPeaks (s : State) : State :=
  let h := s.healthy (List.range 1040)
  match h with
  | [] => s
  | a :: r =>
    let m := r.foldl (fun m n => if (s.sensor n).last > (s.sensor m).last then n else m) a
    let t := (s.sensor m).last
    s.onThermal (fun x =>
      { x with
        max := t, maxSensor := m
        peak := if t > x.peak ∨ x.peakBell = 0 then t else x.peak
        peakBell := if t > x.peak ∨ x.peakBell = 0 then s.bell.count else x.peakBell
        over105 := if t > 420 then x.over105 + 1 else x.over105 })

/-- The band of a stall from its reading (R240); a failed sensor leaves B3 (R532). -/
def stallBandOf (now : Nat) (t : Int) : Nat :=
  let up := if t ≥ 400 then 3 else if t ≥ 340 then 2 else if t ≥ 180 then 1 else 0
  let down := if t > 392 then 3 else if t > 332 then 2 else if t > 172 then 1 else 0
  if up ≥ now then up else if down < now then down else now

def State.setBands (s : State) : State :=
  { s with market := { s.market with stallBand := (List.range 288).foldl (fun t i =>
      let x := s.sensor (576 + i)
      Tab.set 0 t i (if x.failed then 3 else stallBandOf (Tab.get 0 t i) x.last)) s.market.stallBand } }

/-! ## Telemetry (R541) -/

def State.profile (s : State) (i : Nat) : Profile := Tab.get Profile.blank s.thermal.profiles i
def State.setProfile (s : State) (i : Nat) (p : Profile) : State :=
  s.onThermal (fun t => { t with profiles := Tab.set Profile.blank t.profiles i p })

def telemetryZero : Int × Int × Int × Nat := (0, 0, 0, 0)

/-- A sample joins an enabled profile. -/
def State.gather (s : State) (i : Nat) : State :=
  let p := s.profile i
  if !p.on then s
  else
    let named := s.healthy ((List.range 1040).filter (fun n => Nat.testBit p.sensors n))
    s.setProfile i { p with acc := named.foldl (fun t n =>
      let v := (s.sensor n).last
      let a := Tab.get telemetryZero t n
      Tab.set telemetryZero t n (if a.2.2.2 = 0 then (v, v, v, 1)
        else (if v < a.1 then v else a.1, if v > a.2.1 then v else a.2.1, a.2.2.1 + v, a.2.2.2 + 1))) p.acc }

/-- THERMAL_SAMPLE: `readings` (sensor, 0.25 °C) that changed, `rise` (site, θ_s × P_s in 0.25 °C) that changed. -/
def execThermalSample (readings : List (Nat × Int)) (rise : List (Nat × Nat)) (s : State) : Res :=
  if s.dev.st = devCold ∨ s.dev.st = devLatched then .next s
  else
    let s1 := s.onThermal (fun t =>
      { t with
        sensors := readings.foldl (fun q r => Tab.set Sensor.blank q r.1 { Tab.get Sensor.blank q r.1 with last := r.2 }) t.sensors
        rise := rise.foldl (fun q r => Tab.set 0 q r.1 r.2) t.rise })
    let s2 := ((List.range 32).map clusterStallSensors).foldl (State.checkMedian 5) s1
    let s3 := (List.range 288).foldl State.checkSite s2
    let s4 := sensorGroups.foldl (State.checkMedian 1) s3
    let s5 := (List.range 288).foldl State.limitSite s4
    let s6 := (List.range 1040).foldl State.countHot s5
    let s7 := (s6.thermalPeaks.setBands).onPower (fun p => p.cause 11 s6.thermalEmergency)
    let s8 := (List.range 4).foldl State.gather s7
    .next (s8.settleLevel.settleUnits)

/-- THERMAL_TRIP: a healthy sensor has read `first` and then `second`, both at or above 115 °C. -/
def execThermalTrip (sensor : Fin 1040) (first second : Int) (s : State) : Res :=
  let live := !decide (s.dev.st = devCold ∨ s.dev.st = devLatched) && !decide (s.dev.st = devBooting ∧ s.dev.bootStep < 2)
  .next (if live ∧ !(s.sensor sensor.val).failed ∧ first ≥ 460 ∧ second ≥ 460 then
      (s.event 0x21 2 sensor.val (int16 first + 65536 * int16 second)).latchOff true
    else s)

/-- THERMAL_CYCLE_SAMPLE: the procedure of R539 on the second's mean of the hottest healthy compute-site sensor. -/
def execThermalCycleSample (t : Int) (s : State) : Res :=
  if s.dev.st = devCold ∨ s.dev.st = devLatched then .next s
  else
    let x := s.thermal
    let peak := if t > x.cyclePeak then t else x.cyclePeak
    let trough := if t < x.trough then t else x.trough
    let armed := x.armed || decide (t ≥ trough + 160)
    if armed ∧ t ≤ peak - 160 then
      let swing := ((peak - trough) / 4).toNat
      let n := x.cycles + 1
      let s1 := s.onThermal (fun x =>
        { x with cycles := n, swingMax := if swing > x.swingMax then swing else x.swingMax, armed := false, cyclePeak := t, trough := t })
      .next (if n = 40000 ∨ n = 50000 then s1.event 0x21 3 n 0 else s1)
    else .next (s.onThermal (fun x => { x with armed := armed, cyclePeak := peak, trough := trough }))

/-- TP_CMD ENABLE. -/
def State.tpEnable (s : State) (who i : Nat) : State :=
  let set := s.staged who (0x2340 + i) 1 0
  let period := s.staged who (0x2340 + i) 2 1000
  if period < 20 ∨ period > 1000000 ∨ set = 0 then s.answer 0x0301
  else if period % 20 ≠ 0 then s.answer 0x0401
  else
    let p := s.profile i
    ((s.setProfile i { p with on := true, sensors := set, period := period, start := s.bell.count, acc := [] }).applied who (0x2340 + i)
      [(1, 130, 0), (2, 4, 1000)]).answer 0

/-- TP_CMD DISABLE. -/
def State.tpDisable (s : State) (who i : Nat) : State :=
  ((s.setProfile i { s.profile i with on := false }).applied who (0x2340 + i) [(1, 130, 0), (2, 4, 1000)]).answer 0

def execTpEnable (who : Fin 16) (profile : Fin 4) (s : State) : Res :=
  .next (s.command who.val (0x2340 + profile.val) (s.authPlain who.val) (fun s => s.tpEnable who.val profile.val))
def execTpDisable (who : Fin 16) (profile : Fin 4) (s : State) : Res :=
  .next (s.command who.val (0x2340 + profile.val) (s.authPlain who.val) (fun s => s.tpDisable who.val profile.val))

/-- TP_DATA of a period: minimum, maximum, mean of each named sensor; 0x8000 for one without a sample. -/
def Profile.close (p : Profile) : List Byte :=
  ((List.range 1040).filter (fun n => Nat.testBit p.sensors n)).flatMap (fun n =>
    let a := Tab.get telemetryZero p.acc n
    if a.2.2.2 = 0 then leBytes 2 0x8000 ++ leBytes 2 0x8000 ++ leBytes 2 0x8000
    else leBytes 2 (int16 a.1) ++ leBytes 2 (int16 a.2.1) ++ leBytes 2 (int16 (a.2.2.1 / (a.2.2.2 : Int))))

/-- TELEMETRY_PERIOD: the period of an enabled profile has passed. -/
def execTelemetryPeriod (profile : Fin 4) (s : State) : Res :=
  let p := s.profile profile.val
  .next (if p.on ∧ s.bell.count ≥ p.start + p.period then
      s.setProfile profile.val { p with data := p.close, acc := [], start := p.start + p.period }
    else s)

end Sys2Proof.Machine
end

