-- ==== Sys2Proof/Machine/Reset.lean ====
section
/-!
DEFINITION. Unit commands, resets, losses, moves, ports, the two views of a unit's state (chapter 21, R418, R419).
-/

namespace Sys2Proof.Machine
open Sys2Proof

/-! ## The state in which a unit returns to service -/

/-- All eight cores of the cluster are enabled (Table 21-3). -/
def State.clusterWhole (s : State) (k : Nat) : Bool :=
  (List.range 8).all (fun i => Tab.get 0 s.dev.coreSite (8 * k + i) ≠ 0 && s.unit ukCore (8 * k + i) ≠ usRetired)

/-- READY, or DEGRADED for a cluster that lacks cores or a stack below 6.4 Gb/s. -/
def State.serviceState (s : State) (kind i : Nat) : Nat :=
  if kind = ukCluster ∧ !s.clusterWhole i then usDegraded
  else if kind = ukStack ∧ (Tab.get Stack.blank s.hbm.stks i).rate < 6400 then usDegraded
  else usReady

/-- A unit that is RESETTING returns, through TESTING when asked; one that fails its test is RETIRED. -/
def State.backUnit (s : State) (kind i : Nat) (test pass : Bool) : State :=
  let u := s.unit kind i
  if u ≠ usResetting ∧ u ≠ usTesting then s
  else
    let s1 := if test ∧ u = usResetting then s.moveUnit kind i usTesting 12 else s
    if test && !pass then s1.moveUnit kind i usRetired 1 else s1.moveUnit kind i (s.serviceState kind i) 0

def clusterCores (k : Nat) : List Nat := (List.range 8).map (· + 8 * k)
def quarterClusters (q : Nat) : List Nat := (List.range 8).map (· + 8 * q)
def quarterRunners (q : Nat) : List Nat := (List.range 4).map (· + 4 * q)

/-- A core's reset proper at the end of the drain; one that moves is left to its move. -/
def State.absorbReset (s : State) (c : Nat) : State :=
  if (s.moveOf c).isSome ∨ s.unit ukCore c ≠ usDraining then s else ((s.absorbCore c).reincarnate c).moveUnit ukCore c usResetting 12

/-- A cluster's reset at the end of the drain (Table 21-7): the cluster's queues are emptied, the control core restarts with CTXSEL clear. -/
def State.absorbCluster (s : State) (k : Nat) : State :=
  let s1 := (clusterCores k).foldl State.absorbReset s
  let s2 := (clusterCores k).foldl (fun s c => s.onCore c (fun x => { x with heldTraps := [], heldComp := [], heldReject := none, hold := false, overrun := false })) s1
  let s3 := { s2.setCluster k Cluster.blank with fw := { s2.fw with ctxsel := Tab.set 0 s2.fw.ctxsel k 0 } }
  if s3.unit ukCluster k = usDraining then s3.moveUnit ukCluster k usResetting 12 else s3

/-! ## Beginning a reset (R605, R606) -/

/-- A reset of a scope that encloses a core's or cluster's runs. -/
def State.enclosed (s : State) (k : Nat) (part : Bool) : Bool :=
  s.dev.resets.any (fun r => decide (r.scope = 2 ∧ r.index = k ∧ !part ∨ r.scope = 3 ∧ some r.index = s.clusterPart k))

/-- Runs of a unit of the cluster. -/
def inCluster (k : Nat) (r : ResetRun) : Bool :=
  decide (r.scope = 1 ∧ r.index / 8 = k)
    || decide ((r.scope = 5 ∨ r.scope = 6) ∧ r.index / 1024 = ukCore ∧ r.index % 1024 / 8 = k)

def State.addRun (s : State) (r : ResetRun) : State := s.onDev (fun d => { d with resets := d.resets ++ [r] })

/-- Every core of a cluster begins to drain. -/
def State.drainCluster (s : State) (k reason : Nat) : State :=
  (clusterCores k).foldl (fun s c => s.drainUnit ukCore c reason) (s.drainUnit ukCluster k reason)

/-- A reset of a core. -/
def State.beginCoreReset (s : State) (c : Nat) (test : Bool) (requester : Nat) : State :=
  let s1 := (s.addRun ⟨1, c, s.unit ukCore c = usFenced, test, requester⟩).event 0x11 1 c requester
  (if s1.unit ukCore c = usFenced then s1.moveUnit ukCore c usResetting 12 else s1.drainUnit ukCore c 12).settleUnits

/-- A reset of a cluster takes the resets of its cores over. -/
def State.beginClusterReset (s : State) (k : Nat) (test : Bool) (requester : Nat) : State :=
  let s1 := ((s.dropRun (inCluster k)).addRun ⟨2, k, false, test, requester⟩).event 0x11 2 k requester
  (s1.drainCluster k 12).settleUnits

/-- Runs that a reset of partition `p` takes over. -/
def State.inPart (s : State) (p : Nat) (r : ResetRun) : Bool :=
  (List.range 32).any (fun k => decide (s.clusterPart k = some p) && (inCluster k r || decide (r.scope = 2 ∧ r.index = k)))
    || decide ((r.scope = 5 ∨ r.scope = 6) ∧ r.index / 1024 = ukRunner ∧ s.quarterPart (r.index % 1024 / 4) = some p)

/-- A reset of a partition: its clusters and runners drain, PS_STATE shows RESETTING, EVTSTAT bit 2. -/
def State.beginPartReset (s : State) (p requester : Nat) : State :=
  if s.partResetting p then s
  else
    let s1 := (((s.dropRun (s.inPart p)).addRun ⟨3, p, false, false, requester⟩).raiseEvt 2).event 0x11 3 p requester
    let x := s1.seal p
    let s2 := { s1 with sec := { s1.sec with seals := Tab.set Seal.blank s1.sec.seals p { x with st := 2 } } }
    let qs := s2.partQuarters p
    let s3 := (qs.flatMap quarterClusters).foldl (fun s k => s.drainCluster k 12) s2
    ((qs.flatMap quarterRunners).foldl (fun s r => s.drainUnit ukRunner r 12) s3).settleUnits

/-! ## US_CMD (R614) -/

def usSubs : List (Nat × Nat × Nat) := [(1, 1, 0), (2, 2, 0), (3, 1, 0)]

/-- How many units a kind has. -/
def unitCount (kind : Nat) : Nat :=
  if kind = ukCore then 256 else if kind = ukStall then 288 else if kind = ukCluster then 32 else if kind = ukPort then 18
  else if kind = ukRunner ∨ kind = ukStack then 16 else 0

/-- A unit command on (kind, index, US_TEST), once the index is in range. -/
def State.usCmd (s : State) (who : Nat) (k : Nat → Nat → Bool → State → State) : State :=
  let kind := s.staged who 0x6040 1 0
  let i := s.staged who 0x6040 2 0
  if i ≥ unitCount kind then s.answer 0x0301
  else (k kind i (decide (s.staged who 0x6040 3 0 = 1)) s).appliedIf who 0x6040 usSubs

def usAllowed (s : State) (ok : Bool) (t : State) : State := if ok then t.answer 0 else s.answer 0x0402

/-- FENCE: a unit in service drains and becomes FENCED; a cluster takes its cores with it. -/
def State.usFence (kind i : Nat) (_test : Bool) (s : State) : State :=
  usAllowed s (decide (kind ≠ ukStall) && s.inService kind i && !(decide (kind = ukCore) && (s.moveOf i).isSome))
    (let s1 := s.addRun ⟨5, unitKey kind i, false, false, usFenced⟩
     (if kind = ukCluster then s1.drainCluster i 6 else s1.drainUnit kind i 6).settleUnits)

/-- UNFENCE: a FENCED unit returns through RESETTING, or through TESTING; a port trains. -/
def State.usUnfence (kind i : Nat) (test : Bool) (s : State) : State :=
  usAllowed s (decide (kind ≠ ukStall) && decide (s.unit kind i = usFenced) && s.serving && !(decide (kind = ukCore) && (s.moveOf i).isSome))
    (let s1 := s.moveUnit kind i (if test ∨ kind = ukPort then usTesting else usResetting) 6
     let s2 := if kind = ukCluster then (clusterCores i).foldl (fun s c =>
         if s.unit ukCore c = usFenced ∧ (s.moveOf c).isNone then s.moveUnit ukCore c usResetting 6 else s) s1 else s1
     if kind = ukPort then s2 else s2.addRun ⟨6, unitKey kind i, true, test, 0⟩)

/-- RESET of a core, cluster or runner (R606). -/
def State.usReset (kind i : Nat) (test : Bool) (s : State) : State :=
  let u := s.unit kind i
  let k := if kind = ukCore then i / 8 else if kind = ukCluster then i else 8 * (i / 4)
  if kind = ukCore ∧ (s.moveOf i).isSome ∧ s.serving then s.waits
  else
    usAllowed s (decide (kind = ukCore ∨ kind = ukCluster ∨ kind = ukRunner) && s.serving && !s.enclosed k (decide (kind ≠ ukCore))
        && (s.inService kind i || decide (u = usFenced)))
      (if kind = ukCore then s.beginCoreReset i test 0
       else if kind = ukCluster then s.beginClusterReset i test 0
       else
         let s1 := s.addRun ⟨6, unitKey kind i, decide (u = usFenced), test, 0⟩
         (if u = usFenced then s1.moveUnit kind i usResetting 12 else s1.drainUnit kind i 12).settleUnits)

/-- A lost cluster (R22): the cluster and its cores drain. -/
def State.loseCluster (s : State) (k : Nat) : State :=
  if s.unit ukCluster k = usRetired ∨ s.unit ukCluster k = usOff ∨ s.dev.resets.any (fun r => decide (r.scope = 8 ∧ r.index = k)) then s
  else
    let s1 := s.dropRun (fun r => inCluster k r || decide (r.scope = 2 ∧ r.index = k) || decide ((r.scope = 5 ∨ r.scope = 6) ∧ r.index = unitKey ukCluster k))
    ((s1.addRun ⟨8, k, false, false, 0⟩).drainCluster k 7).settleUnits

/-- RETIRE: a core or a stall is lost with its pair; another unit drains first when it is in service. -/
def State.usRetire (kind i : Nat) (_test : Bool) (s : State) : State :=
  let u := s.unit kind i
  let live := s.inService kind i || decide (u = usFenced ∨ u = usTesting)
  if kind = ukCore then usAllowed s (live && (s.moveOf i).isNone) (s.loseCore i 6).settleUnits
  else if kind = ukStall then
    match s.stallLogical i with
    | some n => usAllowed s live (if (s.siteOf n).isSome ∧ s.unit ukCore n ≠ usRetired then (s.loseCore n 5).settleUnits else (s.retireStall n).settleUnits)
    | none => usAllowed s live ((s.markSite i).moveUnit ukStall i usRetired 6).settleUnits
  else if kind = ukCluster ∧ s.inService kind i then usAllowed s true (s.loseCluster i)
  else
    usAllowed s live
      (if s.inService kind i then ((s.addRun ⟨5, unitKey kind i, false, false, usRetired⟩).drainUnit kind i 6).settleUnits
       else ((s.dropRun (fun r => decide (r.index = unitKey kind i ∧ r.scope ≥ 5))).moveUnit kind i usRetired 6).settleUnits)

/-- CLEARMM clears MISMATCH (R612). -/
def State.usClearmm (kind i : Nat) (_test : Bool) (s : State) : State :=
  usAllowed s true (s.setUnit kind i { s.unitRec kind i with mismatch := false })

def State.usRun (s : State) (who : Nat) (k : Nat → Nat → Bool → State → State) : State :=
  s.command who 0x6040 (s.authPlain who) (fun s => s.usCmd who k)

def execUsFence (who : Fin 16) (s : State) : Res := .next (s.usRun who.val State.usFence)
def execUsUnfence (who : Fin 16) (s : State) : Res := .next (s.usRun who.val State.usUnfence)
def execUsReset (who : Fin 16) (s : State) : Res := .next (s.usRun who.val State.usReset)
def execUsRetire (who : Fin 16) (s : State) : Res := .next (s.usRun who.val State.usRetire)
def execUsClearmm (who : Fin 16) (s : State) : Res := .next (s.usRun who.val State.usClearmm)

/-! ## PT_CMD (R606, R607) -/

def ptSubs : List (Nat × Nat × Nat) := [(1, 1, 0), (2, 1, 0)]

/-- PT_CMD RESET. -/
def State.ptReset (s : State) (who : Nat) : State :=
  let p := s.staged who 0x6100 1 0
  if p > 3 then s.answer 0x0301
  else if !s.serving ∨ s.partResetting p then s.answer 0x0402
  else ((s.beginPartReset p 0).applied who 0x6100 ptSubs).answer 0

/-- Quarters that change owner when partition `p` takes the mask `m`. -/
def State.moving (s : State) (p m : Nat) : List Nat :=
  (List.range 4).filter (fun q => decide ((s.quarterPart q = some p) ≠ (Nat.testBit m q = true)))

/-- PT_CMD ASSIGN: each partition that loses or gains a quarter is reset, then the quarters move. -/
def State.ptAssign (s : State) (who : Nat) : State :=
  let p := s.staged who 0x6100 1 0
  let m := s.staged who 0x6100 2 0
  let qs := s.moving p m
  let owners := (p :: qs.filterMap s.quarterPart).eraseDups
  let leaves (q : Nat) : Bool := qs.contains q
  if p > 3 ∨ m = 0 ∨ m > 15 then s.answer 0x0301
  else if !s.serving ∨ owners.any s.partResetting then s.answer 0x0402
  else if (qs.filterMap s.quarterPart).any (fun o => decide ((s.seal o).st = 1)) then s.answer 0x0402
  else if s.market.rsv.any (fun e => decide (e.2.kind ≠ 0 ∧ (s.quarterPart e.2.quarter).isSome) && leaves e.2.quarter) then s.answer 0x0402
  else
    let s1 := if qs = [] then s else owners.foldl (fun s o => s.beginPartReset o 3) s
    let s2 := if qs = [] then s1 else s1.onDev (fun d => { d with assign := d.assign ++ [(p, m)] })
    (s2.applied who 0x6100 ptSubs).answer 0

def execPtReset (who : Fin 16) (s : State) : Res := .next (s.command who.val 0x6100 (s.authPlain who.val) (fun s => s.ptReset who.val))
def execPtAssign (who : Fin 16) (s : State) : Res := .next (s.command who.val 0x6100 (s.authPlain who.val) (fun s => s.ptAssign who.val))

/-- The mask of a partition as the dictionary shows and keeps it. -/
def State.quarterMask (s : State) (p : Nat) : Nat := (s.partQuarters p).foldl (fun a q => a + 2 ^ q) 0

/-- Assignments whose resets have all ended take effect: quarters change owner with cleared storage, and persist. -/
def State.settleAssign (s : State) : State :=
  s.dev.assign.foldl (fun s a =>
    let qs := s.moving a.1 a.2
    if s.partResetting a.1 || qs.any (fun q => match s.quarterPart q with | some o => s.partResetting o | none => false) then s
    else
      let s1 := s.clearStorage qs
      let s2 := State.rekeyedFrom s (s1.onDev (fun d =>
        { d with
          assign := d.assign.filter (· ≠ a)
          quarterPart := qs.foldl (fun t q => Tab.set 0 t q (if Nat.testBit a.2 q then a.1 + 1 else 0)) d.quarterPart }))
      (List.range 4).foldl (fun s p => s.keepVal 0x6100 (4 + p) 1 (s.quarterMask p)) s2) s

/-! ## The end of a drain (R605) -/

/-- A unit that was drained to be fenced or retired. -/
def State.fenceDrained (s : State) (kind i target : Nat) : State :=
  let s0 := if kind = ukCore then s.absorbCore i else if kind = ukRunner then s.stopRunner i
    else if kind = ukCluster then (clusterCores i).foldl (fun s c =>
      if s.unit ukCore c = usDraining ∧ (s.moveOf c).isNone then (s.absorbCore c).moveUnit ukCore c usFenced 6 else s) s
    else s
  let s1 := if s0.unit kind i = usDraining then s0.moveUnit kind i usFenced 6 else s0
  if target = usFenced ∨ s1.unit kind i ≠ usFenced then s1 else s1.moveUnit kind i target (s1.unitRec kind i).reason

def State.markDrained (s : State) (r : ResetRun) : State :=
  s.onDev (fun d => { d with resets := d.resets.map (fun x => if x = r then { x with drained := true } else x) })

/-- The drain of one run has ended. -/
def State.runDrained (s : State) (r : ResetRun) : State :=
  match r.scope with
  | 1 => (s.absorbReset r.index).markDrained r
  | 2 => (s.absorbCluster r.index).markDrained r
  | 3 =>
    let qs := s.partQuarters r.index
    let s1 := (qs.flatMap quarterClusters).foldl State.absorbCluster s
    let s2 := (qs.flatMap quarterRunners).foldl (fun s n =>
      if s.unit ukRunner n = usDraining then (s.stopRunner n).moveUnit ukRunner n usResetting 12 else s) s1
    (s2.clearPartition r.index).markDrained r
  | 5 => ((s.fenceDrained (r.index / 1024) (r.index % 1024) r.requester).dropRun (fun x => x = r)).settleUnits
  | 6 => ((s.stopRunner (r.index % 1024)).moveUnit (r.index / 1024) (r.index % 1024) usResetting 12).markDrained r
  | 7 =>
    ((List.range 256).foldl (fun s c =>
      if s.unit ukCore c = usDraining then (s.absorbCore c).moveUnit ukCore c usFenced 0 else s) s).dropRun (fun x => x = r)
  | 8 =>
    let s1 := (clusterCores r.index).foldl (fun s c =>
      if s.unit ukCore c = usOff ∨ s.unit ukCore c = usRetired then s
      else
        let s1 := (s.absorbCore c).reincarnate c
        let s2 := if s1.unit ukCore c = usDraining then s1.moveUnit ukCore c usFenced 7 else s1
        s2.retireCore c 7) s
    let s2 := if s1.unit ukCluster r.index = usDraining then s1.moveUnit ukCluster r.index usFenced 7 else s1
    (s2.dropRun (fun x => x = r)).settleUnits
  | _ => s

/-- DRAIN_END: the 10 µs drain of a run ends; scope 0 is the loss of a core, the others as `ResetRun` has them. -/
def execDrainEnd (scope : Fin 9) (index : Nat) (s : State) : Res :=
  if scope.val = 0 then
    match s.dev.moves.find? (fun m => decide (m.core = index) && !m.drained) with
    | some m => .next (s.lossDrained m)
    | none => .next s
  else
    match s.dev.resets.find? (fun r => decide (r.scope = scope.val ∧ r.index = index) && !r.drained) with
    | some r => .next (s.runDrained r)
    | none => .next s

/-! ## The end of a reset -/

/-- A key of a partition that UNSEAL ends goes (R555). -/
def State.destroyKeys (s : State) (p : Nat) : State :=
  (s.sec.keys.filter (fun e => e.2.part = p ∧ e.2.st ≠ 0)).foldl (fun s e => s.destroyKey e.1) s

/-- A partition's reset ends (Table 21-7, R555). -/
def State.partBack (s : State) (r : ResetRun) : State :=
  let p := r.index
  let qs := s.partQuarters p
  let s1 := ((s.clearStorage qs).drawKey p).dropRun (fun x => x = r)
  let x := s1.seal p
  let keep := decide (x.tenant ≠ 0 ∧ r.requester ≠ 2)
  let s2 := { s1 with sec := { s1.sec with seals := Tab.set Seal.blank s1.sec.seals p (if keep then { x with st := 1 } else { x with st := 0, tenant := 0 }) } }
  let s3 := if r.requester = 2 then (s2.destroyKeys p).event 0x70 2 p x.seals else s2
  let s4 := (qs.flatMap quarterClusters).foldl (fun s k =>
    (clusterCores k).foldl (fun s c => if s.unit ukCore c = usResetting then (s.backUnit ukCore c false true).notice c else s) (s.backUnit ukCluster k false true)) s3
  let s5 := (qs.flatMap quarterRunners).foldl (fun s n => s.backUnit ukRunner n false true) s4
  ((((s5.onDev (fun d => { d with ptResets := d.ptResets + 1 })).raiseEvt 3).settleAssign).settleDebug).settleUnits

/-- RESET_END: a reset, or a return to service, is complete; `pass` is the outcome of its tests. -/
def execResetEnd (scope : Fin 9) (index : Nat) (pass : Bool) (s : State) : Res :=
  match s.dev.resets.find? (fun r => decide (r.scope = scope.val ∧ r.index = index) && r.drained) with
  | none => .next s
  | some r =>
    let s1 := s.dropRun (fun x => x = r)
    match r.scope with
    | 1 => .next (((s1.backUnit ukCore index r.test pass).notice index).settleUnits)
    | 2 =>
      let s2 := s1.backUnit ukCluster index r.test pass
      .next (((clusterCores index).foldl (fun s c =>
        if s.unit ukCore c = usResetting then (s.backUnit ukCore c r.test pass).notice c else s) s2).settleUnits)
    | 3 => .next (s.partBack r)
    | 6 =>
      let s2 := s1.backUnit (index / 1024) (index % 1024) r.test pass
      let s3 := if index / 1024 = ukCluster then (clusterCores (index % 1024)).foldl (fun s c => s.backUnit ukCore c r.test pass) s2 else s2
      .next s3.settleUnits
    | _ => .next s1

/-! ## Losses and moves (R22, R608, R609) -/

/-- CORE_LOSS: a core is lost for a reason of Table 21-10. -/
def execCoreLoss (core : CoreIx) (reason : Fin 16) (s : State) : Res := .next ((s.loseCore core.val reason.val).settleUnits)

/-- STALL_COPY_COMPLETE: the queued fold-ins of the home stall are applied and its content stands in the spare's stall. -/
def execStallCopyComplete (core : CoreIx) (s : State) : Res :=
  match s.moveOf core.val with
  | some m =>
    if !m.drained then .next s
    else
      let lines := ((Tab.get [] s.market.foldQ core.val).map (fun r => r.sector / 4)).eraseDups
      .next ((lines.foldl State.drainLine s).setMove { m with copied := true })
  | none => .next s

/-- MOVE_COMPLETE: the known-answer run at the spare site ends. -/
def execMoveComplete (core : CoreIx) (pass : Bool) (s : State) : Res :=
  match s.moveOf core.val with
  | some m =>
    if !m.drained ∨ !m.powered then .next s
    else if !pass then .next (s.moveFailed m 1)
    else if !m.copied then .next s.waits
    else .next (s.moveDone m)
  | none => .next s

/-- CLUSTER_FAIL: the control core or the copy engine of a cluster fails. -/
def execClusterFail (cluster : ClusterIx) (s : State) : Res := .next (s.loseCluster cluster.val)

/-- BOND_ERROR (R609): an error at a wire of a bond group of a site's vertical port (unit 0 to 287) or of a cluster's copy engine and control
core (288 + k). The fourth on one wire within 1 ms replaces the wire; a third replacement in a group is a loss. -/
def execBondError (unit : Fin 320) (group : Fin 256) (wire : Fin 34) (s : State) : Res :=
  let g := unit.val * 256 + group.val
  let w := g * 64 + wire.val
  let old := Tab.get 0 s.dev.bondErrors w
  let live := decide (old ≠ 0 ∧ s.bell.count < old / 8 - 1 + 1000)
  let n := if live then old % 8 + 1 else 1
  let first := if live then old / 8 else s.bell.count + 1
  if n < 4 then .next (s.onDev (fun d => { d with bondErrors := Tab.set 0 d.bondErrors w (first * 8 + n) }))
  else
    let used := Tab.get 0 s.dev.bondRepairs g
    let s1 := s.onDev (fun d => { d with bondErrors := Tab.set 0 d.bondErrors w 0 })
    if used < 2 then
      .next ((s1.onDev (fun d => { d with bondRepairs := Tab.set 0 d.bondRepairs g (used + 1) })).onThermal (fun t =>
        { t with bondSpares := t.bondSpares + 1 }))
    else
      let s2 := s1.onThermal (fun t => { t with bondLost := t.bondLost + 1 })
      if unit.val < 288 then
        match s2.coreAt unit.val with
        | some c => .next ((s2.loseCore c 2).settleUnits)
        | none => .next (s2.markSite unit.val)
      else .next (s2.loseCluster (unit.val - 288))

/-! ## Fabric ports (R418 to R420) -/

/-- A port leaves service, or its fence, to train. -/
def State.trainPort (s : State) (i : Nat) : State :=
  let s1 := s.setPort i { s.port i with speed := 0, lanes := 0 }
  let s2 := if s1.inService ukPort i then (s1.moveUnit ukPort i usDraining 9).moveUnit ukPort i usResetting 9 else s1
  (s2.moveUnit ukPort i usTesting 9).settleUnits

/-- PORT_FAILURE: a port in service loses alignment or exceeds its FEC limit. -/
def execPortFailure (port : Fin 18) (s : State) : Res := .next (if s.inService ukPort port.val then s.trainPort port.val else s)

/-- PORT_RETRY_TRAIN: every 10 s a FENCED port trains again. -/
def execPortRetryTrain (port : Fin 18) (s : State) : Res := .next (if s.unit ukPort port.val = usFenced ∧ s.serving then s.trainPort port.val else s)

/-- FP_CMD RETRAIN. -/
def execFpRetrain (who : Fin 16) (port : Fin 18) (s : State) : Res :=
  .next (s.command who.val (0x5000 + port.val) (s.authPlain who.val) (fun s =>
    if s.inService ukPort port.val ∨ s.unit ukPort port.val = usFenced then (s.trainPort port.val).answer 0 else s.answer 0x0402))

/-- PORT_TRAINING_END: `lanes` are the lanes that trained, one bit each. -/
def execPortTrainingEnd (port : Fin 18) (lanes : Fin 16) (s : State) : Res :=
  let i := port.val
  let m := lanes.val
  if s.unit ukPort i ≠ usTesting then .next s
  else
    let use := if m = 15 then 15 else if m % 4 = 3 then 3 else if m / 4 = 3 then 12 else 0
    let st := if use = 15 then usReady else if use ≠ 0 then usDegraded else usFenced
    let s1 := (s.setPort i { s.port i with speed := if use = 15 then 800 else if use ≠ 0 then 400 else 0, lanes := use }).moveUnit ukPort i st 9
    .next (if st = usReady then s1.settleUnits else (s1.event 0x40 1 i st).settleUnits)

/-! ## Two views (R612) -/

/-- Place in the order of restrictiveness (Table 21-6). -/
def strictness (u : Nat) : Nat := (([5, 6, 2, 4, 3, 1, 0, 7].zipIdx.find? (fun x => x.1 = u)).map (·.2)).getD 7

/-- One comparison of a unit's two views. -/
def State.reconcile (s : State) (key : Nat) : State :=
  let r := Tab.get UnitRec.blank s.dev.units key
  let put (s : State) (r : UnitRec) : State := s.onDev (fun d => { d with units := Tab.set UnitRec.blank d.units key r })
  if r.dstate = r.mstate then (if r.diffs = 0 then s else put s { r with diffs := 0 })
  else if r.diffs = 0 then put s { r with diffs := 1 }
  else
    let target := if strictness r.dstate ≥ strictness r.mstate then r.dstate else r.mstate
    let drains := decide ((r.dstate = usReady ∨ r.dstate = usDegraded) ∧ target ≠ usReady ∧ target ≠ usDegraded ∧ target ≠ usDraining)
    let st := if drains then usDraining else target
    let both : UnitRec := { r with dstate := st, mstate := st, mismatch := true, reason := 10, diffs := 0 }
    let s1 := (put s both).onDev (fun d => { d with reconciled := d.reconciled + 1 })
    let seen := s.unitWord (key / 1024) (key % 1024) % 2 ^ 55 + 2 ^ 55 + r.dstate * 2 ^ 60 + r.mstate * 2 ^ 56
    let s2 := s1.event 0x12 (key / 1024 * 4096 + key % 1024) (seen % 2 ^ 32) (seen / 2 ^ 32)
    (if drains then s2.addRun ⟨5, key, false, false, target⟩ else s2).settleUnits

/-- FENCE_RECONCILE: the security core compares the two views of every unit. -/
def execFenceReconcile (s : State) : Res := .next ((s.dev.units.map (·.1)).foldl State.reconcile s)

end Sys2Proof.Machine
end

