-- ==== Sys2Proof/Machine/Security.lean ====
section
/-!
DEFINITION. SPDM attestation and sessions, sealing, keys, anti-rollback, debug, operator roots (chapter 19). A message leaves by the
management network under its SPDM response code; signatures and nonces, which the spec leaves to the AEAD and ECDSA standards, are
free values.
-/

namespace Sys2Proof.Machine
open Sys2Proof

/-- A session frame or message fails its authentication: the session ends after 3 failures (Table 19-6). -/
def State.sessionFailed (s : State) (n : Nat) : State :=
  let x := s.session n
  let s1 := s.authFailed (3 * 2 ^ 32 + n) x.part
  if x.fails + 1 ≥ 3 then s1.endSession n else s1.setSession n { x with fails := x.fails + 1 }

/-- A session has been silent for twice its heartbeat period of 10 s (DSP0274). -/
def State.lapsed (s : State) (n : Nat) : Bool := decide ((s.session n).used ∧ s.bell.count ≥ (s.session n).bell + 20000000)

def State.endLapsed (s : State) : State := (List.range 8).foldl (fun s n => if s.lapsed n then s.endSession n else s) s

/-- The security core answers SPDM: its image runs and the device is past step 3 of a boot (R595). -/
def State.spdmOn (s : State) : Bool :=
  decide (s.dev.st ≠ devCold) && !decide (s.dev.st = devBooting ∧ s.stepNo ≤ 3) && !s.romOnly

/-- An SPDM response. -/
def State.spdm (s : State) (code : Nat) (vals : List Nat) : State := s.emit .mgmt code vals

/-- An SPDM ERROR response with its error code. -/
def State.spdmError (s : State) (e : Nat) : State := s.spdm 0x7F [e]

def State.spdmPeer (s : State) (p : Nat) : SpdmPeer := Tab.get SpdmPeer.blank s.sec.peers p
def State.setSpdmPeer (s : State) (p : Nat) (x : SpdmPeer) : State :=
  s.onSec (fun c => { c with peers := Tab.set SpdmPeer.blank c.peers p x })

/-- A message of a requester that has not agreed what the message needs: UnexpectedRequest. -/
def State.spdmAfter (s : State) (ok : Bool) (k : State → State) : State :=
  if !s.spdmOn then s else if !ok then s.spdmError 4 else k s

/-- GET_VERSION restarts the negotiation: version 1.2. -/
def execGetVersion (peer : Fin 65536) (s : State) : Res :=
  .next (s.spdmAfter true (fun s => (s.setSpdmPeer peer.val ⟨true, false, false⟩).spdm 0x04 [0x12]))

/-- GET_CAPABILITIES: certificates, challenge, measurements, key exchange, mutual authentication, heartbeat, key update, encryption. -/
def execGetCapabilities (peer : Fin 65536) (s : State) : Res :=
  .next (s.spdmAfter (s.spdmPeer peer.val).version (fun s => (s.setSpdmPeer peer.val ⟨true, true, false⟩).spdm 0x61 [1, 1, 1, 1, 1, 1, 1, 1]))

/-- NEGOTIATE_ALGORITHMS: `common` says that the request offers every algorithm of Table 19-2; none other is supported. -/
def execNegotiateAlgorithms (peer : Fin 65536) (common : Bool) (s : State) : Res :=
  .next (s.spdmAfter (s.spdmPeer peer.val).caps (fun s =>
    if common then (s.setSpdmPeer peer.val ⟨true, true, true⟩).spdm 0x63 [384, 384, 384, 256] else s.spdmError 1))

/-- The value of a variable-length subindex as bytes. -/
def State.bytesOf (s : State) (index sub : Nat) : List Byte :=
  let x := Tab.get 0 s.dict.vals (dictKey index sub)
  leBytes (valLen x) (decVal x)

/-- Slot 0: the stored chain to DeviceID, then the Alias certificate (R547, Table 19-2). -/
def State.chain (s : State) : List Byte := s.bytesOf 0x7000 4 ++ Config.aliasCert (Config.sha384 (s.running 0).content)

/-- GET_DIGESTS: slot 0 holds a chain. -/
def execGetDigests (peer : Fin 65536) (s : State) : Res :=
  .next (s.spdmAfter (s.spdmPeer peer.val).algs (fun s => s.spdm 0x01 [1, Config.sha384 s.chain]))

/-- GET_CERTIFICATE: a portion of the chain of a slot and what remains of it; only slot 0 holds one. -/
def execGetCertificate (peer : Fin 65536) (slot : Fin 8) (offset length : Fin 65536) (s : State) : Res :=
  .next (s.spdmAfter (s.spdmPeer peer.val).algs (fun s =>
    let c := s.chain
    if slot.val ≠ 0 ∨ offset.val ≥ c.length then s.spdmError 1
    else
      let part := (c.drop offset.val).take length.val
      s.spdm 0x02 [slot.val, part.length, c.length - offset.val - part.length, leNat part]))

/-- CHALLENGE: nonce and signature are free values. -/
def execChallenge (peer : Fin 65536) (slot : Fin 8) (s : State) : Res :=
  .next (s.spdmAfter (s.spdmPeer peer.val).algs (fun s =>
    if slot.val ≠ 0 then s.spdmError 1
    else
      let a := s.fresh
      let b := a.1.fresh
      b.1.spdm 0x03 [0, Config.sha384 s.chain, a.2, b.2]))

/-! ## Measurements (R550) -/

def State.quarterMask' (s : State) (p : Nat) : Nat := (s.partQuarters p).foldl (fun a q => a + 2 ^ q) 0

/-- A measurement block (Table 19-3): the digest of its content, each number as 64 bytes. -/
def State.measure (s : State) (i : Nat) : Option Nat :=
  let c := s.sec
  let digest (l : List Nat) : Nat := Config.sha384 (l.flatMap (leBytes 64))
  if i = 1 then some Config.romDigest
  else if 2 ≤ i ∧ i ≤ 5 then some (Config.sha384 (s.running (i - 2)).content)
  else if i = 6 then some (digest ([c.rootsPresent, c.rootsRevoked] ++ (List.range 4).map (Tab.get 0 c.ar) ++ [c.dbgLevel]))
  else if 16 ≤ i ∧ i ≤ 19 then
    let x := s.seal (i - 16)
    some (digest [s.quarterMask' (i - 16), x.st, x.tenant, x.seals])
  else none

def measureIndices : List Nat := [1, 2, 3, 4, 5, 6, 16, 17, 18, 19]

/-- GET_MEASUREMENTS: index 0 asks how many blocks there are, 0xFF for all of them. -/
def execGetMeasurements (peer : Fin 65536) (index : Fin 256) (s : State) : Res :=
  .next (s.spdmAfter (s.spdmPeer peer.val).algs (fun s =>
    if index.val = 0 then s.spdm 0x60 [0, measureIndices.length]
    else if index.val = 255 then s.spdm 0x60 (measureIndices.flatMap (fun i => [i, (s.measure i).getD 0]))
    else
      match s.measure index.val with
      | some d => s.spdm 0x60 [index.val, d]
      | none => s.spdmError 1))

/-! ## Sessions -/

/-- KEY_EXCHANGE: a session of 8 is set up, with mutual authentication required. -/
def execKeyExchange (peer : Fin 65536) (slot : Fin 8) (s : State) : Res :=
  .next (s.spdmAfter (s.spdmPeer peer.val).algs (fun s =>
    let s1 := s.endLapsed
    if slot.val ≠ 0 then s1.spdmError 1
    else
      match (List.range 8).find? (fun n => !(s1.session n).used) with
      | none => s1.spdmError 0x0A
      | some n =>
        let f := s1.fresh
        (f.1.setSession n { Session.blank with used := true, bell := s1.bell.count }).spdm 0x64 [n, 10, 1, f.2]))

/-- The hashes of the operator roots. -/
def State.opRootList (s : State) : List Nat :=
  let n := s.opRoots / 48
  let v := decVal (Tab.get 0 s.dict.vals (dictKey 0x7000 5))
  (List.range n).map (fun i => v / 2 ^ (384 * i) % 2 ^ 384)

/-- The fused root slot whose key hash is `h`: present and not revoked (R548). -/
def State.rootSlot (s : State) (h : Nat) : Bool :=
  (List.range 4).any (fun i => Nat.testBit s.sec.rootsPresent i && !Nat.testBit s.sec.rootsRevoked i && decide (Config.rootHash i = h))

/-- The role that a requester's chain gives (R551): its leaf key's hash, the hash of the key it ends in. -/
def State.roleOf (s : State) (leaf root : Nat) : Nat × Nat :=
  if s.opRootList.contains root then (1, 0)
  else
    match (List.range 4).find? (fun p => decide ((s.seal p).st = 1 ∧ (s.seal p).tenant = leaf)) with
    | some p => (2, p)
    | none => if s.sec.opClosed ∧ s.opRoots = 0 ∧ s.rootSlot root then (3, 0) else (0, 0)

/-- FINISH: `ok` says that signature and MAC verify; the chain's leaf and end fix the role. A FINISH that fails ends its session. -/
def execFinish (n : Fin 8) (leaf root : Nat) (ok : Bool) (s : State) : Res :=
  let x := s.session n.val
  .next (s.spdmAfter (x.used && !x.finished && !s.lapsed n.val) (fun s =>
    if !ok then ((s.authFailed (3 * 2 ^ 32 + n.val) 0).endSession n.val).spdmError 6
    else
      let r := s.roleOf leaf root
      (s.setSession n.val { x with finished := true, role := r.1, part := r.2, leaf := leaf, bell := s.bell.count }).spdm 0x65 [n.val]))

/-- A message inside an open session: `ok` says that its tag verifies. -/
def State.inSession (s : State) (n : Nat) (ok : Bool) (k : Session → State → State) : State :=
  let x := s.session n
  if !s.spdmOn then s
  else if s.lapsed n then (s.endSession n).spdmError 2
  else if !x.used ∨ !x.finished then s.spdmError 2
  else if !ok then s.sessionFailed n
  else k { x with bell := s.bell.count } s

/-- HEARTBEAT. -/
def execHeartbeat (n : Fin 8) (ok : Bool) (s : State) : Res :=
  .next (s.inSession n.val ok (fun x s => (s.setSession n.val x).spdm 0x68 [n.val]))

/-- KEY_UPDATE: the session's keys are renewed. -/
def execKeyUpdate (n : Fin 8) (ok : Bool) (s : State) : Res :=
  .next (s.inSession n.val ok (fun x s => (s.setSession n.val { x with updates := x.updates + 1 }).spdm 0x69 [n.val]))

/-- END_SESSION. -/
def execEndSession (n : Fin 8) (ok : Bool) (s : State) : Res :=
  .next (s.inSession n.val ok (fun _ s => (s.endSession n.val).spdm 0x6C [n.val]))

/-! ## Sealing (R554, R555) -/

/-- The partition holds no ACTIVE context, no queue that is not FREE, no bound channel, no enabled window, no OPEN epoch. -/
def State.partEmpty (s : State) (p : Nat) : Bool :=
  let mine (c : Nat) : Bool := decide ((s.ctx c).active ∧ (s.ctx c).part = p)
  !s.pager.ctxs.any (fun e => decide (e.2.active ∧ e.2.part = p))
    && !s.sched.queues.any (fun e => decide (e.2.st ≠ qFree) && mine e.2.ctx)
    && !s.fabric.chans.any (fun e => e.2.bound && mine e.2.ctx)
    && !s.fabric.windows.any (fun e => decide (e.2.enabled ∧ e.2.part = p))
    && !(List.range 16).any (fun e => decide ((s.epoch e).st = 1 ∧ (s.epoch e).part = p))

/-- SEAL may come in any session that holds no tenant or root-recovery role (R551, R552, R554). -/
def State.authSeal (s : State) (who : Nat) : Bool :=
  match s.sessionOf who with | some x => decide (x.role ≤ 1) && !s.recovering | none => false

def State.setSeal (s : State) (p : Nat) (x : Seal) : State := s.onSec (fun c => { c with seals := Tab.set Seal.blank c.seals p x })

/-- PS_CMD SEAL. -/
def State.psSeal (s : State) (who p : Nat) : State :=
  let x := s.seal p
  let n := (s.requester who).source
  let leaf := (s.session n).leaf
  if x.st ≠ 0 ∨ !s.partEmpty p ∨ s.sec.dbgLevel = 2 ∨ s.sec.pcieCryptoBad then s.answer 0x0402
  else
    let s1 := (s.clearStorage (s.partQuarters p)).drawKey p
    let s2 := (s1.setSeal p ⟨1, leaf, x.seals + 1⟩).keepVal (0x7010 + p) 4 4 (x.seals + 1)
    let s3 := (s2.onSec (fun c => { c with sealedSinceBoot := true })).event 0x70 1 p (x.seals + 1)
    (s3.setSession n { s3.session n with role := 2, part := p }).answer 0

def execPsSeal (who : Fin 16) (part : PartIx) (s : State) : Res :=
  .next (s.command who.val (0x7010 + part.val) (s.authSeal who.val) (fun s => s.psSeal who.val part.val))

/-- PS_CMD UNSEAL: a partition reset that ends with the keys destroyed and TENANT cleared. -/
def State.psUnseal (s : State) (p : Nat) : State :=
  if !s.serving ∨ s.partResetting p then s.answer 0x0402 else (s.beginPartReset p 2).answer 0

def execPsUnseal (who : Fin 16) (part : PartIx) (s : State) : Res :=
  .next (s.command who.val (0x7010 + part.val) (s.authPlain who.val) (fun s => s.psUnseal part.val))

/-! ## Keys (R556, R557, Table 19-7) -/

def skSubs : List (Nat × Nat × Nat) := [(1, 1, 0), (2, 2, 0), (3, 1, 0), (5, 2, 0)]

def State.key (s : State) (id : Nat) : KeyRec := Tab.get KeyRec.blank s.sec.keys id

/-- An SK command on (partition, KEYID); the staged key is cleared at apply. -/
def State.skRun (s : State) (who : Nat) (k : Nat → Nat → State → State) : State :=
  let p := s.staged who 0x7020 1 0
  let id := s.staged who 0x7020 2 0
  s.command who 0x7020 (s.authTenant who p) (fun s =>
    if p > 3 ∨ id = 0 ∨ id > 0xFFFE then s.answer 0x0301
    else
      let t := k p id s
      if t.out.getLast? = some ⟨.dict, 0, []⟩ then (t.applied who 0x7020 skSubs).unstage who 0x7020 4 else t)

/-- The bytes of a staged subindex; 0 when none is staged. -/
def State.stagedLen (s : State) (who index sub : Nat) : Nat := valLen (Tab.get 0 s.dict.staged (who * 2 ^ 24 + dictKey index sub))

/-- SK_CMD INSTALL. -/
def State.skInstall (who p id : Nat) (s : State) : State :=
  let use := s.staged who 0x7020 3 0
  let pred := if use = 1 then s.staged who 0x7020 5 0 else 0
  let k := s.key pred
  if use = 0 ∨ use > 3 ∨ s.stagedLen who 0x7020 4 ≠ 32 then s.answer 0x0301
  else if pred ≠ 0 ∧ (k.st ≠ 1 ∨ k.use ≠ 1 ∨ k.part ≠ p) then s.answer 0x0402
  else if (s.key id).st ≠ 0 ∨ (s.sec.keys.filter (fun e => decide (e.2.st ≠ 0))).length ≥ 256
      ∨ (use = 3 ∧ s.sec.keys.any (fun e => decide (e.2.st ≠ 0 ∧ e.2.use = 3 ∧ e.2.part = p)))
      ∨ (pred ≠ 0 ∧ s.sec.keys.any (fun e => decide (e.2.st = 2 ∧ e.2.pred = pred))) then s.answer 0x0401
  else
    let r : KeyRec := ⟨if pred = 0 then 1 else 2, p, use, s.staged who 0x7020 4 0, pred, s.bell.count⟩
    (s.onSec (fun c => { c with keys := Tab.set KeyRec.blank c.keys id r })).answer 0

/-- SK_CMD DESTROY: of a key of the partition. -/
def State.skDestroy (p id : Nat) (s : State) : State :=
  if (s.key id).st = 0 ∨ (s.key id).part ≠ p then s.answer 0x0402 else (s.destroyKey id).answer 0

/-- SK_CMD SELECT: SK_STATE of a key of the partition; 0 none. -/
def State.skSelect (who p id : Nat) (s : State) : State :=
  (s.select who 0x7020 7 1 (if (s.key id).part = p then (s.key id).st else 0)).answer 0

def execSkInstall (who : Fin 16) (s : State) : Res := .next (s.skRun who.val (State.skInstall who.val))
def execSkDestroy (who : Fin 16) (s : State) : Res := .next (s.skRun who.val State.skDestroy)
def execSkSelect (who : Fin 16) (s : State) : Res := .next (s.skRun who.val (State.skSelect who.val))

/-! ## Anti-rollback (R565) -/

/-- The processors of the RUNNING set have reported healthy and no activation is on trial. -/
def State.allHealthy (s : State) : Bool :=
  decide (s.fw.pcState < 3) && (List.range 4).all (fun t => !(s.image 0 t).present || (typeProcs t).all (fun p => (s.proc p).healthy))

/-- The counter of one type: it rises to the version number of the running image; `fails` names a type whose blowing fails and the count it
reaches. -/
def State.commitCounter (fails : Option (Fin 4 × Fin 65)) (s : State) (t : Nat) : State :=
  let old := Tab.get 0 s.sec.ar t
  let want := (s.image 0 t).svn
  let new := match fails with
    | some f => if f.1.val = t ∧ f.2.val < want then (if f.2.val < old then old else f.2.val) else want
    | none => want
  if !(s.image 0 t).present ∨ want ≤ old then s
  else (s.onSec (fun c => { c with ar := Tab.set 0 c.ar t new })).event 0x70 5 t new

/-- AR_CMD COMMIT: every counter rises. -/
def State.arCommit (s : State) (fails : Option (Fin 4 × Fin 65)) : State :=
  if !s.allHealthy then s.answer 0x0402 else ((List.range 4).foldl (State.commitCounter fails) s).answer 0

def execArCommit (who : Fin 16) (fails : Option (Fin 4 × Fin 65)) (s : State) : Res :=
  .next (s.command who.val 0x7030 (decide (s.role who.val = 1) && !s.recovering) (fun s => s.arCommit fails))

/-! ## Debug (R566) -/

/-- A fresh challenge. -/
def State.newChallenge (s : State) : State :=
  let f := s.fresh
  f.1.onSec (fun c => { c with dbgChallenge := f.2 % 2 ^ 256 })

/-- A DBG_TOKEN write. -/
def State.debugToken (s : State) (token : List Byte) : State :=
  match Config.debugToken token s.sec.serial s.sec.dbgChallenge with
  | none => s.answer 0x0301
  | some level =>
    let sealed := (List.range 4).filter (fun p => decide ((s.seal p).tenant ≠ 0))
    if level = 0 ∨ level > 2 then s.answer 0x0301
    else if level ≤ s.sec.dbgLevel ∨ s.sec.dbgWaits ∨ (level = 1 ∧ s.sec.sealedSinceBoot) ∨ (level = 2 ∧ sealed ≠ [] ∧ !s.serving) then
      (s.newChallenge).answer 0x0402
    else if level = 1 ∨ sealed = [] then ((s.newChallenge).debugGrant level).answer 0
    else
      let s1 := sealed.foldl (fun s p => s.beginPartReset p 2) s.newChallenge
      let s2 := s1.onDev (fun d => { d with resets := d.resets.map (fun r => if r.scope = 3 ∧ sealed.contains r.index then { r with requester := 2 } else r) })
      (s2.onSec (fun c => { c with dbgWaits := true })).answer 0

def execDbgToken (who : Fin 16) (token : List Byte) (s : State) : Res :=
  .next (s.command who.val 0x7040 (decide (s.role who.val = 1) && !s.recovering) (fun s =>
    if token.length ≠ 104 then s.answer 0x0302 else s.debugToken token))

/-! ## Operator roots and the certificate chain (R633, R548) -/

/-- A write of SEC_OP_ROOTS is authorised for an operator, in the opening, or in root recovery. -/
def State.authRoots (s : State) (who : Nat) : Bool := s.authPlain who || decide (s.role who = 3)

def State.secOpRoots (s : State) (bytes : List Byte) : State :=
  let n := bytes.length
  if n % 48 ≠ 0 ∨ n > 192 ∨ (n = 0 ∧ !s.sec.opClosed) then s.answer 0x0301
  else ((s.keepVal 0x7000 5 n (leNat bytes)).onSec (fun c => { c with opClosed := true })).answer 0

def execSecOpRoots (who : Fin 16) (bytes : List Byte) (s : State) : Res :=
  .next (s.command who.val 0x7000 (s.authRoots who.val) (fun s => s.secOpRoots bytes))

/-- A chain is accepted when its leaf key is the DeviceID key and its root is present and not revoked. -/
def State.secCert (s : State) (chain : List Byte) : State :=
  let rootOk := match Config.certRoot chain with
    | some r => Nat.testBit s.sec.rootsPresent r && !Nat.testBit s.sec.rootsRevoked r
    | none => false
  if chain.length > 4096 ∨ Config.certLeaf chain ≠ s.sec.devidHash ∨ !rootOk then s.answer 0x0301
  else (s.keepVal 0x7000 4 chain.length (leNat chain)).answer 0

def execSecCert (who : Fin 16) (chain : List Byte) (s : State) : Res :=
  .next (s.command who.val 0x7000 (s.authPlain who.val) (fun s => s.secCert chain))

end Sys2Proof.Machine
end

