-- ==== Sys2Proof/Machine/Recorder.lean ====
section
/-!
DEFINITION. The event recorder (chapter 23): the flash ring, reading, clearing, operating time.
-/

namespace Sys2Proof.Machine
open Sys2Proof

/-- Sequence numbers count modulo 2^32 - 1 (R646). -/
def seqMod : Nat := 0xFFFFFFFF

/-- Slots of the flash ring and of a sector (R647). -/
def ringSlots : Nat := 65664
def sectorSlots : Nat := 128

/-- ER_HEAD's newest number (R650). -/
def Recorder.head (r : Recorder) : Nat := (r.next + seqMod - 1) % seqMod

/-- How many sequence numbers are readable. -/
def Recorder.span (r : Recorder) : Nat := (r.next + seqMod - r.oldest) % seqMod

/-- A record as its 32 bytes (Table 23-1). -/
def EventRec.word (x : EventRec) : Nat :=
  x.seq % 2 ^ 32 + x.detail % 2 ^ 16 * 2 ^ 32 + x.cls % 2 ^ 16 * 2 ^ 48 + x.opsec % 2 ^ 32 * 2 ^ 64 + x.pcycles % 2 ^ 32 * 2 ^ 96
    + x.p0 % 2 ^ 32 * 2 ^ 128 + x.p1 % 2 ^ 32 * 2 ^ 160 + x.bell % 2 ^ 64 * 2 ^ 192
def EventRec.bytes (x : EventRec) : List Byte := leBytes 32 x.word

/-- The readable record of a sequence number: in the flash, or still in the queue. -/
def Recorder.find (r : Recorder) (seq : Nat) : Option EventRec :=
  match Tab.get none r.ring (seq % ringSlots) with
  | some x => if x.seq = seq then some x else r.queue.find? (fun y => y.seq = seq)
  | none => r.queue.find? (fun y => y.seq = seq)

/-- Up to `max` records of a class (0xFFFF any) from position `d` after OLDEST on, ascending; `n` positions are left. -/
def Recorder.collect (r : Recorder) (cls max : Nat) : Nat → Nat → List EventRec
  | 0, _ => []
  | n + 1, d =>
    if max = 0 then []
    else
      match r.find ((r.oldest + d) % seqMod) with
      | some x => if cls = 0xFFFF ∨ x.cls = cls then x :: Recorder.collect r cls (max - 1) n (d + 1) else Recorder.collect r cls max n (d + 1)
      | none => Recorder.collect r cls max n (d + 1)

/-- Where a read from a sequence number starts, after OLDEST; none: it lies beyond HEAD + 1 (R650). The flag says that it lay before OLDEST. -/
def Recorder.start (r : Recorder) (seq : Nat) : Option (Nat × Bool) :=
  let d := (seq + seqMod - r.oldest) % seqMod
  if seq = 0xFFFFFFFF then none
  else if d ≤ r.span then some (d, false)
  else if (seq + seqMod - r.next % seqMod) % seqMod < 2 ^ 31 then none
  else some (0, true)

/-- Records of a class from a sequence number on. -/
def Recorder.readFrom (r : Recorder) (seq cls max : Nat) : Option (List EventRec × Bool) :=
  (r.start seq).map (fun p => (r.collect cls max (r.span - p.1) p.1, p.2))

/-! ## Writing the flash (R647, R648) -/

/-- The recorder shows another state, which is recorded. -/
def State.recState (s : State) (st : Nat) : State :=
  if s.recorder.state = st then s else ({ s with recorder := { s.recorder with state := st } }).event 1 4 st 0

/-- A record is programmed into its slot; a sector that the head enters is erased first, and at least 65,536 records stay readable. Once a CLEAR
record is in the flash, every other sector holds only unreadable records and is erased (R652). -/
def Recorder.program (r : Recorder) (x : EventRec) : Recorder :=
  let slot := x.seq % ringSlots
  let ring1 := if slot % sectorSlots = 0 then r.ring.filter (fun e => decide (e.1 / sectorSlots ≠ slot / sectorSlots)) else r.ring
  let ring2 := if x.cls = 1 ∧ x.detail = 1 ∧ x.seq = r.oldest then ring1.filter (fun e => decide (e.1 / sectorSlots = slot / sectorSlots)) else ring1
  let d := (x.seq + seqMod - r.oldest) % seqMod
  { r with
    ring := Tab.set none ring2 slot (some x)
    oldest := if slot % sectorSlots = 0 ∧ d < 2 ^ 31 ∧ d > 65536 then (x.seq + seqMod - 65536) % seqMod else r.oldest }

/-- RECORD_FLASH_WRITE: what the flash does with the next record: 0 it is programmed, 1 program or erase fails twice, 2 no answer. -/
def execRecordFlashWrite (flash : Fin 3) (s : State) : Res :=
  .next (if s.recorder.state = 2 ∨ s.dev.st = devCold then s
    else if flash.val = 2 then s.recState 1
    else
      match s.recorder.queue with
      | [] => s.recState 0
      | x :: rest =>
        if flash.val = 1 then s.recState 2
        else ({ s with recorder := { s.recorder.program x with queue := rest } }).recState 0)

/-! ## Clearing (R652) -/

/-- A CLEAR record enters the queue; every earlier record becomes unreadable. -/
def State.erClear (s : State) (who : Nat) : State :=
  let r := s.recorder
  let need := if r.lostPending = 0 then 511 else 510
  if r.state = 1 ∧ r.queue.length ≥ 512 then s.answer 0x0402
  else if r.state ≠ 2 ∧ r.queue.length > need then s.waits
  else
    let s1 := s.event 1 1 r.span (if (s.sessionOf who).isSome then 0 else 1)
    ({ s1 with recorder := { s1.recorder with oldest := s1.recorder.head, clears := s1.recorder.clears + 1 } }).answer 0

/-- ER_CLEAR. -/
def execErClear (who : Fin 16) (s : State) : Res := .next (s.command who.val 0x9020 (s.authPlain who.val) (fun s => s.erClear who.val))

/-! ## Operating time (R539, R644) -/

/-- The operating time, and the state of the cycle counter with it, are written to the persistent store. -/
def State.saveTime (s : State) : State :=
  let t := s.thermal
  { s with recorder := { s.recorder with opsecStored := s.recorder.opsec }, thermal := { t with saved := (t.armed, t.cyclePeak, t.trough) } }

/-- OPTIME_PERSIST. -/
def execOptimePersist (s : State) : Res := .next (if s.dev.st = devCold then s else s.saveTime)

/-- What the recorder holds after power was removed: the records that were only in the queue are lost, the head is the last of the chain (R647, R648). -/
def Recorder.powerLost (r : Recorder) : Recorder :=
  let next := match r.queue with | x :: _ => x.seq | [] => r.next
  let gone := r.queue.any (fun x => x.seq = r.oldest)
  let first := r.ring.foldl (fun (m : Nat × Nat) e => match e.2 with
    | some x => let d := (next + seqMod - x.seq) % seqMod; if d > m.1 then (d, x.seq) else m
    | none => m) (0, next)
  { r with queue := [], next := next, oldest := if gone then first.2 else r.oldest, lostPending := 0, state := 0, opsec := r.opsecStored }

end Sys2Proof.Machine
end

