-- ==== Sys2Proof/Machine/Firmware.lean ====
section
/-!
DEFINITION. Firmware processors, the loader, staging, activation, watchdogs, the firmware rings to the host (chapter 20).
-/

namespace Sys2Proof.Machine
open Sys2Proof

def State.onLoader (s : State) (f : Loader → Loader) : State := s.onFw (fun w => { w with loader := f w.loader })
def State.setImage (s : State) (set type : Nat) (x : Image) : State :=
  s.onFw (fun f => { f with images := Tab.set Image.blank f.images (4 * set + type) x })

/-- A processor starts its image. -/
def State.startProc (s : State) (p : Nat) : State := s.setProc p { s.proc p with st := 1, healthy := false, beat := 0 }

/-! ## Images (R574, R575) -/

/-- Largest body and data memory of a type. -/
def bodyMax (t : Nat) : Nat := if t = 0 then 2 ^ 21 else if t = 1 then 2 ^ 19 else if t = 2 then 2 ^ 20 else 2 ^ 18
def dataMax (t : Nat) : Nat := if t = 0 then 2 ^ 22 else if t = 2 then 2 ^ 19 else 2 ^ 18

/-- `n` bytes of an image at offset `o`, as a number. -/
def imgField (b : List Byte) (o n : Nat) : Nat := leNat ((b.drop o).take n)

/-- Reserved bytes of the header are zero. -/
def imgReserved (b : List Byte) : Bool := decide (imgField b 0x1D 3 = 0 ∧ imgField b 0x24 28 = 0 ∧ imgField b 0x70 48 = 0)

/-- The header is well formed (reason 2). -/
def imgHeaderOk (b : List Byte) : Bool :=
  let t := imgField b 6 1
  let body := imgField b 12 4
  let chain := imgField b 0x18 4
  decide (b.length ≥ 256 ∧ imgField b 0 4 = 0x4B393646 ∧ imgField b 4 2 = 1 ∧ t ≤ 3 ∧ imgField b 7 1 ≤ 64) && imgReserved b
    && decide (body % 64 = 0 ∧ body ≤ bodyMax t ∧ imgField b 0x10 4 < body ∧ imgField b 0x14 4 ≤ dataMax t ∧ 1 ≤ chain ∧ chain ≤ 4096
      ∧ imgField b 0x1C 1 ≤ 3 ∧ b.length = 256 + body + chain)

/-- Why an image for the place of type `t` is refused: the first reason of Table 20-5 that applies, 0 for none. `sec` is the VERSION of the
security image that will run with it. -/
def State.imageRefusal (s : State) (t : Nat) (b : List Byte) (sec : Nat) : Nat :=
  let body := imgField b 12 4
  let root := imgField b 0x1C 1
  if !imgHeaderOk b then 2
  else if Config.sha384 ((b.drop 256).take body) ≠ imgField b 0x40 48 then 3
  else if !Config.imageSigned (b.take 256) (b.drop (256 + body)) root ∨ !Nat.testBit s.sec.rootsPresent root
      ∨ Nat.testBit s.sec.rootsRevoked root then 4
  else if imgField b 7 1 < Tab.get 0 s.sec.ar (imgField b 6 1) then 5
  else if imgField b 0x20 4 > sec then 6
  else if imgField b 6 1 ≠ t then 7
  else 0

/-- An image as the store keeps it. -/
def imageOf (b : List Byte) : Image :=
  ⟨true, imgField b 8 4, imgField b 7 1, imgField b 0x20 4, imgField b 0x1C 1, b.length, Tab.setBytes 0#8 [] 0 b⟩

/-! ## Loader messages (R577) -/

/-- A message that is not discarded: its header as a number. -/
def loaderHeader (msg : List Byte) : Option Nat :=
  let h := leNat (msg.take 32)
  if msg.length ≥ 32 ∧ natBits 255 224 h = crc32c (msg.take 28) ∧ natBits 223 220 h = 1 ∧ msg.length = 32 + natBits 183 171 h
      ∧ natBits 183 171 h ≤ 1024 ∧ natBits 170 160 h = 0 ∧ natBits 95 64 h = 0 then some h
  else none

/-- The message is of a type, and carries the transfer's XID and the device's SERIAL. -/
def State.loaderFor (s : State) (type : Nat) (msg : List Byte) : Option Nat :=
  (loaderHeader msg).filter (fun h =>
    decide (natBits 219 216 h = type ∧ natBits 207 192 h = s.fw.loader.xid ∧ natBits 63 0 h = s.sec.serial % 2 ^ 64))

/-- SOLICIT to FW_SERVER, or to ff02::1: a new transfer identifier. -/
def State.solicit (s : State) : State :=
  let s1 := s.onLoader (fun l =>
    { l with types := if l.use = 1 then [1, 2, 3] else l.types, st := 1, xid := (l.xid + 1) % 65536, solicit := s.bell.count, offered := [], todo := [], reads := [], buf := [], have' := [] })
  s1.emit .mgmt 0x101 [s1.fw.loader.xid, s.val 0x1F50 1 0, s1.fw.loader.name, s.sec.serial]

/-- The loader begins for a use with the name of a set. -/
def State.startLoad (s : State) (use name : Nat) (types : List Nat) : State :=
  (s.onLoader (fun l => { Loader.reset with xid := l.xid, use := use, name := name, types := types })).solicit

def State.stopLoad (s : State) : State := s.onLoader (fun l => { Loader.reset with xid := l.xid })

/-- Reads go out while fewer than 8 are outstanding. -/
def State.issueReads : Nat → State → State
  | 0, s => s
  | n + 1, s =>
    let l := s.fw.loader
    match l.todo with
    | [] => s
    | r :: rest =>
      if l.reads.length ≥ 8 then s
      else State.issueReads n ((s.onLoader (fun l => { l with todo := rest, reads := l.reads ++ [⟨r.1, r.2.1, r.2.2, s.bell.count⟩] })).emit .mgmt 0x103
        [l.xid, r.1, r.2.1, r.2.2, s.sec.serial])

/-- The READs of an image: 65,536 bytes each, the last one rounded up to 1,024. -/
def readsOf (t : Nat) (bytes : Nat) : List (Nat × Nat × Nat) :=
  (List.range ((bytes + 65535) / 65536)).map (fun i =>
    let left := bytes - 65536 * i
    (t, 65536 * i, if left ≥ 65536 then 65536 else (left + 1023) / 1024 * 1024))

def Loader.bytes (l : Loader) (t : Nat) : Nat := (l.offered.getD t (0, 0)).1

/-- A refusal at boot is recorded, at most once a minute (R579). -/
def State.bootRefusal (s : State) (code : Nat) : State :=
  let last := s.dev.loaderWait
  if last = 0 ∨ s.bell.count ≥ last - 1 + 60000000 then
    (s.event 0x10 (0x8000 + s.dev.bootStep) ((s.bell.count - s.dev.bootStart) / 1000) code).onDev (fun d => { d with loaderWait := s.bell.count + 1 })
  else s

/-- A signature that fails is an authentication failure (Table 19-6). -/
def State.authFailedImage (s : State) (t code : Nat) : State := if code = 4 then s.authFailed (4 * 2 ^ 32 + t) t else s

/-- An image or a set is refused: staging ends; otherwise the device solicits again after 1 s. -/
def State.loadRefused (s : State) (t code version : Nat) : State :=
  let s1 := (s.onFw (fun f => { f with refusal := code }))
  if s.fw.loader.use = 2 then
    (((s1.stopLoad).onFw (fun f => { f with stgState := 3 })).authFailedImage t code).event 0x80 6 t version
  else
    ((s1.onLoader (fun l => { l with st := 1, solicit := s.bell.count, todo := [], reads := [], buf := [], have' := [], offered := [] })).authFailedImage t code).bootRefusal code

/-- OFFER: the first with the SOLICIT's XID and SERIAL is taken. A boot set without a security or power image is refused. -/
def execOffer (msg : List Byte) (s : State) : Res :=
  let l := s.fw.loader
  match s.loaderFor 2 msg with
  | none => .next s
  | some h =>
    if l.st ≠ 1 ∨ natBits 183 171 h ≠ 32 ∨ natBits 191 184 h ≠ 255 then .next s
    else
      let entry (t : Nat) : Nat × Nat := (imgField msg (32 + 8 * t) 4, imgField msg (36 + 8 * t) 4)
      let offered := (List.range 4).map entry
      let wanted := ((if l.use = 2 then [0, 1, 2, 3] else l.types).filter (fun t => decide ((offered.getD t (0, 0)).1 ≠ 0)))
      let s1 := s.onLoader (fun l => { l with st := 2, offered := offered, types := wanted, lastData := s.bell.count })
      if (l.use ≤ 1 ∧ (entry 0).1 = 0) then .next (s.loadRefused 0 7 0)
      else if (l.use ≤ 1 ∧ (entry 1).1 = 0) then .next (s.loadRefused 1 7 0)
      else if wanted = [] then .next (s.loadRefused 0 7 0)
      else
        match wanted.find? (fun t => decide ((entry t).1 > 2 ^ 22)) with
        | some t => .next (s.loadRefused t 2 (entry t).2)
        | none => .next (State.issueReads 8 (s1.onLoader (fun l => { l with todo := wanted.flatMap (fun t => readsOf t (entry t).1) })))

/-! ## What has arrived (R578) -/

def Loader.blockThere (l : Loader) (t b : Nat) : Bool := Tab.get false l.have' (t * 4096 + b)

/-- Every block of a READ that the image has is there. -/
def Loader.readDone (l : Loader) (r : LoadRead) : Bool :=
  (List.range (r.count / 1024)).all (fun i => decide (r.offset + 1024 * i ≥ l.bytes r.itype) || l.blockThere r.itype (r.offset / 1024 + i))

def Loader.complete (l : Loader) : Bool := decide (l.st = 2) && l.todo.isEmpty && l.reads.isEmpty

/-- The bytes of an image that has arrived. -/
def Loader.content (l : Loader) (t : Nat) : List Byte := Tab.bytes 0#8 l.buf (t * 2 ^ 22) (l.bytes t)

/-- The first refusal among the types of a transfer, with its type. -/
def State.firstRefusal (s : State) (sec : Nat) : List Nat → Option (Nat × Nat)
  | [] => none
  | t :: rest =>
    match s.imageRefusal t (s.fw.loader.content t) sec with
    | 0 => State.firstRefusal s sec rest
    | c => some (t, c)

/-- VERSION of the security image that runs with the transfer's images. -/
def State.secVersion (s : State) : Nat :=
  let l := s.fw.loader
  if l.types.contains 0 then imgField (l.content 0) 8 4 else (s.image 0 0).version

/-- The transfer's images take their places in a set. -/
def State.placeImages (s : State) (set : Nat) : State :=
  s.fw.loader.types.foldl (fun s t => s.setImage set t (imageOf (s.fw.loader.content t))) s

/-- Processors of a type that are stopped start. -/
def State.startType (s : State) (t : Nat) : State :=
  (typeProcs t).foldl (fun s p => if (s.proc p).st = 0 ∧ !(decide (p ≥ 32) && decide (s.unit ukCluster (p - 32) = usRetired)) then s.startProc p else s) s

/-- A transfer for the boot or for a restart is complete: its images are verified, placed in RUNNING and started: the security image, which
loads the others in a transfer of its own; then the power core (R578). -/
def State.loadDone (s : State) : State :=
  let l := s.fw.loader
  if l.use = 2 ∨ !l.complete then s
  else
    match s.firstRefusal s.secVersion l.types with
    | some (t, c) => s.loadRefused t c (imgField (l.content t) 8 4)
    | none =>
      let s1 := (s.placeImages 0).stopLoad
      if l.use = 0 then
        let s2 := s1.startType 0
        if s.dev.st = devBooting ∧ !(s.image 0 1).present then s2.startLoad 1 (s2.val 0x1F50 2 0) [1, 2, 3] else s2
      else if l.use = 1 then s1.startType 1
      else l.types.foldl State.startType s1

/-- DATA: bytes of a block in any order. -/
def execData (msg : List Byte) (s : State) : Res :=
  let l := s.fw.loader
  match s.loaderFor 4 msg with
  | none => .next s
  | some h =>
    let t := natBits 191 184 h
    let o := natBits 159 128 h
    let n := natBits 183 171 h
    let left := l.bytes t - o
    if l.st ≠ 2 ∨ !l.types.contains t ∨ o % 1024 ≠ 0 ∨ left = 0 ∨ n ≠ (if left ≥ 1024 then 1024 else left) then .next s
    else
      let s1 := s.onLoader (fun l =>
        let l1 := { l with
          lastData := s.bell.count, buf := Tab.setBytes 0#8 l.buf (t * 2 ^ 22 + o) (msg.drop 32), have' := Tab.set false l.have' (t * 4096 + o / 1024) true }
        { l1 with reads := l1.reads.filter (fun r => !l1.readDone r) })
      .next ((State.issueReads 8 s1).loadDone)

/-- LOADER_ERROR: the spec gives the message its codes and no effect; the retries of R578 go on. -/
def execLoaderError (msg : List Byte) (s : State) : Res :=
  match s.loaderFor 5 msg with
  | none => .next s
  | some h => .next (s.emit .firmware 2 [natBits 215 208 h])

/-- SOLICIT_RETRY: 1 s without an OFFER (R578), or after a refusal at boot (R579). -/
def execSolicitRetry (s : State) : Res :=
  let l := s.fw.loader
  .next (if l.st = 1 ∧ s.bell.count ≥ l.solicit + 1000000 then
      let s1 := s.solicit
      if l.use ≤ 1 then (s1.onFw (fun f => { f with refusal := if f.refusal = 0 then 1 else f.refusal })).bootRefusal 1 else s1
    else s)

/-- READ_RETRY: blocks still missing 20 ms after their READ are requested again. -/
def execReadRetry (s : State) : Res :=
  let l := s.fw.loader
  let due (r : LoadRead) : Bool := decide (l.st = 2 ∧ s.bell.count ≥ r.bell + 20000)
  let missing := (l.reads.filter due).flatMap (fun r => ((List.range (r.count / 1024)).filter (fun i =>
    decide (r.offset + 1024 * i < l.bytes r.itype) && !l.blockThere r.itype (r.offset / 1024 + i))).map (fun i => (r.itype, r.offset + 1024 * i)))
  .next (missing.foldl (fun s b => s.emit .mgmt 0x103 [l.xid, b.1, b.2, 1024, s.sec.serial])
    (s.onLoader (fun l => { l with reads := l.reads.map (fun r => if due r then { r with bell := s.bell.count } else r) })))

/-- LOADER_RESTART: 2 s without any DATA (refusal reason 1). -/
def execLoaderRestart (s : State) : Res :=
  let l := s.fw.loader
  .next (if l.st = 2 ∧ !l.complete ∧ s.bell.count ≥ l.lastData + 2000000 then (s.onFw (fun f => { f with refusal := 1 })).solicit else s)

/-! ## Staging (R581, Table 20-7) -/

def State.clearSet (s : State) (set : Nat) : State := (List.range 4).foldl (fun s t => s.setImage set t Image.blank) s

/-- FW_CMD STAGE returns at once. -/
def State.fwStage (s : State) : State :=
  if s.fw.stgState = 1 ∨ s.fw.loader.st ≠ 0 then s.answer 0x0401
  else if s.fw.pcState ≠ 0 then s.answer 0x0402
  else (((s.clearSet 1).onFw (fun f => { f with stgState := 1, refusal := 0 })).startLoad 2 (s.val 0x1F50 3 0) []).answer 0

/-- FW_CMD DISCARD empties STAGED; a staging that runs ends. -/
def State.fwDiscard (s : State) : State :=
  if s.fw.pcState ≠ 0 then s.answer 0x0402
  else
    let s1 := if s.fw.loader.use = 2 then s.stopLoad else s
    ((s1.clearSet 1).onFw (fun f => { f with stgState := 0 })).answer 0

def execFwStage (who : Fin 16) (s : State) : Res := .next (s.command who.val 0x1F50 (s.authPlain who.val) State.fwStage)
def execFwDiscard (who : Fin 16) (s : State) : Res := .next (s.command who.val 0x1F50 (s.authPlain who.val) State.fwDiscard)

/-- STAGE_COMPLETE: once everything has arrived, the set is verified and becomes READY, or staging ends REFUSED. -/
def execStageComplete (s : State) : Res :=
  let l := s.fw.loader
  if s.fw.stgState ≠ 1 ∨ l.use ≠ 2 then .next s
  else if !l.complete then .next s.waits
  else
    match s.firstRefusal s.secVersion l.types with
    | some (t, c) => .next (s.loadRefused t c (imgField (l.content t) 8 4))
    | none =>
      let s1 := ((s.placeImages 1).stopLoad).onFw (fun f => { f with stgState := 2 })
      .next (s1.event 0x80 1 1 (s1.setVersion 1))

/-! ## Activation (R582 to R587) -/

def pcSubs : List (Nat × Nat × Nat) := [(1, 8, 0), (2, 1, 1)]

/-- FALLBACK holds an image, and R575 accepts each of its images now. -/
def State.fallbackOk (s : State) : Bool :=
  let sec := if (s.image 2 0).present then (s.image 2 0).version else (s.image 0 0).version
  (List.range 4).any (fun t => (s.image 2 t).present)
    && (List.range 4).all (fun t => !(s.image 2 t).present || decide (s.imageRefusal t (s.image 2 t).content sec = 0))

/-- PC_CMD SCHEDULE: the idle banks are loaded with the set's images. -/
def State.pcSchedule (s : State) (who : Nat) : State :=
  let bell := s.staged who 0x1F51 1 0
  let slot := s.staged who 0x1F51 2 1
  if s.bellOut evActivate bell ∨ slot = 0 ∨ slot > 2 then s.answer 0x0301
  else if s.fw.pcState = 1 ∨ s.fw.pcState = 2 ∨ s.evConflict evActivate slot bell then s.answer 0x0401
  else if (slot = 1 ∧ s.fw.stgState ≠ 2) ∨ (slot = 2 ∧ !s.fallbackOk) ∨ s.bell.st = tsUnset ∨ s.fw.pcState ≠ 0 then s.answer 0x0402
  else
    (((s.arm evActivate 2 slot bell).onFw (fun f =>
      { f with pcState := 1, pcSlot := slot, pcBell := bell, pcFirst := bell, pcRearmed := false })).applied who 0x1F51 pcSubs).answerBell bell

/-- The slot of the event of an activation. -/
def State.pcEvent (s : State) : Option Nat := (List.range 64).find? (fun i => decide ((s.slot i).kind = evActivate) && (s.slot i).waiting)

/-- PC_CMD CANCEL frees the slot. -/
def State.pcCancel (s : State) (who : Nat) : State :=
  if s.fw.pcState ≠ 1 ∧ s.fw.pcState ≠ 2 then s.answer 0x0402
  else
    let s1 := match s.pcEvent with
      | some i => (s.setSlot i { s.slot i with st := esCancelled }).onBell (fun b => { b with cancelled := b.cancelled + 1 })
      | none => s
    ((s1.onFw (fun f => { f with pcState := 0, pcBell := 0, pcRearmed := false })).applied who 0x1F51 pcSubs).answer 0

def execPcSchedule (who : Fin 16) (s : State) : Res := .next (s.command who.val 0x1F51 (s.authPlain who.val) (fun s => s.pcSchedule who.val))
def execPcCancel (who : Fin 16) (s : State) : Res := .next (s.command who.val 0x1F51 (s.authPlain who.val) (fun s => s.pcCancel who.val))

/-- The ACTIVATE event of a slot is handed over (R584, R585): DEFERRED in a level-2 emergency; otherwise control cores and scheduler core switch, the
power core at its next sample boundary, the security core after it. -/
def State.activate (s : State) (i : Nat) : State :=
  let x := s.slot i
  if s.power.level ≥ 2 then
    (((s.setSlot i { x with st := esDeferred }).onBell (fun b => { b with deferred := b.deferred + 1 })).onFw (fun f =>
      { f with pcState := 2, pcRearmed := false, deferrals := f.deferrals + 1 })).slotEvent 3
  else
    let s1 := ((s.setSlot i { x with st := esPerformed }).onBell (fun b => { b with performed := b.performed + 1 })).onFw (fun f =>
      { f with pcState := 3, pcStart := x.bell, pcSwitched := [], pcRearmed := false })
    let s2 := s1.switchTypes (s1.setTypes.filter (· ≥ 2))
    if s2.setTypes.contains 1 then s2 else (s2.switchTypes (s2.setTypes.filter (· = 0))).probation

/-- ACTIVATION_REARM: the level has fallen below 2. -/
def execActivationRearm (s : State) : Res :=
  match s.pcEvent with
  | some i =>
    if s.fw.pcState = 2 ∧ s.power.level < 2 then
      let b := s.bell.count + 1000000
      .next ((s.setSlot i { s.slot i with st := esArmed, bell := b }).onFw (fun f => { f with pcState := 1, pcBell := b, pcRearmed := true }))
    else .next s
  | none => .next s

/-- Every image on trial is healthy on every processor that runs it. -/
def State.trialHealthy (s : State) : Bool :=
  s.fw.pcSwitched.all (fun t => (typeProcs t).all (fun p => decide ((s.proc p).st = 0) || (s.proc p).healthy))

/-- The set is accepted (R586): it becomes RUNNING and the old RUNNING set FALLBACK. -/
def State.acceptSet (s : State) : State :=
  let set := slotSet s.fw.pcSlot
  let s1 := s.slotEvent 2
  let s2 := (List.range 4).foldl (fun t i =>
    (t.setImage 2 i (s.image 0 i)).setImage 0 i (if (s.image set i).present then s.image set i else s.image 0 i)) s1
  let s3 := if set = 1 then (s2.clearSet 1).onFw (fun f => { f with stgState := 0 }) else s2
  s3.onFw (fun f => { f with pcState := 0, pcBell := 0, pcSwitched := [], activations := f.activations + 1 })

/-- HEALTH_DEADLINE: 5 s after the activation not every image is healthy: the set rolls back; a power core in an emergency waits for its end. -/
def execHealthDeadline (s : State) : Res :=
  if s.fw.pcState ≠ 4 ∨ s.bell.count < s.fw.pcStart + 5000000 ∨ s.trialHealthy then .next s
  else
    let s1 := s.onFw (fun f => { f with pcState := 5 })
    if s.power.level ≥ 2 ∧ s.fw.pcSwitched.contains 1 then .next (s1.switchBack (s.fw.pcSwitched.filter (· = 0)))
    else .next s1.rolledBack

/-! ## Watchdogs and faults (R572, R573) -/

/-- The type of the image that a processor runs. -/
def procType (p : Nat) : Nat := if p < 3 then p else 3

/-- What the third restart of a processor within 3,600,000,000 bells does. -/
def State.thirdRestart (s : State) (p : Nat) : State :=
  if p = 0 then
    let s1 := (s.setProc 0 { s.proc 0 with st := 0, healthy := false }).endSessions.releaseReqs
    ((s1.pauseRings true).enterSafe 3).startLoad 0 (s.val 0x1F50 2 0) [0]
  else if p = 1 then ((s.setProc 1 { s.proc 1 with st := 3, healthy := false }).onPower (fun q => { q with guardHold := true })).enterSafe 3
  else if p = 2 then (s.setProc 2 { s.proc 2 with st := 3, healthy := false }).enterSafe 3
  else (s.setProc p { s.proc p with st := 3, healthy := false }).loseCluster (p - 32)

/-- WATCHDOG_EXPIRY: BEAT of a processor has not changed for its period; `dump` is the fault dump taken of it, `poisoned` says that the stored image
is poison. -/
def execWatchdogExpiry (proc : Fin 64) (dump : List Byte) (poisoned : Bool) (s : State) : Res :=
  let p := proc.val
  let x := s.proc p
  if x.st = 0 ∨ s.dev.st = devCold then .next s
  else
    let recent := x.restarts.filter (fun b => decide (s.bell.count < b + 3600000000))
    let s1 := (s.setProc p { x with restarts := recent ++ [s.bell.count], dump := dump.take 16384, dumpBell := s.bell.count }).event 0x80 5 p
      (s.running (procType p)).version
    if recent.length ≥ 2 then .next (s1.thirdRestart p)
    else
      let s2 := if poisoned then (s1.setProc p { s1.proc p with st := 0, healthy := false }).startLoad 3 (s.val 0x1F50 2 0) [procType p] else s1.startProc p
      if p = 0 then .next ((s2.endSessions.releaseReqs).pauseRings true)
      else if p = 1 then .next (s2.onPower (fun q => { q with guardHold := true }))
      else if p = 2 then .next s2
      else .next (s2.onFw (fun f => { f with ctxsel := Tab.set 0 f.ctxsel (p - 32) 0 }))

/-- FW_ACCESS_FAULT: an access fault on poisoned data, or outside the processor's reach (R568): it traps to the image's handler with the address in
mtval; in the handler itself the processor stops. -/
def execFwAccessFault (proc : Fin 64) (addr : Nat) (inHandler : Bool) (s : State) : Res :=
  let x := s.proc proc.val
  .next (if x.st = 0 ∨ x.st = 3 then s
    else if inHandler then s.setProc proc.val { x with st := 3, healthy := false }
    else s.emit .firmware 1 [proc.val, addr])

/-! ## Firmware rings (R589 to R591) -/

/-- A response of a firmware ring: TYPE with bit 7 set, STATUS, SEQ, the CRC of bytes 0 to 11. -/
def fnResponse (type seq status : Nat) (payload : List Byte) : List Byte :=
  let h := leBytes 12 (seq % 65536 * 2 ^ 64 + status * 2 ^ 80 + (type % 128 + 128) * 2 ^ 88)
  h ++ leBytes 4 (crc32c h) ++ payload

def fnOk : Nat := 0
def fnTimeout : Nat := 1
def fnDenied : Nat := 2
def fnMalformed : Nat := 3
def fnGap : Nat := 4

/-- Takes the next request of a ring: a frame whose CRC fails, or of another type than 1, is MALFORMED; `k` answers its payload. -/
def State.fnTake (s : State) (f : Nat) (k : Nat → List Byte → State → State) : State :=
  if !s.ringReady f then s
  else
    let b := s.ringFrame f
    let h := leNat (b.take 12)
    let s1 := s.ringTake f
    if b.length < 16 ∨ leNat ((b.drop 12).take 4) ≠ crc32c (b.take 12) ∨ natBits 95 88 h ≠ 1 then
      s1.ringRespond f (fnResponse (natBits 95 88 h) (natBits 79 64 h) fnMalformed [])
    else k (natBits 79 64 h) (b.drop 16) s1

/-- WAIT is answered when a record of its class from FROM on exists; the identifier is CLASS × 2^16 + SEQ. -/
def State.answerWait (s : State) (id from' : Nat) : Option State :=
  match s.recorder.readFrom from' (id / 65536) 7 with
  | some (x :: rest, before) =>
    let l := x :: rest
    let last := (l.getLast?.getD x).seq
    some (s.ringRespond 1 (fnResponse 1 (id % 65536) (if before then fnGap else fnOk) (leBytes 4 (nextSeq last) ++ l.flatMap EventRec.bytes)))
  | _ => none

/-- FR_WAIT: a WAIT that waits is answered as soon as it can be; otherwise ring 1 takes its next one. -/
def execFrWait (s : State) : Res :=
  match s.host.waits with
  | w :: rest =>
    match s.answerWait w.1 w.2.1 with
    | some t => .next (t.onHost (fun h => { h with waits := rest }))
    | none => .next s
  | [] =>
    .next (s.fnTake 1 (fun seq b s =>
      let from' := leNat (b.take 4)
      let timeout := leNat ((b.drop 6).take 2)
      let id := leNat ((b.drop 4).take 2) * 65536 + seq
      if b.length < 8 ∨ from' = 0xFFFFFFFF ∨ timeout = 0 ∨ timeout > 60000 then s.ringRespond 1 (fnResponse 1 seq fnMalformed [])
      else
        match s.answerWait id from' with
        | some t => t
        | none => s.onHost (fun h => { h with waits := [(id, from', s.bell.count + 1000 * timeout)] })))

/-- FR_WAIT_TIMEOUT. -/
def execFrWaitTimeout (s : State) : Res :=
  match s.host.waits with
  | w :: rest =>
    if s.bell.count < w.2.2 then .next s
    else
      let s1 := s.onHost (fun h => { h with waits := rest })
      match s1.answerWait w.1 w.2.1 with
      | some t => .next t
      | none => .next (s1.ringRespond 1 (fnResponse 1 (w.1 % 65536) fnTimeout (leBytes 4 w.2.1)))
  | [] => .next s

/-- The 48 bytes of versions: RUNNING, STAGED, FALLBACK, each by type. -/
def State.versions (s : State) : List Byte :=
  (List.range 3).flatMap (fun set => (List.range 4).flatMap (fun t => leBytes 4 (s.image set t).version))

/-- FR_STATUS. -/
def execFrStatus (s : State) : Res :=
  .next (s.fnTake 2 (fun seq _ s => s.ringRespond 2 (fnResponse 1 seq fnOk
    (s.versions ++ leBytes 1 s.fw.pcState ++ leBytes 1 s.fw.stgState ++ leBytes 8 s.fw.pcBell))))

/-- The dump may not leave: the security core's, and that of a control core of a SEALED partition (R591). -/
def State.dumpDenied (s : State) (p : Nat) : Bool :=
  decide (p = 0) || (decide (p ≥ 32) && (match s.clusterPart (p - 32) with | some q => decide ((s.seal q).st = 1) | none => false))

/-- FR_DUMP. -/
def execFrDump (s : State) : Res :=
  .next (s.fnTake 3 (fun seq b s =>
    let p := leNat (b.take 2)
    let o := leNat ((b.drop 2).take 4)
    let d := (s.proc p).dump
    if b.length < 6 ∨ (p > 2 ∧ p < 32) ∨ p > 63 ∨ o % 224 ≠ 0 then s.ringRespond 3 (fnResponse 1 seq fnMalformed [])
    else if s.dumpDenied p then s.ringRespond 3 (fnResponse 1 seq fnDenied [])
    else s.ringRespond 3 (fnResponse 1 seq fnOk (leBytes 4 d.length ++ leBytes 4 (s.proc p).dumpBell ++ (d.drop o).take 224))))

end Sys2Proof.Machine
end

