-- ==== Sys2Proof/Machine/Boot.lean ====
section
/-!
DEFINITION. Power, cold boot, warm reset, pairing and numbering (chapters 21 and 24, R17 to R20, R226, R410).
-/

namespace Sys2Proof.Machine
open Sys2Proof

/-! ## Loss of power (R661, R671) -/

/-- What stays without power: fuses, the flash (recorder, persistent store, persistent numbers), the retirement list, the model's own fields. -/
def State.powerOff (s : State) : State :=
  let c := s.sec
  let t := s.thermal
  { State.reset with
    pending := s.pending, out := s.out, freeCtr := s.freeCtr
    recorder := s.recorder.powerLost
    sec := { Security.reset with
      serial := c.serial, rootsPresent := c.rootsPresent, rootsRevoked := c.rootsRevoked, opClosed := c.opClosed, ar := c.ar
      seals := Tab.mapVals Seal.blank (fun _ x => { x with st := 0, tenant := 0 }) c.seals }
    dict := { Dict.reset with store := s.dict.store, storeUsed := s.dict.storeUsed }
    thermal := { Thermal.reset with
      cycles := t.cycles, swingMax := t.swingMax, bondLost := t.bondLost, saved := t.saved, armed := t.saved.1, cyclePeak := t.saved.2.1, trough := t.saved.2.2 }
    power := { Power.reset with volt := s.power.volt, trim := s.power.trim, agLast := s.power.agLast }
    ecc := { Ecc.reset with retBlocks := s.ecc.retBlocks, retFrames := s.ecc.retFrames, bankMap := s.ecc.bankMap }
    fabric := { Fabric.reset with macs := s.fabric.macs, incarn := s.fabric.incarn }
    pins := { Pins.reset with board := s.pins.board } }

/-- PWRGOOD_DEASSERT: ignored while latched after a trip. -/
def execPwrgoodDeassert (s : State) : Res := .next (if s.dev.st = devLatched ∧ s.pins.thermtrip then s else s.powerOff)

/-- BROWNOUT: an always-on rail is below 90 %; with the rails gone, a latched trip ends too (R663). -/
def execBrownout (s : State) : Res := .next s.powerOff

/-! ## Values at boot -/

/-- Every subindex takes its persistent value or its default (R618, R635). -/
def State.loadStore (s : State) : State := { s with dict := { s.dict with vals := s.dict.store } }

/-- Registers that other chapters hold as state take their persistent values: fabric identity, regulation windows, pager policy, trims. -/
def State.loadValues (s : State) : State :=
  let win (w : Nat) : RegWindow :=
    let v (sub : Nat) : Nat := s.val (0xA000 + w) sub 0
    if v 5 = 1 then ⟨true, v 1, v 2, v 3, v 4⟩ else RegWindow.blank
  { s with
    fabric := { s.fabric with domain := s.val 0x5020 1 0, device := s.val 0x5020 2 0, incarn := (s.fabric.incarn + 1) % 2 ^ 32 }
    hbm := { s.hbm with windows := (List.range 64).foldl (fun t w => Tab.set RegWindow.blank t w (win w)) [] }
    pager := { s.pager with policy := { s.policyNow with
      tableMib := (List.range 4).foldl (fun t p => Tab.set 0 t p (s.val 0x4220 (9 + p) 0)) [] } } }

/-! ## Cold boot (R594) -/

/-- COLD_BOOT: PWRGOOD is asserted with the supplies in their limits: step 1 begins. -/
def execColdBoot (s : State) : Res :=
  .next (if s.dev.st ≠ devCold then s
    else
      let s1 := { s with
        recorder := { s.recorder with pcycles := (s.recorder.pcycles + 1) % 2 ^ 32 }
        pins := { s.pins with pwrgood := true } }
      (s1.onDev (fun d => { d with bootStep := 1, bootKind := 0, bootStart := s.bell.count })).setDev devBooting)

/-- A step has ended and is recorded: its number, its duration, the cause on failure. -/
def State.stepRecord (s : State) (o : BootOutcome) (failed : Bool) (code : Nat) : State :=
  s.event 0x10 ((if failed then 0x8000 else 0) + s.dev.bootStep) o.ms code

def State.toStep (s : State) (n : Nat) : State := s.onDev (fun d => { d with bootStep := n })

/-- Step 1: fuses and persistent values; without the flash, defaults, and nothing is recorded until it answers. -/
def State.bootRom (s : State) (o : BootOutcome) : State :=
  let s1 := if o.ok then s.loadStore else { s with recorder := { s.recorder with state := 1 } }
  let f := (s1.loadValues).fresh
  let s2 := f.1.onSec (fun c => { c with devidHash := Config.deviceIdHash, dbgChallenge := f.2 % 2 ^ 256 })
  (s2.stepRecord o (!o.ok) 0).toStep 2

/-- Step 2: a PLL that does not lock holds the step; otherwise the ROM begins to load. -/
def State.bootClocks (s : State) (o : BootOutcome) : State :=
  if !o.ok then s.stepRecord o true 0
  else (((s.stepRecord o false 0).toStep 3).onPins (fun p => { p with mgLink := 1 })).startLoad 0 (s.val 0x1F50 2 0) [0]

/-- The security core and the power core have their images. -/
def State.imagesStarted (s : State) : Bool := decide ((s.proc 0).st ≠ 0 ∧ (s.proc 1).st ≠ 0)

/-! ### Step 4: calibration, market test and repair, HBM training (R528, R597, R377) -/

/-- A sensor that its calibration fails. -/
def State.calibrate (s : State) (n : Nat) : State :=
  (s.setSensor n { s.sensor n with failed := true }).event 0x21 1 n 0

/-- A failing bank takes a spare of its stall; a stall without one is unusable. -/
def State.repairBank (s : State) (b : Nat × Nat) : State :=
  if s.ecc.bankMap.contains b then s
  else if s.sparesLeft b.1 = 0 then s.markSite b.1
  else s.onDev (fun d => { d with bankRepairs := d.bankRepairs ++ [b] })

/-- Failing bonds of a group take its 2 spares; more of them make the site, or the cluster's control core, unusable. -/
def State.repairBonds (s : State) (b : Nat × Nat × Nat) : State :=
  if b.2.2 ≤ 2 then
    (s.onDev (fun d => { d with bondRepairs := Tab.set 0 d.bondRepairs (b.1 * 256 + b.2.1) b.2.2 })).onThermal (fun t => { t with bondSpares := t.bondSpares + b.2.2 })
  else if b.1 < 288 then s.markSite b.1
  else s.setUnit ukCluster (b.1 - 288) { s.unitRec ukCluster (b.1 - 288) with dstate := usRetired, mstate := usRetired, reason := 7 }

/-- A stack's training: READY at 6.4 Gb/s, DEGRADED below, RETIRED at no allowed rate; repairs and lower rates are recorded. -/
def State.trainStack (s : State) (x : Nat × Nat × Nat) : State :=
  let j := x.1
  let rate := if x.2.1 < s.val 0x4310 6 4800 then 0 else x.2.1
  let s1 := s.setStack j { s.stack j with rate := rate, repairs := x.2.2 }
  let s2 := if x.2.2 ≠ 0 then s1.event 0x31 1 j x.2.2 else s1
  if rate = 0 then (s2.moveUnit ukStack j usRetired 9).event 0x31 3 j 0
  else if rate < 6400 then (s2.moveUnit ukStack j usDegraded 9).event 0x31 2 j rate
  else s2.moveUnit ukStack j usReady 0

def State.bootMemory (s : State) (o : BootOutcome) : State :=
  let s1 := o.sensors.foldl State.calibrate s
  let s2 := o.banks.foldl State.repairBank s1
  let s3 := o.bonds.foldl State.repairBonds s2
  let s4 := o.stalls.foldl State.markSite s3
  let s5 := o.stks.foldl State.trainStack s4
  let s6 := (List.range 18).foldl (fun s i => s.moveUnit ukPort i usTesting 9) (s5.stepRecord o false 0)
  s6.toStep 5

/-- Step 5: a port that has not trained is FENCED (R418). -/
def State.bootLinks (s : State) (o : BootOutcome) : State :=
  let s1 := (List.range 18).foldl (fun s i =>
    if s.unit ukPort i = usTesting then (s.moveUnit ukPort i usFenced 9).event 0x40 1 i usFenced else s) s
  (s1.stepRecord o false 0).toStep 6

/-! ### Step 6: known-answer runs, pairing and numbering, retirement list, reservations (R18 to R20, R599) -/

/-- A site is usable: its pair passed every test, and its sensors are healthy (R18, R531). -/
def State.siteUsable (s : State) (n : Nat) : Bool := !Tab.get false s.dev.siteBad n && s.siteSensed n

def State.quietUnit (s : State) (kind i st : Nat) : State := s.setUnit kind i { s.unitRec kind i with dstate := st, mstate := st, reason := 0 }

/-- Pairs logical number 8k + i with a site. -/
def State.pairSite (k : Nat) (s : State) (x : Nat × Nat) : State :=
  let n := 8 * k + x.2
  ((s.onDev (fun d => { d with coreSite := Tab.set 0 d.coreSite n (x.1 + 1), stallSite := Tab.set 0 d.stallSite n (x.1 + 1) })).quietUnit ukCore n usReady).quietUnit ukStall x.1 usReady

/-- One cluster: its 8 lowest usable pairs are enabled in site order; numbers left over are RETIRED; spare stalls are FENCED, unusable ones RETIRED. -/
def State.numberCluster (s : State) (k : Nat) : State :=
  let bad := decide (s.unit ukCluster k = usRetired)
  let sites := (List.range 9).map (· + 9 * k)
  let use := if bad then [] else (sites.filter s.siteUsable).take 8
  let s1 := use.zipIdx.foldl (State.pairSite k) s
  let s2 := ((List.range 8).drop use.length).foldl (fun s i => s.moveUnit ukCore (8 * k + i) usRetired (if bad then 7 else 1)) s1
  let s3 := (sites.filter (fun n => !use.contains n)).foldl (fun s n =>
    if s.siteUsable n ∧ !bad then s.quietUnit ukStall n usFenced else s.moveUnit ukStall n usRetired 1) s2
  if bad then s3.event 0x12 (ukCluster * 4096 + k) (s3.unitWord ukCluster k % 2 ^ 32) (s3.unitWord ukCluster k / 2 ^ 32)
  else if use.length < 8 then s3.moveUnit ukCluster k usDegraded 1
  else s3.quietUnit ukCluster k usReady

/-- The retirement list is applied (R410). -/
def State.applyRetired (s : State) : State :=
  s.ecc.retFrames.foldl (fun s a => s.setFrame (directQuarter a) (directFrame a) .absent) s

/-- Partitions own the quarters of their persistent masks (R607). -/
def State.applyPartitions (s : State) : State :=
  let owner (q : Nat) : Nat := (((List.range 4).find? (fun p => Nat.testBit (s.val 0x6100 (4 + p) 0) q)).map (· + 1)).getD 0
  s.onDev (fun d => { d with quarterPart := (List.range 4).foldl (fun t q => Tab.set 0 t q (owner q)) [] })

/-- The persistent reservations are applied in entry order; one that a check refuses stays unapplied, which is recorded (R226). -/
def State.applyReservations (s : State) : State :=
  ((List.range 16).foldl (fun s n =>
    let v (sub : Nat) : Nat := s.val (rsvIndex n) sub 0
    if v 1 = 0 then s
    else
      match s.rsvRefusal n (v 1) (v 2) (v 3) (v 4) (v 5) with
      | 0 => (s.rsvSet n (v 1) (v 2) (v 3) (v 4) (v 5)).getD s
      | e => s.event 0x32 1 n e) s).remapBar4 rsvHost

def State.bootUnits (s : State) (o : BootOutcome) : State :=
  let s1 := o.sites.foldl State.markSite (o.stalls.foldl State.markSite s)
  let s2 := o.clusters.foldl (fun s k => s.setUnit ukCluster k { s.unitRec ukCluster k with dstate := usRetired, mstate := usRetired, reason := 7 }) s1
  let s3 := (List.range 32).foldl State.numberCluster s2
  let s4 := (List.range 16).foldl (fun s r => if o.runners.contains r then s.moveUnit ukRunner r usRetired 1 else s.quietUnit ukRunner r usReady) s3
  let s5 := o.cryptoStacks.foldl (fun s j => s.moveUnit ukStack j usRetired 1) s4
  let s6 := ((List.range 18).filter (fun i => o.cryptoEngines.contains (i / 9))).foldl (fun s i => s.moveUnit ukPort i usRetired 1) s5
  let s7 := s6.onSec (fun c => { c with pcieCryptoBad := o.cryptoPcie })
  let s8 := s7.applyRetired.applyPartitions.applyReservations
  (((s8.startType 2).startType 3).stepRecord o false 0).toStep 7

/-- The device state at the end of a boot (R603, Table 21-4). -/
def State.bootState (s : State) (o : BootOutcome) : State :=
  let s1 := s.onDev (fun d => { d with bootMs := o.ms })
  if s1.coresEnabled = 0 then s1.enterSafe 4
  else if !s1.anyPort then s1.enterSafe 1
  else if s1.power.mktFailed.any (fun e => e.2 = 15) then s1.enterSafe 2
  else (s1.stepRecord o false 0).setDev (if s1.allReady then devReady else devDegraded)

/-! ## The warm fast path (R600, R601) -/

/-- A stack after a warm reset: trained settings and counters stay. -/
def Stack.warm (k : Stack) : Stack :=
  { Stack.blank with
    rate := k.rate, repairs := k.repairs, temp := k.temp, band := k.band, reads := k.reads, writes := k.writes, merges := k.merges
    mergeSat := k.mergeSat, mergeLost := k.mergeLost, parity := k.parity, retrains := k.retrains, refPostponed := k.refPostponed, occMax := k.occMax }

/-- A unit over a device reset: RETIRED and FENCED stay; what served waits for W5. A core's incarnation count rises (R145). -/
def UnitRec.warm (key : Nat) (u : UnitRec) : UnitRec :=
  let st := if u.dstate = usRetired ∨ u.dstate = usFenced then u.dstate else usOff
  { u with dstate := st, mstate := st, diffs := 0, mismatch := false, incarn := if key / 1024 = ukCore then (u.incarn + 1) % 256 else u.incarn }

/-- DEFAULTS takes effect at a warm reset (R637): the persistent values of access RW-AUTH but for the exceptions go from the store. -/
def keptByDefaults (key : Nat) : Bool :=
  let i := key / 256
  decide (0x7000 ≤ i ∧ i ≤ 0x7FFF ∨ i = 0x6100 ∨ 0x4010 ≤ i ∧ i ≤ 0x401F ∨ i = 0x2140)

def State.applyDefaults (s : State) : State :=
  if s.dict.defaults then { s with dict := { s.dict with store := s.dict.store.filter (fun e => keptByDefaults e.1), defaults := false } } else s

/-- Firmware over a warm reset: every processor stops; an activation on trial ends with the RUNNING set, STAGED is READY (R588). -/
def State.warmFirmware (s : State) : State :=
  let trial := decide (s.fw.pcState ≥ 3)
  let s1 := if trial then s.slotEvent 4 else s
  s1.onFw (fun f =>
    { f with
      procs := Tab.mapVals Proc.blank (fun _ p => { p with st := 0, healthy := false, beat := 0 }) f.procs
      loader := { Loader.reset with xid := f.loader.xid }
      stgState := if trial ∧ f.pcSlot = 1 then 2 else if f.stgState = 1 then 0 else f.stgState
      pcState := 0, pcBell := 0, pcFirst := 0, pcRearmed := false, pcSwitched := [], ctxsel := [] })

/-- What a warm reset clears and keeps (R601, R491, Table 15-7). -/
def State.warmClear (s : State) : State :=
  let h := s.hbm
  let f := s.fabric
  let p := s.power
  let t := s.thermal
  let s1 := s.warmFirmware
  { s1 with
    cores := [], clusters := []
    market := { Market.reset with cnt := s.market.cnt, stallCap := s.market.stallCap, stallBand := s.market.stallBand }
    hbm := { Hbm.reset with sectors := h.sectors, stks := Tab.mapVals Stack.blank (fun _ k => k.warm) h.stks, held := h.held, seq := h.seq }
    ecc := { s.ecc with log := [], fixedAt := [], scrubStall := 0, scrubLine := 0, scrubQuarter := 0, scrubAddr := 0 }
    pager := { Pager.reset with
      cnt := s.pager.cnt, ctxs := Tab.mapVals Ctx.blank (fun _ x => { Ctx.blank with faults := x.faults }) s.pager.ctxs }
    sched := { s.sched with queues := [], credit := [], lastIdle := 0, arrNext := 0, finNext := 0, burst := 0, burstBell := 0 }
    fabric := { Fabric.reset with
      ports := Tab.mapVals Port.blank (fun _ x => { x with speed := 0, lanes := 0, hop := none }) f.ports
      macs := f.macs, incarn := f.incarn, runners := f.runners, cnt := f.cnt
      starters := Tab.mapVals Starter.blank (fun _ x => { Starter.blank with held := x.held }) f.starters }
    sec := { s.sec with
      sessions := [], peers := [], keys := [], seals := Tab.mapVals Seal.blank (fun _ x => { x with st := 0, tenant := 0 }) s.sec.seals
      hbmKeys := (List.range 5).foldl (fun k i => Tab.modify 0 k i (· + 1)) s.sec.hbmKeys, dbgWaits := false }
    power := { Power.reset with
      failed := p.failed, mktFailed := p.mktFailed, changes := p.changes, volt := p.volt, trim := p.trim, agLast := p.agLast
      stretch1 := p.stretch1, stretch2 := p.stretch2, drMin := p.drMin, puAdmitted := p.puAdmitted, puDeferred := p.puDeferred, puRefused := p.puRefused }
    thermal := { Thermal.reset with
      sensors := Tab.mapVals Sensor.blank (fun _ x => { x with dev := 0, hot := 0 }) t.sensors, over105 := t.over105, deviations := t.deviations
      peak := t.peak, peakBell := t.peakBell
      armed := t.armed, cyclePeak := t.cyclePeak, trough := t.trough, saved := t.saved, cycles := t.cycles, swingMax := t.swingMax
      bondSpares := t.bondSpares, bondLost := t.bondLost }
    bell := { s1.bell with slots := [], st := if s.bell.st = tsLocking ∨ s.bell.st = tsLocked then tsHoldover else s.bell.st, good := 0, bad := 0, valid := false }
    host := { HostIf.reset with linkdowns := s.host.linkdowns, ur := s.host.ur, dropped := s.host.dropped }
    pins := { s.pins with eidI3c := 0, eidPcie := 0 }
    dict := { s1.dict with
      reqs := [], staged := [], selected := [], vals := s1.dict.store, storeBad := [], paused := false, buffered := [], owed := [] }
    dev := { s1.dev with
      units := Tab.mapVals UnitRec.blank UnitRec.warm s1.dev.units, bondErrors := [], resets := [], moves := [], assign := [], safeCause := 0
      warmResets := s1.dev.warmResets + 1, bootKind := 1, bootStart := s.bell.count, loaderWait := 0, safeWait := 0, bootStep := 0x11 } }

/-- A device warm reset begins: W1. -/
def State.warmReset (s : State) : State :=
  let s1 := (s.event 0x11 4 0 0).applyDefaults
  (State.rekeyedFrom s1 s1.warmClear).loadValues.setDev devBooting

/-- DEV_WARM_RESET. -/
def execDevWarmReset (who : Fin 16) (s : State) : Res :=
  .next (s.command who.val 0x6000 (s.authPlain who.val) (fun s =>
    if s.serving ∨ s.dev.st = devSafe then (s.warmReset).answer 0 else s.answer 0x0402))

/-- W1: the ROM restarts the security core with a fresh challenge. -/
def State.warmRom (s : State) (o : BootOutcome) : State :=
  let f := s.fresh
  ((f.1.onSec (fun c => { c with dbgChallenge := f.2 % 2 ^ 256 })).stepRecord o false 0).toStep 0x12

/-- W3: the RUNNING images start from the store when their check passes; otherwise they are loaded as at cold boot, and 60 s without an acceptable
set make the device SAFE. Stacks that failed their eye check have trained again. -/
def State.warmImages (s : State) (o : BootOutcome) : State :=
  let go (s : State) : State :=
    let s1 := (o.stks.foldl State.trainStack s).stepRecord o false 0
    ((List.range 18).foldl (fun s i => if s.unit ukPort i = usOff then s.moveUnit ukPort i usTesting 9 else s) s1).toStep 0x14
  if s.imagesStarted then go s
  else if s.dev.safeWait ≠ 0 then (if s.bell.count ≥ s.dev.safeWait - 1 + 60000000 then s.enterSafe 5 else s.waits)
  else if o.ok ∧ (s.image 0 0).present ∧ (s.image 0 1).present then go ((s.startType 0).startType 1)
  else
    let s1 := (s.stepRecord o true 4).onDev (fun d => { d with safeWait := s.bell.count + 1 })
    let s2 := (List.range 4).foldl (fun s t => s.setImage 0 t Image.blank) s1
    s2.startLoad 0 (s2.val 0x1F50 2 0) [0]

/-- A core whose site was lost moves to the spare of its cluster, or becomes RETIRED (R21, R600). -/
def State.warmCore (s : State) (c : Nat) : State :=
  match s.siteOf c with
  | none => s
  | some n =>
    if s.unit ukCore c = usRetired then s
    else if Tab.get false s.dev.siteBad n then
      match s.spareOf (c / 8) with
      | some m =>
        let s1 := s.onDev (fun d => { d with coreSite := Tab.set 0 d.coreSite c (m + 1), stallSite := Tab.set 0 d.stallSite c (m + 1) })
        ((s1.moveUnit ukStall n usFenced 12).quietUnit ukStall m usReady).moveUnit ukCore c usReady 12
      | none => s.moveUnit ukCore c usRetired 11
    else if s.unit ukCore c = usOff then s.quietUnit ukCore c usReady
    else s

/-- Units that the repair map does not hold back serve again. -/
def State.warmServe (s : State) (kind n : Nat) : State :=
  (List.range n).foldl (fun s i => if s.unit kind i = usOff then s.quietUnit kind i (s.serviceState kind i) else s) s

def State.warmUnits (s : State) (o : BootOutcome) : State :=
  let s0 := (List.range 18).foldl (fun s i =>
    if s.unit ukPort i = usTesting then (s.moveUnit ukPort i usFenced 9).event 0x40 1 i usFenced else s) s
  let s1 := (((s0.warmServe ukCluster 32).warmServe ukStall 288).warmServe ukRunner 16).warmServe ukStack 16
  let s2 := (List.range 256).foldl State.warmCore s1
  let s3 := s2.applyRetired.applyPartitions.applyReservations
  (((s3.startType 2).startType 3).stepRecord o false 0).toStep 0x16

/-- BOOT_STEP_END: the step in progress ends with what it found. -/
def execBootStepEnd (o : BootOutcome) (s : State) : Res :=
  if s.dev.st ≠ devBooting then .next s
  else
    match s.dev.bootStep with
    | 1 => .next (s.bootRom o)
    | 2 => .next (s.bootClocks o)
    | 3 => .next (if s.imagesStarted then (s.stepRecord o false 0).toStep 4 else s.waits)
    | 4 => .next (s.bootMemory o)
    | 5 => .next (s.bootLinks o)
    | 6 => .next (if s.power.level ≥ 2 then s.waits else s.bootUnits o)
    | 7 => .next (s.bootState o)
    | 0x11 => .next (s.warmRom o)
    | 0x12 => .next ((s.stepRecord o false 0).toStep 0x13)
    | 0x13 => .next (s.warmImages o)
    | 0x14 => .next ((s.stepRecord o false 0).toStep 0x15)
    | 0x15 => .next (if s.power.level ≥ 2 then s.waits else s.warmUnits o)
    | _ => .next (s.bootState o)

end Sys2Proof.Machine
end

