-- ==== Sys2Proof/Machine/Entries.lean ====
section
/-!
DEFINITION. The index of the dictionary (Table 22-10): every entry, its subindices, access, size, default, and how a write is taken (R615 to
R618, R629).
-/

namespace Sys2Proof.Machine
open Sys2Proof

/-- Access values (Table 22-2). -/
inductive OdAccess where
  | ro | const | rw | wo | rwAuth
  deriving DecidableEq, Repr

/-- Sizes (Table 22-1): a fixed number of bytes, up to a largest, a BOOL, TS_DATA (32 bytes, or 8 for the bench). -/
inductive OdSize where
  | fixed (n : Nat)
  | upTo (n : Nat)
  | bool
  | testData
  deriving DecidableEq, Repr

/-- How a subindex is taken: a value that the device shows, a staged one, a command, a persistent value, a volatile value. -/
inductive OdKind where
  | value | staged | command | kept | plain
  deriving DecidableEq, Repr

/-- Subindices `slo` to `shi` of the indices `lo` to `hi`. -/
structure OdRow where
  lo : Nat
  hi : Nat
  slo : Nat
  shi : Nat
  access : OdAccess
  size : OdSize
  dflt : Nat
  kind : OdKind
  deriving DecidableEq, Repr

/-! ## The owners' tables -/

def odRows1 : List OdRow := [
  ⟨0x4000, 0x4000, 1, 1, .ro, .fixed 4, 0, .value⟩,
  ⟨0x4000, 0x4000, 2, 2, .ro, .fixed 2, 0, .value⟩,
  ⟨0x4000, 0x4000, 3, 5, .ro, .fixed 4, 0, .value⟩,
  ⟨0x4010, 0x401F, 1, 1, .rwAuth, .fixed 1, 0, .command⟩,
  ⟨0x4010, 0x401F, 2, 3, .rwAuth, .fixed 1, 0, .staged⟩,
  ⟨0x4010, 0x401F, 4, 5, .rwAuth, .fixed 2, 0, .staged⟩,
  ⟨0x4010, 0x401F, 6, 7, .ro, .fixed 8, 0, .value⟩,
  ⟨0x4020, 0x4020, 1, 144, .ro, .fixed 1, 0, .value⟩,
  ⟨0x4021, 0x4021, 1, 144, .ro, .fixed 1, 0, .value⟩,
  ⟨0x4030, 0x4030, 1, 3, .ro, .fixed 8, 0, .value⟩,
  ⟨0x4031, 0x4031, 1, 5, .ro, .fixed 8, 0, .value⟩,
  ⟨0x4032, 0x4032, 1, 5, .rwAuth, .fixed 4, 256, .kept⟩,
  ⟨0x4032, 0x4032, 6, 6, .ro, .fixed 4, 0, .value⟩,
  ⟨0x4032, 0x4032, 7, 7, .ro, .fixed 2, 0, .value⟩,
  ⟨0x4032, 0x4032, 8, 10, .ro, .fixed 8, 0, .value⟩,
  ⟨0x4100, 0x4100, 1, 2, .rwAuth, .fixed 1, 0, .staged⟩,
  ⟨0x4100, 0x4100, 3, 3, .rwAuth, .fixed 2, 0, .staged⟩,
  ⟨0x4100, 0x4100, 4, 4, .rwAuth, .fixed 8, 0, .staged⟩,
  ⟨0x4100, 0x4100, 5, 5, .rwAuth, .fixed 1, 4, .staged⟩,
  ⟨0x4100, 0x4100, 6, 6, .rwAuth, .fixed 1, 0, .command⟩,
  ⟨0x4110, 0x411F, 1, 1, .ro, .fixed 1, 0, .value⟩,
  ⟨0x4110, 0x411F, 2, 7, .ro, .fixed 8, 0, .value⟩,
  ⟨0x4110, 0x411F, 8, 8, .ro, .fixed 4, 0, .value⟩,
  ⟨0x4120, 0x4120, 1, 1, .rwAuth, .fixed 4, 256, .kept⟩,
  ⟨0x4200, 0x4200, 1, 1, .rwAuth, .fixed 2, 0, .staged⟩,
  ⟨0x4200, 0x4200, 2, 3, .rwAuth, .fixed 1, 0, .staged⟩,
  ⟨0x4200, 0x4200, 4, 6, .rwAuth, .fixed 4, 0, .staged⟩,
  ⟨0x4200, 0x4200, 7, 7, .wo, .fixed 8, 0, .staged⟩,
  ⟨0x4200, 0x4200, 8, 8, .rwAuth, .fixed 1, 0, .command⟩,
  ⟨0x4200, 0x4200, 9, 9, .ro, .fixed 1, 0, .value⟩,
  ⟨0x4200, 0x4200, 10, 11, .ro, .fixed 4, 0, .value⟩,
  ⟨0x4200, 0x4200, 12, 12, .ro, .fixed 8, 0, .value⟩,
  ⟨0x4210, 0x4210, 1, 1, .rwAuth, .fixed 2, 0, .staged⟩,
  ⟨0x4210, 0x4210, 2, 3, .rwAuth, .fixed 8, 0, .staged⟩,
  ⟨0x4210, 0x4210, 4, 4, .rwAuth, .fixed 4, 0, .staged⟩,
  ⟨0x4210, 0x4210, 5, 5, .rwAuth, .fixed 2, 0, .staged⟩,
  ⟨0x4210, 0x4210, 6, 6, .rwAuth, .fixed 8, 0, .staged⟩,
  ⟨0x4210, 0x4210, 7, 7, .rwAuth, .fixed 1, 0, .command⟩,
  ⟨0x4210, 0x4210, 8, 8, .ro, .fixed 16, 0, .value⟩,
  ⟨0x4220, 0x4220, 1, 1, .rwAuth, .fixed 4, 1000, .kept⟩]

def odRows2 : List OdRow := [
  ⟨0x4220, 0x4220, 2, 2, .rwAuth, .fixed 2, 64, .kept⟩,
  ⟨0x4220, 0x4220, 3, 3, .rwAuth, .fixed 2, 4, .kept⟩,
  ⟨0x4220, 0x4220, 4, 4, .rwAuth, .fixed 2, 200, .kept⟩,
  ⟨0x4220, 0x4220, 5, 5, .rwAuth, .fixed 4, 64, .kept⟩,
  ⟨0x4220, 0x4220, 6, 6, .rwAuth, .fixed 1, 70, .kept⟩,
  ⟨0x4220, 0x4220, 7, 7, .rwAuth, .fixed 1, 25, .kept⟩,
  ⟨0x4220, 0x4220, 8, 8, .rwAuth, .fixed 1, 7, .kept⟩,
  ⟨0x4220, 0x4220, 9, 12, .rwAuth, .fixed 4, 256, .kept⟩,
  ⟨0x4230, 0x4230, 1, 8, .ro, .fixed 8, 0, .value⟩,
  ⟨0x4240, 0x4243, 1, 16, .ro, .fixed 16, 0, .value⟩,
  ⟨0x6800, 0x6800, 1, 1, .rwAuth, .fixed 4, 0, .staged⟩,
  ⟨0x6800, 0x6800, 2, 2, .rwAuth, .fixed 2, 0, .staged⟩,
  ⟨0x6800, 0x6800, 3, 3, .rwAuth, .fixed 1, 0, .staged⟩,
  ⟨0x6800, 0x6800, 4, 4, .rwAuth, .fixed 1, 6, .staged⟩,
  ⟨0x6800, 0x6800, 5, 5, .rwAuth, .fixed 1, 0, .staged⟩,
  ⟨0x6800, 0x6800, 6, 6, .rwAuth, .fixed 1, 8, .staged⟩,
  ⟨0x6800, 0x6800, 7, 7, .rwAuth, .fixed 2, 1, .staged⟩,
  ⟨0x6800, 0x6800, 8, 8, .rwAuth, .fixed 1, 1, .staged⟩,
  ⟨0x6800, 0x6800, 9, 9, .rwAuth, .fixed 1, 0, .staged⟩,
  ⟨0x6800, 0x6800, 10, 11, .rwAuth, .fixed 4, 0, .staged⟩,
  ⟨0x6800, 0x6800, 12, 13, .rwAuth, .fixed 8, 0, .staged⟩,
  ⟨0x6800, 0x6800, 14, 14, .rwAuth, .fixed 2, 0, .staged⟩,
  ⟨0x6800, 0x6800, 15, 15, .rwAuth, .fixed 1, 0, .command⟩,
  ⟨0x6800, 0x6800, 16, 16, .ro, .fixed 64, 0, .value⟩,
  ⟨0x6810, 0x6810, 1, 1, .rwAuth, .fixed 4, 100, .kept⟩,
  ⟨0x6810, 0x6810, 2, 2, .rwAuth, .fixed 4, 250, .kept⟩,
  ⟨0x6810, 0x6810, 3, 3, .rwAuth, .fixed 4, 1000, .kept⟩,
  ⟨0x6810, 0x6810, 4, 4, .rwAuth, .fixed 4, 5000, .kept⟩,
  ⟨0x6810, 0x6810, 5, 5, .rwAuth, .fixed 4, 20000, .kept⟩,
  ⟨0x6810, 0x6810, 6, 6, .rwAuth, .fixed 4, 100000, .kept⟩,
  ⟨0x6810, 0x6810, 7, 7, .rwAuth, .fixed 2, 20, .kept⟩,
  ⟨0x6810, 0x6810, 8, 11, .rwAuth, .fixed 1, 10, .kept⟩,
  ⟨0x6810, 0x6810, 12, 15, .rwAuth, .fixed 1, 1, .kept⟩,
  ⟨0x6810, 0x6810, 16, 16, .rwAuth, .fixed 4, 1000, .kept⟩,
  ⟨0x6820, 0x6820, 1, 7, .ro, .fixed 8, 0, .value⟩,
  ⟨0x6820, 0x6820, 8, 9, .ro, .fixed 4, 0, .value⟩,
  ⟨0x4300, 0x430F, 1, 1, .ro, .fixed 1, 0, .value⟩,
  ⟨0x4300, 0x430F, 2, 3, .ro, .fixed 2, 0, .value⟩,
  ⟨0x4300, 0x430F, 4, 4, .ro, .fixed 4, 0, .value⟩,
  ⟨0x4300, 0x430F, 5, 5, .ro, .fixed 1, 0, .value⟩]

def odRows3 : List OdRow := [
  ⟨0x4300, 0x430F, 6, 13, .ro, .fixed 8, 0, .value⟩,
  ⟨0x4300, 0x430F, 14, 14, .ro, .fixed 2, 0, .value⟩,
  ⟨0x4310, 0x4310, 1, 5, .ro, .fixed 4, 0, .value⟩,
  ⟨0x4310, 0x4310, 6, 6, .rwAuth, .fixed 2, 4800, .kept⟩,
  ⟨0x4310, 0x4310, 7, 7, .rwAuth, .fixed 2, 256, .kept⟩,
  ⟨0xA000, 0xA03F, 1, 2, .rwAuth, .fixed 8, 0, .staged⟩,
  ⟨0xA000, 0xA03F, 3, 3, .rwAuth, .fixed 2, 0, .staged⟩,
  ⟨0xA000, 0xA03F, 4, 4, .rwAuth, .fixed 1, 0, .staged⟩,
  ⟨0xA000, 0xA03F, 5, 5, .rwAuth, .fixed 1, 0, .command⟩,
  ⟨0xA000, 0xA03F, 6, 6, .ro, .fixed 1, 0, .value⟩,
  ⟨0xA040, 0xA040, 1, 1, .rwAuth, .fixed 4, 150, .kept⟩,
  ⟨0xA040, 0xA040, 2, 2, .rwAuth, .fixed 4, 250, .kept⟩,
  ⟨0xA040, 0xA040, 3, 3, .rwAuth, .fixed 4, 400, .kept⟩,
  ⟨0xA040, 0xA040, 4, 4, .rwAuth, .fixed 4, 800, .kept⟩,
  ⟨0xA040, 0xA040, 5, 5, .rwAuth, .fixed 4, 2000, .kept⟩,
  ⟨0xA040, 0xA040, 6, 6, .rwAuth, .fixed 4, 10000, .kept⟩,
  ⟨0xA040, 0xA040, 7, 7, .rwAuth, .fixed 1, 5, .kept⟩,
  ⟨0xA040, 0xA040, 8, 8, .rwAuth, .fixed 1, 15, .kept⟩,
  ⟨0xA040, 0xA040, 9, 9, .rwAuth, .fixed 1, 3, .kept⟩,
  ⟨0xA040, 0xA040, 10, 10, .rwAuth, .fixed 1, 1, .kept⟩,
  ⟨0xA040, 0xA040, 11, 11, .rwAuth, .fixed 2, 2, .kept⟩,
  ⟨0xA040, 0xA040, 12, 12, .rwAuth, .fixed 4, 20000, .kept⟩,
  ⟨0xA040, 0xA040, 13, 13, .rwAuth, .fixed 1, 3, .kept⟩,
  ⟨0xA040, 0xA040, 14, 14, .rwAuth, .fixed 1, 1, .kept⟩,
  ⟨0xA040, 0xA040, 15, 15, .rwAuth, .fixed 1, 0, .kept⟩,
  ⟨0xA040, 0xA040, 16, 16, .rwAuth, .fixed 1, 2, .kept⟩,
  ⟨0xA041, 0xA041, 1, 1, .rwAuth, .fixed 1, 75, .kept⟩,
  ⟨0xA041, 0xA041, 2, 2, .rwAuth, .fixed 1, 90, .kept⟩,
  ⟨0xA041, 0xA041, 3, 3, .rwAuth, .fixed 1, 60, .kept⟩,
  ⟨0xA042, 0xA042, 1, 6, .ro, .fixed 4, 0, .value⟩,
  ⟨0xA042, 0xA042, 7, 7, .ro, .fixed 8, 0, .value⟩,
  ⟨0x4400, 0x4400, 1, 1, .rwAuth, .bool, 0, .kept⟩,
  ⟨0x4400, 0x4400, 2, 2, .rwAuth, .fixed 2, 24, .kept⟩,
  ⟨0x4400, 0x4400, 3, 3, .rwAuth, .fixed 2, 72, .kept⟩,
  ⟨0x4401, 0x4401, 1, 15, .ro, .fixed 8, 0, .value⟩,
  ⟨0x4401, 0x4401, 16, 16, .ro, .fixed 4, 0, .value⟩,
  ⟨0x4410, 0x4410, 1, 64, .ro, .fixed 16, 0, .value⟩,
  ⟨0x4420, 0x4420, 1, 1, .rwAuth, .fixed 1, 0, .staged⟩,
  ⟨0x4420, 0x4420, 2, 2, .rwAuth, .fixed 2, 0, .staged⟩,
  ⟨0x4420, 0x4420, 3, 3, .rwAuth, .fixed 8, 0, .staged⟩]

def odRows4 : List OdRow := [
  ⟨0x4420, 0x4420, 4, 4, .rwAuth, .fixed 1, 0, .command⟩,
  ⟨0x4420, 0x4420, 5, 5, .ro, .fixed 1, 0, .value⟩,
  ⟨0x4420, 0x4420, 6, 7, .ro, .fixed 2, 0, .value⟩,
  ⟨0x4430, 0x4430, 1, 1, .rwAuth, .fixed 1, 0, .plain⟩,
  ⟨0x4430, 0x4430, 2, 2, .rwAuth, .fixed 8, 0, .plain⟩,
  ⟨0x4430, 0x4430, 3, 3, .rwAuth, .testData, 0, .plain⟩,
  ⟨0x4430, 0x4430, 4, 4, .rwAuth, .fixed 2, 0, .plain⟩,
  ⟨0x4430, 0x4430, 5, 5, .rwAuth, .fixed 1, 0, .command⟩,
  ⟨0x4430, 0x4430, 6, 6, .ro, .fixed 1, 0, .value⟩,
  ⟨0x5000, 0x5011, 1, 1, .ro, .fixed 1, 0, .value⟩,
  ⟨0x5000, 0x5011, 2, 2, .ro, .fixed 2, 0, .value⟩,
  ⟨0x5000, 0x5011, 3, 3, .ro, .fixed 1, 0, .value⟩,
  ⟨0x5000, 0x5011, 4, 7, .ro, .fixed 8, 0, .value⟩,
  ⟨0x5000, 0x5011, 8, 8, .rwAuth, .fixed 1, 0, .command⟩,
  ⟨0x5020, 0x5020, 1, 1, .rwAuth, .fixed 1, 0, .kept⟩,
  ⟨0x5020, 0x5020, 2, 2, .rwAuth, .fixed 2, 0, .kept⟩,
  ⟨0x5020, 0x5020, 3, 3, .rwAuth, .fixed 2, 49558, .kept⟩,
  ⟨0x5020, 0x5020, 4, 4, .rwAuth, .fixed 2, 4096, .kept⟩,
  ⟨0x5020, 0x5020, 5, 5, .rwAuth, .fixed 2, 0, .kept⟩,
  ⟨0x5020, 0x5020, 6, 6, .rwAuth, .fixed 4, 0x2e220a, .kept⟩,
  ⟨0x5020, 0x5020, 7, 8, .ro, .fixed 4, 0, .value⟩,
  ⟨0x5021, 0x5021, 1, 144, .rwAuth, .fixed 8, 0, .kept⟩,
  ⟨0x5022, 0x5022, 1, 18, .rwAuth, .fixed 8, 0, .kept⟩,
  ⟨0x5030, 0x5030, 1, 1, .rwAuth, .fixed 4, 1000, .kept⟩,
  ⟨0x5030, 0x5030, 2, 2, .rwAuth, .fixed 4, 20, .kept⟩,
  ⟨0x5030, 0x5030, 3, 3, .rwAuth, .fixed 4, 50, .kept⟩,
  ⟨0x5030, 0x5030, 4, 4, .rwAuth, .fixed 4, 4, .kept⟩,
  ⟨0x5030, 0x5030, 5, 5, .rwAuth, .fixed 2, 1024, .kept⟩,
  ⟨0x5030, 0x5030, 6, 6, .rwAuth, .fixed 4, 100, .kept⟩,
  ⟨0x5030, 0x5030, 7, 7, .rwAuth, .fixed 2, 16, .kept⟩,
  ⟨0x5031, 0x5031, 1, 64, .rwAuth, .fixed 2, 65535, .kept⟩,
  ⟨0x5032, 0x5032, 1, 1, .rwAuth, .fixed 2, 0, .staged⟩,
  ⟨0x5032, 0x5032, 2, 2, .ro, .fixed 1, 0, .value⟩,
  ⟨0x5032, 0x5032, 3, 3, .ro, .fixed 4, 0, .value⟩,
  ⟨0x5032, 0x5032, 4, 4, .ro, .fixed 8, 0, .value⟩,
  ⟨0x5040, 0x5040, 1, 8, .ro, .fixed 8, 0, .value⟩,
  ⟨0x5100, 0x5100, 1, 1, .rwAuth, .fixed 2, 0, .staged⟩,
  ⟨0x5100, 0x5100, 2, 3, .rwAuth, .fixed 1, 0, .staged⟩,
  ⟨0x5100, 0x5100, 4, 4, .rwAuth, .fixed 2, 0, .staged⟩,
  ⟨0x5100, 0x5100, 5, 6, .rwAuth, .fixed 8, 0, .staged⟩]

def odRows5 : List OdRow := [
  ⟨0x5100, 0x5100, 7, 7, .rwAuth, .fixed 1, 0, .staged⟩,
  ⟨0x5100, 0x5100, 8, 8, .rwAuth, .fixed 8, 0, .staged⟩,
  ⟨0x5100, 0x5100, 9, 9, .rwAuth, .fixed 2, 0, .staged⟩,
  ⟨0x5100, 0x5100, 10, 10, .rwAuth, .fixed 1, 0, .command⟩,
  ⟨0x5200, 0x5200, 1, 2, .rwAuth, .fixed 1, 0, .staged⟩,
  ⟨0x5200, 0x5200, 3, 3, .rwAuth, .fixed 2, 0, .staged⟩,
  ⟨0x5200, 0x5200, 4, 4, .rwAuth, .fixed 8, 0, .staged⟩,
  ⟨0x5200, 0x5200, 5, 5, .rwAuth, .fixed 1, 4, .staged⟩,
  ⟨0x5200, 0x5200, 6, 6, .rwAuth, .fixed 1, 0, .command⟩,
  ⟨0x5300, 0x5300, 1, 1, .rwAuth, .fixed 1, 0, .staged⟩,
  ⟨0x5300, 0x5300, 2, 2, .rwAuth, .upTo 512, 0, .staged⟩,
  ⟨0x5300, 0x5300, 3, 3, .rwAuth, .fixed 1, 0, .command⟩,
  ⟨0x5400, 0x5403, 1, 1, .rwAuth, .fixed 2, 65535, .kept⟩,
  ⟨0x5400, 0x5403, 2, 2, .rwAuth, .fixed 1, 0, .kept⟩,
  ⟨0x5400, 0x5403, 3, 3, .rwAuth, .fixed 4, 1000, .kept⟩,
  ⟨0x5400, 0x5403, 4, 4, .rwAuth, .fixed 1, 0, .command⟩,
  ⟨0x5400, 0x5403, 5, 5, .ro, .fixed 1, 0, .value⟩,
  ⟨0x5400, 0x5403, 6, 7, .ro, .fixed 8, 0, .value⟩,
  ⟨0x5410, 0x5413, 1, 1, .rwAuth, .fixed 2, 65535, .kept⟩,
  ⟨0x5410, 0x5413, 2, 2, .rwAuth, .fixed 4, 0, .kept⟩,
  ⟨0x5410, 0x5413, 3, 3, .rwAuth, .fixed 1, 1, .kept⟩,
  ⟨0x5410, 0x5413, 4, 4, .rwAuth, .fixed 4, 500, .kept⟩,
  ⟨0x5410, 0x5413, 5, 5, .rwAuth, .fixed 1, 0, .command⟩,
  ⟨0x5410, 0x5413, 6, 6, .ro, .fixed 1, 0, .value⟩,
  ⟨0x5410, 0x5413, 7, 7, .ro, .fixed 8, 0, .value⟩,
  ⟨0x5420, 0x5423, 1, 64, .rwAuth, .fixed 4, 0, .kept⟩,
  ⟨0x5430, 0x543F, 1, 255, .rwAuth, .fixed 2, 65535, .kept⟩,
  ⟨0x5440, 0x5440, 1, 2, .rwAuth, .fixed 2, 65535, .staged⟩,
  ⟨0x5440, 0x5440, 3, 3, .rwAuth, .fixed 1, 0, .command⟩,
  ⟨0x5440, 0x5440, 4, 4, .ro, .fixed 8, 0, .value⟩,
  ⟨0x5500, 0x5500, 1, 1, .ro, .fixed 1, 0, .value⟩,
  ⟨0x5500, 0x5500, 2, 2, .ro, .fixed 2, 0, .value⟩,
  ⟨0x5500, 0x5500, 3, 3, .ro, .fixed 1, 0, .value⟩,
  ⟨0x5500, 0x5500, 4, 4, .const, .fixed 2, 2400, .value⟩,
  ⟨0x5500, 0x5500, 5, 7, .ro, .fixed 8, 0, .value⟩,
  ⟨0x5510, 0x5510, 1, 1, .rwAuth, .fixed 4, 0, .kept⟩,
  ⟨0x5520, 0x5520, 1, 8, .rwAuth, .fixed 8, 0, .plain⟩,
  ⟨0x3000, 0x3000, 1, 1, .ro, .fixed 8, 0, .value⟩,
  ⟨0x3000, 0x3000, 2, 2, .ro, .fixed 1, 0, .value⟩,
  ⟨0x3000, 0x3000, 3, 3, .ro, .fixed 8, 0, .value⟩]

def odRows6 : List OdRow := [
  ⟨0x3000, 0x3000, 4, 4, .ro, .fixed 4, 0xffffffff, .value⟩,
  ⟨0x3000, 0x3000, 5, 5, .ro, .fixed 1, 0, .value⟩,
  ⟨0x3000, 0x3000, 6, 6, .ro, .fixed 4, 0, .value⟩,
  ⟨0x3000, 0x3000, 7, 7, .ro, .fixed 8, 0, .value⟩,
  ⟨0x3000, 0x3000, 8, 8, .ro, .fixed 4, 0, .value⟩,
  ⟨0x3001, 0x3001, 1, 1, .rwAuth, .fixed 1, 1, .kept⟩,
  ⟨0x3001, 0x3001, 2, 2, .rwAuth, .fixed 1, 0, .kept⟩,
  ⟨0x3001, 0x3001, 3, 3, .rwAuth, .fixed 4, 0xffff0900, .kept⟩,
  ⟨0x3001, 0x3001, 4, 4, .rwAuth, .fixed 1, 2, .kept⟩,
  ⟨0x3001, 0x3001, 5, 5, .rwAuth, .fixed 2, 20, .kept⟩,
  ⟨0x3001, 0x3001, 6, 6, .rwAuth, .fixed 4, 2000, .kept⟩,
  ⟨0x3001, 0x3001, 7, 7, .rwAuth, .fixed 4, 10, .kept⟩,
  ⟨0x3001, 0x3001, 8, 8, .rwAuth, .fixed 2, 100, .kept⟩,
  ⟨0x3001, 0x3001, 9, 9, .rwAuth, .fixed 4, 10, .kept⟩,
  ⟨0x3001, 0x3001, 10, 10, .rwAuth, .fixed 2, 100, .kept⟩,
  ⟨0x3001, 0x3001, 11, 11, .rwAuth, .fixed 2, 500, .kept⟩,
  ⟨0x3002, 0x3002, 1, 1, .rwAuth, .fixed 1, 0, .command⟩,
  ⟨0x3010, 0x3010, 1, 1, .rwAuth, .fixed 1, 0, .staged⟩,
  ⟨0x3010, 0x3010, 2, 3, .rwAuth, .fixed 8, 0, .staged⟩,
  ⟨0x3010, 0x3010, 4, 4, .rwAuth, .fixed 1, 0, .command⟩,
  ⟨0x3010, 0x3010, 5, 5, .rwAuth, .fixed 1, 0, .staged⟩,
  ⟨0x3010, 0x3010, 6, 6, .ro, .fixed 16, 0, .value⟩,
  ⟨0x3011, 0x3011, 1, 1, .ro, .fixed 1, 0, .value⟩,
  ⟨0x3011, 0x3011, 2, 5, .ro, .fixed 8, 0, .value⟩,
  ⟨0x2100, 0x2100, 1, 1, .rwAuth, .fixed 4, 1500, .kept⟩,
  ⟨0x2100, 0x2100, 2, 2, .rwAuth, .fixed 4, 20, .kept⟩,
  ⟨0x2100, 0x2100, 3, 3, .ro, .fixed 4, 0, .value⟩,
  ⟨0x2100, 0x2100, 4, 4, .ro, .fixed 1, 0, .value⟩,
  ⟨0x2100, 0x2100, 5, 5, .ro, .fixed 4, 0, .value⟩,
  ⟨0x2100, 0x2100, 6, 6, .ro, .fixed 1, 64, .value⟩,
  ⟨0x2100, 0x2100, 7, 7, .ro, .fixed 2, 0, .value⟩,
  ⟨0x2100, 0x2100, 8, 8, .ro, .fixed 1, 48, .value⟩,
  ⟨0x2101, 0x2101, 1, 1, .rwAuth, .fixed 1, 0, .kept⟩,
  ⟨0x2101, 0x2101, 2, 2, .rwAuth, .fixed 1, 48, .staged⟩,
  ⟨0x2101, 0x2101, 3, 3, .rwAuth, .fixed 8, 0, .staged⟩,
  ⟨0x2101, 0x2101, 4, 4, .rwAuth, .fixed 1, 0, .command⟩,
  ⟨0x2101, 0x2101, 5, 7, .ro, .fixed 1, 0, .value⟩,
  ⟨0x2101, 0x2101, 8, 8, .ro, .fixed 8, 0, .value⟩,
  ⟨0x2110, 0x2110, 1, 16, .rwAuth, .fixed 1, 48, .kept⟩,
  ⟨0x2110, 0x2110, 17, 17, .rwAuth, .fixed 4, 1000, .kept⟩]

def odRows7 : List OdRow := [
  ⟨0x2120, 0x2120, 1, 32, .ro, .fixed 2, 0, .value⟩,
  ⟨0x2121, 0x2121, 1, 16, .ro, .fixed 1, 0, .value⟩,
  ⟨0x2130, 0x2130, 1, 32, .ro, .fixed 8, 0, .value⟩,
  ⟨0x2131, 0x2131, 1, 1, .rwAuth, .fixed 2, 40, .kept⟩,
  ⟨0x2131, 0x2131, 2, 2, .rwAuth, .fixed 2, 70, .kept⟩,
  ⟨0x2131, 0x2131, 3, 4, .ro, .fixed 8, 0, .value⟩,
  ⟨0x2131, 0x2131, 5, 5, .rwAuth, .fixed 1, 0, .command⟩,
  ⟨0x2140, 0x2140, 1, 32, .ro, .fixed 1, 0, .value⟩,
  ⟨0x2140, 0x2140, 33, 33, .ro, .fixed 4, 0, .value⟩,
  ⟨0x2150, 0x2150, 1, 3, .ro, .fixed 8, 0, .value⟩,
  ⟨0x2300, 0x2300, 1, 1, .rwAuth, .fixed 1, 100, .kept⟩,
  ⟨0x2300, 0x2300, 2, 2, .rwAuth, .fixed 1, 10, .kept⟩,
  ⟨0x2300, 0x2300, 3, 3, .rwAuth, .fixed 1, 110, .kept⟩,
  ⟨0x2300, 0x2300, 4, 4, .const, .fixed 1, 115, .value⟩,
  ⟨0x2300, 0x2300, 5, 6, .ro, .fixed 2, 0, .value⟩,
  ⟨0x2300, 0x2300, 7, 8, .ro, .fixed 8, 0, .value⟩,
  ⟨0x2300, 0x2300, 9, 9, .ro, .fixed 2, 0, .value⟩,
  ⟨0x2300, 0x2300, 10, 10, .ro, .fixed 8, 0, .value⟩,
  ⟨0x2310, 0x2314, 1, 208, .ro, .fixed 2, 0, .value⟩,
  ⟨0x2320, 0x2320, 1, 17, .ro, .fixed 8, 0, .value⟩,
  ⟨0x2330, 0x2330, 1, 32, .ro, .fixed 8, 0, .value⟩,
  ⟨0x2340, 0x2343, 1, 1, .rwAuth, .fixed 130, 0, .staged⟩,
  ⟨0x2340, 0x2343, 2, 2, .rwAuth, .fixed 4, 1000, .staged⟩,
  ⟨0x2340, 0x2343, 3, 3, .rwAuth, .fixed 1, 0, .command⟩,
  ⟨0x2340, 0x2343, 4, 4, .ro, .upTo 6240, 0, .value⟩,
  ⟨0x2350, 0x2350, 1, 1, .ro, .fixed 4, 0, .value⟩,
  ⟨0x2350, 0x2350, 2, 2, .const, .fixed 4, 50000, .value⟩,
  ⟨0x2350, 0x2350, 3, 5, .ro, .fixed 2, 0, .value⟩,
  ⟨0x7000, 0x7000, 1, 1, .ro, .fixed 8, 0, .value⟩,
  ⟨0x7000, 0x7000, 2, 2, .ro, .fixed 48, 0, .value⟩,
  ⟨0x7000, 0x7000, 3, 3, .ro, .fixed 1, 0, .value⟩,
  ⟨0x7000, 0x7000, 4, 4, .rwAuth, .upTo 4096, 0, .command⟩,
  ⟨0x7000, 0x7000, 5, 5, .rwAuth, .upTo 192, 0, .command⟩,
  ⟨0x7000, 0x7000, 6, 6, .ro, .fixed 8, 0, .value⟩,
  ⟨0x7010, 0x7013, 1, 1, .ro, .fixed 1, 0, .value⟩,
  ⟨0x7010, 0x7013, 2, 2, .ro, .fixed 48, 0, .value⟩,
  ⟨0x7010, 0x7013, 3, 3, .rwAuth, .fixed 1, 0, .command⟩,
  ⟨0x7010, 0x7013, 4, 4, .ro, .fixed 4, 0, .value⟩,
  ⟨0x7020, 0x7020, 1, 1, .rwAuth, .fixed 1, 0, .staged⟩,
  ⟨0x7020, 0x7020, 2, 2, .rwAuth, .fixed 2, 0, .staged⟩]

def odRows8 : List OdRow := [
  ⟨0x7020, 0x7020, 3, 3, .rwAuth, .fixed 1, 0, .staged⟩,
  ⟨0x7020, 0x7020, 4, 4, .wo, .fixed 32, 0, .staged⟩,
  ⟨0x7020, 0x7020, 5, 5, .rwAuth, .fixed 2, 0, .staged⟩,
  ⟨0x7020, 0x7020, 6, 6, .rwAuth, .fixed 1, 0, .command⟩,
  ⟨0x7020, 0x7020, 7, 7, .ro, .fixed 1, 0, .value⟩,
  ⟨0x7030, 0x7030, 1, 4, .ro, .fixed 1, 0, .value⟩,
  ⟨0x7030, 0x7030, 5, 5, .rwAuth, .fixed 1, 0, .command⟩,
  ⟨0x7040, 0x7040, 1, 1, .ro, .fixed 1, 0, .value⟩,
  ⟨0x7040, 0x7040, 2, 2, .ro, .fixed 32, 0, .value⟩,
  ⟨0x7040, 0x7040, 3, 3, .wo, .fixed 104, 0, .command⟩,
  ⟨0x1F50, 0x1F50, 1, 2, .rwAuth, .fixed 16, 0, .kept⟩,
  ⟨0x1F50, 0x1F50, 3, 3, .rwAuth, .fixed 16, 0, .plain⟩,
  ⟨0x1F50, 0x1F50, 4, 4, .rwAuth, .fixed 1, 0, .command⟩,
  ⟨0x1F50, 0x1F50, 5, 5, .ro, .fixed 1, 0, .value⟩,
  ⟨0x1F50, 0x1F50, 6, 17, .ro, .fixed 4, 0, .value⟩,
  ⟨0x1F50, 0x1F50, 18, 18, .ro, .fixed 1, 0, .value⟩,
  ⟨0x1F51, 0x1F51, 1, 1, .rwAuth, .fixed 8, 0, .staged⟩,
  ⟨0x1F51, 0x1F51, 2, 2, .rwAuth, .fixed 1, 1, .staged⟩,
  ⟨0x1F51, 0x1F51, 3, 3, .rwAuth, .fixed 1, 0, .command⟩,
  ⟨0x1F51, 0x1F51, 4, 4, .ro, .fixed 1, 0, .value⟩,
  ⟨0x1F51, 0x1F51, 5, 5, .ro, .fixed 8, 0, .value⟩,
  ⟨0x1F51, 0x1F51, 6, 6, .const, .fixed 4, 5000, .value⟩,
  ⟨0x1F51, 0x1F51, 7, 9, .ro, .fixed 8, 0, .value⟩,
  ⟨0x1F52, 0x1F52, 1, 35, .ro, .fixed 4, 0, .value⟩,
  ⟨0x6000, 0x6000, 1, 2, .ro, .fixed 1, 1, .value⟩,
  ⟨0x6000, 0x6000, 3, 3, .ro, .fixed 1, 0, .value⟩,
  ⟨0x6000, 0x6000, 4, 4, .ro, .fixed 4, 0, .value⟩,
  ⟨0x6000, 0x6000, 5, 6, .ro, .fixed 2, 0, .value⟩,
  ⟨0x6000, 0x6000, 7, 7, .ro, .fixed 4, 0, .value⟩,
  ⟨0x6000, 0x6000, 8, 8, .ro, .fixed 1, 0, .value⟩,
  ⟨0x6000, 0x6000, 9, 9, .rwAuth, .fixed 1, 0, .command⟩,
  ⟨0x6000, 0x6000, 10, 11, .ro, .fixed 8, 0, .value⟩,
  ⟨0x6010, 0x6011, 1, 128, .ro, .fixed 8, 0, .value⟩,
  ⟨0x6020, 0x6022, 1, 128, .ro, .fixed 8, 0, .value⟩,
  ⟨0x6030, 0x6030, 1, 32, .ro, .fixed 8, 0, .value⟩,
  ⟨0x6031, 0x6031, 1, 16, .ro, .fixed 8, 0, .value⟩,
  ⟨0x6032, 0x6032, 1, 18, .ro, .fixed 8, 0, .value⟩,
  ⟨0x6033, 0x6033, 1, 16, .ro, .fixed 8, 0, .value⟩,
  ⟨0x6040, 0x6040, 1, 1, .rwAuth, .fixed 1, 0, .staged⟩,
  ⟨0x6040, 0x6040, 2, 2, .rwAuth, .fixed 2, 0, .staged⟩]

def odRows9 : List OdRow := [
  ⟨0x6040, 0x6040, 3, 3, .rwAuth, .bool, 0, .staged⟩,
  ⟨0x6040, 0x6040, 4, 4, .rwAuth, .fixed 1, 0, .command⟩,
  ⟨0x6100, 0x6100, 1, 2, .rwAuth, .fixed 1, 0, .staged⟩,
  ⟨0x6100, 0x6100, 3, 3, .rwAuth, .fixed 1, 0, .command⟩,
  ⟨0x6100, 0x6100, 4, 7, .ro, .fixed 1, 0, .value⟩,
  ⟨0x6100, 0x6100, 8, 8, .ro, .fixed 8, 0, .value⟩,
  ⟨0x1000, 0x1000, 1, 1, .const, .fixed 15, 0x73656369766544206e6f726e797242, .value⟩,
  ⟨0x1000, 0x1000, 2, 2, .const, .fixed 12, 0x36394b206b69746f6e72614b, .value⟩,
  ⟨0x1000, 0x1000, 3, 3, .const, .fixed 9, 0x343230312d3639544b, .value⟩,
  ⟨0x1000, 0x1000, 4, 4, .ro, .fixed 1, 0, .value⟩,
  ⟨0x1000, 0x1000, 5, 5, .const, .fixed 2, 256, .value⟩,
  ⟨0x1000, 0x1000, 6, 6, .rwAuth, .upTo 64, 0, .kept⟩,
  ⟨0x1010, 0x1010, 1, 1, .ro, .fixed 8, 0, .value⟩,
  ⟨0x1010, 0x1010, 2, 2, .ro, .fixed 1, 0, .value⟩,
  ⟨0x1010, 0x1010, 3, 3, .rwAuth, .fixed 16, 0, .kept⟩,
  ⟨0x1010, 0x1010, 4, 4, .rwAuth, .fixed 1, 64, .kept⟩,
  ⟨0x1010, 0x1010, 5, 5, .rwAuth, .fixed 16, 0, .kept⟩,
  ⟨0x1010, 0x1010, 6, 6, .rwAuth, .fixed 4, 0, .kept⟩,
  ⟨0x1010, 0x1010, 7, 7, .rwAuth, .fixed 1, 24, .kept⟩,
  ⟨0x1010, 0x1010, 8, 8, .rwAuth, .fixed 4, 0, .kept⟩,
  ⟨0x1010, 0x1010, 9, 9, .rwAuth, .fixed 2, 49559, .kept⟩,
  ⟨0x1010, 0x1010, 10, 10, .rwAuth, .fixed 1, 0, .kept⟩,
  ⟨0x1010, 0x1010, 11, 12, .ro, .fixed 1, 0, .value⟩,
  ⟨0x1020, 0x1020, 1, 1, .rwAuth, .fixed 1, 0, .command⟩,
  ⟨0x1020, 0x1020, 2, 2, .ro, .fixed 1, 0, .value⟩,
  ⟨0x1020, 0x1020, 3, 7, .ro, .fixed 8, 0, .value⟩,
  ⟨0x1020, 0x1020, 8, 8, .ro, .fixed 4, 0, .value⟩,
  ⟨0x1020, 0x1020, 9, 9, .ro, .bool, 0, .value⟩,
  ⟨0x9000, 0x9000, 1, 1, .ro, .fixed 8, 0, .value⟩,
  ⟨0x9000, 0x9000, 2, 2, .const, .fixed 4, 65536, .value⟩,
  ⟨0x9000, 0x9000, 3, 5, .ro, .fixed 4, 0, .value⟩,
  ⟨0x9000, 0x9000, 6, 6, .ro, .fixed 2, 0, .value⟩,
  ⟨0x9000, 0x9000, 7, 7, .ro, .fixed 8, 0, .value⟩,
  ⟨0x9000, 0x9000, 8, 8, .ro, .fixed 4, 0, .value⟩,
  ⟨0x9000, 0x9000, 9, 9, .ro, .fixed 1, 0, .value⟩,
  ⟨0x9010, 0x9010, 1, 1, .rw, .fixed 4, 0, .staged⟩,
  ⟨0x9010, 0x9010, 2, 2, .rw, .fixed 2, 65535, .staged⟩,
  ⟨0x9010, 0x9010, 3, 3, .ro, .upTo 4096, 0, .value⟩,
  ⟨0x9020, 0x9020, 1, 1, .rwAuth, .fixed 1, 0, .command⟩,
  ⟨0x1200, 0x1200, 1, 8, .rwAuth, .fixed 1, 0, .command⟩]

def odRows10 : List OdRow := [
  ⟨0x1200, 0x1200, 9, 9, .rwAuth, .fixed 4, 1000000, .command⟩,
  ⟨0x1200, 0x1200, 10, 10, .rwAuth, .fixed 1, 0, .kept⟩,
  ⟨0x1200, 0x1200, 11, 11, .ro, .fixed 1, 0, .value⟩,
  ⟨0x1200, 0x1200, 12, 12, .ro, .fixed 8, 0, .value⟩]

def odRows : List OdRow := odRows1 ++ odRows2 ++ odRows3 ++ odRows4 ++ odRows5 ++ odRows6 ++ odRows7 ++ odRows8 ++ odRows9 ++ odRows10

def odTops : List (Nat × Nat × Nat) := [
  (0x1000, 0x1000, 6), (0x1010, 0x1010, 12), (0x1020, 0x1020, 9), (0x1200, 0x1200, 12), (0x1F50, 0x1F50, 18), (0x1F51, 0x1F51, 9),
  (0x1F52, 0x1F52, 35), (0x2100, 0x2100, 8), (0x2101, 0x2101, 8), (0x2110, 0x2110, 17), (0x2120, 0x2120, 32), (0x2121, 0x2121, 16),
  (0x2130, 0x2130, 32), (0x2131, 0x2131, 5), (0x2140, 0x2140, 33), (0x2150, 0x2150, 3), (0x2300, 0x2300, 10), (0x2310, 0x2314, 208),
  (0x2320, 0x2320, 17), (0x2330, 0x2330, 32), (0x2340, 0x2343, 4), (0x2350, 0x2350, 5), (0x3000, 0x3000, 8), (0x3001, 0x3001, 11),
  (0x3002, 0x3002, 1), (0x3010, 0x3010, 6), (0x3011, 0x3011, 5), (0x4000, 0x4000, 5), (0x4010, 0x401F, 7), (0x4020, 0x4021, 144),
  (0x4030, 0x4030, 3), (0x4031, 0x4031, 5), (0x4032, 0x4032, 10), (0x4100, 0x4100, 6), (0x4110, 0x411F, 8), (0x4120, 0x4120, 1),
  (0x4200, 0x4200, 12), (0x4210, 0x4210, 8), (0x4220, 0x4220, 12), (0x4230, 0x4230, 8), (0x4240, 0x4243, 16), (0x4300, 0x430F, 14),
  (0x4310, 0x4310, 7), (0x4400, 0x4400, 3), (0x4401, 0x4401, 16), (0x4410, 0x4410, 64), (0x4420, 0x4420, 7), (0x4430, 0x4430, 6),
  (0x5000, 0x5011, 8), (0x5020, 0x5020, 8), (0x5021, 0x5021, 144), (0x5022, 0x5022, 18), (0x5030, 0x5030, 7), (0x5031, 0x5031, 64),
  (0x5032, 0x5032, 4), (0x5040, 0x5040, 8), (0x5100, 0x5100, 10), (0x5200, 0x5200, 6), (0x5300, 0x5300, 3), (0x5400, 0x5403, 7),
  (0x5410, 0x5413, 7), (0x5420, 0x5423, 64), (0x5430, 0x543F, 255), (0x5440, 0x5440, 4), (0x5500, 0x5500, 7), (0x5510, 0x5510, 1),
  (0x5520, 0x5520, 8), (0x6000, 0x6000, 11), (0x6010, 0x6011, 128), (0x6020, 0x6020, 128), (0x6021, 0x6021, 128), (0x6022, 0x6022, 32),
  (0x6030, 0x6030, 32), (0x6031, 0x6031, 16), (0x6032, 0x6032, 18), (0x6033, 0x6033, 16), (0x6040, 0x6040, 4), (0x6100, 0x6100, 8),
  (0x6800, 0x6800, 16), (0x6810, 0x6810, 16), (0x6820, 0x6820, 9), (0x7000, 0x7000, 6), (0x7010, 0x7013, 4), (0x7020, 0x7020, 7),
  (0x7030, 0x7030, 5), (0x7040, 0x7040, 3), (0x9000, 0x9000, 9), (0x9010, 0x9010, 3), (0x9020, 0x9020, 1), (0x9000, 0x90FF, 0),
  (0xA000, 0xA03F, 6), (0xA040, 0xA040, 16), (0xA041, 0xA041, 3), (0xA042, 0xA042, 7)]

/-! ## Lookup (R615) -/

/-- The highest subindex of an index; none: no such object. -/
def odTop (index : Nat) : Option Nat := (odTops.find? (fun e => decide (e.1 ≤ index ∧ index ≤ e.2.1))).map (fun e => e.2.2)

/-- The row of a subindex. -/
def odRow (index sub : Nat) : Option OdRow :=
  odRows.find? (fun r => decide (r.lo ≤ index ∧ index ≤ r.hi ∧ r.slo ≤ sub ∧ sub ≤ r.shi))

/-- What a request finds: a status, subindex 0, or a row. -/
inductive OdFound where
  | status (code : Nat)
  | count (top : Nat)
  | row (r : OdRow)

/-- Index and subindex are checked first (R615, R631). -/
def odFind (index sub : Nat) : OdFound :=
  match odTop index with
  | none => .status 0x0101
  | some top =>
    if sub = 0 then .count top
    else if sub > top then .status 0x0102
    else match odRow index sub with | none => .status 0x0102 | some r => .row r

end Sys2Proof.Machine
end

