-- ==== Sys2Proof/Machine/Events.lean ====
section
/-!
DEFINITION. Scheduled events handed over (R494, R496), GPIO (R666, R667), neighbor discovery and echo (R415, R416, R640), MCTP control (R595).
-/

namespace Sys2Proof.Machine
open Sys2Proof

/-! ## Scheduled events -/

def State.slotDone (s : State) (i : Nat) : State :=
  (s.setSlot i { s.slot i with st := esPerformed }).onBell (fun b => { b with performed := b.performed + 1 })

/-- A FREQ event: TIMELOST in FREERUN, otherwise performed. -/
def State.handFreq (s : State) (i : Nat) : State :=
  let n := (s.slot i).param % 256
  if s.bell.st = tsFreerun then s.loseFreq i n else (s.slotDone i).performFreq n

/-- A GPIO event drives its pin to its level. -/
def State.handGpio (s : State) (i : Nat) : State :=
  let p := (s.slot i).param
  (s.slotDone i).onPins (fun q => { q with driven := Tab.set false q.driven (p % 8) (Nat.testBit p 3) })

/-- A RECORD event writes a marker record. -/
def State.handRecord (s : State) (i : Nat) : State := (s.slotDone i).event 1 3 (s.slot i).param 0

/-- CCLK of an operating point in MHz (R517). -/
def pointMhz (n : Nat) : Nat := 800 + 25 * n

/-- SCHEDULED_EVENT: every event ARMED for the present bell goes to its owner, in the order FREQ, POWERUP, GPIO, ACTIVATE, RECORD; `peaks` gives each
domain's highest current of the bell before in mA. -/
def execScheduledEvent (peaks : List (Nat × Nat)) (s : State) : Res :=
  let due (k : Nat) : List Nat :=
    (List.range 64).filter (fun i => decide ((s.slot i).kind = k ∧ (s.slot i).st = esArmed ∧ (s.slot i).bell = s.bell.count))
  let s1 := (due evFreq).foldl State.handFreq s
  let up := decide (s1.power.point > s.power.point)
  let a : Admit := ⟨peaks, if up then pointMhz s1.power.point else 1, if up then pointMhz s.power.point else 1, []⟩
  let s2 := ((due evPowerup).foldl State.tryPowerup (s1, a)).1
  let s3 := (due evGpio).foldl State.handGpio s2
  let s4 := (due evActivate).foldl State.activate s3
  .next ((due evRecord).foldl State.handRecord s4)

/-! ## GPIO -/

def gpNone : Nat := 0
def gpOutput : Nat := 2
def gpScheduled : Nat := 3
def gpBell : Nat := 4
def gpTrigger : Nat := 7

def State.gpio (s : State) (n : Nat) : Nat := s.val 0x1200 (n + 1) 0

/-- From power-up until the security image starts in step 3 every pin is high-impedance (R666). -/
def State.pinsOff (s : State) : Bool := decide (s.dev.st = devCold ∨ (s.dev.st = devBooting ∧ s.dev.bootStep ≤ 3 ∧ (s.proc 0).st = 0))

def State.gpioCount (s : State) (f n : Nat) : Nat := ((List.range 8).filter (fun i => decide (i ≠ n ∧ s.gpio i = f))).length

/-- A GP_FUNCn write, refused as Table 24-6a gives. -/
def State.gpFunc (s : State) (n f : Nat) : State :=
  let now := s.gpio n
  let armed := (List.range 64).any (fun i => decide ((s.slot i).kind = evGpio ∧ (s.slot i).st = esArmed ∧ (s.slot i).param % 8 = n))
  if f > 7 then s.answer 0x0301
  else if f ≠ gpNone ∧ f ≠ now ∧ now ≠ gpNone then s.answer 0x0401
  else if (f = gpBell ∧ s.gpioCount gpBell n ≥ 1) ∨ (f = gpTrigger ∧ s.gpioCount gpTrigger n ≥ 2) then s.answer 0x0401
  else if now = gpScheduled ∧ f ≠ gpScheduled ∧ armed then s.answer 0x0401
  else
    let s1 := s.keepVal 0x1200 (n + 1) 1 f
    (if f = now then s1 else s1.onPins (fun p => { p with driven := Tab.set false p.driven n false, lastTrig := Tab.set 0 p.lastTrig n 0 })).answer 0

def execGpFunc (who : Fin 16) (pin : Fin 8) (code : Fin 256) (s : State) : Res :=
  .next (s.command who.val 0x1200 (s.authPlain who.val) (fun s => s.gpFunc pin.val code.val))

/-- A GP_PERIOD write. -/
def State.gpPeriod (s : State) (v : Nat) : State :=
  if v < 2 ∨ v > 100000000 then s.answer 0x0301
  else if (List.range 8).any (fun i => s.gpio i = gpBell) then s.answer 0x0401
  else (s.keepVal 0x1200 9 4 v).answer 0

def execGpPeriod (who : Fin 16) (value : Word) (s : State) : Res :=
  .next (s.command who.val 0x1200 (s.authPlain who.val) (fun s => s.gpPeriod value.toNat))

/-- TRIGGER_IN: a rising edge writes a marker; edges within 1,000 bells of a recorded one are ignored. -/
def execTriggerIn (pin : Fin 8) (s : State) : Res :=
  let n := pin.val
  let last := Tab.get 0 s.pins.lastTrig n
  .next (if s.pinsOff ∨ s.gpio n ≠ gpTrigger ∨ (last ≠ 0 ∧ s.bell.count < last - 1 + 1000) then s
    else (s.onPins (fun p => { p with triggers := p.triggers + 1, lastTrig := Tab.set 0 p.lastTrig n (s.bell.count + 1) })).event 1 3 (0xFFFFFF00 + n) 0)

/-- BELL_OUT: the pin is high for the first ⌊GP_PERIOD / 2⌋ bells of each period. -/
def execBellOut (pin : Fin 8) (s : State) : Res :=
  let t := s.val 0x1200 9 1000000
  .next (if s.pinsOff ∨ s.gpio pin.val ≠ gpBell then s
    else s.onPins (fun p => { p with driven := Tab.set false p.driven pin.val (decide (s.bell.count % t < t / 2)) }))

/-- The level at a pin (GP_IN, Table 24-5). -/
def State.pinLevel (s : State) (n : Nat) : Bool :=
  let f := if s.pinsOff then gpNone else s.gpio n
  if f = gpOutput then Nat.testBit (s.val 0x1200 10 0) n
  else if f = gpScheduled ∨ f = gpBell then Tab.get false s.pins.driven n
  else if f = 5 then s.serving
  else if f = 6 then !s.thermal.cut.isEmpty
  else Tab.get false s.pins.board n

/-! ## Addresses of the ports (R416, R576, R640) -/

/-- The address of fabric port Fi: PREFIX ‖ IID. -/
def State.portAddr (s : State) (i : Nat) : Nat :=
  let d := s.fabric.domain
  s.val 0x5021 (18 * d + i + 1) 0 * 2 ^ 64 + (d * 2 ^ 24 + s.fabric.device * 2 ^ 8 + i)

/-- The link-local address of an interface identifier. -/
def linkLocal (iid : Nat) : Nat := 0xFE80 * 2 ^ 112 + iid % 2 ^ 64

/-- Modified EUI-64 of a MAC address. -/
def eui64 (mac : Nat) : Nat := (mac / 2 ^ 24 * 2 ^ 40 + 0xFFFE * 2 ^ 24 + mac % 2 ^ 24) ^^^ 2 ^ 57

/-- MAC addresses are fused: ports 0 to 17, the management port as 18. -/
def State.mac (s : State) (i : Nat) : Nat := Tab.get 0 s.fabric.macs i

/-- MG_ADDR6 as a number with its first octet highest. -/
def State.mgAddr6 (s : State) : Nat := leNat (leBytes 16 (s.val 0x1010 3 0)).reverse

/-- The port answers for an address: a fabric port in service for its own, the management port for its link-local address and MG_ADDR6. -/
def State.ownsAddr (s : State) (i target : Nat) : Bool :=
  if i < 18 then s.inService ukPort i && decide (target = s.portAddr i)
  else decide (s.pins.mgLink = 1 ∧ s.dev.st ≠ devCold) && decide (target = linkLocal (eui64 (s.mac 18)) ∨ (s.val 0x1010 3 0 ≠ 0 ∧ target = s.mgAddr6))

/-- Where a port sends. -/
def portOut (i : Nat) : OutPort := if i < 18 then .fabric else .mgmt

/-- NEIGHBOR_SOLICITATION for an address of the port: a Neighbor Advertisement with its MAC address answers. -/
def execNeighborSolicitation (port : Fin 19) (target : Nat) (s : State) : Res :=
  .next (if s.ownsAddr port.val target then s.emit (portOut port.val) 136 [port.val, target, s.mac port.val] else s)

/-- NEIGHBOR_ADVERTISEMENT: of a fabric port's next hop, named by FB_GATEWAY, or of a host on the management link. -/
def execNeighborAdvertisement (port : Fin 19) (target : Nat) (mac : BitVec 48) (s : State) : Res :=
  let i := port.val
  let ok := if i < 18 then s.inService ukPort i && decide (target = linkLocal (s.val 0x5022 (i + 1) 0)) else decide (s.pins.mgLink = 1 ∧ s.dev.st ≠ devCold)
  .next (if ok then s.setPort i { s.port i with hop := some mac.toNat } else s)

/-- ECHO_REQUEST on a fabric port: an Echo Reply with the same body. -/
def execEchoRequest (port : Fin 18) (src : Nat) (body : List Byte) (s : State) : Res :=
  .next (if s.inService ukPort port.val then s.emit .fabric 129 [port.val, src, body.length, leNat body] else s)

/-! ## MCTP control (R595, Table 22-9) -/

/-- The endpoint identifier in use on a bus: the static one, else the one that the bus owner assigned. -/
def State.eidOn (s : State) (pcie : Bool) : Nat :=
  match s.val 0x1010 10 0 with
  | 0 => if pcie then s.pins.eidPcie else s.pins.eidI3c
  | n => n

/-- The bus answers: I3C from step 1 on, PCIe while the link is up. -/
def State.mctpOn (s : State) (pcie : Bool) : Bool := if pcie then s.linkUp && !s.host.d3hot else decide (s.dev.st ≠ devCold)

/-- MCTP_CONTROL: discovery (no identifier), or an assignment by the bus owner, which a static MC_EID rejects. The answer carries the
identifier in use. -/
def execMctpControl (pcie : Bool) (eid : Option (Fin 256)) (s : State) : Res :=
  if !s.mctpOn pcie then .next s
  else
    let s1 := match eid with
      | some e =>
        if s.val 0x1010 10 0 = 0 ∧ 8 ≤ e.val ∧ e.val ≤ 254 then
          s.onPins (fun p => if pcie then { p with eidPcie := e.val } else { p with eidI3c := e.val })
        else s
      | none => s
    .next (s1.emit (if pcie then .host else .mgmt) 0x200 [s1.eidOn pcie])

end Sys2Proof.Machine
end

