-- ==== Sys2Proof/Machine/Idle.lean ====
section
/-!
DEFINITION. What happens when no command waits: the bell advances (R485); REG_LAT0 to REG_LAT5 are renewed every 1,000 bells (Table 12-9)
and the operating time every second (R644). Everything else that the spec ties to a bell or a timer is a command of its own.
-/

namespace Sys2Proof.Machine
open Sys2Proof

/-- REG_LATc: the largest L_c over the controllers, in ns. -/
def State.latMax (s : State) (c : Nat) : Nat := s.hbm.stks.foldl (fun m e => let v := Tab.get 0 e.2.lat c / 65536; if v > m then v else m) 0

def State.renewLat (s : State) : State :=
  { s with hbm := { s.hbm with lat5 := (List.range 6).foldl (fun t c => Tab.set 0 t c (s.latMax c)) [] } }

/-- One bell passes (DESIGN CHOICE: the table of operations has no row for the passing of time). A cold device counts no bells, and
the count starts with the clocks, in step 2 of a cold boot (R481). -/
def State.idle (s : State) : State :=
  if s.dev.st = 0 ∨ (s.dev.st = 1 ∧ s.dev.bootStep = 1) then s
  else
    let n := (s.bell.count + 1) % 2 ^ 64
    let s1 := { s with bell := { s.bell with count := n } }
    let s2 := if n % 1000 = 0 then s1.renewLat else s1
    if n % 1000000 = 0 then { s2 with recorder := { s2.recorder with opsec := s2.recorder.opsec + 1 } } else s2

end Sys2Proof.Machine
end

