-- ==== Sys2Proof/Machine/Values.lean ====
section
/-!
DEFINITION. What a read of a dictionary subindex gives (R615 to R618, R629, R650): values that the device shows, by the owner's table; staged values and SELECT
results by requester; values that the dictionary holds.
-/

namespace Sys2Proof.Machine
open Sys2Proof

/-! ## Values that the device shows -/

/-- Bits of a mask from a predicate on 0 to n - 1. -/
def maskOf (n : Nat) (p : Nat → Bool) : Nat := (List.range n).foldl (fun a i => if p i then a + 2 ^ i else a) 0

/-- Size in KiB, rounded up. -/
def kib (n : Nat) : Nat := (n + 1023) / 1024

/-- Present stalls, and frames of a role in them. -/
def State.stallsPresent (s : State) : Nat := ((List.range 256).filter s.stallPresent).length
def State.framesOf (s : State) (r : FrameRole) : Nat :=
  (s.market.frames.filter (fun e => decide (e.2 = r) && s.stallPresent (frameStall (e.1 / 20480) (e.1 % 20480)))).length

/-- 0x4000 to 0x4FFF (Tables 7-4, 8-8, 9-9, 10-1, 10-11, 12-8, 13-5). -/
def State.liveMarket (s : State) (index sub : Nat) : Nat :=
  if index = 0x4000 then
    match sub with
    | 1 => 20 * s.stallsPresent
    | 2 => s.stallsPresent
    | 3 => 320 * s.stallsPresent - s.framesOf .placed - s.framesOf .landing - s.framesOf .absent
    | 4 => s.framesOf .placed
    | _ => s.framesOf .landing
  else if index < 0x4020 then (if sub = 6 then (s.rsv (index - 0x4010)).base else (s.rsv (index - 0x4010)).bytes)
  else if index < 0x4022 then
    let n := 144 * (index - 0x4020) + sub - 1
    if s.inService ukStall n then Tab.get 0 s.market.stallBand n else 0xFF
  else if index = 0x4030 then
    match sub with | 1 => s.market.cnt.staleReads | 2 => s.market.cnt.staleDropped | _ => s.market.cnt.staleTraps
  else if index = 0x4031 then
    match sub with
    | 1 => s.market.cnt.foldApplied
    | 2 => s.market.cnt.foldRefused
    | 3 => s.market.cnt.foldSat
    | 4 => s.market.cnt.foldLostlow
    | _ => s.market.cnt.foldMerges
  else if index = 0x4032 then
    match sub with
    | 6 => kib s.draftFoot
    | 7 => maskOf 16 (fun e => decide ((s.epoch e).st = 1))
    | 8 => s.market.cnt.commits
    | 9 => s.market.cnt.cancels
    | _ => s.market.cnt.full
  else if index < 0x4120 then
    let r := index - 0x4110
    let x := Tab.get Runner.blank s.fabric.runners r
    match sub with
    | 1 => s.unit ukRunner r
    | 2 => maskOf 64 (fun c => (s.chan r c).bound)
    | 3 => x.indices
    | 4 => x.hits
    | 5 => x.misses
    | 6 => x.halts
    | 7 => x.stale
    | _ => kib (s.heldBytes r)
  else if index = 0x4230 then
    let c := s.pager.cnt
    match sub with
    | 1 => c.demand
    | 2 => c.unresolved
    | 3 => c.promotions
    | 4 => c.demotions
    | 5 => c.movedKiB / 1024
    | 6 => c.walks
    | 7 => c.shootdowns
    | _ => c.skipped
  else if index < 0x4244 then
    match (Tab.get [] s.pager.faultLog (index - 0x4240))[sub - 1]? with
    | none => 0
    | some f => f.va * 2 ^ 72 + f.ctx * 2 ^ 60 + f.cause * 2 ^ 56 + f.lcore * 2 ^ 48 + f.bell
  else if index < 0x4310 then
    let j := index - 0x4300
    let k := s.stack j
    match sub with
    | 1 => s.unit ukStack j
    | 2 => if s.unit ukStack j = usRetired then 0 else k.rate
    | 3 => k.repairs
    | 4 => (k.temp % 2 ^ 32).toNat
    | 5 => k.band
    | 6 => k.reads
    | 7 => k.writes
    | 8 => k.merges
    | 9 => k.mergeSat
    | 10 => k.mergeLost
    | 11 => k.parity
    | 12 => k.retrains
    | 13 => k.refPostponed
    | _ => k.occMax
  else if index = 0x4310 then
    let q (i : Nat) : Nat := if s.hbmInstalled i then 256 else 0
    if sub = 1 then q 0 + q 1 + q 2 + q 3 else q (sub - 2)
  else if index = 0x4401 then
    if sub ≤ 6 then Tab.get 0 s.ecc.ce (sub - 1)
    else if sub ≤ 12 then Tab.get 0 s.ecc.ue (sub - 7)
    else match sub with
    | 13 => s.ecc.refetched
    | 14 => s.ecc.poisonRead
    | 15 => s.ecc.corrWb
    | _ => s.ecc.scrubPasses
  else if index = 0x4410 then
    match s.ecc.log[sub - 1]? with
    | none => 0
    | some r => r.kind * 2 ^ 124 + r.mem * 2 ^ 121 + r.unit * 2 ^ 112 + r.symbol * 2 ^ 104 + r.count * 2 ^ 96 + r.addr % 2 ^ 48 * 2 ^ 48 + r.bell % 2 ^ 48
  else if index = 0x4420 then (if sub = 6 then s.ecc.retBlocks.length else s.ecc.retFrames.length)
  else s.val index sub 0

/-- 0x5000 to 0x5FFF (Tables 14-11, 15-8). -/
def State.liveFabric (s : State) (who index sub : Nat) : Nat :=
  if index < 0x5012 then
    let i := index - 0x5000
    let p := s.port i
    match sub with
    | 1 => s.unit ukPort i
    | 2 => p.speed
    | 3 => p.lanes
    | 4 => s.mac i
    | 5 => p.fecUncorr
    | 6 => p.tx
    | _ => p.rx
  else if index = 0x5020 then
    (if sub = 7 then (List.range 18).foldl (fun a i => if s.inService ukPort i then a + (s.port i).speed else a) 0 else s.fabric.incarn)
  else if index = 0x5032 then
    let peer := s.staged who 0x5032 1 (s.val 0x5032 1 0)
    match sub with
    | 2 => (s.peer peer).st
    | 3 => maskOf 18 (fun i => s.planeUsable peer i)
    | _ => (s.peer peer).lastHeard
  else if index = 0x5040 then Tab.get 0 s.fabric.cnt sub
  else if index < 0x5404 then
    let x := s.starter (index - 0x5400)
    match sub with | 5 => x.st | 6 => x.lastCut | _ => x.held
  else if index < 0x5414 then (if sub = 6 then (s.hosted (index - 0x5410)).st else (s.hosted (index - 0x5410)).cut)
  else
    match sub with
    | 1 => s.host.lanes
    | 2 => s.host.speed
    | 3 => if s.host.lanes = 0 then 0 else if s.host.d3hot then 4 else if s.host.lanes ≥ 16 then 1 else if s.host.lanes ≥ 4 then 2 else 3
    | 5 => s.host.linkdowns
    | 6 => s.host.ur
    | _ => s.host.dropped

/-- 0x3000 to 0x3FFF (Table 16-5). -/
def State.liveBell (s : State) (index sub : Nat) : Nat :=
  if index = 0x3000 then
    match sub with
    | 1 => s.bell.count
    | 2 => s.bell.st
    | 3 => (s.bell.offset % 2 ^ 64).toNat
    | 4 => s.errEst
    | 5 => s.srcActive
    | 6 => s.bell.steps
    | 7 => s.bell.ppsReject
    | _ => s.bell.skewMax
  else
    match sub with
    | 1 => ((List.range 64).filter (fun i => (s.slot i).waiting)).length
    | 2 => s.bell.performed
    | 3 => s.bell.deferred
    | 4 => s.bell.timelost
    | _ => s.bell.cancelled

/-- λ_th of a site: 0 when it is OFF (Table 18-5). -/
def State.shownLimit (s : State) (site : Nat) : Nat := if s.siteWorks site then 64 - Tab.get 0 s.thermal.cut site else 0

/-- 0x2000 to 0x2FFF (Tables 17-7, 18-5). -/
def State.livePower (s : State) (index sub : Nat) : Nat :=
  let p := s.power
  let t := s.thermal
  if index = 0x2100 then
    match sub with
    | 3 => p.sum / (if p.samples.length = 0 then 1 else p.samples.length)
    | 4 => p.level
    | 5 => s.causes
    | 6 => p.cap
    | 7 => p.vin
    | _ => s.pmax
  else if index = 0x2101 then
    match sub with
    | 5 => p.point
    | 6 => if s.group1 = 0 then 0 else if p.fgState = 0 then 1 else p.fgState
    | 7 => p.demand
    | _ => p.changes
  else if index = 0x2120 then maskOf 9 (fun i => p.failed.contains (9 * (sub - 1) + i))
  else if index = 0x2121 then
    let m := Tab.get 0 p.mktFailed (sub - 1)
    m + 16 * (if m = 0 then 8 else groupCap (maskOnes m))
  else if index = 0x2130 then Tab.get 0 p.drMin (sub - 1)
  else if index = 0x2131 then (if sub = 3 then p.stretch1 else p.stretch2)
  else if index = 0x2140 then (if sub = 33 then p.agLast else Tab.get 0 p.trim (sub - 1))
  else if index = 0x2150 then
    match sub with | 1 => p.puAdmitted | 2 => p.puDeferred | _ => p.puRefused
  else if index = 0x2300 then
    match sub with
    | 5 => int16 t.max
    | 6 => t.maxSensor
    | 7 => int16 t.peak * 2 ^ 48 + t.peakBell % 2 ^ 48
    | 8 => t.over105
    | 9 => (t.sensors.filter (fun e => e.2.failed)).length
    | _ => t.deviations
  else if index < 0x2315 then
    let x := s.sensor (208 * (index - 0x2310) + sub - 1)
    if x.failed then 0x8000 else int16 x.last
  else if index = 0x2320 then maskOf 64 (fun b => s.sensorFailed (64 * (sub - 1) + b))
  else if index = 0x2330 then (List.range 9).foldl (fun a i => a + s.shownLimit (9 * (sub - 1) + i) * 2 ^ (7 * i)) 0
  else
    match sub with | 1 => t.cycles | 3 => t.swingMax | 4 => t.bondSpares | _ => t.bondLost

/-- A firmware status word (Table 20-2). -/
def State.procWord (s : State) (p : Nat) : Nat :=
  let x := s.proc p
  let n := (x.restarts.filter (fun b => decide (s.bell.count < b + 3600000000))).length
  x.st * 2 ^ 28 + x.bank * 2 ^ 27 + (if n > 7 then 7 else n) * 2 ^ 24 + (if x.healthy then 2 ^ 16 else 0) + x.beat % 65536

/-- 0x1000 to 0x1FFF, 0x9000 (Tables 20-10, 22-9, 23-4, 24-6). -/
def State.liveBoard (s : State) (index sub : Nat) : Nat :=
  if index = 0x1000 then s.sec.stepping
  else if index = 0x1010 then
    match sub with | 1 => s.mac 18 | 2 => s.pins.mgLink | 11 => s.eidOn false | _ => s.eidOn true
  else if index = 0x1020 then
    let d := s.dict
    match sub with
    | 2 => (d.reqs.filter (fun e => e.2.used)).length
    | 3 => d.framesBad
    | 4 => d.aborts
    | 5 => d.refused
    | 6 => d.repeats
    | 7 => d.persistFail
    | 8 => kib d.storeUsed
    | _ => if s.sec.opClosed then 1 else 0
  else if index = 0x1200 then (if sub = 11 then maskOf 8 s.pinLevel else s.pins.triggers)
  else if index = 0x1F50 then
    if sub = 5 then s.fw.stgState
    else if sub = 18 then s.fw.refusal
    else
      let x := s.image ((sub - 6) / 4) ((sub - 6) % 4)
      if x.present then x.version else 0
  else if index = 0x1F51 then
    match sub with
    | 4 => s.fw.pcState
    | 5 => if s.fw.pcState = 1 then s.fw.pcBell else 0
    | 7 => s.fw.activations
    | 8 => s.fw.rollbacks
    | _ => s.fw.deferrals
  else if index = 0x1F52 then s.procWord (if sub ≤ 3 then sub - 1 else sub + 28)
  else
    let r := s.recorder
    match sub with
    | 1 => r.oldest * 2 ^ 32 + r.head
    | 3 => r.opsec
    | 4 => r.opsec / 3600
    | 5 => r.pcycles
    | 6 => r.queue.length
    | 7 => r.lost
    | 8 => r.clears
    | _ => r.state

/-- 0x6000 to 0x7FFF and 0xA000 on (Tables 11-8, 12-9, 19-7, 21-11). -/
def State.liveUnits (s : State) (index sub : Nat) : Nat :=
  if index = 0x6000 then
    match sub with
    | 1 => s.dev.st
    | 2 => s.dev.bootStep
    | 3 => s.dev.bootKind
    | 4 => s.dev.bootMs
    | 5 => s.coresEnabled
    | 6 => s.stallsPresent
    | 7 => maskOf 32 (fun k => (s.spareOf k).isSome)
    | 8 => s.dev.safeCause
    | 10 => s.dev.warmResets
    | _ => s.dev.reconciled
  else if index < 0x6012 then s.unitWord ukCore (128 * (index - 0x6010) + sub - 1)
  else if index < 0x6023 then s.unitWord ukStall (128 * (index - 0x6020) + sub - 1)
  else if index < 0x6034 then
    s.unitWord (match index with | 0x6030 => ukCluster | 0x6031 => ukRunner | 0x6032 => ukPort | _ => ukStack) (sub - 1)
  else if index = 0x6100 then (if sub = 8 then s.dev.ptResets else s.quarterMask (sub - 4))
  else if index = 0x6820 then
    let q := s.sched
    match sub with
    | 1 => q.doorbells
    | 2 => q.ignored
    | 3 => q.dispatched
    | 4 => q.rejected
    | 5 => q.late
    | 6 => q.expired
    | 7 => q.retried
    | 8 => s.latQueues
    | _ => q.dispMax
  else if index = 0x7000 then
    match sub with
    | 1 => s.sec.serial
    | 2 => s.sec.devidHash
    | 3 => s.sec.rootsPresent % 16 + s.sec.rootsRevoked % 16 * 16
    | _ => s.sec.authFail
  else if index < 0x7014 then
    match sub with
    | 1 => (s.seal (index - 0x7010)).st
    | 2 => (s.seal (index - 0x7010)).tenant
    | _ => (s.seal (index - 0x7010)).seals
  else if index = 0x7030 then Tab.get 0 s.sec.ar (sub - 1)
  else if index = 0x7040 then (if sub = 1 then s.sec.dbgLevel else s.sec.dbgChallenge)
  else if index < 0xA040 then (if (s.window (index - 0xA000)).enabled then 1 else 0)
  else if sub = 7 then s.hbm.held
  else Tab.get 0 s.hbm.lat5 (sub - 1)

/-- The value that the device shows for an RO subindex of fixed size. -/
def State.live (s : State) (who index sub : Nat) : Nat :=
  if index < 0x2000 ∨ index = 0x9000 then s.liveBoard index sub
  else if index < 0x3000 then s.livePower index sub
  else if index < 0x4000 then s.liveBell index sub
  else if index < 0x5000 then s.liveMarket index sub
  else if index < 0x6000 then s.liveFabric who index sub
  else s.liveUnits index sub

/-! ## Results of SELECT and staged values (R629) -/

/-- RO subindices that a SELECT fills for its requester. -/
def selectedSub (index sub : Nat) : Bool :=
  [(0x4200, 9), (0x4200, 10), (0x4200, 11), (0x4200, 12), (0x4210, 8), (0x4420, 5), (0x5440, 4), (0x3010, 6), (0x6800, 16), (0x7020, 7)].contains (index, sub)

/-- A value with its length, as the tables hold it; 0: the default of `len` bytes. -/
def shown (x len dflt : Nat) : List Byte := if x = 0 then leBytes len dflt else leBytes (valLen x) (decVal x)

/-- Bytes of a default: none for a value of variable length. -/
def OdSize.dfltLen (z : OdSize) : Nat := match z with | .fixed n => n | .upTo _ => 0 | .bool => 1 | .testData => 32

/-- The requester's own value, its SELECT's first; else the value last applied; else the default. -/
def State.ownValue (s : State) (who index sub len dflt : Nat) : List Byte :=
  let k := who * 2 ^ 24 + dictKey index sub
  let sel := Tab.get 0 s.dict.selected k
  let own := Tab.get 0 s.dict.staged k
  shown (if sel ≠ 0 then sel else if own ≠ 0 then own else Tab.get 0 s.dict.vals (dictKey index sub)) len dflt

/-! ## Reads -/

/-- ER_BLOCK (R650): up to 128 records from ER_FROM; none where it is refused with 0x0301. -/
def State.readBlock (s : State) (who : Nat) : Option (List Byte) :=
  let own (sub dflt : Nat) : Nat := s.staged who 0x9010 sub (s.val 0x9010 sub dflt)
  (s.recorder.readFrom (own 1 0) (own 2 0xFFFF) 128).map (fun p => p.1.flatMap EventRec.bytes)

/-- A read of a subindex: the status, and the value where it is 0 (R624, R631). -/
def State.odRead (s : State) (who index sub : Nat) : Nat × List Byte :=
  match odFind index sub with
  | .status c => (c, [])
  | .count top => (0, leBytes 1 top)
  | .row r =>
    match r.access with
    | .wo => (0x0202, [])
    | .const => (0, leBytes r.size.dfltLen r.dflt)
    | .ro =>
      if selectedSub index sub then (0, s.ownValue who index sub r.size.dfltLen r.dflt)
      else if index = 0x9010 then (match s.readBlock who with | none => (0x0301, []) | some b => (0, b))
      else
        match r.size with
        | .upTo _ => (0, (s.profile (index - 0x2340)).data)
        | z => (0, leBytes z.dfltLen (s.live who index sub))
    | _ =>
      match r.kind with
      | .staged => (0, s.ownValue who index sub r.size.dfltLen r.dflt)
      | _ => (0, shown (Tab.get 0 s.dict.vals (dictKey index sub)) r.size.dfltLen r.dflt)

end Sys2Proof.Machine
end

