-- ==== Sys2Proof/Machine/Writes.lean ====
section
/-!
DEFINITION. How a dictionary write is taken (R625, R628, R629, R631): the checks at segment 0, values without behaviour of their own with the ranges of their owners'
tables, commands.
-/

namespace Sys2Proof.Machine
open Sys2Proof

/-! ## Checks 1 to 4 (R625, R631) -/

/-- The write is authorised, as far as the subindex decides; a command decides the rest when it is performed (R552, R554, R565, R566, R633). -/
def State.odAuth (s : State) (who index sub : Nat) : Bool :=
  if index = 0x7020 ∨ (index = 0x4200 ∧ (sub = 1 ∨ sub = 7 ∨ sub = 8)) then s.authStage who
  else if 0x7010 ≤ index ∧ index ≤ 0x7013 then s.authPlain who || s.authSeal who
  else if index = 0x7000 ∧ sub = 5 then s.authRoots who
  else if index = 0x7030 ∨ index = 0x7040 then decide (s.role who = 1) && !s.recovering
  else if index = 0x5520 then s.authTenant who ((sub - 1) % 4)
  else s.authPlain who

/-- What the size check says of a write of `total` bytes: 0, 0x0302, or 3 for ABORT LENGTH. -/
def OdSize.check (z : OdSize) (total : Nat) : Nat :=
  match z with
  | .fixed n => if total = n then 0 else 0x0302
  | .upTo n => if total > n then 3 else 0
  | .bool => if total = 1 then 0 else 0x0302
  | .testData => if total = 32 ∨ total = 8 then 0 else 0x0302

/-- The checks of segment 0: 0, the status of the first that fails, or 3 for ABORT LENGTH. -/
def State.odWriteCheck (s : State) (who index sub total : Nat) : Nat :=
  match odFind index sub with
  | .status c => c
  | .count _ => 0x0201
  | .row r =>
    match r.access with
    | .ro | .const => 0x0201
    | .rw => r.size.check total
    | _ => if s.odAuth who index sub then r.size.check total else 0x0203

/-! ## Values without behaviour of their own -/

/-- Ranges of the owners' tables: index from, to, subindex from, to, least, largest value. -/
def odRanges : List (Nat × Nat × Nat × Nat × Nat × Nat) := [
  (0x4032, 0x4032, 1, 5, 16, 256), (0x4120, 0x4120, 1, 1, 16, 256), (0x4220, 0x4220, 1, 1, 100, 100000), (0x4220, 0x4220, 4, 4, 100, 1000),
  (0x4220, 0x4220, 5, 5, 0, 1024), (0x4220, 0x4220, 6, 6, 0, 95), (0x4220, 0x4220, 7, 7, 0, 100), (0x4220, 0x4220, 8, 8, 0, 7),
  (0x4220, 0x4220, 9, 12, 16, 4096), (0x4400, 0x4400, 2, 2, 1, 168), (0x4400, 0x4400, 3, 3, 24, 720), (0x4430, 0x4430, 1, 1, 0, 2),
  (0x5020, 0x5020, 1, 1, 0, 7), (0x5020, 0x5020, 2, 2, 0, 8191), (0x5020, 0x5020, 5, 5, 0, 4095), (0x5030, 0x5030, 1, 1, 100, 10000),
  (0x5030, 0x5030, 2, 2, 5, 1000), (0x5030, 0x5030, 3, 3, 10, 1000), (0x5030, 0x5030, 4, 4, 1, 100), (0x5030, 0x5030, 5, 5, 16, 1024),
  (0x5030, 0x5030, 6, 6, 1, 10000), (0x5030, 0x5030, 7, 7, 1, 65535), (0x5400, 0x5403, 2, 2, 0, 3), (0x5400, 0x5403, 3, 3, 100, 100000),
  (0x5410, 0x5413, 3, 3, 0, 1), (0x5410, 0x5413, 4, 4, 10, 2000), (0x5510, 0x5510, 1, 1, 0, 100000), (0x3001, 0x3001, 1, 1, 0, 4),
  (0x3001, 0x3001, 4, 4, 0, 2), (0x3001, 0x3001, 5, 5, 5, 1000), (0x3001, 0x3001, 6, 6, 100, 60000), (0x3001, 0x3001, 7, 7, 1, 3600),
  (0x3001, 0x3001, 8, 8, 10, 500), (0x3001, 0x3001, 9, 9, 1, 1000), (0x3001, 0x3001, 10, 10, 10, 10000), (0x3001, 0x3001, 11, 11, 50, 10000),
  (0x2100, 0x2100, 1, 1, 300, 1500), (0x2100, 0x2100, 2, 2, 5, 100), (0x2110, 0x2110, 1, 16, 0, 48), (0x2110, 0x2110, 17, 17, 200, 1000000),
  (0x2131, 0x2131, 1, 1, 20, 100), (0x2131, 0x2131, 2, 2, 0, 150), (0x2300, 0x2300, 1, 1, 85, 105), (0x2300, 0x2300, 2, 2, 2, 50),
  (0x2300, 0x2300, 3, 3, 0, 112), (0x6810, 0x6810, 1, 6, 1, 65535), (0x6810, 0x6810, 7, 7, 0, 10000), (0x6810, 0x6810, 8, 11, 0, 90),
  (0x6810, 0x6810, 12, 15, 0, 7), (0x6810, 0x6810, 16, 16, 100, 1000000), (0xA040, 0xA040, 1, 6, 50, 1000000), (0xA040, 0xA040, 7, 8, 0, 50),
  (0xA040, 0xA040, 9, 10, 1, 255), (0xA040, 0xA040, 11, 11, 0, 1000), (0xA040, 0xA040, 12, 12, 1000, 10000000), (0xA040, 0xA040, 13, 16, 0, 7),
  (0xA041, 0xA041, 1, 1, 50, 95), (0xA041, 0xA041, 2, 2, 55, 99), (0xA041, 0xA041, 3, 3, 20, 90), (0x1010, 0x1010, 4, 4, 1, 128),
  (0x1010, 0x1010, 7, 7, 1, 32)]

def inRange (index sub v : Nat) : Bool :=
  odRanges.all (fun r =>
    !decide (r.1 ≤ index ∧ index ≤ r.2.1 ∧ r.2.2.1 ≤ sub ∧ sub ≤ r.2.2.2.1) || decide (r.2.2.2.2.1 ≤ v ∧ v ≤ r.2.2.2.2.2))

/-- A value that must be one of a set, and combinations of values (Tables 12-8, 14-11, 16-5, 17-7, 18-5, 22-9; R393). -/
def State.comboBad (s : State) (index sub v : Nat) : Bool :=
  match index, sub with
  | 0x4310, 6 => decide (v ≠ 4800 ∧ v ≠ 5600 ∧ v ≠ 6400)
  | 0x4310, 7 => decide (v ≠ 0 ∧ v < 64)
  | 0x4400, 1 => decide (v > 1)
  | 0x5020, 4 => decide (v ≠ 2048 ∧ v ≠ 4096)
  | 0x3001, 3 => (List.range 4).any (fun i => decide (17 < v / 256 ^ i % 256 ∧ v / 256 ^ i % 256 ≠ 0xFF))
  | 0x2131, 1 => decide (v ≥ s.val 0x2131 2 70)
  | 0x2131, 2 => decide (v ≤ s.val 0x2131 1 40)
  | 0x2300, 1 => decide (s.val 0x2300 3 110 < v + 3)
  | 0x2300, 3 => decide (v < s.val 0x2300 1 100 + 3)
  | 0xA040, 7 => decide (v + s.val 0xA040 8 15 > 50)
  | 0xA040, 8 => decide (v + s.val 0xA040 7 5 > 50)
  | 0xA041, 1 => decide (v ≥ s.val 0xA041 2 90 ∨ s.val 0xA041 3 60 ≥ v)
  | 0xA041, 2 => decide (s.val 0xA041 1 75 ≥ v)
  | 0xA041, 3 => decide (v ≥ s.val 0xA041 1 75)
  | 0x1010, 10 => decide (v ≠ 0 ∧ (v < 8 ∨ 254 < v))
  | _, _ => false

/-- A write that the present state refuses: PG_TABLE_MIB while the partition has an ACTIVE context (R331). -/
def State.plainState (s : State) (index sub : Nat) : Bool :=
  decide (index = 0x4220 ∧ 9 ≤ sub) && s.pager.ctxs.any (fun e => decide (e.2.active ∧ e.2.part = sub - 9))

/-- A UDP port in use by another function (Table 22-9). -/
def portTaken (index sub v : Nat) : Bool := decide (index = 0x1010 ∧ sub = 9) && [49558, 49560, 49561, 319, 320].contains v

/-- The status of a write of a value without behaviour of its own: range, state, conflict (R631). -/
def State.plainRefusal (s : State) (index sub v : Nat) : Nat :=
  if !inRange index sub v || s.comboBad index sub v then 0x0301
  else if s.plainState index sub then 0x0402
  else if portTaken index sub v then 0x0401
  else 0

/-- The value is stored; a device that changes its frequency group joins anew (R520). -/
def State.storePlain (s : State) (kind : OdKind) (index sub len v : Nat) : State :=
  let s1 := if kind = .kept then s.keepVal index sub len v else s.setVal index sub len v
  if index = 0x2101 ∧ sub = 1 then s1.onPower (fun p => { p with fgState := 0 }) else s1

/-- A staged value is the requester's own, in place of a SELECT's result (R629). PR_ID selects at once. -/
def State.storeStaged (s : State) (who index sub len v : Nat) : State :=
  let s1 := s.stage who index sub len v
  let s2 := { s1 with dict := { s1.dict with selected := Tab.set 0 s1.dict.selected (who * 2 ^ 24 + dictKey index sub) 0 } }
  if index = 0x5032 then s2.setVal index sub len v else s2

/-- A write of a value without behaviour of its own, past checks 1 to 4. -/
def State.writePlain (s : State) (who index sub : Nat) (r : OdRow) (bytes : List Byte) : State :=
  let v := leNat bytes
  s.admitWrite who index true (fun s =>
    match r.kind with
    | .staged => if r.size = .bool ∧ v > 1 then s.answer 0x0301 else (s.storeStaged who index sub bytes.length v).answer 0
    | k =>
      match s.plainRefusal index sub v with
      | 0 => (s.storePlain k index sub bytes.length v).answer 0
      | e => s.answer e)

/-! ## Commands -/

/-- OD_CMD DEFAULTS (R637): at the next warm reset; refused while a partition is SEALED. -/
def execOdDefaults (who : Fin 16) (s : State) : Res :=
  .next (s.command who.val 0x1020 (s.authPlain who.val) (fun s =>
    if (List.range 4).any (fun p => decide ((s.seal p).st = 1)) then s.answer 0x0402
    else ({ s with dict := { s.dict with defaults := true } }).answer 0))

/-- A command value that its owner's table does not name. -/
def State.noCommand (s : State) (who index : Nat) : Res := .next (s.command who index true (fun s => s.answer 0x0301))

/-- Commands of an entry that one index serves. -/
def State.commandOf (s : State) (who : Fin 16) (index sub v : Nat) (bytes : List Byte) (found : WriteFound) : Res :=
  match index, v with
  | 0x4100, 1 => execRbBind who s
  | 0x4100, 2 => execRbUnbind who s
  | 0x4200, 1 => execCxCreate who s
  | 0x4200, 2 => execCxSet who s
  | 0x4200, 3 => execCxSetkey who s
  | 0x4200, 4 => execCxDestroy who s
  | 0x4200, 5 => execCxSelect who s
  | 0x4210, 1 => execRgMap who s
  | 0x4210, 2 => execRgAlias who s
  | 0x4210, 3 => execRgFree who s
  | 0x4210, 4 => execRgPin who s
  | 0x4210, 5 => execRgUnpin who s
  | 0x4210, 6 => execRgSelect who s
  | 0x6800, 1 => execWqCreate who s
  | 0x6800, 2 => execWqSet who s
  | 0x6800, 3 => execWqPause who s
  | 0x6800, 4 => execWqEnable who s
  | 0x6800, 5 => execWqDrain who s
  | 0x6800, 6 => execWqDestroy who s
  | 0x6800, 7 => execWqSelect who s
  | 0x4420, 1 => execRtRetire who s
  | 0x4420, 2 => execRtSelect who s
  | 0x4430, 1 => execTsWriteData who s
  | 0x4430, 2 => execTsWriteCheck who s
  | 0x4430, 3 => execTsWriteBoth who s
  | 0x4430, 4 => execTsReadRaw who s
  | 0x5100, 1 => execWnCreate who s
  | 0x5100, 2 => execWnDestroy who s
  | 0x5100, 3 => execWnSelect who s
  | 0x5200, 1 => execScBind who s
  | 0x5200, 2 => execScUnbind who s
  | 0x5300, 1 => execGrDefine who s
  | 0x5300, 2 => execGrDelete who s
  | 0x5300, 3 => execGrSelect who s
  | 0x5440, 1 => execRdSet who s
  | 0x5440, 2 => execRdClear who s
  | 0x5440, 3 => execRdSelect who s
  | 0x3002, 1 => execBtStep who s
  | 0x3010, 1 => execSeArm who s
  | 0x3010, 2 => execSeCancel who s
  | 0x3010, 3 => execSeSelect who s
  | 0x2101, 1 => execFgSchedule who s
  | 0x2131, 1 => execDrClear who s
  | 0x7020, 1 => execSkInstall who s
  | 0x7020, 2 => execSkDestroy who s
  | 0x7020, 3 => execSkSelect who s
  | 0x7030, 1 => execArCommit who found.fuse s
  | 0x1F50, 1 => execFwStage who s
  | 0x1F50, 2 => execFwDiscard who s
  | 0x1F51, 1 => execPcSchedule who s
  | 0x1F51, 2 => execPcCancel who s
  | 0x6000, 1 => execDevWarmReset who s
  | 0x6040, 1 => execUsFence who s
  | 0x6040, 2 => execUsUnfence who s
  | 0x6040, 3 => execUsReset who s
  | 0x6040, 4 => execUsRetire who s
  | 0x6040, 5 => execUsClearmm who s
  | 0x6100, 1 => execPtAssign who s
  | 0x6100, 2 => execPtReset who s
  | 0x1020, 1 => execOdDefaults who s
  | 0x9020, 1 => execErClear who s
  | 0x7040, _ => execDbgToken who bytes s
  | 0x7000, _ => if sub = 5 then execSecOpRoots who bytes s else execSecCert who bytes s
  | 0x1200, _ => if sub ≤ 8 then execGpFunc who (Fin.ofNat 8 (sub - 1)) (Fin.ofNat 256 v) s else execGpPeriod who (BitVec.ofNat 32 v) s
  | _, _ => s.noCommand who.val index

/-- A write of a command subindex, past checks 1 to 4. -/
def State.odCommand (s : State) (who : Fin 16) (index sub : Nat) (bytes : List Byte) (found : WriteFound) : Res :=
  let v := leNat bytes
  if 0x4010 ≤ index ∧ index ≤ 0x401F then
    if v = 0 then execRsvRelease who (Fin.ofNat 16 (index - 0x4010)) s else execRsvApply who (Fin.ofNat 16 (index - 0x4010)) v s
  else if 0xA000 ≤ index ∧ index ≤ 0xA03F then
    match v with
    | 1 => execRwEnable who (Fin.ofNat 64 (index - 0xA000)) s
    | 2 => execRwDisable who (Fin.ofNat 64 (index - 0xA000)) s
    | _ => s.noCommand who.val index
  else if 0x5000 ≤ index ∧ index ≤ 0x5011 then
    if v = 1 then execFpRetrain who (Fin.ofNat 18 (index - 0x5000)) s else s.noCommand who.val index
  else if 0x5400 ≤ index ∧ index ≤ 0x5403 then
    match v with
    | 1 => execFsStart who (Fin.ofNat 4 (index - 0x5400)) found.partnerOk s
    | 2 => execFsStop who (Fin.ofNat 4 (index - 0x5400)) s
    | _ => s.noCommand who.val index
  else if 0x5410 ≤ index ∧ index ≤ 0x5413 then
    match v with
    | 1 => execFhTakeover who (Fin.ofNat 4 (index - 0x5410)) s
    | 2 => execFhDiscard who (Fin.ofNat 4 (index - 0x5410)) s
    | _ => s.noCommand who.val index
  else if 0x2340 ≤ index ∧ index ≤ 0x2343 then
    match v with
    | 1 => execTpEnable who (Fin.ofNat 4 (index - 0x2340)) s
    | 2 => execTpDisable who (Fin.ofNat 4 (index - 0x2340)) s
    | _ => s.noCommand who.val index
  else if 0x7010 ≤ index ∧ index ≤ 0x7013 then
    match v with
    | 1 => execPsSeal who (Fin.ofNat 4 (index - 0x7010)) s
    | 2 => execPsUnseal who (Fin.ofNat 4 (index - 0x7010)) s
    | _ => s.noCommand who.val index
  else s.commandOf who index sub v bytes found

/-- A write past checks 1 to 4 is performed (R625). -/
def State.odPerform (s : State) (who : Fin 16) (index sub : Nat) (bytes : List Byte) (found : WriteFound) : State :=
  match odRow index sub with
  | none => s
  | some r =>
    if r.kind = .command then (s.odCommand who index sub bytes found).get s else s.writePlain who.val index sub r bytes

end Sys2Proof.Machine
end

