-- ==== Sys2Proof/Machine/Dict.lean ====
section
/-!
DEFINITION. Frames of the object dictionary: READ, WRITE, SEG, NEXT, ABORT (R619 to R631, R638, R639), and what time does to transactions, requesters and records that
could not be stored (R621, R626, R636).
-/

namespace Sys2Proof.Machine
open Sys2Proof

/-! ## ABORT reasons (Table 22-5) -/

def abortBusy : Nat := 1
def abortSequence : Nat := 2
def abortLength : Nat := 3
def abortTimeout : Nat := 4

/-! ## Requesters and transactions (R621, R626, R627) -/

/-- The requester of a path and source, else a free place of the 16. -/
def State.requesterOf (s : State) (path source : Nat) : Option (Fin 16) :=
  match (List.finRange 16).find? (fun w => let r := s.requester w.val; r.used && decide (r.path = path ∧ r.source = source)) with
  | some w => some w
  | none => (List.finRange 16).find? (fun w => !(s.requester w.val).used)

/-- A frame of a requester has come: its state exists, remembered responses older than 10 s are forgotten (R621, R627). -/
def State.greet (s : State) (who path source : Nat) : State :=
  let r := s.requester who
  if r.used then s.setRequester who { r with bell := s.bell.count, memo := r.memo.filter (fun m => decide (s.bell.count < m.bell + 10000000)) }
  else (s.releaseReq who).setRequester who ⟨true, path, source, [], [], s.bell.count⟩

def State.findTrans (s : State) (who tid : Nat) : Option Trans := (s.requester who).trans.find? (fun t => t.tid = tid)

/-- A transaction ends. -/
def State.closeTrans (s : State) (who tid : Nat) : State :=
  let r := s.requester who
  s.setRequester who { r with trans := r.trans.filter (fun t => t.tid ≠ tid) }

/-- A transaction is open, in place of its former state. -/
def State.openTrans (s : State) (who : Nat) (t : Trans) : State :=
  let r := s.requester who
  s.setRequester who { r with trans := r.trans.filter (fun x => x.tid ≠ t.tid) ++ [t] }

/-- The remembered responses of a TID are forgotten (R627). -/
def State.forgetTid (s : State) (who tid : Nat) : State :=
  let r := s.requester who
  s.setRequester who { r with memo := r.memo.filter (fun m => m.key.head? ≠ some tid) }

/-- What tells a frame from another (R627). -/
def DictFrame.key (f : DictFrame) : List Nat := [f.tid, f.op, f.index, f.sub, f.seg, f.crc]

/-- A RESPONSE of a status without data, counted in OD_REFUSED when it is a refusal. -/
def State.respondStatus (s : State) (who : Nat) (f : DictFrame) (status : Nat) : State :=
  (s.answer status).respondWith who f.key f.tid f.index f.sub status f.seg 0 false []

/-- ABORT in answer to a frame; the transaction of its TID ends. -/
def State.abortFrame (s : State) (who : Nat) (f : DictFrame) (reason : Nat) : State :=
  (s.closeTrans who f.tid).respondAbort who f.key f.tid f.index f.sub reason

/-- Data bytes of a segment other than the last. -/
def segBytes : Nat := 236

/-! ## READ and NEXT (R624) -/

/-- Segment `k` of a snapshot goes out; the transaction ends with the last one. -/
def State.sendSegment (s : State) (who : Nat) (f : DictFrame) (index sub k : Nat) (b : List Byte) : State :=
  let more := decide (segBytes * (k + 1) < b.length)
  let s1 := if more then s.openTrans who ⟨f.tid, false, index, sub, b.length, b, k + 1, s.bell.count⟩ else s.closeTrans who f.tid
  s1.respondWith who f.key f.tid index sub 0 k b.length more ((b.drop (segBytes * k)).take segBytes)

/-- A READ: the snapshot, and its segment 0. In steps 1 to 3 of a boot only DEV_STATE and DEV_BOOT_STEP are read (R595). -/
def State.readFrameOp (s : State) (who : Nat) (f : DictFrame) : State :=
  if s.earlyBoot ∧ ¬(f.index = 0x6000 ∧ (f.sub = 1 ∨ f.sub = 2)) then s.respondStatus who f 0x0402
  else
    match s.odRead who f.index f.sub with
    | (0, b) => s.sendSegment who f f.index f.sub 0 b
    | (e, _) => s.respondStatus who f e

/-- A NEXT asks for the segment that is due. -/
def State.nextFrameOp (s : State) (who : Nat) (f : DictFrame) : State :=
  match s.findTrans who f.tid with
  | some t => if !t.write ∧ f.seg = t.seg then s.sendSegment who f t.index t.sub t.seg t.buf else s.abortFrame who f abortSequence
  | none => s.abortFrame who f abortSequence

/-! ## WRITE and SEG (R625, R630) -/

/-- The tag under which a command that waits is answered later: FREE and PIN of RG_CMD (R630). -/
def State.waitTag (s : State) (who v : Nat) : List Nat :=
  if v = 3 then freeTag who else pinTag who (s.staged who 0x4210 1 0) (s.staged who 0x4210 2 0)

/-- The whole value of a write has arrived: the write is performed as one request and answered; none: the command waits, and the frame stays with its
sender. A response of a command that waits on device work is owed. -/
def State.finishWrite (s : State) (who : Fin 16) (f : DictFrame) (index sub : Nat) (bytes : List Byte) (found : WriteFound) : Option State :=
  let r := s.requester who.val
  let t := (s.closeTrans who.val f.tid).odPerform who index sub bytes found
  let new := t.out.drop s.out.length
  if new.contains ⟨.sender, 1, []⟩ then none
  else
    match new.find? (fun o => o.port = .dict) with
    | none => some { t with dict := { t.dict with owed := t.dict.owed ++ [⟨who.val, s.waitTag who.val (leNat bytes), f.tid, index, sub, f.seg, f.key⟩] } }
    | some o =>
      let data := match o.vals with | [] => [] | b :: _ => leBytes 8 b
      some (t.respondVia r.path r.source who.val f.key ⟨8, f.tid, index, sub, o.code, f.seg, data.length, false, data, 0⟩)

/-- A segment of a write has been added: LEN fields must fit TOTAL, a segment with PART holds 236 bytes. -/
def State.addSegment (s : State) (who : Fin 16) (f : DictFrame) (index sub total : Nat) (buf : List Byte) (found : WriteFound) : Option State :=
  if f.part then
    if f.data.length ≠ segBytes ∨ buf.length > total then some (s.abortFrame who.val f abortLength)
    else
      let s1 := s.openTrans who.val ⟨f.tid, true, index, sub, total, buf, f.seg + 1, s.bell.count⟩
      some (s1.respondWith who.val f.key f.tid index sub 0 f.seg 0 true [])
  else if buf.length ≠ total then some (s.abortFrame who.val f abortLength)
  else s.finishWrite who f index sub buf found

/-- A WRITE: checks 1 to 4, then its segment 0. -/
def State.writeFrameOp (s : State) (who : Fin 16) (f : DictFrame) (found : WriteFound) : Option State :=
  if s.earlyBoot then some (s.respondStatus who.val f 0x0402)
  else
    match s.odWriteCheck who.val f.index f.sub f.total with
    | 0 => s.addSegment who f f.index f.sub f.total f.data found
    | 3 => some (s.abortFrame who.val f abortLength)
    | e => some (s.respondStatus who.val f e)

/-- A SEG delivers the segment that is due. -/
def State.segFrameOp (s : State) (who : Fin 16) (f : DictFrame) (found : WriteFound) : Option State :=
  match s.findTrans who.val f.tid with
  | some t =>
    if t.write ∧ f.seg = t.seg then s.addSegment who f t.index t.sub t.total (t.buf ++ f.data) found else some (s.abortFrame who.val f abortSequence)
  | none => some (s.abortFrame who.val f abortSequence)

/-! ## Frames (R623, R626, R627) -/

/-- A READ or a WRITE opens a transaction. -/
def State.openingFrame (s : State) (who : Fin 16) (f : DictFrame) (found : WriteFound) : Option State :=
  if (s.findTrans who.val f.tid).isSome then some (s.abortFrame who.val f abortSequence)
  else
    let s1 := s.forgetTid who.val f.tid
    if (s1.requester who.val).trans.length ≥ 4 then some (s1.respondAbort who.val f.key f.tid f.index f.sub abortBusy)
    else if f.op = 1 then some (s1.readFrameOp who.val f)
    else s1.writeFrameOp who f found

/-- A frame of a requester; none: its command waits. -/
def State.requestFrame (s : State) (who : Fin 16) (f : DictFrame) (found : WriteFound) : Option State :=
  let r := s.requester who.val
  if f.op = 9 then some (s.closeTrans who.val f.tid)
  else
    match r.memo.find? (fun m => m.key = f.key) with
    | some m =>
      let b := leBytes (m.answer.headD 0) (m.answer.getD 1 0)
      some (({ s with dict := { s.dict with repeats := s.dict.repeats + 1 } }).sendOd r.path r.source b)
    | none =>
      if s.dict.owed.any (fun o => decide (o.who = who.val ∧ o.key = f.key)) then some s
      else if f.op = 1 ∨ f.op = 2 then s.openingFrame who f found
      else if f.op = 3 then s.segFrameOp who f found
      else some (s.nextFrameOp who.val f)

/-- A frame that reached the security core, of a row's OP; one that cannot be read is discarded and counted, one of another OP is another row's. -/
def State.dictFrame (s : State) (op path source : Nat) (b : List Byte) (found : WriteFound) : Option State :=
  match readFrame b with
  | none => some { s with dict := { s.dict with framesBad := s.dict.framesBad + 1 } }
  | some f =>
    match s.requesterOf path source with
    | none =>
      some (({ s with dict := { s.dict with aborts := s.dict.aborts + 1 } }).sendOd path source
        (DictFrame.bytes ⟨9, f.tid, f.index, f.sub, abortBusy, 0, 0, false, [], 0⟩))
    | some who => if f.op = op then (s.greet who.val path source).requestFrame who f found else some s

/-- The frame in bytes is of a row's OP, or of none. -/
def ofRow (op : Nat) (b : List Byte) : Bool := match readFrame b with | none => true | some f => decide (f.op = op)

/-! ## Paths (R619, R620, R638, R639) -/

/-- The path and the source of a frame. -/
def srcPath : FrameSrc → Nat × Nat
  | .ring => (pathRing, 0)
  | .pcie e => (pathPcie, e.val)
  | .i3c e => (pathI3c, e.val)
  | .udp a p => (pathUdp, a.toNat * 65536 + p.toNat)
  | .session n _ => (pathSession, n.val)

/-- The rings are paused while the security core switches or restarts (R572, R585). -/
def State.securityAway (s : State) : Bool := (List.range 4).any (fun f => decide ((s.ring f).st = 1)) && !s.romOnly

/-- What an MCTP message of type 0x7E holds behind the vendor identifier, most significant byte first; none: another vendor's. -/
def State.vendorFrame (s : State) (b : List Byte) : Option (List Byte) :=
  if b.length ≥ 2 ∧ leNat (b.take 2).reverse = s.sec.vendor then some (b.drop 2) else none

/-- A frame that is neither of the ring nor held is taken by the security core: a session's once its tag verifies, others by their vendor
identifier. -/
def State.takeMessage (s : State) (op : Nat) (src : FrameSrc) (b : List Byte) (found : WriteFound) : State :=
  let p := srcPath src
  match src with
  | .session n ok => s.inSession n.val ok (fun x t => ((t.setSession n.val x).dictFrame op p.1 p.2 b found).getD s.waits)
  | _ =>
    match s.vendorFrame b with
    | none => s
    | some f => (s.dictFrame op p.1 p.2 f found).getD s.waits

/-- A frame arrives. An unserved path gets no answer. While the security core switches, frames of the management path are held, at most 64. -/
def State.frameIn (s : State) (op : Nat) (src : FrameSrc) (bytes : List Byte) (found : WriteFound) : State :=
  let path := (srcPath src).1
  if !s.pathServed path then s
  else if path = pathRing then
    if s.ringReady 0 ∧ ofRow op (s.ringFrame 0) then ((s.ringTake 0).dictFrame op pathRing 0 (s.ringFrame 0) found).getD s.waits else s
  else if path = pathPcie ∧ (!s.linkUp ∨ s.host.d3hot) then s
  else if path = pathUdp ∧ s.pins.mgLink = 0 then s
  else if s.securityAway then
    if s.dict.paused ∧ path ≠ pathPcie ∧ s.dict.buffered.length < 64 then
      { s with dict := { s.dict with buffered := s.dict.buffered ++ [⟨op, src, bytes, found⟩] } }
    else s
  else s.takeMessage op src bytes found

/-- What a command finds outside when its row names nothing. -/
def nothingFound : WriteFound := ⟨false, none⟩

def execOdRead (src : FrameSrc) (bytes : List Byte) (s : State) : Res := .next (s.frameIn 1 src bytes nothingFound)
def execOdWrite (src : FrameSrc) (bytes : List Byte) (found : WriteFound) (s : State) : Res := .next (s.frameIn 2 src bytes found)
def execOdSeg (src : FrameSrc) (bytes : List Byte) (s : State) : Res := .next (s.frameIn 3 src bytes nothingFound)
def execOdNext (src : FrameSrc) (bytes : List Byte) (s : State) : Res := .next (s.frameIn 4 src bytes nothingFound)
def execOdAbort (src : FrameSrc) (bytes : List Byte) (s : State) : Res := .next (s.frameIn 9 src bytes nothingFound)

/-! ## Time (R621, R626, R636) -/

/-- TRANSACTION_TIMEOUT: a transaction without a frame for 2 s is abandoned with ABORT TIMEOUT. -/
def execTransactionTimeout (who : Fin 16) (tid : Fin 256) (s : State) : Res :=
  let w := who.val
  .next (match s.findTrans w tid.val with
  | some t =>
    if s.bell.count < t.bell + 2000000 then s
    else
      let s1 := s.closeTrans w tid.val
      let r := s1.requester w
      ({ s1 with dict := { s1.dict with aborts := s1.dict.aborts + 1 } }).sendOd r.path r.source
        (DictFrame.bytes ⟨9, tid.val, t.index, t.sub, abortTimeout, 0, 0, false, [], 0⟩)
  | none => s)

/-- REQUESTER_EXPIRY: a requester silent for 60 s loses its state. -/
def execRequesterExpiry (who : Fin 16) (s : State) : Res :=
  let r := s.requester who.val
  .next (if r.used ∧ s.bell.count ≥ r.bell + 60000000 then s.releaseReq who.val else s)

/-- PERSIST_RETRY: records that could not be stored are written again; they are stored once the flash answers. -/
def execPersistRetry (s : State) : Res :=
  .next (if s.recorder.state = 1 then s
    else { s with dict := s.dict.storeBad.foldl (fun d k => d.persist k (Tab.get 0 d.vals k)) s.dict })

end Sys2Proof.Machine
end

