-- ==== Sys2Proof/Machine/Registers.lean ====
section
/-!
DEFINITION. REGISTER_WRITE: registers of BAR0 (Tables 15-3 to 15-6), of the core and cluster windows (R194, R195, R203), BEAT and CTXSEL (Table 20-2, R569), subindices without
behaviour of their own (R628); and what reads of the status block, the cluster window and the epoch block return.
-/

namespace Sys2Proof.Machine
open Sys2Proof

/-- `a` without the bits of `w`. -/
def clearBits (a w : Nat) : Nat := a - (a &&& w)

/-! ## BAR0 (R464, R465, R475, R477) -/

/-- An MSI-X table word is written: address low, high, data, mask bit. -/
def MsixVec.put (x : MsixVec) (field w : Nat) : MsixVec :=
  match field with
  | 0 => { x with addr := x.addr / 2 ^ 32 * 2 ^ 32 + w }
  | 1 => { x with addr := w * 2 ^ 32 + x.addr % 2 ^ 32 }
  | 2 => { x with data := w }
  | _ => { x with masked := Nat.testBit w 0 }

/-- A 32-bit write at an aligned offset of the registers of BAR0; RO registers keep their value; RQ_TAIL and RS_HEAD are commands of their own. A write to
an unmapped offset is discarded and counted. -/
def State.bar0Word (s : State) (off w : Nat) : State :=
  if off = 0x20 then s.onHost (fun h => { h with evtstat := clearBits h.evtstat w })
  else if off = 0x24 then s.onHost (fun h => { h with evtmsix := w % 2048 + (if Nat.testBit w 15 then 2 ^ 15 else 0) })
  else if off ≤ 0x10 ∨ (0x40 ≤ off ∧ off < 0x80) then s
  else if 0x1000 ≤ off ∧ off < 0x1100 ∧ (off - 0x1000) % 0x40 < 0x18 then
    if (off - 0x1000) % 0x40 = 0x10 then
      let f := (off - 0x1000) / 0x40
      s.setRing f { s.ring f with msix := w % 2048 + (if Nat.testBit w 15 then 2 ^ 15 else 0) }
    else s
  else if 0x10000 ≤ off ∧ off < 0x18000 then
    let v := (off - 0x10000) / 16
    s.setVec v ((s.vec v).put (off % 16 / 4) w)
  else if 0x18000 ≤ off ∧ off < 0x18100 then s
  else s.hostDrop

/-- Bytes written to BAR0: to the slots of the function rings, or whole aligned words of registers. -/
def State.bar0Write (s : State) (off : Nat) (bytes : List Byte) : State :=
  let n := bytes.length
  if !s.linkUp ∨ n = 0 then s
  else if s.host.d3hot then s.hostUr
  else if 0x100000 ≤ off ∧ off + n ≤ 0x120000 then s.onHost (fun h => { h with slots := Tab.setBytes 0#8 h.slots off bytes })
  else if off % 4 = 0 ∧ n % 4 = 0 then
    (List.range (n / 4)).foldl (fun s i => s.bar0Word (off + 4 * i) (leNat ((bytes.drop (4 * i)).take 4))) s
  else s.hostDrop

/-- DEVSTATE (Table 15-4). -/
def State.devstate (s : State) : Nat :=
  0x96 * 2 ^ 24 + s.dev.st % 16 * 2 ^ 20 + maskOf 4 s.partResetting * 2 ^ 16 + s.host.lanes % 256 * 2 ^ 8
    + (if s.host.lanes = 0 then 0 else speedCode s.host.speed)

/-- BAR4MAP i (Table 15-4). -/
def State.bar4map (s : State) (i : Nat) : Nat :=
  let l := s.market.rsv.filter (fun e => decide (e.2.kind = rsvHost))
  match l[i]? with
  | none => 0
  | some (_, x) =>
    x.base + ((l.take i).foldl (fun a e => a + e.2.rows * 0x400000) 0) * 2 ^ 64
      + (x.rows % 65536 + x.part % 16 * 2 ^ 16 + 2 ^ 20 + (if (s.seal x.part).st = 1 then 2 ^ 21 else 0)) * 2 ^ 96

/-- A 32-bit read at an aligned offset of BAR0; an unmapped offset reads zero. -/
def State.bar0Get (s : State) (off : Nat) : Nat :=
  if off = 0 then s.devstate
  else if off = 4 then (if 0 < s.host.lanes ∧ s.host.lanes < 4 then 1 else 0)
  else if off = 8 ∨ off = 12 then s.bell.count / 2 ^ (8 * (off - 8)) % 2 ^ 32
  else if off = 0x10 then s.fabric.incarn
  else if off = 0x20 then s.host.evtstat
  else if off = 0x24 then s.host.evtmsix
  else if 0x40 ≤ off ∧ off < 0x80 then s.bar4map ((off - 0x40) / 16) / 2 ^ (8 * (off % 16)) % 2 ^ 32
  else if 0x1000 ≤ off ∧ off < 0x1100 then
    let x := s.ring ((off - 0x1000) / 0x40)
    match (off - 0x1000) % 0x40 with
    | 0x00 => x.rqTail
    | 0x04 => x.rqHead
    | 0x08 => x.rsTail
    | 0x0C => x.rsHead
    | 0x10 => x.msix
    | 0x14 => x.st
    | _ => 0
  else if 0x10000 ≤ off ∧ off < 0x18000 then
    let v := s.vec ((off - 0x10000) / 16)
    match off % 16 / 4 with
    | 0 => v.addr % 2 ^ 32
    | 1 => v.addr / 2 ^ 32
    | 2 => v.data
    | _ => if v.masked then 1 else 0
  else if 0x18000 ≤ off ∧ off < 0x18100 then maskOf 32 (fun i => (s.vec (8 * (off - 0x18000) + i)).pend)
  else if 0x100000 ≤ off ∧ off < 0x120000 then Tab.le 0#8 s.host.slots off 4
  else 0

/-! ## Windows of control space (R195, R203, R207, R568) -/

/-- A control core reaches its own cluster's windows; the scheduler and security cores reach all (R195). -/
def reachesCluster (by' k : Nat) : Bool := decide (32 ≤ by' ∨ by' = k)

/-- An access outside a processor's reach raises a RISC-V access fault in it (R568). -/
def State.accessFault (s : State) (by' : Nat) : State := s.emit .firmware 4 [by']

/-- Bytes written to a core's window: its bench, marked with DTAINT of a control core (R207), or a word of its register block. -/
def State.coreWindow (s : State) (by' c off : Nat) (bytes : List Byte) : State :=
  if !reachesCluster by' (coreCluster c) then s.accessFault by'
  else if off + bytes.length ≤ 0x80000 then s.benchWrite c off bytes (if by' < 32 then (s.cluster by').dtaint else 0#16) false
  else if 0x80000 ≤ off ∧ off < 0x80100 ∧ off % 4 = 0 ∧ bytes.length = 4 then
    s.onCore c (fun x => x.regBlockWrite (off - 0x80000) (BitVec.ofNat 32 (leNat bytes)))
  else s

/-- A 32-bit write of a register of the cluster window that has no behaviour of its own. -/
def State.clusterWord (s : State) (k off w : Nat) : State :=
  let x := s.cluster k
  if off = 0x50 then
    s.setCluster k { x with events := BitVec.ofNat 32 (clearBits (x.events.toNat % 16) w + w / 2 ^ 16 % 16 * 2 ^ 16) }
  else if off = 0x58 then s.setCluster k { x with epochev := BitVec.ofNat 32 (clearBits x.epochev.toNat w) }
  else if 0x1C0 ≤ off ∧ off < 0x1E0 then
    s.onCore (8 * k + (off - 0x1C0) / 4) (fun c => { c with hold := Nat.testBit w 31, overrun := c.overrun && !Nat.testBit w 30 })
  else s

def State.clusterWindow (s : State) (by' k off : Nat) (bytes : List Byte) : State :=
  if !reachesCluster by' k then s.accessFault by'
  else if off % 4 = 0 ∧ bytes.length = 4 then s.clusterWord k off (leNat bytes)
  else s

/-- The machine external interrupt of a control core (R203). -/
def Cluster.interrupt (x : Cluster) : Bool := decide (x.events.toNat % 16 &&& x.events.toNat / 2 ^ 16 % 16 ≠ 0)

/-- A 32-bit read of the cluster window. -/
def State.clusterGet (s : State) (k off : Nat) : Nat :=
  let x := s.cluster k
  let head (l : List QWord) : Nat := match l with | [] => 0 | r :: _ => r.toNat
  if off < 0x10 then head x.sumQ / 2 ^ (8 * off) % 2 ^ 32
  else if off = 0x10 then x.sumQ.length
  else if 0x20 ≤ off ∧ off < 0x30 then head x.trapQ / 2 ^ (8 * (off - 0x20)) % 2 ^ 32
  else if off = 0x30 then x.trapQ.length
  else if 0x40 ≤ off ∧ off < 0x48 then (match x.compQ with | [] => 0 | r :: _ => r.toNat / 2 ^ (8 * (off - 0x40)) % 2 ^ 32)
  else if off = 0x48 then x.compQ.length
  else if off = 0x50 then x.events.toNat
  else if off = 0x54 then x.dtaint.toNat
  else if off = 0x58 then x.epochev.toNat
  else if 0x1C0 ≤ off ∧ off < 0x1E0 then
    let c := s.core (8 * k + (off - 0x1C0) / 4)
    (if c.hold then 2 ^ 31 else 0) + (if c.overrun then 2 ^ 30 else 0) + c.localQ.length % 8
  else 0

/-- A 32-bit read of the epoch block by a requester (Table 8-6). -/
def State.epochGet (s : State) (who off : Nat) : Nat :=
  if off = 4 then (Tab.get 0#32 s.market.epres who).toNat
  else if off = 8 then maskOf 16 (fun e => decide ((s.epoch e).st = 2)) * 2 ^ 16 + maskOf 16 (fun e => decide ((s.epoch e).st = 1))
  else if off = 0xC then s.market.shWays.length
  else if 0x40 ≤ off ∧ off < 0x80 then
    let e := (off - 0x40) / 4
    let x := s.epoch e
    x.st * 2 ^ 30 + x.part * 2 ^ 28 + x.cause * 2 ^ 24 + (s.market.shWays.filter (fun l => Half.has (s.lineMask l.1) e)).length
  else 0

/-! ## The command -/

/-- A write of a subindex without behaviour of its own, by a requester: checks 1 to 4, then the value. -/
def State.subWrite (s : State) (who index sub : Nat) (bytes : List Byte) : State :=
  if !s.served who then s
  else if s.earlyBoot then s.answer 0x0402
  else
    match odRow index sub with
    | some r =>
      if r.kind = .command then s
      else
        match s.odWriteCheck who index sub bytes.length with
        | 0 => s.writePlain who index sub r bytes
        | 3 => s
        | e => s.answer e
    | none =>
      match s.odWriteCheck who index sub bytes.length with
      | 0 => s
      | e => s.answer e

/-- REGISTER_WRITE. -/
def execRegisterWrite (target : RegTarget) (bytes : List Byte) (s : State) : Res :=
  .next (match target with
  | .sub who index sub => s.subWrite who.val index.val sub.val bytes
  | .bar0 offset => s.bar0Write offset.val bytes
  | .core by' core offset => s.coreWindow by'.val core.val offset.val bytes
  | .cluster by' cluster offset => s.clusterWindow by'.val cluster.val offset.val bytes
  | .beat proc => let x := s.proc proc.val; if x.st = 0 then s else s.setProc proc.val { x with beat := leNat bytes % 65536 }
  | .ctxsel cluster =>
    let w := leNat bytes
    s.onFw (fun f => { f with ctxsel := Tab.set 0 f.ctxsel cluster.val ((if Nat.testBit w 63 then 2 ^ 63 else 0) + w % 4096) }))

end Sys2Proof.Machine
end

