-- ==== Sys2Proof/Machine/Resume.lean ====
section
/-!
DEFINITION. HEALTHY (R571, R585, R639): an image is in service; the security core's return takes the frames held for it.
-/

namespace Sys2Proof.Machine
open Sys2Proof

/-- The security core runs again: rings resume, frames held for it are taken in the order they came (R639). -/
def State.securityBack (s : State) : State :=
  let s1 := s.pauseRings false
  s.dict.buffered.foldl (fun s h => s.takeMessage h.op h.src h.bytes h.found) { s1 with dict := { s1.dict with paused := false, buffered := [] } }

/-- HEALTHY: an image writes HEALTHY into its status word. -/
def execHealthy (proc : Fin 64) (s : State) : Res :=
  let p := proc.val
  let x := s.proc p
  if x.st ≠ 1 ∧ x.st ≠ 2 then .next s
  else
    let s1 := s.setProc p { x with st := 2, healthy := true }
    let s2 := if p = 1 then s1.onPower (fun q => { q with guardHold := false }) else if p = 0 ∧ x.st = 1 then s1.securityBack else s1
    .next (if s2.fw.pcState = 4 ∧ s2.trialHealthy then s2.acceptSet else s2)

end Sys2Proof.Machine
end

