-- ==== Sys2Proof/Machine/TrayControl.lean ====
section
/-!
DEFINITION. The control instructions of a tray (class 0x4, R134, R135, R172) and PROGRESS (R154).
-/

namespace Sys2Proof.Machine
open Sys2Proof

/-- TARGET of format C. -/
def iTarget (p : BitVec 54) : Nat := bits 18 0 p

/-- A word of format C is illegal: a reserved field (Table 6-4), or a target that is not 8-byte aligned. -/
def formatCBad (p : BitVec 54) : Bool :=
  decide (bits 53 48 p ≠ 0) || decide (bits 41 36 p ≠ 0) || decide (bits 32 31 p ≠ 0) || decide (bits 30 19 p ≠ 0)
    || decide (iTarget p % 8 ≠ 0)

/-- A control instruction: checked, then `k` with the tray's launch; none from `k` is the trap `code` with the tray as
it stood before the instruction. -/
def State.control (s : State) (c slot : Nat) (p : BitVec 54) (code : Nat) (k : Launch → Tray → State → Option State) : State :=
  s.trayDo c slot (fun s =>
    let t := (s.core c).tray slot
    match (s.core c).launchOf t with
    | none => s.waits
    | some l =>
      if formatCBad p then s.trayTrap c slot 0x20 false 0
      else
        match k l t s with
        | some s1 => s1
        | none => s.trayTrap c slot code false 0)

/-- Lanes where predicate Q holds. -/
def Tray.predMask (t : Tray) (q : Nat) : DWord :=
  t.lanes.foldl (fun m l => if t.pred l q then m ||| BitVec.ofNat 64 (2 ^ l) else m) 0#64

/-- JMP (R135): the same target in every active lane. -/
def execTJmp (core : CoreIx) (slot : Fin 16) (p : BitVec 54) (s : State) : Res :=
  .next (s.control core.val slot.val p 0x20 (fun _ t s => some (s.setTray core.val slot.val { t with pc := iTarget p })))

/-- JMPI (R135): the target in register A of the lowest active lane; another target in an active lane traps. -/
def execTJmpi (core : CoreIx) (slot : Fin 16) (p : BitVec 54) (s : State) : Res :=
  let c := core.val
  .next (s.trayDo c slot.val (fun s =>
    let t := (s.core c).tray slot.val
    if formatCBad p || regBad t false (iA p) then s.trayTrap c slot.val 0x20 false 0
    else if t.anyPoison [iA p] then s.trayTrap c slot.val 0x22 true 0
    else
      match t.lanes with
      | [] => s.setTray c slot.val t.next
      | l :: r =>
        let w := t.reg l (iA p)
        if r.any (fun m => t.reg m (iA p) ≠ w) then s.trayTrap c slot.val 0x25 false 0
        else s.setTray c slot.val { t with pc := w.toNat }))

/-- SSY (R134): pushes a JOIN entry. -/
def execTSsy (core : CoreIx) (slot : Fin 16) (p : BitVec 54) (s : State) : Res :=
  .next (s.control core.val slot.val p 0x23 (fun l t s =>
    (s.maskPush core.val slot.val l ⟨t.active, true, iTarget p⟩).map (fun s =>
      s.setTray core.val slot.val ((s.core core.val).tray slot.val).next)))

/-- BRD (R134): a divergent branch on predicate Q; it pushes a PATH entry where lanes disagree. -/
def execTBrd (core : CoreIx) (slot : Fin 16) (p : BitVec 54) (s : State) : Res :=
  .next (s.control core.val slot.val p 0x23 (fun l t s =>
    let taken := t.active &&& t.predMask (iQ p)
    if taken = t.active then some (s.setTray core.val slot.val { t with pc := iTarget p })
    else if taken = 0#64 then some (s.setTray core.val slot.val t.next)
    else
      (s.maskPush core.val slot.val l ⟨t.active &&& ~~~taken, false, t.pc + 8⟩).map (fun s =>
        s.setTray core.val slot.val { (s.core core.val).tray slot.val with active := taken, pc := iTarget p })))

/-- BRK (R134): lanes of predicate Q wait for the enclosing join. -/
def execTBrk (core : CoreIx) (slot : Fin 16) (p : BitVec 54) (s : State) : Res :=
  .next (s.control core.val slot.val p 0x24 (fun l t s =>
    let a := t.active &&& ~~~(t.predMask (iQ p))
    let s1 := s.setTray core.val slot.val { t.next with active := a }
    if a = 0#64 then State.popContinue core.val slot.val l 257 s1 else some s1))

/-- SYNC (R134): pops and continues. -/
def execTSync (core : CoreIx) (slot : Fin 16) (p : BitVec 54) (s : State) : Res :=
  .next (s.control core.val slot.val p 0x24 (fun l _ s => State.popContinue core.val slot.val l 257 s))

/-- EXIT (R134, R154): the active lanes have exited; pops and continues. -/
def execTExit (core : CoreIx) (slot : Fin 16) (p : BitVec 54) (s : State) : Res :=
  .next (s.control core.val slot.val p 0x24 (fun l t s =>
    State.popContinue core.val slot.val l 257
      (s.setTray core.val slot.val { t with exited := t.exited ||| t.active, active := 0#64, progress := 0 })))

/-- PROGRESS (R154): clears the progress counter. -/
def execTProgress (core : CoreIx) (slot : Fin 16) (p : BitVec 54) (s : State) : Res :=
  .next (s.control core.val slot.val p 0x20 (fun _ t s => some (s.setTray core.val slot.val t.next.cleared)))

end Sys2Proof.Machine
end

