-- ==== Sys2Proof/Machine/TrayFloat.lean ====
section
/-!
DEFINITION. The FP32 and special instructions of a tray (classes 0x2 and 0x3, R131, R170, Table 5-3).
-/

namespace Sys2Proof.Machine
open Sys2Proof

/-- FADD (R131): as the recipe opcode of the same name computes it (R98). -/
def execTFadd (core : CoreIx) (slot : Fin 16) (p : BitVec 54) (s : State) : Res :=
  .next (s.fp2 core.val slot.val p fpAdd)

/-- FSUB (R131): as the recipe opcode of the same name computes it (R98). -/
def execTFsub (core : CoreIx) (slot : Fin 16) (p : BitVec 54) (s : State) : Res :=
  .next (s.fp2 core.val slot.val p fpSub)

/-- FMUL (R131): as the recipe opcode of the same name computes it (R98). -/
def execTFmul (core : CoreIx) (slot : Fin 16) (p : BitVec 54) (s : State) : Res :=
  .next (s.fp2 core.val slot.val p fpMul)

/-- FMIN (R131): as the recipe opcode of the same name computes it (R98). -/
def execTFmin (core : CoreIx) (slot : Fin 16) (p : BitVec 54) (s : State) : Res :=
  .next (s.fp2 core.val slot.val p (fun a b => FpRes.plain (fpMin a b)))

/-- FMAX (R131): as the recipe opcode of the same name computes it (R98). -/
def execTFmax (core : CoreIx) (slot : Fin 16) (p : BitVec 54) (s : State) : Res :=
  .next (s.fp2 core.val slot.val p (fun a b => FpRes.plain (fpMax a b)))

/-- FABS (R131): as the recipe opcode of the same name computes it (R98). -/
def execTFabs (core : CoreIx) (slot : Fin 16) (p : BitVec 54) (s : State) : Res :=
  .next (s.fp1 core.val slot.val p (fun a => FpRes.plain (fpAbs a)))

/-- FNEG (R131): as the recipe opcode of the same name computes it (R98). -/
def execTFneg (core : CoreIx) (slot : Fin 16) (p : BitVec 54) (s : State) : Res :=
  .next (s.fp1 core.val slot.val p (fun a => FpRes.plain (fpNeg a)))

/-- FRCP (R131): as the recipe opcode of the same name computes it (R98). -/
def execTFrcp (core : CoreIx) (slot : Fin 16) (p : BitVec 54) (s : State) : Res :=
  .next (s.fp1 core.val slot.val p fpRcp)

/-- FSQRT (R131): as the recipe opcode of the same name computes it (R98). -/
def execTFsqrt (core : CoreIx) (slot : Fin 16) (p : BitVec 54) (s : State) : Res :=
  .next (s.fp1 core.val slot.val p fpSqrt)

/-- FRSQRT (R131): as the recipe opcode of the same name computes it (R98). -/
def execTFrsqrt (core : CoreIx) (slot : Fin 16) (p : BitVec 54) (s : State) : Res :=
  .next (s.fp1 core.val slot.val p fpRsqrt)

/-- FEXP2 (R131): as the recipe opcode of the same name computes it (R98). -/
def execTFexp2 (core : CoreIx) (slot : Fin 16) (p : BitVec 54) (s : State) : Res :=
  .next (s.fp1 core.val slot.val p fpExp2)

/-- FLOG2 (R131): as the recipe opcode of the same name computes it (R98). -/
def execTFlog2 (core : CoreIx) (slot : Fin 16) (p : BitVec 54) (s : State) : Res :=
  .next (s.fp1 core.val slot.val p fpLog2)

/-- FTANH (R131): as the recipe opcode of the same name computes it (R98). -/
def execTFtanh (core : CoreIx) (slot : Fin 16) (p : BitVec 54) (s : State) : Res :=
  .next (s.fp1 core.val slot.val p fpTanh)

/-- FLOGISTIC (R131): as the recipe opcode of the same name computes it (R98). -/
def execTFlogistic (core : CoreIx) (slot : Fin 16) (p : BitVec 54) (s : State) : Res :=
  .next (s.fp1 core.val slot.val p fpLogistic)

/-- FRINT (R131): as the recipe opcode of the same name computes it (R98). -/
def execTFrint (core : CoreIx) (slot : Fin 16) (p : BitVec 54) (s : State) : Res :=
  .next (s.fp1 core.val slot.val p (fun a => FpRes.plain (fpRint a)))

/-- FLT (R131): as the recipe opcode of the same name computes it (R98). -/
def execTFlt (core : CoreIx) (slot : Fin 16) (p : BitVec 54) (s : State) : Res :=
  .next (s.cmp32 core.val slot.val p fpLt)

/-- FLE (R131): as the recipe opcode of the same name computes it (R98). -/
def execTFle (core : CoreIx) (slot : Fin 16) (p : BitVec 54) (s : State) : Res :=
  .next (s.cmp32 core.val slot.val p fpLe)

/-- FEQ (R131): as the recipe opcode of the same name computes it (R98). -/
def execTFeq (core : CoreIx) (slot : Fin 16) (p : BitVec 54) (s : State) : Res :=
  .next (s.cmp32 core.val slot.val p fpEq)

/-- FFMA (R131): A × b + C with one rounding. -/
def execTFfma (core : CoreIx) (slot : Fin 16) (p : BitVec 54) (s : State) : Res :=
  .next (s.formatA core.val slot.val p ⟨false, 3, false, false⟩ (fun t l =>
    let r := fpFma (t.reg l (iA p)) (t.reg l (iB p)) (t.reg l (iC p)); (t.setReg l (iD p) r.val false, r.tflags)))

/-- Formats of the conversions (R170). -/
def convFmtOk (f : Nat) : Bool := decide (f ≤ 3) || decide (0xA ≤ f ∧ f ≤ 0xD)

/-- FP32 to a format by Table 2-7, zero-extended. -/
def f2x (fmt : Nat) (w : Word) : FpRes :=
  let int (b : Nat) : FpRes :=
    let r := fvalToInt b (fval w); ⟨BitVec.ofNat 32 (r.1 % 2 ^ b).toNat, r.2.1, r.2.2, false, false⟩
  match fmt with
  | 0x0 => int 8
  | 0x1 => int 4
  | 0xD => int 32
  | 0xC => FpRes.plain w
  | _ =>
    let r := laneToElem fmt w
    ⟨BitVec.ofNat 32 r.1, decide (r.2 = vSat), false, decide (r.2 = vOvf), false⟩

/-- A format to FP32, exactly or rounded. -/
def x2f (fmt : Nat) (w : Word) : FpRes :=
  match fmt with
  | 0xC => FpRes.plain w
  | 0xD => FpRes.plain (fpOfInt w)
  | _ => FpRes.plain (fmtValue fmt (w.toNat % 2 ^ fmtBits fmt)).toWord

/-- A conversion of A into D; a format code outside R170's list is illegal. -/
def State.convert (s : State) (c slot : Nat) (p : BitVec 54) (f : Nat → Word → FpRes) : State :=
  s.trayDo c slot (fun s =>
    let t := (s.core c).tray slot
    let fmt := iFmt p
    if iImm p || decide (bits 21 0 p ≠ 0) || !convFmtOk fmt || regBad t false (iD p) || regBad t false (iA p) then
      s.trayTrap c slot 0x20 false 0
    else if t.anyPoison [iA p] then s.trayTrap c slot 0x22 true 0
    else
      let r := t.eachLane (fun t l => let x := f fmt (t.reg l (iA p)); (t.setReg l (iD p) x.val false, x.tflags))
      (s.setTray c slot r.1.next).tflags c r.2)

/-- F2X (R170). -/
def execTF2x (core : CoreIx) (slot : Fin 16) (p : BitVec 54) (s : State) : Res := .next (s.convert core.val slot.val p f2x)

/-- X2F (R170). -/
def execTX2f (core : CoreIx) (slot : Fin 16) (p : BitVec 54) (s : State) : Res := .next (s.convert core.val slot.val p x2f)

/-- A special value (Table 5-3); ARG0 to ARG7 are given. -/
def specialValue (s : State) (c : Nat) (t : Tray) (l : Launch) (args : List Word) (lane sel : Nat) : Word :=
  match sel with
  | 0 => BitVec.ofNat 32 lane
  | 1 => BitVec.ofNat 32 t.width
  | 2 => BitVec.ofNat 32 t.trayix
  | 3 => BitVec.ofNat 32 l.ntrays
  | 4 => BitVec.ofNat 32 (t.glaneOf lane)
  | 5 => BitVec.ofNat 32 c
  | 14 => BitVec.ofNat 32 s.bell.count
  | 15 => BitVec.ofNat 32 (s.bell.count / 2 ^ 32)
  | n => wordAt args (n - 6)

/-- MOVS (R170, R174): the special value that selector A names. An argument is read from the bench. -/
def execTMovs (core : CoreIx) (slot : Fin 16) (p : BitVec 54) (s : State) : Res :=
  let c := core.val
  let slot := slot.val
  .next (s.trayDo c slot (fun s =>
    let t := (s.core c).tray slot
    let sel := iA p
    match (s.core c).launchOf t with
    | none => s.waits
    | some l =>
      if iImm p || decide (bits 21 0 p ≠ 0) || decide (sel > 15) || regBad t false (iD p) then s.trayTrap c slot 0x20 false 0
      else if 6 ≤ sel ∧ sel ≤ 13 then
        let r := s.benchRead c (l.args + 4 * (sel - 6)) 4
        let w : Word := BitVec.ofNat 32 (leNat r.2.1)
        let s1 := (if r.2.2.2 then r.1.tflags c tPoison else r.1).trayTaint c slot r.2.2.1
        let t1 := (s1.core c).tray slot
        s1.setTray c slot (t1.lanes.foldl (fun t lane => t.setReg lane (iD p) w r.2.2.2) t1).next
      else
        s.setTray c slot (t.lanes.foldl (fun u lane => u.setReg lane (iD p) (specialValue s c t l [] lane sel) false) t).next))

end Sys2Proof.Machine
end

