-- ==== Sys2Proof/Machine/TrayInt.lean ====
section
/-!
DEFINITION. The integer instructions of a tray (class 0x1, R170, R173).
-/

namespace Sys2Proof.Machine
open Sys2Proof

/-- ADD (R173): 32-bit sum. -/
def execTAdd (core : CoreIx) (slot : Fin 16) (p : BitVec 54) (s : State) : Res :=
  .next (s.op32 core.val slot.val p (fun a b => a + b))

/-- SUB (R173): 32-bit difference. -/
def execTSub (core : CoreIx) (slot : Fin 16) (p : BitVec 54) (s : State) : Res :=
  .next (s.op32 core.val slot.val p (fun a b => a - b))

/-- MUL (R173): low 32 bits of the product. -/
def execTMul (core : CoreIx) (slot : Fin 16) (p : BitVec 54) (s : State) : Res :=
  .next (s.op32 core.val slot.val p (fun a b => a * b))

/-- MIN (R173): signed smaller. -/
def execTMin (core : CoreIx) (slot : Fin 16) (p : BitVec 54) (s : State) : Res :=
  .next (s.op32 core.val slot.val p wordMin)

/-- MAX (R173): signed larger. -/
def execTMax (core : CoreIx) (slot : Fin 16) (p : BitVec 54) (s : State) : Res :=
  .next (s.op32 core.val slot.val p wordMax)

/-- MINU (R173): unsigned smaller. -/
def execTMinu (core : CoreIx) (slot : Fin 16) (p : BitVec 54) (s : State) : Res :=
  .next (s.op32 core.val slot.val p (fun a b => if b.toNat < a.toNat then b else a))

/-- MAXU (R173): unsigned larger. -/
def execTMaxu (core : CoreIx) (slot : Fin 16) (p : BitVec 54) (s : State) : Res :=
  .next (s.op32 core.val slot.val p (fun a b => if a.toNat < b.toNat then b else a))

/-- AND (R173): bitwise and. -/
def execTAnd (core : CoreIx) (slot : Fin 16) (p : BitVec 54) (s : State) : Res :=
  .next (s.op32 core.val slot.val p (fun a b => a &&& b))

/-- OR (R173): bitwise or. -/
def execTOr (core : CoreIx) (slot : Fin 16) (p : BitVec 54) (s : State) : Res :=
  .next (s.op32 core.val slot.val p (fun a b => a ||| b))

/-- XOR (R173): bitwise exclusive or. -/
def execTXor (core : CoreIx) (slot : Fin 16) (p : BitVec 54) (s : State) : Res :=
  .next (s.op32 core.val slot.val p (fun a b => a ^^^ b))

/-- SHL (R173): A shifted left by b mod 32. -/
def execTShl (core : CoreIx) (slot : Fin 16) (p : BitVec 54) (s : State) : Res :=
  .next (s.op32 core.val slot.val p (fun a b => a <<< (b.toNat % 32)))

/-- SHR (R173): A shifted right, zeros in, by b mod 32. -/
def execTShr (core : CoreIx) (slot : Fin 16) (p : BitVec 54) (s : State) : Res :=
  .next (s.op32 core.val slot.val p (fun a b => a >>> (b.toNat % 32)))

/-- SAR (R173): A shifted right, sign in, by b mod 32. -/
def execTSar (core : CoreIx) (slot : Fin 16) (p : BitVec 54) (s : State) : Res :=
  .next (s.op32 core.val slot.val p (fun a b => a.sshiftRight (b.toNat % 32)))

/-- ADD64 (R173): 64-bit sum of pairs. -/
def execTAdd64 (core : CoreIx) (slot : Fin 16) (p : BitVec 54) (s : State) : Res :=
  .next (s.op64 core.val slot.val p (fun a b => a + b))

/-- SUB64 (R173): 64-bit difference of pairs. -/
def execTSub64 (core : CoreIx) (slot : Fin 16) (p : BitVec 54) (s : State) : Res :=
  .next (s.op64 core.val slot.val p (fun a b => a - b))

/-- MIN64 (R173): signed 64-bit smaller. -/
def execTMin64 (core : CoreIx) (slot : Fin 16) (p : BitVec 54) (s : State) : Res :=
  .next (s.op64 core.val slot.val p (fun a b => if b.toInt < a.toInt then b else a))

/-- MAX64 (R173): signed 64-bit larger. -/
def execTMax64 (core : CoreIx) (slot : Fin 16) (p : BitVec 54) (s : State) : Res :=
  .next (s.op64 core.val slot.val p (fun a b => if a.toInt < b.toInt then b else a))

/-- LT (R170, R173): signed compare into Q. -/
def execTLt (core : CoreIx) (slot : Fin 16) (p : BitVec 54) (s : State) : Res :=
  .next (s.cmp32 core.val slot.val p (fun a b => decide (a.toInt < b.toInt)))

/-- LE (R170, R173): signed compare into Q. -/
def execTLe (core : CoreIx) (slot : Fin 16) (p : BitVec 54) (s : State) : Res :=
  .next (s.cmp32 core.val slot.val p (fun a b => decide (a.toInt ≤ b.toInt)))

/-- EQ (R170, R173): compare into Q. -/
def execTEq (core : CoreIx) (slot : Fin 16) (p : BitVec 54) (s : State) : Res :=
  .next (s.cmp32 core.val slot.val p (fun a b => decide (a = b)))

/-- LTU (R173): unsigned compare into Q. -/
def execTLtu (core : CoreIx) (slot : Fin 16) (p : BitVec 54) (s : State) : Res :=
  .next (s.cmp32 core.val slot.val p (fun a b => decide (a.toNat < b.toNat)))

/-- LEU (R173): unsigned compare into Q. -/
def execTLeu (core : CoreIx) (slot : Fin 16) (p : BitVec 54) (s : State) : Res :=
  .next (s.cmp32 core.val slot.val p (fun a b => decide (a.toNat ≤ b.toNat)))

/-- LT64 (R173): signed 64-bit compare into Q. -/
def execTLt64 (core : CoreIx) (slot : Fin 16) (p : BitVec 54) (s : State) : Res :=
  .next (s.cmp64 core.val slot.val p (fun a b => decide (a.toInt < b.toInt)))

/-- EQ64 (R173): 64-bit compare into Q. -/
def execTEq64 (core : CoreIx) (slot : Fin 16) (p : BitVec 54) (s : State) : Res :=
  .next (s.cmp64 core.val slot.val p (fun a b => decide (a = b)))

/-- PAND (R170, R173): and of predicates into Q. -/
def execTPand (core : CoreIx) (slot : Fin 16) (p : BitVec 54) (s : State) : Res :=
  .next (s.opPred core.val slot.val p (fun a b => a && b))

/-- POR (R170, R173): or of predicates into Q. -/
def execTPor (core : CoreIx) (slot : Fin 16) (p : BitVec 54) (s : State) : Res :=
  .next (s.opPred core.val slot.val p (fun a b => a || b))

/-- PNOT (R170, R173): the inverse of predicate A into Q. -/
def execTPnot (core : CoreIx) (slot : Fin 16) (p : BitVec 54) (s : State) : Res :=
  .next (s.opPred core.val slot.val p (fun a _ => !a))

/-- MOV (R173): register A into D. -/
def execTMov (core : CoreIx) (slot : Fin 16) (p : BitVec 54) (s : State) : Res :=
  .next (s.formatA core.val slot.val p ⟨false, 1, false, true⟩ (fun t l => (t.setReg l (iD p) (t.reg l (iA p)) false, 0)))

/-- SEL (R170): A where predicate Q is 1, otherwise b. -/
def execTSel (core : CoreIx) (slot : Fin 16) (p : BitVec 54) (s : State) : Res :=
  .next (s.formatA core.val slot.val p ⟨false, 2, false, true⟩ (fun t l =>
    (t.setReg l (iD p) (if t.pred l (iQ p) then t.reg l (iA p) else t.srcB l p) false, 0)))

end Sys2Proof.Machine
end

