-- ==== Sys2Proof/Machine/Dispatch.lean ====
section
/-!
DEFINITION. What each command does: one arm per row of the table of operations and events.
-/

namespace Sys2Proof.Machine
open Sys2Proof

def exec (i : Instr) (s : State) : Host.Outcome State Fault Refusal :=
  match i with
  | .pass core payload crc => Sys2Proof.Machine.execPass core payload crc s
  | .anchorScan core => Sys2Proof.Machine.execAnchorScan core s
  | .passComplete core => Sys2Proof.Machine.execPassComplete core s
  | .arrayAbort core => Sys2Proof.Machine.execArrayAbort core s
  | .rampDown core => Sys2Proof.Machine.execRampDown core s
  | .run core payload crc => Sys2Proof.Machine.execRun core payload crc s
  | .exportRun core payload crc => Sys2Proof.Machine.execExportRun core payload crc s
  | .summaryDeliver core => Sys2Proof.Machine.execSummaryDeliver core s
  | .tld core payload crc => Sys2Proof.Machine.execTld core payload crc s
  | .tst core payload crc => Sys2Proof.Machine.execTst core payload crc s
  | .tcpy core payload crc => Sys2Proof.Machine.execTcpy core payload crc s
  | .launch core payload crc => Sys2Proof.Machine.execLaunch core payload crc s
  | .trayStart core slot => Sys2Proof.Machine.execTrayStart core slot s
  | .trayEnd core slot => Sys2Proof.Machine.execTrayEnd core slot s
  | .livelock core slot => Sys2Proof.Machine.execLivelock core slot s
  | .tAdd core slot p => Sys2Proof.Machine.execTAdd core slot p s
  | .tSub core slot p => Sys2Proof.Machine.execTSub core slot p s
  | .tMul core slot p => Sys2Proof.Machine.execTMul core slot p s
  | .tMin core slot p => Sys2Proof.Machine.execTMin core slot p s
  | .tMax core slot p => Sys2Proof.Machine.execTMax core slot p s
  | .tMinu core slot p => Sys2Proof.Machine.execTMinu core slot p s
  | .tMaxu core slot p => Sys2Proof.Machine.execTMaxu core slot p s
  | .tAnd core slot p => Sys2Proof.Machine.execTAnd core slot p s
  | .tOr core slot p => Sys2Proof.Machine.execTOr core slot p s
  | .tXor core slot p => Sys2Proof.Machine.execTXor core slot p s
  | .tShl core slot p => Sys2Proof.Machine.execTShl core slot p s
  | .tShr core slot p => Sys2Proof.Machine.execTShr core slot p s
  | .tSar core slot p => Sys2Proof.Machine.execTSar core slot p s
  | .tMov core slot p => Sys2Proof.Machine.execTMov core slot p s
  | .tSel core slot p => Sys2Proof.Machine.execTSel core slot p s
  | .tAdd64 core slot p => Sys2Proof.Machine.execTAdd64 core slot p s
  | .tSub64 core slot p => Sys2Proof.Machine.execTSub64 core slot p s
  | .tMin64 core slot p => Sys2Proof.Machine.execTMin64 core slot p s
  | .tMax64 core slot p => Sys2Proof.Machine.execTMax64 core slot p s
  | .tLt core slot p => Sys2Proof.Machine.execTLt core slot p s
  | .tLe core slot p => Sys2Proof.Machine.execTLe core slot p s
  | .tEq core slot p => Sys2Proof.Machine.execTEq core slot p s
  | .tLtu core slot p => Sys2Proof.Machine.execTLtu core slot p s
  | .tLeu core slot p => Sys2Proof.Machine.execTLeu core slot p s
  | .tLt64 core slot p => Sys2Proof.Machine.execTLt64 core slot p s
  | .tEq64 core slot p => Sys2Proof.Machine.execTEq64 core slot p s
  | .tPand core slot p => Sys2Proof.Machine.execTPand core slot p s
  | .tPor core slot p => Sys2Proof.Machine.execTPor core slot p s
  | .tPnot core slot p => Sys2Proof.Machine.execTPnot core slot p s
  | .tFadd core slot p => Sys2Proof.Machine.execTFadd core slot p s
  | .tFsub core slot p => Sys2Proof.Machine.execTFsub core slot p s
  | .tFmul core slot p => Sys2Proof.Machine.execTFmul core slot p s
  | .tFfma core slot p => Sys2Proof.Machine.execTFfma core slot p s
  | .tFmin core slot p => Sys2Proof.Machine.execTFmin core slot p s
  | .tFmax core slot p => Sys2Proof.Machine.execTFmax core slot p s
  | .tFabs core slot p => Sys2Proof.Machine.execTFabs core slot p s
  | .tFneg core slot p => Sys2Proof.Machine.execTFneg core slot p s
  | .tFrcp core slot p => Sys2Proof.Machine.execTFrcp core slot p s
  | .tFsqrt core slot p => Sys2Proof.Machine.execTFsqrt core slot p s
  | .tFrsqrt core slot p => Sys2Proof.Machine.execTFrsqrt core slot p s
  | .tFexp2 core slot p => Sys2Proof.Machine.execTFexp2 core slot p s
  | .tFlog2 core slot p => Sys2Proof.Machine.execTFlog2 core slot p s
  | .tFtanh core slot p => Sys2Proof.Machine.execTFtanh core slot p s
  | .tFlogistic core slot p => Sys2Proof.Machine.execTFlogistic core slot p s
  | .tFrint core slot p => Sys2Proof.Machine.execTFrint core slot p s
  | .tFlt core slot p => Sys2Proof.Machine.execTFlt core slot p s
  | .tFle core slot p => Sys2Proof.Machine.execTFle core slot p s
  | .tFeq core slot p => Sys2Proof.Machine.execTFeq core slot p s
  | .tF2x core slot p => Sys2Proof.Machine.execTF2x core slot p s
  | .tX2f core slot p => Sys2Proof.Machine.execTX2f core slot p s
  | .tMovs core slot p => Sys2Proof.Machine.execTMovs core slot p s
  | .tJmp core slot p => Sys2Proof.Machine.execTJmp core slot p s
  | .tJmpi core slot p => Sys2Proof.Machine.execTJmpi core slot p s
  | .tSsy core slot p => Sys2Proof.Machine.execTSsy core slot p s
  | .tBrd core slot p => Sys2Proof.Machine.execTBrd core slot p s
  | .tBrk core slot p => Sys2Proof.Machine.execTBrk core slot p s
  | .tSync core slot p => Sys2Proof.Machine.execTSync core slot p s
  | .tExit core slot p => Sys2Proof.Machine.execTExit core slot p s
  | .tProgress core slot p => Sys2Proof.Machine.execTProgress core slot p s
  | .tLd core slot p => Sys2Proof.Machine.execTLd core slot p s
  | .tLdl core slot p => Sys2Proof.Machine.execTLdl core slot p s
  | .tSt core slot p => Sys2Proof.Machine.execTSt core slot p s
  | .tFold core slot p => Sys2Proof.Machine.execTFold core slot p s
  | .trayFence core slot p => Sys2Proof.Machine.execTrayFence core slot p s
  | .atomAdd core slot p => Sys2Proof.Machine.execAtomAdd core slot p s
  | .atomMin core slot p => Sys2Proof.Machine.execAtomMin core slot p s
  | .atomMax core slot p => Sys2Proof.Machine.execAtomMax core slot p s
  | .atomMinu core slot p => Sys2Proof.Machine.execAtomMinu core slot p s
  | .atomMaxu core slot p => Sys2Proof.Machine.execAtomMaxu core slot p s
  | .atomFmin core slot p => Sys2Proof.Machine.execAtomFmin core slot p s
  | .atomFmax core slot p => Sys2Proof.Machine.execAtomFmax core slot p s
  | .atomAnd core slot p => Sys2Proof.Machine.execAtomAnd core slot p s
  | .atomOr core slot p => Sys2Proof.Machine.execAtomOr core slot p s
  | .atomXor core slot p => Sys2Proof.Machine.execAtomXor core slot p s
  | .xchg core slot p => Sys2Proof.Machine.execXchg core slot p s
  | .cas core slot p => Sys2Proof.Machine.execCas core slot p s
  | .atomFadd core slot p => Sys2Proof.Machine.execAtomFadd core slot p s
  | .tLock core slot p => Sys2Proof.Machine.execTLock core slot p s
  | .tUnlock core slot p => Sys2Proof.Machine.execTUnlock core slot p s
  | .acp core slot p => Sys2Proof.Machine.execAcp core slot p s
  | .acpComplete core slot id => Sys2Proof.Machine.execAcpComplete core slot id s
  | .waita core slot p => Sys2Proof.Machine.execWaita core slot p s
  | .tsplit core slot p => Sys2Proof.Machine.execTsplit core slot p s
  | .tpack core slot p => Sys2Proof.Machine.execTpack core slot p s
  | .taskStart core => Sys2Proof.Machine.execTaskStart core s
  | .descriptorFetch core => Sys2Proof.Machine.execDescriptorFetch core s
  | .opd core payload crc => Sys2Proof.Machine.execOpd core payload crc s
  | .ops core payload crc => Sys2Proof.Machine.execOps core payload crc s
  | .bind core payload crc => Sys2Proof.Machine.execBind core payload crc s
  | .bindx core payload crc => Sys2Proof.Machine.execBindx core payload crc s
  | .vargX core payload crc => Sys2Proof.Machine.execVargX core payload crc s
  | .vargStream core payload crc => Sys2Proof.Machine.execVargStream core payload crc s
  | .vargDraw core payload crc => Sys2Proof.Machine.execVargDraw core payload crc s
  | .copyLinear core payload crc => Sys2Proof.Machine.execCopyLinear core payload crc s
  | .copyStrided core payload crc => Sys2Proof.Machine.execCopyStrided core payload crc s
  | .copyTranspose8 core payload crc => Sys2Proof.Machine.execCopyTranspose8 core payload crc s
  | .copyTranspose16 core payload crc => Sys2Proof.Machine.execCopyTranspose16 core payload crc s
  | .copyFill core payload crc => Sys2Proof.Machine.execCopyFill core payload crc s
  | .copyPrefetch core payload crc => Sys2Proof.Machine.execCopyPrefetch core payload crc s
  | .copyComplete core => Sys2Proof.Machine.execCopyComplete core s
  | .waitDesc core payload crc => Sys2Proof.Machine.execWaitDesc core payload crc s
  | .phaseDesc core payload crc => Sys2Proof.Machine.execPhaseDesc core payload crc s
  | .fenceDesc core payload crc => Sys2Proof.Machine.execFenceDesc core payload crc s
  | .bclr core payload crc => Sys2Proof.Machine.execBclr core payload crc s
  | .endTask core payload crc => Sys2Proof.Machine.execEndTask core payload crc s
  | .jumpDesc core payload crc => Sys2Proof.Machine.execJumpDesc core payload crc s
  | .nopDesc core payload crc => Sys2Proof.Machine.execNopDesc core payload crc s
  | .trapResume core slot => Sys2Proof.Machine.execTrapResume core slot s
  | .trapSkip core slot => Sys2Proof.Machine.execTrapSkip core slot s
  | .trapAbort core slot => Sys2Proof.Machine.execTrapAbort core slot s
  | .sumheadRead cluster => Sys2Proof.Machine.execSumheadRead cluster s
  | .sumack cluster n => Sys2Proof.Machine.execSumack cluster n s
  | .trapack cluster n => Sys2Proof.Machine.execTrapack cluster n s
  | .compack cluster n => Sys2Proof.Machine.execCompack cluster n s
  | .taskport cluster rank word => Sys2Proof.Machine.execTaskport cluster rank word s
  | .completionRecordEnter core => Sys2Proof.Machine.execCompletionRecordEnter core s
  | .openEpoch who word => Sys2Proof.Machine.execOpenEpoch who word s
  | .join who word => Sys2Proof.Machine.execJoin who word s
  | .commit who word => Sys2Proof.Machine.execCommit who word s
  | .commitComplete mask => Sys2Proof.Machine.execCommitComplete mask s
  | .cancel who word => Sys2Proof.Machine.execCancel who word s
  | .cancelComplete mask => Sys2Proof.Machine.execCancelComplete mask s
  | .draftFull sector taint => Sys2Proof.Machine.execDraftFull sector taint s
  | .marketRead acc addr n core => Sys2Proof.Machine.execMarketRead acc addr n core s
  | .marketWrite acc addr bytes poison => Sys2Proof.Machine.execMarketWrite acc addr bytes poison s
  | .stallAtomic acc op wide addr lanes => Sys2Proof.Machine.execStallAtomic acc op wide addr lanes s
  | .foldInArrive acc sector fmt elems source => Sys2Proof.Machine.execFoldInArrive acc sector fmt elems source s
  | .foldUnitApply stall => Sys2Proof.Machine.execFoldUnitApply stall s
  | .cacheFill acc sector => Sys2Proof.Machine.execCacheFill acc sector s
  | .eviction line => Sys2Proof.Machine.execEviction line s
  | .writebackAccept line => Sys2Proof.Machine.execWritebackAccept line s
  | .rsvApply who entry kind => Sys2Proof.Machine.execRsvApply who entry kind s
  | .rsvRelease who entry => Sys2Proof.Machine.execRsvRelease who entry s
  | .rbBind who => Sys2Proof.Machine.execRbBind who s
  | .rbUnbind who => Sys2Proof.Machine.execRbUnbind who s
  | .ringTailReport unit chan tail mask => Sys2Proof.Machine.execRingTailReport unit chan tail mask s
  | .pool runner chan => Sys2Proof.Machine.execPool runner chan s
  | .spmv runner chan => Sys2Proof.Machine.execSpmv runner chan s
  | .spmtv runner chan => Sys2Proof.Machine.execSpmtv runner chan s
  | .prefetchJob runner chan => Sys2Proof.Machine.execPrefetchJob runner chan s
  | .runnerJobDone runner chan => Sys2Proof.Machine.execRunnerJobDone runner chan s
  | .runnerHalt runner chan => Sys2Proof.Machine.execRunnerHalt runner chan s
  | .ringResume unit chan mask => Sys2Proof.Machine.execRingResume unit chan mask s
  | .ringSkip unit chan mask => Sys2Proof.Machine.execRingSkip unit chan mask s
  | .ringAbort unit chan mask => Sys2Proof.Machine.execRingAbort unit chan mask s
  | .cxCreate who => Sys2Proof.Machine.execCxCreate who s
  | .cxSet who => Sys2Proof.Machine.execCxSet who s
  | .cxSetkey who => Sys2Proof.Machine.execCxSetkey who s
  | .cxDestroy who => Sys2Proof.Machine.execCxDestroy who s
  | .cxSelect who => Sys2Proof.Machine.execCxSelect who s
  | .rgMap who => Sys2Proof.Machine.execRgMap who s
  | .rgAlias who => Sys2Proof.Machine.execRgAlias who s
  | .rgFree who => Sys2Proof.Machine.execRgFree who s
  | .rgPin who => Sys2Proof.Machine.execRgPin who s
  | .rgUnpin who => Sys2Proof.Machine.execRgUnpin who s
  | .rgSelect who => Sys2Proof.Machine.execRgSelect who s
  | .walk core cluster ctx va write => Sys2Proof.Machine.execWalk core cluster ctx va write s
  | .demandAlloc core cluster ctx va write => Sys2Proof.Machine.execDemandAlloc core cluster ctx va write s
  | .shootdownComplete => Sys2Proof.Machine.execShootdownComplete s
  | .heatFlush cache ctx va => Sys2Proof.Machine.execHeatFlush cache ctx va s
  | .pagerInterval => Sys2Proof.Machine.execPagerInterval s
  | .promote ctx va => Sys2Proof.Machine.execPromote ctx va s
  | .demote ctx va => Sys2Proof.Machine.execDemote ctx va s
  | .doorbell path who queue tail whole => Sys2Proof.Machine.execDoorbell path who queue tail whole s
  | .entryCheck queue tagOk => Sys2Proof.Machine.execEntryCheck queue tagOk s
  | .barrierComplete queue => Sys2Proof.Machine.execBarrierComplete queue s
  | .selection ns => Sys2Proof.Machine.execSelection ns s
  | .completionWrite queue => Sys2Proof.Machine.execCompletionWrite queue s
  | .wqCreate who => Sys2Proof.Machine.execWqCreate who s
  | .wqSet who => Sys2Proof.Machine.execWqSet who s
  | .wqPause who => Sys2Proof.Machine.execWqPause who s
  | .wqEnable who => Sys2Proof.Machine.execWqEnable who s
  | .wqDrain who => Sys2Proof.Machine.execWqDrain who s
  | .wqDestroy who => Sys2Proof.Machine.execWqDestroy who s
  | .wqSelect who => Sys2Proof.Machine.execWqSelect who s
  | .queueMirror => Sys2Proof.Machine.execQueueMirror s
  | .hbmArbitrate stack pc share8 share9 => Sys2Proof.Machine.execHbmArbitrate stack pc share8 share9 s
  | .hbmReadComplete stack pc ns => Sys2Proof.Machine.execHbmReadComplete stack pc ns s
  | .refresh stack pc bank => Sys2Proof.Machine.execRefresh stack pc bank s
  | .stackTempRead stack reading => Sys2Proof.Machine.execStackTempRead stack reading s
  | .powerDownEntry stack pc idle => Sys2Proof.Machine.execPowerDownEntry stack pc idle s
  | .phaseRetrain stack pc ok => Sys2Proof.Machine.execPhaseRetrain stack pc ok s
  | .parityError stack pc attempt retrainOk => Sys2Proof.Machine.execParityError stack pc attempt retrainOk s
  | .merge stack => Sys2Proof.Machine.execMerge stack s
  | .congestionLevel stack => Sys2Proof.Machine.execCongestionLevel stack s
  | .levelBroadcast => Sys2Proof.Machine.execLevelBroadcast s
  | .rwEnable who window => Sys2Proof.Machine.execRwEnable who window s
  | .rwDisable who window => Sys2Proof.Machine.execRwDisable who window s
  | .correctingWriteback place unit addr was chk => Sys2Proof.Machine.execCorrectingWriteback place unit addr was chk s
  | .scrubRead hbm => Sys2Proof.Machine.execScrubRead hbm s
  | .rtRetire who => Sys2Proof.Machine.execRtRetire who s
  | .rtSelect who => Sys2Proof.Machine.execRtSelect who s
  | .tsWriteData who => Sys2Proof.Machine.execTsWriteData who s
  | .tsWriteCheck who => Sys2Proof.Machine.execTsWriteCheck who s
  | .tsWriteBoth who => Sys2Proof.Machine.execTsWriteBoth who s
  | .tsReadRaw who => Sys2Proof.Machine.execTsReadRaw who s
  | .bondError unit group wire => Sys2Proof.Machine.execBondError unit group wire s
  | .portFailure port => Sys2Proof.Machine.execPortFailure port s
  | .portRetryTrain port => Sys2Proof.Machine.execPortRetryTrain port s
  | .fpRetrain who port => Sys2Proof.Machine.execFpRetrain who port s
  | .frameReceive port hdr pmap tag payload fcsOk tagOk ce => Sys2Proof.Machine.execFrameReceive port hdr pmap tag payload fcsOk tagOk ce s
  | .putFrame engine => Sys2Proof.Machine.execPutFrame engine s
  | .getreq engine => Sys2Proof.Machine.execGetreq engine s
  | .getresp engine => Sys2Proof.Machine.execGetresp engine s
  | .foldFrame engine => Sys2Proof.Machine.execFoldFrame engine s
  | .doneFrame engine => Sys2Proof.Machine.execDoneFrame engine s
  | .mirrorFrame engine => Sys2Proof.Machine.execMirrorFrame engine s
  | .cutApply part => Sys2Proof.Machine.execCutApply part s
  | .redirectFrame engine => Sys2Proof.Machine.execRedirectFrame engine s
  | .ack engine => Sys2Proof.Machine.execAck engine s
  | .nack engine => Sys2Proof.Machine.execNack engine s
  | .beat engine => Sys2Proof.Machine.execBeat engine s
  | .ackTimer engine peer => Sys2Proof.Machine.execAckTimer engine peer s
  | .rtoExpiry engine peer => Sys2Proof.Machine.execRtoExpiry engine peer s
  | .notreadyResend engine peer => Sys2Proof.Machine.execNotreadyResend engine peer s
  | .msgTimeout engine => Sys2Proof.Machine.execMsgTimeout engine s
  | .beatSend engine => Sys2Proof.Machine.execBeatSend engine s
  | .peerLost peer => Sys2Proof.Machine.execPeerLost peer s
  | .sendPut engine chan => Sys2Proof.Machine.execSendPut engine chan s
  | .sendGet engine chan => Sys2Proof.Machine.execSendGet engine chan s
  | .sendFold engine chan => Sys2Proof.Machine.execSendFold engine chan s
  | .allreduce engine chan => Sys2Proof.Machine.execAllreduce engine chan s
  | .reducescatter engine chan => Sys2Proof.Machine.execReducescatter engine chan s
  | .allgather engine chan => Sys2Proof.Machine.execAllgather engine chan s
  | .sendStart engine chan => Sys2Proof.Machine.execSendStart engine chan s
  | .sendComplete engine chan => Sys2Proof.Machine.execSendComplete engine chan s
  | .keySwitch engine peer => Sys2Proof.Machine.execKeySwitch engine peer s
  | .keyRetire keyid => Sys2Proof.Machine.execKeyRetire keyid s
  | .scBind who => Sys2Proof.Machine.execScBind who s
  | .scUnbind who => Sys2Proof.Machine.execScUnbind who s
  | .wnCreate who => Sys2Proof.Machine.execWnCreate who s
  | .wnDestroy who => Sys2Proof.Machine.execWnDestroy who s
  | .wnSelect who => Sys2Proof.Machine.execWnSelect who s
  | .grDefine who => Sys2Proof.Machine.execGrDefine who s
  | .grDelete who => Sys2Proof.Machine.execGrDelete who s
  | .grSelect who => Sys2Proof.Machine.execGrSelect who s
  | .fsStart who part partnerOk => Sys2Proof.Machine.execFsStart who part partnerOk s
  | .fsStop who part => Sys2Proof.Machine.execFsStop who part s
  | .cutSend engine part => Sys2Proof.Machine.execCutSend engine part s
  | .takeover part => Sys2Proof.Machine.execTakeover part s
  | .fhTakeover who part => Sys2Proof.Machine.execFhTakeover who part s
  | .fhDiscard who part => Sys2Proof.Machine.execFhDiscard who part s
  | .redirectComplete part => Sys2Proof.Machine.execRedirectComplete part s
  | .rdSet who => Sys2Proof.Machine.execRdSet who s
  | .rdClear who => Sys2Proof.Machine.execRdClear who s
  | .rdSelect who => Sys2Proof.Machine.execRdSelect who s
  | .bar4Read offset len => Sys2Proof.Machine.execBar4Read offset len s
  | .bar4Write offset bytes poisoned => Sys2Proof.Machine.execBar4Write offset bytes poisoned s
  | .rqTail ring value => Sys2Proof.Machine.execRqTail ring value s
  | .frWait => Sys2Proof.Machine.execFrWait s
  | .frWaitTimeout => Sys2Proof.Machine.execFrWaitTimeout s
  | .frStatus => Sys2Proof.Machine.execFrStatus s
  | .frDump => Sys2Proof.Machine.execFrDump s
  | .msixSend vector ns => Sys2Proof.Machine.execMsixSend vector ns s
  | .flr => Sys2Proof.Machine.execFlr s
  | .perstN => Sys2Proof.Machine.execPerstN s
  | .linkLoss => Sys2Proof.Machine.execLinkLoss s
  | .linkUp lanes mts => Sys2Proof.Machine.execLinkUp lanes mts s
  | .d3hotEntry enter => Sys2Proof.Machine.execD3hotEntry enter s
  | .ptpMeasurement src offset time => Sys2Proof.Machine.execPtpMeasurement src offset time s
  | .ppsEdge dev => Sys2Proof.Machine.execPpsEdge dev s
  | .sourceLoss => Sys2Proof.Machine.execSourceLoss s
  | .holdoverExpiry => Sys2Proof.Machine.execHoldoverExpiry s
  | .btStep who => Sys2Proof.Machine.execBtStep who s
  | .seArm who => Sys2Proof.Machine.execSeArm who s
  | .seCancel who => Sys2Proof.Machine.execSeCancel who s
  | .seSelect who => Sys2Proof.Machine.execSeSelect who s
  | .scheduledEvent peaks => Sys2Proof.Machine.execScheduledEvent peaks s
  | .powerupRetry peaks => Sys2Proof.Machine.execPowerupRetry peaks s
  | .powerSample vin watts ovr => Sys2Proof.Machine.execPowerSample vin watts ovr s
  | .clusterOvercurrent cluster => Sys2Proof.Machine.execClusterOvercurrent cluster s
  | .regulatorFail reg => Sys2Proof.Machine.execRegulatorFail reg s
  | .droop cluster second mv => Sys2Proof.Machine.execDroop cluster second mv s
  | .droopRecover cluster => Sys2Proof.Machine.execDroopRecover cluster s
  | .level2Release => Sys2Proof.Machine.execLevel2Release s
  | .fgSchedule who => Sys2Proof.Machine.execFgSchedule who s
  | .phaseEval => Sys2Proof.Machine.execPhaseEval s
  | .ageingTrim low => Sys2Proof.Machine.execAgeingTrim low s
  | .drClear who => Sys2Proof.Machine.execDrClear who s
  | .thermalSample readings rise => Sys2Proof.Machine.execThermalSample readings rise s
  | .thermalTrip sensor first second => Sys2Proof.Machine.execThermalTrip sensor first second s
  | .thermalCycleSample t => Sys2Proof.Machine.execThermalCycleSample t s
  | .tpEnable who profile => Sys2Proof.Machine.execTpEnable who profile s
  | .tpDisable who profile => Sys2Proof.Machine.execTpDisable who profile s
  | .telemetryPeriod profile => Sys2Proof.Machine.execTelemetryPeriod profile s
  | .getVersion peer => Sys2Proof.Machine.execGetVersion peer s
  | .getCapabilities peer => Sys2Proof.Machine.execGetCapabilities peer s
  | .negotiateAlgorithms peer common => Sys2Proof.Machine.execNegotiateAlgorithms peer common s
  | .getDigests peer => Sys2Proof.Machine.execGetDigests peer s
  | .getCertificate peer slot offset length => Sys2Proof.Machine.execGetCertificate peer slot offset length s
  | .challenge peer slot => Sys2Proof.Machine.execChallenge peer slot s
  | .getMeasurements peer index => Sys2Proof.Machine.execGetMeasurements peer index s
  | .keyExchange peer slot => Sys2Proof.Machine.execKeyExchange peer slot s
  | .finish session leaf root ok => Sys2Proof.Machine.execFinish session leaf root ok s
  | .heartbeat session ok => Sys2Proof.Machine.execHeartbeat session ok s
  | .keyUpdate session ok => Sys2Proof.Machine.execKeyUpdate session ok s
  | .endSession session ok => Sys2Proof.Machine.execEndSession session ok s
  | .psSeal who part => Sys2Proof.Machine.execPsSeal who part s
  | .psUnseal who part => Sys2Proof.Machine.execPsUnseal who part s
  | .skInstall who => Sys2Proof.Machine.execSkInstall who s
  | .skDestroy who => Sys2Proof.Machine.execSkDestroy who s
  | .skSelect who => Sys2Proof.Machine.execSkSelect who s
  | .arCommit who fails => Sys2Proof.Machine.execArCommit who fails s
  | .dbgToken who token => Sys2Proof.Machine.execDbgToken who token s
  | .secOpRoots who bytes => Sys2Proof.Machine.execSecOpRoots who bytes s
  | .secCert who chain => Sys2Proof.Machine.execSecCert who chain s
  | .fwStage who => Sys2Proof.Machine.execFwStage who s
  | .fwDiscard who => Sys2Proof.Machine.execFwDiscard who s
  | .stageComplete => Sys2Proof.Machine.execStageComplete s
  | .pcSchedule who => Sys2Proof.Machine.execPcSchedule who s
  | .pcCancel who => Sys2Proof.Machine.execPcCancel who s
  | .activationRearm => Sys2Proof.Machine.execActivationRearm s
  | .healthy proc => Sys2Proof.Machine.execHealthy proc s
  | .healthDeadline => Sys2Proof.Machine.execHealthDeadline s
  | .watchdogExpiry proc dump poisoned => Sys2Proof.Machine.execWatchdogExpiry proc dump poisoned s
  | .fwAccessFault proc addr inHandler => Sys2Proof.Machine.execFwAccessFault proc addr inHandler s
  | .solicitRetry => Sys2Proof.Machine.execSolicitRetry s
  | .offer msg => Sys2Proof.Machine.execOffer msg s
  | .data msg => Sys2Proof.Machine.execData msg s
  | .loaderError msg => Sys2Proof.Machine.execLoaderError msg s
  | .readRetry => Sys2Proof.Machine.execReadRetry s
  | .loaderRestart => Sys2Proof.Machine.execLoaderRestart s
  | .coldBoot => Sys2Proof.Machine.execColdBoot s
  | .pwrgoodDeassert => Sys2Proof.Machine.execPwrgoodDeassert s
  | .brownout => Sys2Proof.Machine.execBrownout s
  | .devWarmReset who => Sys2Proof.Machine.execDevWarmReset who s
  | .usFence who => Sys2Proof.Machine.execUsFence who s
  | .usUnfence who => Sys2Proof.Machine.execUsUnfence who s
  | .usReset who => Sys2Proof.Machine.execUsReset who s
  | .usRetire who => Sys2Proof.Machine.execUsRetire who s
  | .usClearmm who => Sys2Proof.Machine.execUsClearmm who s
  | .ptAssign who => Sys2Proof.Machine.execPtAssign who s
  | .ptReset who => Sys2Proof.Machine.execPtReset who s
  | .drainEnd scope index => Sys2Proof.Machine.execDrainEnd scope index s
  | .coreLoss core reason => Sys2Proof.Machine.execCoreLoss core reason s
  | .stallCopyComplete core => Sys2Proof.Machine.execStallCopyComplete core s
  | .moveComplete core pass => Sys2Proof.Machine.execMoveComplete core pass s
  | .clusterFail cluster => Sys2Proof.Machine.execClusterFail cluster s
  | .fenceReconcile => Sys2Proof.Machine.execFenceReconcile s
  | .odRead src bytes => Sys2Proof.Machine.execOdRead src bytes s
  | .odWrite src bytes found => Sys2Proof.Machine.execOdWrite src bytes found s
  | .odSeg src bytes => Sys2Proof.Machine.execOdSeg src bytes s
  | .odNext src bytes => Sys2Proof.Machine.execOdNext src bytes s
  | .odAbort src bytes => Sys2Proof.Machine.execOdAbort src bytes s
  | .registerWrite target bytes => Sys2Proof.Machine.execRegisterWrite target bytes s
  | .transactionTimeout who tid => Sys2Proof.Machine.execTransactionTimeout who tid s
  | .requesterExpiry who => Sys2Proof.Machine.execRequesterExpiry who s
  | .odDefaults who => Sys2Proof.Machine.execOdDefaults who s
  | .persistRetry => Sys2Proof.Machine.execPersistRetry s
  | .recordFlashWrite flash => Sys2Proof.Machine.execRecordFlashWrite flash s
  | .erClear who => Sys2Proof.Machine.execErClear who s
  | .optimePersist => Sys2Proof.Machine.execOptimePersist s
  | .gpFunc who pin code => Sys2Proof.Machine.execGpFunc who pin code s
  | .gpPeriod who value => Sys2Proof.Machine.execGpPeriod who value s
  | .triggerIn pin => Sys2Proof.Machine.execTriggerIn pin s
  | .bellOut pin => Sys2Proof.Machine.execBellOut pin s
  | .bootStepEnd outcome => Sys2Proof.Machine.execBootStepEnd outcome s
  | .resetEnd scope index pass => Sys2Proof.Machine.execResetEnd scope index pass s
  | .portTrainingEnd port lanes => Sys2Proof.Machine.execPortTrainingEnd port lanes s
  | .stackNotAnswering stack => Sys2Proof.Machine.execStackNotAnswering stack s
  | .rsHead ring value => Sys2Proof.Machine.execRsHead ring value s
  | .neighborSolicitation port target => Sys2Proof.Machine.execNeighborSolicitation port target s
  | .neighborAdvertisement port target mac => Sys2Proof.Machine.execNeighborAdvertisement port target mac s
  | .echoRequest port src body => Sys2Proof.Machine.execEchoRequest port src body s
  | .mctpControl pcie eid => Sys2Proof.Machine.execMctpControl pcie eid s

end Sys2Proof.Machine
end

