-- ==== Sys2Proof/Safety.lean ====
section
/-!
DEFINITION. What a safe run is, and the conditions and shapes that the statements use: when a tray issues (R129, R137, R158), when an
instruction of a format is legal (R169 to R171), what a result by lane is.
-/

namespace Sys2Proof
open Sys2Proof.Machine

/-- The next `n` steps from `s` all answer next states. -/
def Safe : Nat → State → Prop
  | 0, _ => True
  | n + 1, s => ∃ t, step s = .next t ∧ Safe n t

/-! ## Trays -/

/-- The tray has taken its launch's mask (R197). -/
def launched (s : State) (c slot : Nat) : State :=
  s.trayTaint c slot ((s.core c).launchMask ((s.core c).tray slot))

/-- The state in which a tray's instruction executes: its 8 bytes have been read. -/
def fetched (s : State) (c slot : Nat) : State :=
  let f := (launched s c slot).benchRead c ((s.core c).tray slot).pc 8
  f.1.trayTaint c slot f.2.2.1

/-- The tray issues: it is resident, not trapped, held or ending, no copy of it has failed, and the fetch finds a word (R129, R158). -/
def Issues (s : State) (c slot : Nat) : Prop :=
  let t := (s.core c).tray slot
  t.ready = true ∧ t.faultNext = none ∧ t.pc + 8 ≤ benchSize ∧ t.pc % 8 = 0 ∧ ((launched s c slot).benchRead c t.pc 8).2.2.2 = false

/-- The tray issues, `u` is the state in which its instruction executes and `y` the tray there. -/
def Runs (s : State) (c slot : Nat) (u : State) (y : Tray) : Prop := Issues s c slot ∧ fetched s c slot = u ∧ (u.core c).tray slot = y

/-- Registers, poison bits and predicates of the tray are in canonical form. -/
def TrayTables (t : Tray) : Prop := Tab.wf 0#32 t.regs = true ∧ Tab.wf false t.poison = true ∧ Tab.wf 0#8 t.preds = true

/-- A word of format A is legal for the tray and reads no poison (R128, R169, R170). -/
def LegalA (a : ASpec) (t : Tray) (p : BitVec 54) : Prop := a.bad t p = false ∧ t.anyPoison (a.sources p) = false

/-- A word of format M passes the checks (R128, R137, R194). -/
def LegalM (t : Tray) (p : BitVec 54) (n : Nat) (illegal : Tray → Bool) (srcs : List Nat) (block : Bool) : Prop :=
  illegal t = false ∧ t.anyPoison srcs = false ∧ t.misaligned p n = none ∧ t.benchFault p n block = none

/-- The instruction ends with D of every active lane at `v lane` and not poisoned, every other register, poison bit and predicate as
before, the program counter 8 further, the status bits `fl` set, nothing else of `u` changed. -/
def LaneWords (u : State) (y : Tray) (c slot d : Nat) (v : Nat → Word) (fl : Nat) (r : Res) : Prop :=
  ∃ z : Tray, r = .next ((u.setTray c slot z).tflags c fl)
    ∧ z = { y with regs := z.regs, poison := z.poison, pc := y.pc + 8 }
    ∧ (∀ lane k, k < 64 → z.reg lane k = if lane ∈ y.lanes ∧ k = d then v lane else y.reg lane k)
    ∧ (∀ lane k, k < 64 → z.poisoned lane k = if lane ∈ y.lanes ∧ k = d then false else y.poisoned lane k)

/-- The same for a register pair. -/
def LanePairs (u : State) (y : Tray) (c slot d : Nat) (v : Nat → DWord) (r : Res) : Prop :=
  ∃ z : Tray, r = .next ((u.setTray c slot z).tflags c 0)
    ∧ z = { y with regs := z.regs, poison := z.poison, pc := y.pc + 8 }
    ∧ (∀ lane, lane ∈ y.lanes → z.pair lane d = v lane)
    ∧ (∀ lane k, k < 64 → (lane ∉ y.lanes ∨ k / 2 ≠ d / 2) → z.reg lane k = y.reg lane k)
    ∧ (∀ lane k, k < 64 → z.poisoned lane k = if lane ∈ y.lanes ∧ k / 2 = d / 2 then false else y.poisoned lane k)

/-- The same for a predicate: no register changes. -/
def LaneBits (u : State) (y : Tray) (c slot q : Nat) (v : Nat → Bool) (r : Res) : Prop :=
  ∃ z : Tray, r = .next ((u.setTray c slot z).tflags c 0)
    ∧ z = { y with preds := z.preds, pc := y.pc + 8 }
    ∧ (∀ lane k, k < 8 → z.pred lane k = if lane ∈ y.lanes ∧ k = q then v lane else y.pred lane k)

/-! ## Descriptors -/

/-- The sequencer runs and the descriptor's CRC is right (R178, R179). -/
def DescriptorRuns (s : State) (c cls : Nat) (p : BitVec 92) (crc : Word) : Prop := (s.core c).seqState = 1 ∧ crc = descCrc cls p

/-! ## Dictionary commands -/

/-- A write of an entry by a requester is accepted: its path is served, the boot is past step 3, it is authorised, and the device state
allows the index (R552, R595, R630, Table 22-8). -/
def Accepts (s : State) (who index : Nat) (auth : Bool) : Prop :=
  s.served who = true ∧ s.earlyBoot = false ∧ auth = true ∧ s.writable index = true ∧ (index = 0x6800 → (s.proc 2).st = 2)

/-- What every command of the dictionary does before its own rules: an unserved path gets no answer, the early boot steps refuse, then the
authorisation, then the device state (R552, R595, R631, Table 22-8). -/
def RefusesFirst (s : State) (who index : Nat) (auth : Bool) (c : Instr) : Prop :=
  (s.served who = false → exec c s = .next s)
    ∧ (s.served who = true → s.earlyBoot = true → exec c s = .next (s.answer 0x0402))
    ∧ (s.served who = true → s.earlyBoot = false → auth = false → exec c s = .next (s.answer 0x0203))
    ∧ (s.served who = true → s.earlyBoot = false → auth = true → s.writable index = false → exec c s = .next (s.answer 0x0402))

/-- A frame `f` of requester `who` has reached the security core, by ring 0, in a session, or by MCTP or UDP; `u` is the state with the requester greeted
(R619, R621). -/
def Arrives (s : State) (src : FrameSrc) (bytes : List Byte) (who : Fin 16) (f : DictFrame) (u : State) : Prop :=
  match src with
  | .ring => s.pathServed pathRing = true ∧ s.ringReady 0 = true ∧ readFrame (s.ringFrame 0) = some f
      ∧ (s.ringTake 0).requesterOf pathRing 0 = some who ∧ (s.ringTake 0).greet who pathRing 0 = u
  | .session n ok => s.pathServed pathSession = true ∧ s.securityAway = false ∧ s.spdmOn = true ∧ s.lapsed n = false
      ∧ (s.session n).used = true ∧ (s.session n).finished = true ∧ ok = true ∧ readFrame bytes = some f
      ∧ ∃ t, s.setSession n { s.session n with bell := s.bell.count } = t ∧ t.requesterOf pathSession n = some who ∧ t.greet who pathSession n = u
  | _ => s.pathServed (srcPath src).1 = true ∧ ((srcPath src).1 = pathPcie → s.linkUp = true ∧ s.host.d3hot = false)
      ∧ ((srcPath src).1 = pathUdp → s.pins.mgLink ≠ 0) ∧ s.securityAway = false
      ∧ (∃ b, s.vendorFrame bytes = some b ∧ readFrame b = some f)
      ∧ s.requesterOf (srcPath src).1 (srcPath src).2 = some who ∧ s.greet who (srcPath src).1 (srcPath src).2 = u

/-- The frame is no repeat and no response is owed for it (R627, R630). -/
def Fresh (u : State) (who : Fin 16) (f : DictFrame) : Prop :=
  (u.requester who).memo.find? (fun m => m.key = f.key) = none ∧ u.dict.owed.any (fun o => decide (o.who = who.val ∧ o.key = f.key)) = false

/-- The fields of a frame lie within their widths, and its OP is one that a requester sends (R622, Table 22-4). -/
def FrameFields (f : DictFrame) : Prop :=
  [1, 2, 3, 4, 9].contains f.op = true ∧ f.tid < 2 ^ 8 ∧ f.index < 2 ^ 16 ∧ f.sub < 2 ^ 8 ∧ f.status < 2 ^ 16 ∧ f.seg < 2 ^ 8 ∧ f.total < 2 ^ 13
    ∧ f.data.length ≤ 236

/-! ## Epochs -/

/-- The checks of R260 pass: no reserved field, a mask that names OPEN epochs of the requester's partition only. -/
def EpochsOpen (s : State) (who : Nat) (w : BitVec 28) : Prop :=
  epReserved w = false ∧ epMask w ≠ 0#16
    ∧ ∀ e, e < 16 → (epMask w).getLsbD e = true → (s.epoch e).st = 1 ∧ some (s.epoch e).part = s.epPart who w

/-! ## Firmware rings -/

/-- Ring `f` holds a request of type 1 with a right CRC: its sequence and payload (R589). -/
def RingRequest (s : State) (f seq : Nat) (payload : List Byte) : Prop :=
  s.ringReady f = true ∧ 16 ≤ (s.ringFrame f).length ∧ leNat (((s.ringFrame f).drop 12).take 4) = crc32c ((s.ringFrame f).take 12)
    ∧ natBits 95 88 (leNat ((s.ringFrame f).take 12)) = 1 ∧ natBits 79 64 (leNat ((s.ringFrame f).take 12)) = seq ∧ (s.ringFrame f).drop 16 = payload

/-! ## Ranges -/

/-- No two ranges of one context share an address (R309). -/
def RangesApart (l : List Range) : Prop := l.Pairwise (fun a b => a.ctx = b.ctx → a.va + a.bytes ≤ b.va ∨ b.va + b.bytes ≤ a.va)

end Sys2Proof
end

