-- ==== Sys2Proof/Certificates/Slice0/Obligations.lean ====
section
/-!
DEFINITION. The statements about the model, by chapter.
-/

open Sys2Proof Sys2Proof.Machine

/-- The queue is the model's: first in, first out. That a bell passes on an empty queue is the model's choice (log entry 2); R481 and R485 say
when the count runs. -/
def Obligations.StepRunsFront : Prop :=
  (∀ (s : State) (c : Instr) (rest : List Instr), s.pending = c :: rest → step s = exec c { s with pending := rest })
  ∧ (∀ s : State, s.pending = [] → ∃ t, step s = .next t ∧ t.pending = [] ∧ t.out = s.out ∧ t.dev = s.dev ∧ t.cores = s.cores ∧ t.market = s.market
    ∧ (s.dev.st = 0 ∨ (s.dev.st = 1 ∧ s.dev.bootStep = 1) → t = s)
    ∧ (s.dev.st ≠ 0 → ¬ (s.dev.st = 1 ∧ s.dev.bootStep = 1) → t.bell.count = (s.bell.count + 1) % 2 ^ 64))

/-- R593, R661; R305, R334 and R422 for contexts, queues and windows. That the state after reset is the one without power is the model's choice. -/
def Obligations.ResetState : Prop :=
  State.reset.dev.st = 0 ∧ State.reset.dev.st ≤ 5 ∧ State.reset.pending = [] ∧ State.reset.out = []
  ∧ (∀ c, (State.reset.ctx c).active = false) ∧ (∀ q, (State.reset.queue q).st = qFree) ∧ (∀ w, (State.reset.window w).enabled = false)
  ∧ (∀ c, State.reset.core c = Core.blank) ∧ (∀ k i, State.reset.unit k i = usOff)
  ∧ State.reset.market.sectors = [] ∧ State.reset.hbm.sectors = [] ∧ State.reset.recorder.queue = []
  ∧ (∀ w, State.reset.served w = false)

/-- R593, over every command and every state that meets the invariant. -/
def Obligations.DeviceStates : Prop :=
  (∀ s t : State, s.dev.st ≤ 5 → step s = .next t → t.dev.st ≤ 5)
  ∧ (∀ s : State, s.dev.st ≤ 5 → natBits 23 20 (s.bar0Get 0) = s.dev.st ∧ natBits 31 24 (s.bar0Get 0) = 0x96)
  ∧ (∀ (s : State) (who : Nat), s.odRead who 0x6000 1 = (0, leBytes 1 s.dev.st))

/-- R645. The count has the 32 bits of its field of Table 23-1. -/
def Obligations.PowerCycles : Prop :=
  (∀ s : State, s.dev.st = 0 → ∃ t, exec .coldBoot s = .next t ∧ t.dev.st = 1 ∧ t.dev.bootStep = 1 ∧ t.recorder.pcycles = (s.recorder.pcycles + 1) % 2 ^ 32
    ∧ t.recorder.queue = s.recorder.queue ∧ t.recorder.ring = s.recorder.ring ∧ t.recorder.next = s.recorder.next)
  ∧ (∀ (s : State) (who : Fin 16), ∃ t, exec (.devWarmReset who) s = .next t ∧ t.recorder.pcycles = s.recorder.pcycles)

/-- R50; format codes 0xD (INT32) and 0xE (INT64). -/
def Obligations.IntegerFoldIns : Prop :=
  (∀ (anchor : Int) (old : Nat) (x : Int), ((foldElem 0xD anchor old (.int x)).1 : Int) = ((old : Int) + x) % 2 ^ 32 ∧ (foldElem 0xD anchor old (.int x)).2 = FoldFlags.none
    ∧ ((foldElem 0xE anchor old (.int x)).1 : Int) = ((old : Int) + x) % 2 ^ 64 ∧ (foldElem 0xE anchor old (.int x)).2 = FoldFlags.none)
  ∧ (∀ (fmt : Nat) (anchor : Int) (old : Nat) (l m : List Int), fmt = 0xD ∨ fmt = 0xE → l.Perm m →
    l.foldl (fun o x => (foldElem fmt anchor o (.int x)).1) old = m.foldl (fun o x => (foldElem fmt anchor o (.int x)).1) old)

/-- R67, R78, R80, R82, R84. Arithmetic at issue, with the results at PASS_COMPLETE, is the model's choice (log entry 18). -/
def Obligations.ArrayDescriptors : Prop :=
  (∀ (s : State) (c : CoreIx) (p : BitVec 92) (crc : Word) (x : Core), DescriptorRuns s c 1 p crc → s.core c = x → x.arrQ.length < 5 →
    passMalformed p (Tab.get OpReg.blank x.ors (bits 78 75 p)) (Tab.get OpReg.blank x.ors (bits 74 71 p)) = false →
    exec (.pass c p crc) s = .next (((s.onCore c (fun z => ({ z.taken with arrQ := z.arrQ ++ [
      ({ m := bits 90 85 p + 1, n := bits 84 79 p + 1, k := bits 31 16 p + 1, dflow := bitAt p 91, arith := BitVec.ofNat 32 (bits 63 32 p)
         opA := Tab.get OpReg.blank x.ors (bits 78 75 p), opB := Tab.get OpReg.blank x.ors (bits 74 71 p)
         scen := bitAt p 70, sc := bits 69 67 p, ctx := x.task.ctx, taint := x.workTaint, index := x.task.index, scanned := false, anchor := 0
         done := false, refused := false, failed := false, failAddr := 0, failPoison := false, ownSat := false, ownNan := false } : PassEntry)]
      }).scAdd (bitAt p 70) (bits 69 67 p))).clearQfull c 11).pump c))
  ∧ (∀ (s : State) (c : CoreIx) (e : PassEntry) (ra rb : RowsAcc),
    let waiting := fun (e : PassEntry) => arAmode e.arith && !e.scanned && !e.done
    let scales := fun (s0 : State) (r : OpReg) (fmt rows : Nat) =>
      if fmtIsMx fmt then readRows s0 (e.env (s.core c) c) r.sspace r.saddr r.sstride rows (e.k / 32) else ⟨s0, .ok, [], 0#16, false⟩
    (s.core c).arrQ.find? waiting = some e → scales s e.opA (arFmtA e.arith) e.m = ra → scales ra.s e.opB (arFmtB e.arith) e.n = rb →
    exec (.anchorScan c) s = .next ((rb.s.onCore c (fun x => { x with arrQ := setFirst waiting (fun e => { e with
      scanned := true
      anchor := autoAnchor (arFmtA e.arith) (arFmtB e.arith) e.k (arHead e.arith) ra.rows.flatten rb.rows.flatten }) x.arrQ })).pump c))
  ∧ (∀ (s t : State) (c : CoreIx) (e : PassEntry) (rest : List PassEntry), (s.core c).arrQ = e :: rest → e.done = true →
    (s.onCore c (fun x => ({ x with arrQ := rest }).scSub e.scen e.sc)) = t →
    let t1 := if arTrapSat e.arith && e.ownSat then t.trap c 0x10 unitArray false (e.taint ≠ 0#16) e.index 0 else t
    let t2 := if arTrapNan e.arith && e.ownNan then t1.trap c 0x11 unitArray false (e.taint ≠ 0#16) e.index 0 else t1
    exec (.passComplete c) s = .next ((t2.pump c).recheck c))
  ∧ (∀ (s : State) (c : CoreIx) (e : PassEntry), (s.core c).atArray = some e → e.failed = true →
    exec (.arrayAbort c) s = .next (((((s.onCore c (fun x => { x with
        banks := Tab.modifyRange AccElem.zero (fun _ el => { el with tag := .nan }) 4096 (4096 * arBank e.arith) x.banks
        bstat := Tab.modify 0#32 x.bstat (arBank e.arith) (fun w => w ||| 8#32)
        btaint := Tab.modify 0#16 x.btaint (arBank e.arith) (fun m => m ||| e.taint) })).trap c 0x12 unitArray e.failPoison (e.taint ≠ 0#16) e.index
          e.failAddr).onCore c Core.discardBehind).pump c).recheck c))
  ∧ (∀ (s : State) (c : CoreIx), (∀ e, (s.core c).atArray = some e → arAmode e.arith = true ∧ e.scanned = false) →
    exec (.rampDown c) s = .next (s.onCore c (fun x => { x with arrState := 0 })))

/-- R101, R104, R115, R121, R184, R186. -/
def Obligations.VectorDescriptors : Prop :=
  (∀ (s : State) (c : CoreIx) (p : BitVec 92) (crc : Word) (x : Core), s.core c = x → x.vecQ.length < 2 →
    let queued := fun (move scen : Bool) (sc : Nat) =>
      let e : VecEntry := { move := move, payload := p, vbs := x.vbs, x0 := x.x0, x1 := x.x1, indexBase := x.indexBase, draw := x.draw, stream := x.stream
                            banks := [], scen := scen, sc := sc, ctx := x.task.ctx, taint := x.workTaint, index := x.task.index }
      ((s.onCore c (fun x => ({ x.taken with vecQ := x.vecQ ++ [{ e with banks := e.readsBanks }] }).scAdd scen sc)).clearQfull c 10).pump c
    (DescriptorRuns s c 4 p crc →
      exec (.run c p crc) s = .next (queued false (bitAt p 7) (bits 6 4 p)) ∧ exec (.exportRun c p crc) s = .next (queued false (bitAt p 7) (bits 6 4 p)))
    ∧ (DescriptorRuns s c 8 p crc →
      exec (.tld c p crc) s = .next (queued true (bitAt p 65) (bits 64 62 p)) ∧ exec (.tst c p crc) s = .next (queued true (bitAt p 65) (bits 64 62 p))
      ∧ exec (.tcpy c p crc) s = .next (queued true (bitAt p 65) (bits 64 62 p))))
  ∧ (∀ (s : State) (c : CoreIx) (h : HeldRun) (rest : List HeldRun) (k : Cluster), (s.core c).heldRun = h :: rest → s.cluster (coreCluster c) = k →
    k.sumQ.length + h.records.length ≤ 256 →
    exec (.summaryDeliver c) s = .next (((((s.setCluster (coreCluster c) ({ k with sumQ := k.sumQ ++ h.records }.raise 0)).onCore c
      (fun x => { x with heldRun := rest })).vecDone c h).pump c).recheck c))

/-- R186 and Table 6-10; each tile register is 256 words of a 1 KiB block (R91). -/
def Obligations.TileMoves : Prop :=
  ∀ (s : State) (c : CoreIx) (e : VecEntry) (x : Core), s.core c = x → e.move = true → moveBad e.payload = false → moveOp e.payload = 0 → e.taint = 0#16 →
    x.benchChk = [] → x.blkCancel = [] → x.blkTaint = [] → Tab.wf Core.blank s.cores = true → Tab.wf 0#32 x.tiles = true →
    Tab.wf false x.tilePoison = true →
    ∃ t h, s.vecExec c e = .ran t h ∧ h.records = [] ∧ h.traps = []
      ∧ (∀ r k, k < 256 → Tab.get 0#32 (t.core c).tiles (256 * r + k)
          = if moveTr e.payload ≤ r ∧ r < moveTr e.payload + moveCnt e.payload
            then BitVec.ofNat 32 (Tab.le 0#8 x.bench (1024 * (moveBlk e.payload + (r - moveTr e.payload)) + 4 * k) 4)
            else Tab.get 0#32 x.tiles (256 * r + k))
      ∧ (∀ r k, k < 256 → Tab.get false (t.core c).tilePoison (256 * r + k)
          = if moveTr e.payload ≤ r ∧ r < moveTr e.payload + moveCnt e.payload then false else Tab.get false x.tilePoison (256 * r + k))

/-- R183, R185, R186, R189 and Tables 6-7, 6-9 and 6-10. -/
def Obligations.OperandDescriptors : Prop :=
  ∀ (s : State) (c : CoreIx) (p : BitVec 92) (crc : Word),
    let taken := fun (f : Core → Core) => Host.Outcome.next ((s.onCore c Core.taken).onCore c f)
    (DescriptorRuns s c 2 p crc → bits 85 80 p = 0 → (bitAt p 87 = false → bits 55 19 p = 0) →
      exec (.opd c p crc) s = taken (fun x => { x with ors := Tab.modify OpReg.blank x.ors (bits 91 88 p) (fun r =>
        { r with space := bitAt p 87, trans := bitAt p 86, stride8 := bits 79 56 p, addr := bits 55 0 p }) }))
    ∧ (DescriptorRuns s c 3 p crc → bits 86 76 p = 0 → (bitAt p 87 = false → bits 55 19 p = 0) → bits 55 0 p % 32 = 0 →
      exec (.ops c p crc) s = taken (fun x => { x with ors := Tab.modify OpReg.blank x.ors (bits 91 88 p) (fun r =>
        { r with sspace := bitAt p 87, sstride := bits 75 56 p, saddr := bits 55 0 p }) }))
    ∧ (DescriptorRuns s c 5 p crc → (bits 88 85 p ≤ 6 ∨ (bits 88 85 p = 8 ∧ (bindOf p).mode ≤ 14 ∧ (bindOf p).dest ≤ 4)) →
      exec (.bind c p crc) s = taken (fun x => { x with
          vbs := Tab.set Bind.blank x.vbs (bits 91 89 p) (⟨bits 88 85 p, bits 84 81 p, bitAt p 80, bits 79 56 p, bits 55 0 p, false, 0, 0⟩ : Bind) }))
    ∧ (DescriptorRuns s c 6 p crc → bits 88 80 p = 0 → bits 55 0 p % 32 = 0 →
      exec (.bindx c p crc) s = taken (fun x => { x with vbs := Tab.modify Bind.blank x.vbs (bits 91 89 p) (fun b =>
        { b with ext := true, ostride := bits 79 56 p, saddr := bits 55 0 p }) }))
    ∧ (DescriptorRuns s c 7 p crc → bits 87 64 p = 0 →
      (bits 91 88 p = 0 → exec (.vargX c p crc) s = taken (fun x => { x with x1 := BitVec.ofNat 32 (bits 63 32 p), x0 := BitVec.ofNat 32 (bits 31 0 p) }))
      ∧ (bits 91 88 p = 1 → exec (.vargStream c p crc) s
          = taken (fun x => { x with stream := BitVec.ofNat 32 (bits 63 32 p) ++ BitVec.ofNat 32 (bits 31 0 p) }))
      ∧ (bits 91 88 p = 2 → exec (.vargDraw c p crc) s
          = taken (fun x => { x with draw := BitVec.ofNat 32 (bits 63 32 p), indexBase := BitVec.ofNat 32 (bits 31 0 p) })))
    ∧ (DescriptorRuns s c 0xF p crc → bits 91 88 p = 2 → bits 87 0 p = 0 → exec (.nopDesc c p crc) s = .next (s.onCore c Core.taken))

/-- R189, R192, R193, R197, R198: `State.hold` is the held sequencer with its condition checked at once. -/
def Obligations.ControlDescriptors : Prop :=
  (∀ (s t : State) (c : CoreIx) (p : BitVec 92) (crc : Word), s.onCore c Core.taken = t →
    (DescriptorRuns s c 0xB p crc → bits 71 0 p = 0 →
      (bitAt p 88 = false → exec (.waitDesc c p crc) s = .next (t.hold c (.counter (bits 91 89 p) (bits 87 72 p))))
      ∧ (bitAt p 88 = true → bits 91 89 p = 0 → bits 87 72 p = 0 → exec (.waitDesc c p crc) s = .next (t.hold c .all)))
    ∧ (DescriptorRuns s c 0xC p crc → bits 87 0 p = 0 →
      exec (.phaseDesc c p crc) s = .next ((t.onCore c (fun x => { x with phase := bits 91 88 p })).holdPhase (bits 91 88 p)))
    ∧ (DescriptorRuns s c 0xD p crc → bits 91 90 p ≠ 3 → bits 89 0 p = 0 → exec (.fenceDesc c p crc) s = .next (t.hold c .fence))
    ∧ (DescriptorRuns s c 0xE p crc → bits 73 0 p = 0 → bits 91 83 p + (bits 82 74 p + 1) ≤ 512 →
      exec (.bclr c p crc) s = .next (t.hold c (.clear (bits 91 83 p) (bits 82 74 p + 1))))
    ∧ (DescriptorRuns s c 0xF p crc → bits 91 0 p = 0 → exec (.endTask c p crc) s = .next (t.hold c .finish))
    ∧ (DescriptorRuns s c 0xF p crc → bits 91 88 p = 1 → bits 86 56 p = 0 → bits 55 0 p % 16 = 0 →
      exec (.jumpDesc c p crc) s = .next (t.onCore c (fun x => { x with
        fetched := [], task := { x.task with space := bitAt p 87, addr := bits 55 0 p } }))))
  ∧ (∀ (s t : State) (c : Nat) (w : SeqWait) (x : Core), s.onCore c (fun x => { x with seqState := 2, seqWait := w }) = t → t.core c = x →
    x.seqState = 2 → x.seqWait = w →
    let go := fun (v : State) => v.onCore c (fun x => { x with seqState := 1, seqWait := .none })
    (∀ i b, w = .counter i b → s.hold c w = if Tab.get 0 x.sc i ≤ b then go t else t)
    ∧ (w = .all → s.hold c w = if x.idleUnits then go t else t)
    ∧ (w = .fence → s.hold c w = if x.idleUnitsButTrays then go t else t)
    ∧ (∀ b n, w = .clear b n → s.hold c w = if x.idleUnits then go (t.clearBlocks c b n) else t)
    ∧ (w = .finish → s.hold c w = if x.idleUnits then t.endTask c x.task.endStatus else t))

/-- R188, R236 to R239: `State.copyRun` moves the bytes of Table 7-7's modes. -/
def Obligations.CopyDescriptors : Prop :=
  (∀ (s : State) (c : CoreIx) (p : BitVec 92) (crc : Word) (x : Core) (e : CopyEntry), DescriptorRuns s c 0xA p crc → s.core c = x → x.copyQ.length < 4 →
    bits 51 0 p = 0 → copyBad e = false →
    ({ mode := bits 59 56 p, bytes := 32 * (bits 83 60 p + 1), src := Tab.get OpReg.blank x.ors (bits 91 88 p)
       dst := Tab.get OpReg.blank x.ors (bits 87 84 p), scen := bitAt p 55, sc := bits 54 52 p, ctx := x.task.ctx, taint := x.workTaint
       index := x.task.index } : CopyEntry) = e →
    let t := (s.onCore c (fun x => ({ x.taken with copyQ := x.copyQ ++ [e] }).scAdd e.scen e.sc)).clearQfull c 8
    exec (.copyLinear c p crc) s = .next t ∧ exec (.copyStrided c p crc) s = .next t ∧ exec (.copyTranspose8 c p crc) s = .next t
    ∧ exec (.copyTranspose16 c p crc) s = .next t ∧ exec (.copyFill c p crc) s = .next t ∧ exec (.copyPrefetch c p crc) s = .next t)
  ∧ (∀ (s : State) (c : CoreIx) (e : CopyEntry) (rest : List CopyEntry) (x : Core) (q : CopyRun), s.core c = x → x.copyQ = e :: rest → x.copyHalted = false →
    s.copyRun ⟨c, e.ctx, e.taint, x.task.cls, x.task.deadline, false, 0, false⟩ e = q → q.st = .ok → q.halted = false →
    exec (.copyComplete c) s = .next (((q.s.setCluster (coreCluster c) { q.s.cluster (coreCluster c) with copyTurn := (c.val + 1) % 8 }).onCore c (fun x =>
      ({ x with copyQ := rest, copyHalted := false }).scSub e.scen e.sc)).recheck c))

/-- R176, R177, R180, R198, R205. -/
def Obligations.TasksAndFetch : Prop :=
  (∀ (s : State) (c : CoreIx) (x : Core), s.core c = x → x.seqState = 0 → x.heldComp = [] →
    let fresh := fun (x : Core) (t : Task) => { x with
      task := t, seqState := 1, seqWait := .none, phase := 0, fetched := [], ors := [], vbs := [], x0 := 0#32, x1 := 0#32
      indexBase := 0#32, draw := 0#32, stream := 0#64, sc := [], outTraps := [] }
    (∀ w ws m ms, x.localQ = w :: ws → x.localTaint = m :: ms → s.noNewWork = false → (Tab.get Proc.blank s.fw.procs (32 + coreCluster c)).st ≠ 1 →
      exec (.taskStart c) s = .next ((s.onCore c (fun x => fresh { x with localQ := ws, localTaint := ms } (s.localTask w m))).holdPhase 0))
    ∧ (∀ t, x.localQ = [] → x.dispatched = some t →
      exec (.taskStart c) s = .next ((s.onCore c (fun x => fresh { x with dispatched := none } t)).holdPhase 0)))
  ∧ (∀ (s : State) (c : CoreIx) (x : Core) (n : Nat) (r : RdAcc), s.core c = x → 64 - x.task.addr % 64 = n → 1 ≤ x.seqState → x.seqState < 3 →
    x.fetched.length + n / 16 ≤ 32 → x.task.addr % 16 = 0 → s.unitRead (x.env c x.task.taint 0) x.task.space x.task.addr n = r → r.st = .ok → r.poison = false →
    exec (.descriptorFetch c) s = .next (r.s.onCore c (fun y => { y with
      fetched := y.fetched ++ descriptorsOf r.taint (n / 16) r.bytes, task := { y.task with addr := x.task.addr + n } })))

/-- R201, R202. That a reply answers the oldest record with its SLOT is a reading (log entry 48). -/
def Obligations.TrapReplies : Prop :=
  ∀ (s t : State) (c : CoreIx) (slot : Fin 16) (unit code : Nat) (rest : List (Nat × Nat × Nat)) (y : Tray),
    takeRecord slot (s.core c).outTraps = some ((unit, slot.val, code), rest) → s.onCore c (fun x => { x with outTraps := rest }) = t →
    (t.core c).tray slot = y →
    (unit = 3 → code ≠ 5 →
      exec (.trapResume c slot) s = .next (t.setTray c slot { y with trap := 0, trapAddr := 0, progress := if code = 0x26 then 0 else y.progress })
      ∧ exec (.trapSkip c slot) s = .next (t.setTray c slot { y with trap := 0, trapAddr := 0, pc := y.pc + 8, wait := none, pack := none })
      ∧ exec (.trapAbort c slot) s = .next ((t.setTray c slot { y with
          trap := 0, trapAddr := 0, ending := true, active := 0#64, wait := none, pack := none }).recheck c))
    ∧ (unit = 3 → code = 5 → exec (.trapResume c slot) s = .next t ∧ exec (.trapSkip c slot) s = .next t
      ∧ exec (.trapAbort c slot) s = .next (t.recheck c))
    ∧ (∀ v, unit ≠ 3 → (if unit = 4 then t.onCore c (fun x => { x with copyHalted := false }) else t) = v →
      exec (.trapResume c slot) s = .next ((if code = 1 ∨ code = 2 then v.onCore c Core.refetch else v).restart c)
      ∧ exec (.trapSkip c slot) s = .next ((if code = 1 then v.onCore c Core.taken
          else if code = 2 then v.onCore c (fun x => { x with task := { x.task with addr := x.task.addr + 16, index := x.task.index + 1 } }) else v).restart c)
      ∧ exec (.trapAbort c slot) s = .next (((v.onCore c (fun x => { x with
          seqState := 4, seqWait := .none, task := { x.task with aborted := true }, outTraps := x.outTraps.filter (fun r => r.1 = 3) })).restart c).recheck c))

/-- R200, R203, R205, R206, R207. -/
def Obligations.ClusterWindow : Prop :=
  (∀ (s : State) (g : ClusterIx) (k : Cluster), s.cluster g = k →
    (∀ r rs, k.sumQ = r :: rs → exec (.sumheadRead g) s
      = .next ((s.setCluster g { k with dtaint := k.dtaint ||| r.extractLsb' 80 16 }).emit .core 0 [g.val, r.toNat]))
    ∧ (k.sumQ = [] → exec (.sumheadRead g) s = .next (s.emit .core 0 [g.val, 0]))
    ∧ (∀ n, exec (.sumack g n) s = .next (if n ≤ k.sumQ.length then s.setCluster g { k with sumQ := k.sumQ.drop n } else s))
    ∧ (∀ n, exec (.trapack g n) s = .next (if n ≤ k.trapQ.length then (s.setCluster g { k with trapQ := k.trapQ.drop n }).refillTraps g else s))
    ∧ (∀ n, exec (.compack g n) s = .next (if n ≤ k.compQ.length then s.setCluster g { k with compQ := k.compQ.drop n } else s))
    ∧ (∀ (rank : Fin 8) (w : QWord) (c : Nat) (x : Core), 8 * g.val + rank.val = c → s.core c = x →
      (4 ≤ x.localQ.length ∨ x.heldReject ≠ none → exec (.taskport g rank w) s = .next (s.onCore c (fun x => { x with overrun := true })))
      ∧ (x.localQ.length < 4 → x.heldReject = none → crc32c (leBytes 12 w.toNat) = bits 127 96 w →
        exec (.taskport g rank w) s = .next (s.onCore c (fun x => { x with localQ := x.localQ ++ [w], localTaint := x.localTaint ++ [k.dtaint] })))
      ∧ (x.localQ.length < 4 → x.heldReject = none → crc32c (leBytes 12 w.toNat) ≠ bits 127 96 w → k.compQ.length < 64 →
        exec (.taskport g rank w) s = .next (s.setCluster g ({ k with compQ := k.compQ ++ [compRecord c 4 k.dtaint (bits 71 56 w)] }.raise 2)))))
  ∧ (∀ (s : State) (c : CoreIx) (k : Cluster) (r : DWord), s.cluster (coreCluster c) = k → k.compQ.length < 64 →
    (∀ rs, (s.core c).heldComp = r :: rs → exec (.completionRecordEnter c) s
      = .next ((s.setCluster (coreCluster c) ({ k with compQ := k.compQ ++ [r] }.raise 2)).onCore c (fun x => { x with heldComp := rs })))
    ∧ ((s.core c).heldComp = [] → (s.core c).heldReject = some r → exec (.completionRecordEnter c) s
      = .next ((s.setCluster (coreCluster c) ({ k with compQ := k.compQ ++ [r] }.raise 2)).onCore c (fun x => { x with heldReject := none }))))

/-- R131, R169, R170, R173: each active lane computes on its own registers. That MOV ignores an immediate and that a shift takes its
amount modulo 32 for every operand are readings of R170 and R173 (log entries 35 and 34). R169, R173: a pair's even register holds bits [31:0]. The sign extension of a 64-bit immediate is a reading of R173 (log entry 33). -/
def Obligations.TrayIntegerResults : Prop :=
  (∀ (s u : State) (y : Tray) (c : CoreIx) (slot : Fin 16) (p : BitVec 54), Runs s c slot u y →
    let a := fun l => y.reg l (iA p)
    let b := fun l => y.srcB l p
    let d := iD p
    TrayTables y →
    (LegalA ⟨false, 2, false, true⟩ y p →
      LaneWords u y c slot d (fun l => a l + b l) 0 (exec (.tAdd c slot p) s)
      ∧ LaneWords u y c slot d (fun l => a l - b l) 0 (exec (.tSub c slot p) s)
      ∧ LaneWords u y c slot d (fun l => a l * b l) 0 (exec (.tMul c slot p) s)
      ∧ LaneWords u y c slot d (fun l => if (a l).toInt ≤ (b l).toInt then a l else b l) 0 (exec (.tMin c slot p) s)
      ∧ LaneWords u y c slot d (fun l => if (a l).toInt ≤ (b l).toInt then b l else a l) 0 (exec (.tMax c slot p) s)
      ∧ LaneWords u y c slot d (fun l => if (a l).toNat ≤ (b l).toNat then a l else b l) 0 (exec (.tMinu c slot p) s)
      ∧ LaneWords u y c slot d (fun l => if (a l).toNat ≤ (b l).toNat then b l else a l) 0 (exec (.tMaxu c slot p) s)
      ∧ LaneWords u y c slot d (fun l => a l &&& b l) 0 (exec (.tAnd c slot p) s)
      ∧ LaneWords u y c slot d (fun l => a l ||| b l) 0 (exec (.tOr c slot p) s)
      ∧ LaneWords u y c slot d (fun l => a l ^^^ b l) 0 (exec (.tXor c slot p) s)
      ∧ LaneWords u y c slot d (fun l => a l <<< ((b l).toNat % 32)) 0 (exec (.tShl c slot p) s)
      ∧ LaneWords u y c slot d (fun l => a l >>> ((b l).toNat % 32)) 0 (exec (.tShr c slot p) s)
      ∧ LaneWords u y c slot d (fun l => (a l).sshiftRight ((b l).toNat % 32)) 0 (exec (.tSar c slot p) s)
      ∧ LaneWords u y c slot d (fun l => if y.pred l (iQ p) then a l else b l) 0 (exec (.tSel c slot p) s))
    ∧ (LegalA ⟨false, 1, false, true⟩ y p → LaneWords u y c slot d a 0 (exec (.tMov c slot p) s)))
  ∧ (∀ (s u : State) (y : Tray) (c : CoreIx) (slot : Fin 16) (p : BitVec 54), Runs s c slot u y →
    let a := fun l => y.pair l (iA p)
    let b := fun l => y.srcB64 l p
    let d := iD p
    TrayTables y → LegalA ⟨true, 2, false, true⟩ y p →
      LanePairs u y c slot d (fun l => a l + b l) (exec (.tAdd64 c slot p) s)
      ∧ LanePairs u y c slot d (fun l => a l - b l) (exec (.tSub64 c slot p) s)
      ∧ LanePairs u y c slot d (fun l => if (a l).toInt ≤ (b l).toInt then a l else b l) (exec (.tMin64 c slot p) s)
      ∧ LanePairs u y c slot d (fun l => if (a l).toInt ≤ (b l).toInt then b l else a l) (exec (.tMax64 c slot p) s))

/-- R131, R170, R173: a compare writes predicate Q and nothing else. The FP32 compares are those of R98. That bit 0 of an immediate stands
for predicate b of PAND and POR is a reading (log entry 35). -/
def Obligations.TrayPredicateResults : Prop :=
  ∀ (s u : State) (y : Tray) (c : CoreIx) (slot : Fin 16) (p : BitVec 54), Runs s c slot u y →
    let a := fun l => y.reg l (iA p)
    let b := fun l => y.srcB l p
    let pb := fun l => if iImm p then (iImm32 p).getLsbD 0 else y.pred l (iB p % 8)
    let q := iQ p
    TrayTables y →
    (LegalA ⟨false, 2, true, true⟩ y p →
      LaneBits u y c slot q (fun l => decide ((a l).toInt < (b l).toInt)) (exec (.tLt c slot p) s)
      ∧ LaneBits u y c slot q (fun l => decide ((a l).toInt ≤ (b l).toInt)) (exec (.tLe c slot p) s)
      ∧ LaneBits u y c slot q (fun l => decide (a l = b l)) (exec (.tEq c slot p) s)
      ∧ LaneBits u y c slot q (fun l => decide ((a l).toNat < (b l).toNat)) (exec (.tLtu c slot p) s)
      ∧ LaneBits u y c slot q (fun l => decide ((a l).toNat ≤ (b l).toNat)) (exec (.tLeu c slot p) s)
      ∧ LaneBits u y c slot q (fun l => fpLt (a l) (b l)) (exec (.tFlt c slot p) s)
      ∧ LaneBits u y c slot q (fun l => fpLe (a l) (b l)) (exec (.tFle c slot p) s)
      ∧ LaneBits u y c slot q (fun l => fpEq (a l) (b l)) (exec (.tFeq c slot p) s))
    ∧ (LegalA ⟨true, 2, true, true⟩ y p →
      LaneBits u y c slot q (fun l => decide ((y.pair l (iA p)).toInt < (y.srcB64 l p).toInt)) (exec (.tLt64 c slot p) s)
      ∧ LaneBits u y c slot q (fun l => decide (y.pair l (iA p) = y.srcB64 l p)) (exec (.tEq64 c slot p) s))
    ∧ (LegalA ⟨false, 0, true, true⟩ y p →
      LaneBits u y c slot q (fun l => y.pred l (iA p % 8) && pb l) (exec (.tPand c slot p) s)
      ∧ LaneBits u y c slot q (fun l => y.pred l (iA p % 8) || pb l) (exec (.tPor c slot p) s)
      ∧ LaneBits u y c slot q (fun l => !y.pred l (iA p % 8)) (exec (.tPnot c slot p) s))

/-- R131: as the recipe opcode of the same name computes it; flags go to TSTAT. R174 and Table 5-3. That ARG words are read when MOVS executes is a reading (log entry 42). -/
def Obligations.TrayFloatResults : Prop :=
  (∀ (s u : State) (y : Tray) (c : CoreIx) (slot : Fin 16) (p : BitVec 54), Runs s c slot u y →
    let a := fun l => y.reg l (iA p)
    let b := fun l => y.srcB l p
    let gives := fun (f : Nat → FpRes) (r : Res) =>
      LaneWords u y c slot (iD p) (fun l => (f l).val) (y.lanes.foldl (fun m l => m ||| (f l).tflags) 0) r
    TrayTables y →
    (LegalA ⟨false, 2, false, true⟩ y p →
      gives (fun l => fpAdd (a l) (b l)) (exec (.tFadd c slot p) s)
      ∧ gives (fun l => fpSub (a l) (b l)) (exec (.tFsub c slot p) s)
      ∧ gives (fun l => fpMul (a l) (b l)) (exec (.tFmul c slot p) s)
      ∧ gives (fun l => FpRes.plain (fpMin (a l) (b l))) (exec (.tFmin c slot p) s)
      ∧ gives (fun l => FpRes.plain (fpMax (a l) (b l))) (exec (.tFmax c slot p) s))
    ∧ (LegalA ⟨false, 1, false, true⟩ y p →
      gives (fun l => FpRes.plain (fpAbs (a l))) (exec (.tFabs c slot p) s)
      ∧ gives (fun l => FpRes.plain (fpNeg (a l))) (exec (.tFneg c slot p) s)
      ∧ gives (fun l => fpRcp (a l)) (exec (.tFrcp c slot p) s)
      ∧ gives (fun l => fpSqrt (a l)) (exec (.tFsqrt c slot p) s)
      ∧ gives (fun l => fpRsqrt (a l)) (exec (.tFrsqrt c slot p) s)
      ∧ gives (fun l => fpExp2 (a l)) (exec (.tFexp2 c slot p) s)
      ∧ gives (fun l => fpLog2 (a l)) (exec (.tFlog2 c slot p) s)
      ∧ gives (fun l => fpTanh (a l)) (exec (.tFtanh c slot p) s)
      ∧ gives (fun l => fpLogistic (a l)) (exec (.tFlogistic c slot p) s)
      ∧ gives (fun l => FpRes.plain (fpRint (a l))) (exec (.tFrint c slot p) s))
    ∧ (LegalA ⟨false, 3, false, false⟩ y p →
      gives (fun l => fpFma (a l) (y.reg l (iB p)) (y.reg l (iC p))) (exec (.tFfma c slot p) s))
    ∧ (iImm p = false → bits 21 0 p = 0 → convFmtOk (iFmt p) = true → regBad y false (iD p) = false → regBad y false (iA p) = false →
        y.anyPoison [iA p] = false →
      gives (fun l => f2x (iFmt p) (a l)) (exec (.tF2x c slot p) s)
      ∧ gives (fun l => x2f (iFmt p) (a l)) (exec (.tX2f c slot p) s)))
  ∧ (∀ (s u : State) (y : Tray) (c : CoreIx) (slot : Fin 16) (p : BitVec 54) (l : Launch), Runs s c slot u y →
    (u.core c).launchOf y = some l → iImm p = false → bits 21 0 p = 0 → regBad y false (iD p) = false →
    (∀ sel : Nat, iA p = sel → sel ≤ 15 → (sel < 6 ∨ 13 < sel) →
      exec (.tMovs c slot p) s = .next (u.setTray c slot (y.lanes.foldl (fun z lane => z.setReg lane (iD p)
        (match sel with
          | 0 => BitVec.ofNat 32 lane
          | 1 => BitVec.ofNat 32 y.width
          | 2 => BitVec.ofNat 32 y.trayix
          | 3 => BitVec.ofNat 32 l.ntrays
          | 4 => BitVec.ofNat 32 (y.glaneOf lane)
          | 5 => BitVec.ofNat 32 c.val
          | 14 => BitVec.ofNat 32 u.bell.count
          | _ => BitVec.ofNat 32 (u.bell.count / 2 ^ 32)) false) y).next))
    ∧ (6 ≤ iA p → iA p ≤ 13 →
      ∀ r t z, u.benchRead c (l.args + 4 * (iA p - 6)) 4 = r → (if r.2.2.2 then r.1.tflags c tPoison else r.1).trayTaint c slot r.2.2.1 = t →
        (t.core c).tray slot = z →
        exec (.tMovs c slot p) s
          = .next (t.setTray c slot (z.lanes.foldl (fun q lane => q.setReg lane (iD p) (BitVec.ofNat 32 (leNat r.2.1)) r.2.2.2) z).next)))

/-- R134's pseudocode and R135, in every state in which the tray issues and the word is legal. R134's `pop_and_continue`, over any number of dead entries that the hardware stack can hold. -/
def Obligations.TrayControlFlow : Prop :=
  (∀ (s u : State) (y : Tray) (c : CoreIx) (slot : Fin 16) (p : BitVec 54) (l : Launch), Runs s c slot u y →
    let taken := y.active &&& y.predMask (iQ p)
    (u.core c).launchOf y = some l → formatCBad p = false →
    exec (.tJmp c slot p) s = .next (u.setTray c slot { y with pc := iTarget p })
    ∧ exec (.tProgress c slot p) s = .next (u.setTray c slot { y with pc := y.pc + 8, progress := 0 })
    ∧ (∀ lane rest, y.lanes = lane :: rest → regBad y false (iA p) = false → y.anyPoison [iA p] = false →
        (∀ m ∈ rest, y.reg m (iA p) = y.reg lane (iA p)) →
        exec (.tJmpi c slot p) s = .next (u.setTray c slot { y with pc := (y.reg lane (iA p)).toNat }))
    ∧ (∀ t, u.maskPush c slot l ⟨y.active, true, iTarget p⟩ = some t →
        exec (.tSsy c slot p) s = .next (t.setTray c slot ((t.core c).tray slot).next))
    ∧ (taken = y.active → exec (.tBrd c slot p) s = .next (u.setTray c slot { y with pc := iTarget p }))
    ∧ (taken ≠ y.active → taken = 0#64 → exec (.tBrd c slot p) s = .next (u.setTray c slot { y with pc := y.pc + 8 }))
    ∧ (∀ t, taken ≠ y.active → taken ≠ 0#64 → u.maskPush c slot l ⟨y.active &&& ~~~taken, false, y.pc + 8⟩ = some t →
        exec (.tBrd c slot p) s = .next (t.setTray c slot { (t.core c).tray slot with active := taken, pc := iTarget p }))
    ∧ (y.active &&& ~~~y.predMask (iQ p) ≠ 0#64 →
        exec (.tBrk c slot p) s = .next (u.setTray c slot { y with pc := y.pc + 8, active := y.active &&& ~~~y.predMask (iQ p) }))
    ∧ (∀ t, y.active &&& ~~~y.predMask (iQ p) = 0#64 →
        State.popContinue c slot l 257 (u.setTray c slot { y with pc := y.pc + 8, active := 0#64 }) = some t →
        exec (.tBrk c slot p) s = .next t)
    ∧ (∀ t, State.popContinue c slot l 257 u = some t → exec (.tSync c slot p) s = .next t)
    ∧ (∀ t, State.popContinue c slot l 257 (u.setTray c slot { y with exited := y.exited ||| y.active, active := 0#64, progress := 0 }) = some t →
        exec (.tExit c slot p) s = .next t))
  ∧ (∀ (u : State) (c slot fuel : Nat) (l : Launch) (dead rest : List MaskEntry) (e : MaskEntry), Tab.wf Core.blank u.cores = true →
    Tab.wf Tray.blank (u.core c).trays = true →
    let y := (u.core c).tray slot
    y.spilled = 0 → dead.length < fuel → (∀ x ∈ dead, x.mask &&& ~~~y.exited = 0#64) →
    (y.stack = dead ++ e :: rest → e.mask &&& ~~~y.exited ≠ 0#64 →
      State.popContinue c slot l fuel u = some (u.setTray c slot { y with stack := rest, active := e.mask &&& ~~~y.exited, pc := e.pc }))
    ∧ (y.stack = dead → y.exited = allLanes y.width →
      State.popContinue c slot l fuel u = some (u.setTray c slot { y with stack := [], active := 0#64, ending := true })))

/-- R137, R138, R171: one request per sector; the register block answers 32-bit loads. R138, R139, R253: `storeRun` and `foldRun` are the requests that the meanings make, one per sector. -/
def Obligations.TrayMemoryAccesses : Prop :=
  (∀ (s u t : State) (y : Tray) (c : CoreIx) (slot : Fin 16) (p : BitVec 54) (ldl : Bool) (r : SecRead), Runs s c slot u y →
    u.loadRun c slot p ldl = r → r.s.trayTaint c slot r.taint = t →
    let v := fun l => r.value (t.core c) p (y.ea l p)
    LegalM y p (mBytes p) (fun t => mAddrBad t p || regBad t (mPair p) (iD p)) (mAddrRegs p) true → r.st = .ok →
      exec (if ldl then .tLdl c slot p else .tLd c slot p) s
        = .next ((t.setTray c slot (y.lanes.foldl (fun z l => z.loadReg l p (v l).1 (v l).2) ((t.core c).tray slot)).next).tflags c
            ((if y.lanes.any (fun l => (v l).2) then tPoison else 0) + (if r.stale then tStale else 0))))
  ∧ (∀ (s u : State) (y : Tray) (c : CoreIx) (slot : Fin 16) (p : BitVec 54), Runs s c slot u y →
    (∀ w b, u.storeRun c slot p = (w, .ok) → w.onCore c (fun x => x.storeBlock y p) = b →
      LegalM y p (mBytes p) (fun t => mAddrBad t p || regBad t (mPair p) (iD p)) (mAddrRegs p ++ pairRegs (mPair p) (iD p)) true →
      exec (.tSt c slot p) s = .next (b.setTray c slot ((b.core c).tray slot).next.cleared))
    ∧ (∀ f fl, u.foldRun c slot p = (f, .ok, fl) → LegalM y p (fmtBits (iFmt p) / 8) (fun t => mAddrBad t p || !foldPairOk (iFmt p) (mSize p) || regBad t (mPair p) (iD p))
        (mAddrRegs p ++ pairRegs (mPair p) (iD p)) false → mSp p = true →
      exec (.tFold c slot p) s = .next ((f.setTray c slot ((f.core c).tray slot).next.cleared).tflags c fl))
    ∧ (mScope p ≠ 3 → exec (.trayFence c slot p) s = .next (u.setTray c slot { y with pc := y.pc + 8 })))

/-- R138: the bytes stored to are those at `ea` of each active lane, `2 ^ SIZE` of them (`Tray.storeBytes`, which the meaning uses). -/
def Obligations.TrayBenchStores : Prop :=
  ∀ (s u : State) (y : Tray) (c : CoreIx) (slot : Fin 16) (p : BitVec 54), Runs s c slot u y →
    LegalM y p (mBytes p) (fun t => mAddrBad t p || regBad t (mPair p) (iD p)) (mAddrRegs p ++ pairRegs (mPair p) (iD p)) true →
    mSp p = false → (∀ l ∈ y.lanes, inRegBlock (y.ea l p) = false) →
    Tab.wf Core.blank u.cores = true → Tab.wf 0#8 (u.core c).bench = true →
    Tab.wf Tray.blank (u.core c).trays = true →
      ∃ t, exec (.tSt c slot p) s = .next t ∧ t = { u with cores := t.cores }
        ∧ (∀ d, d ≠ c.val → t.core d = u.core d)
        ∧ (t.core c).tray slot = { y with pc := y.pc + 8, progress := 0 }
        ∧ (∀ a, Tab.get 0#8 (t.core c).bench a
            = match (y.storeBytes p).reverse.find? (fun b => b.1 = a) with
              | some b => b.2
              | none => Tab.get 0#8 (u.core c).bench a)

/-- R141, R142: the step of each operation is written out here from Table 5-9's list of operations. R147: the whole instruction, and one lane's step on a lock word. That the table's limit is checked after every other status is a
reading (log entry 41). -/
def Obligations.TrayAtomicsAndLocks : Prop :=
  (∀ (s u : State) (y : Tray) (c : CoreIx) (slot : Fin 16) (p : BitVec 54), Runs s c slot u y →
    let gives := fun (fpOnly cas : Bool) (step : Tray → Nat → Nat → Nat) (r : Res) =>
      LegalM y p (mBytes p) (atomBad p fpOnly cas) (atomSources p cas) false → ∀ q t, u.atomRun c slot p step = q → q.st = .ok →
        q.s.trayTaint c slot q.taint = t →
        r = .next ((t.setTray c slot (((t.core c).tray slot).atomResults p q.rets).next.cleared).tflags c
          (if q.rets.any (fun x => x.2.2) then tPoison else 0))
    gives false false (fun t l v => (v + t.atomB p l) % 2 ^ (8 * mBytes p)) (exec (.atomAdd c slot p) s)
    ∧ gives false false (fun t l v => (if sext (8 * mBytes p) (t.atomB p l) < sext (8 * mBytes p) v then t.atomB p l else v) % 2 ^ (8 * mBytes p)) (exec (.atomMin c slot p) s)
    ∧ gives false false (fun t l v => (if sext (8 * mBytes p) v < sext (8 * mBytes p) (t.atomB p l) then t.atomB p l else v) % 2 ^ (8 * mBytes p)) (exec (.atomMax c slot p) s)
    ∧ gives false false (fun t l v => (if t.atomB p l < v then t.atomB p l else v) % 2 ^ (8 * mBytes p)) (exec (.atomMinu c slot p) s)
    ∧ gives false false (fun t l v => (if v < t.atomB p l then t.atomB p l else v) % 2 ^ (8 * mBytes p)) (exec (.atomMaxu c slot p) s)
    ∧ gives false false (fun t l v => (v &&& t.atomB p l) % 2 ^ (8 * mBytes p)) (exec (.atomAnd c slot p) s)
    ∧ gives false false (fun t l v => (v ||| t.atomB p l) % 2 ^ (8 * mBytes p)) (exec (.atomOr c slot p) s)
    ∧ gives false false (fun t l v => (v ^^^ t.atomB p l) % 2 ^ (8 * mBytes p)) (exec (.atomXor c slot p) s)
    ∧ gives false false (fun t l _ => t.atomB p l % 2 ^ (8 * mBytes p)) (exec (.xchg c slot p) s)
    ∧ gives false true (fun t l v => if v = t.atomC p l then t.atomB p l else v) (exec (.cas c slot p) s)
    ∧ gives true false (fun t l v => (fpMin (BitVec.ofNat 32 v) (BitVec.ofNat 32 (t.atomB p l))).toNat) (exec (.atomFmin c slot p) s)
    ∧ gives true false (fun t l v => (fpMax (BitVec.ofNat 32 v) (BitVec.ofNat 32 (t.atomB p l))).toNat) (exec (.atomFmax c slot p) s)
    ∧ gives true false (fun t l v => (fadd32 (BitVec.ofNat 32 v) (BitVec.ofNat 32 (t.atomB p l))).toNat) (exec (.atomFadd c slot p) s))
  ∧ ((∀ (s u : State) (y z : Tray) (c : CoreIx) (slot : Fin 16) (p : BitVec 54) (lock : Bool) (r : LockAcc), Runs s c slot u y →
    u.lockRun c slot p lock = r →
    r.rets.foldl (fun u x => u.setReg x.1 (iD p) (BitVec.ofNat 32 x.2.1) x.2.2) ((r.s.core c).tray slot) = z →
    LegalM y p 8 (fun t => decide (mSize p ≠ 3) || mAddrBad t p || regBad t false (iD p)) (mAddrRegs p) false → mSp p = true → r.st = .ok →
      exec (if lock then .tLock c slot p else .tUnlock c slot p) s
        = .next ((r.s.setTray c slot (if r.got lock then z.next.cleared else z.next)).tflags c (r.tflags lock)))
  ∧ (∀ (s : State) (c slot lane w : Nat), lkReserved w = 0 →
      (lkHeld w = false → (s.core c).locks.length < 64 →
        s.lockStep c slot lane w = (lockWord (s.incarnOf c) c slot lane (lkCount w + 1), 0))
      ∧ (lkHeld w = false → 64 ≤ (s.core c).locks.length → s.lockStep c slot lane w = (w, 5))
      ∧ (lkHeld w = true → lkIncarn w = s.incarnOf (lkCore w) → lkCore w = c → lkSlot w = slot →
        s.lockStep c slot lane w = (w, if lkLane w = lane then 3 else 2))
      ∧ (lkHeld w = true → lkIncarn w = s.incarnOf (lkCore w) → ¬ (lkCore w = c ∧ lkSlot w = slot) → s.lockStep c slot lane w = (w, 1))
      ∧ (lkHeld w = true → lkCore w = c → lkSlot w = slot → lkLane w = lane → lkIncarn w = s.incarnOf c →
        s.unlockStep c slot lane w = (lkCount w, 0))
      ∧ (¬ (lkHeld w = true ∧ lkCore w = c ∧ lkSlot w = slot ∧ lkLane w = lane ∧ lkIncarn w = s.incarnOf c) →
        s.unlockStep c slot lane w = (w, 1))))

/-- R156, R157, R158. R165, R166, R167. -/
def Obligations.TrayCopiesAndSplits : Prop :=
  ((∀ (s u : State) (y : Tray) (c : CoreIx) (slot : Fin 16) (p : BitVec 54), Runs s c slot u y →
    formatYBad p = false → yCtr p < y.nctr →
    (∀ lane rest, y.lanes = lane :: rest →
      let src := y.addrIn lane (iD p) (ySsp p)
      let dst := y.addrIn lane (iA p) (yTsp p)
      let n := (y.reg lane (iB p)).toNat
      regBad y (ySsp p) (iD p) = false → regBad y (yTsp p) (iA p) = false → regBad y false (iB p) = false →
      (∀ k ∈ pairRegs (ySsp p) (iD p) ++ pairRegs (yTsp p) (iA p) ++ [iB p], y.poisoned lane k = false) →
      ¬ (ySsp p = true ∧ yTsp p = true) → n % 32 = 0 → 32 ≤ n → n ≤ 65536 → src % 32 = 0 → dst % 32 = 0 →
      (ySsp p = false → src + n ≤ benchSize) → (yTsp p = false → dst + n ≤ benchSize) →
        exec (.acp c slot p) s = .next ((u.onCore c (fun x => { x with acpId := x.acpId + 1 })).setTray c slot
          { y with
            pc := y.pc + 8, progress := 0, ctrs := Tab.modify 0 y.ctrs (yCtr p) (· + 1)
            copies := y.copies ++ [⟨(u.core c).acpId, yCtr p, src, dst, ySsp p, yTsp p, n⟩] }))
    ∧ (Tab.get 0 y.ctrs (yCtr p) ≤ yM p →
        exec (.waita c slot p) s = .next (u.setTray c slot { y with pc := y.pc + 8, progress := 0, wait := none }))
    ∧ (yM p < Tab.get 0 y.ctrs (yCtr p) → exec (.waita c slot p) s = .next (u.setTray c slot { y with wait := some (yCtr p, yM p) })))
  ∧ (∀ (s q t : State) (y z : Tray) (c : CoreIx) (slot : Fin 16) (id : Nat) (r : AcpRec) (m : Half) (poison : Bool),
    (s.core c).tray slot = y → y.copies.find? (fun r => r.id = id) = some r →
    (List.range (r.bytes / 32)).foldl (acpUnit { s.trayEnv c slot with strict := false } r) (s, .ok, y.taint, false) = (q, .ok, m, poison) →
    (q.trayTaint c slot (m &&& ~~~y.taint)).tflags c (if poison then tPoison else 0) = t → (t.core c).tray slot = z →
      exec (.acpComplete c slot id) s = .next (t.setTray c slot
        ({ z with copies := z.copies.filter (fun k => k.id ≠ id), ctrs := Tab.modify 0 z.ctrs r.ctr (fun v => v - 1) } : Tray).wake)))
  ∧ (∀ (s u : State) (x : Core) (y : Tray) (c : CoreIx) (slot : Fin 16) (p : BitVec 54) (l : Launch), Runs s c slot u y → u.core c = x →
    x.launchOf y = some l → u.serviceOk c l = true → formatSBad p = false → regBad y false (iD p) = false →
    (iA p = 0 →
      let fits := 32 ≤ y.width ∧ y.stack = [] ∧ y.copies = [] ∧ (∀ r ∈ x.locks, r.slot ≠ slot)
        ∧ x.regUsed + y.width / 2 * y.nreg * 4 ≤ regFileBytes
      (∀ n, fits → x.freeSlot = some n →
        exec (.tsplit c slot p) s = .next ((u.setTray c slot (y.next.halves.1.result (iD p) 0#32)).setTray c n (y.next.halves.2.result (iD p) 0#32)))
      ∧ (¬ fits ∨ x.freeSlot = none → exec (.tsplit c slot p) s = .next (u.setTray c slot (y.result (iD p) 1#32).next)))
    ∧ (∀ lane rest, y.lanes = lane :: rest → regBad y false (iA p) = false → y.poisoned lane (iA p) = false →
      let m := (y.reg lane (iA p)).toNat % 65536
      let v := u.setTray c slot { y with pack := some m }
      let all := (maskSlots m).all (fun i => decide (((v.core c).tray i).present ∧ ((v.core c).tray i).pack = some m ∧ ((v.core c).tray i).pc = y.pc))
      (m.testBit slot = false → exec (.tpack c slot p) s = .next (u.setTray c slot (y.result (iD p) 1#32).next))
      ∧ (m.testBit slot = true → all = false → exec (.tpack c slot p) s = .next v)
      ∧ (m.testBit slot = true → all = true → (v.core c).packOk (maskSlots m) = true →
          exec (.tpack c slot p) s = .next ((maskSlots m).foldl (fun t i => if i = (maskSlots m).headD 0 then t else t.setTray c i Tray.blank)
            (v.setTray c ((maskSlots m).headD 0) ((v.core c).packed (maskSlots m) (iD p)))))
      ∧ (m.testBit slot = true → all = true → (v.core c).packOk (maskSlots m) = false →
          exec (.tpack c slot p) s = .next ((maskSlots m).foldl (fun t i =>
            t.setTray c i { (((t.core c).tray i).result (iD p) 1#32).next with pack := none }) v))))

/-- R124, R125, R127, R153, R155, R159. -/
def Obligations.TrayLaunchAndEnd : Prop :=
  (∀ (s : State) (c : CoreIx) (pl : BitVec 92) (crc : Word), DescriptorRuns s c 9 pl crc →
    let x := s.core c
    (x.launches.filter (fun l => l.started < l.ntrays)).length < 5 → s.launchBad c pl = false →
      exec (.launch c pl crc) s = .next ((s.onCore c (fun x => ({ x.taken with
        launches := x.launches ++ [({
          id := x.launchId, width := 16 * 2 ^ bits 91 90 pl, nreg := 8 * (bits 89 87 pl + 1), nctr := bits 86 83 pl, ntrays := bits 82 67 pl + 1
          code := 8 * bits 66 51 pl, args := 4 * bits 50 34 pl, dmax := bits 33 26 pl + 1, spill := 16 * bits 25 11 pl, strict := bitAt pl 10
          service := bitAt pl 9, scen := bitAt pl 8, sc := bits 7 5 pl, ctx := (s.core c).task.ctx, taint := (s.core c).workTaint
          started := 0, ended := 0 } : Launch)]
        launchId := x.launchId + 1 }).scAdd (bitAt pl 8) (bits 7 5 pl))).clearQfull c 9))
  ∧ (∀ (s : State) (c : CoreIx) (slot : Fin 16) (l : Launch),
    let x := s.core c
    x.launches.find? (fun l => l.started < l.ntrays) = some l → (x.tray slot).present = false →
    x.regUsed + l.width * l.nreg * 4 ≤ regFileBytes → x.ctrUsed + l.nctr ≤ 64 →
      exec (.trayStart c slot) s = .next ((s.setTray c slot { Tray.blank with
        present := true, launch := l.id, width := l.width, nreg := l.nreg, nctr := l.nctr, trayix := l.started
        pc := l.code, active := allLanes l.width }).onCore c (fun x =>
          { x with launches := setLaunch l.id (fun l => { l with started := l.started + 1 }) x.launches })))
  ∧ (∀ (s t : State) (c : CoreIx) (slot : Fin 16),
    let y := (s.core c).tray slot
    y.present = true → y.ending = true → y.copies = [] → s.releaseLocks c (fun r => r.slot = slot) = some t →
      let t1 := t.tflags c ((if (s.core c).locks.any (fun r => r.slot = slot) then tLockleak else 0) + (if y.cancelled then tCancelled else 0))
      let t2 := if y.cancelled then t1.lastSlot c slot else t1
      exec (.trayEnd c slot) s = .next (((t2.setTray c slot Tray.blank).onCore c (fun x =>
        { x with launches := setLaunch y.launch (fun l => { l with ended := l.ended + 1 }) x.launches })).launchDone c y.launch))
  ∧ (∀ (s : State) (c : CoreIx) (slot : Fin 16),
    let y := (s.core c).tray slot
    y.present = true → y.trap = 0 → y.ending = false →
      exec (.livelock c slot) s = .next (((s.setTray c slot { y with progress := 2 ^ 20 }).trayTrap c slot 0x26 false 0).tflags c tLivelock))

/-- R259, R260, R265 to R267. That PENDING becomes DONE only for the requester's last closing is a reading (log entry 64). -/
def Obligations.EpochCommands : Prop :=
  (∀ (s : State) (who : Fin 34) (w : BitVec 28),
    (epReserved w = false → ∀ p, s.epPart who w = some p →
      (∀ e, (List.range 16).find? (fun e => (s.epoch e).st = 0) = some e →
        exec (.openEpoch who w) s = .next ((s.setEpoch e ⟨1, p, (s.epoch e).cause, false⟩).setEpres who 0 e))
      ∧ ((∀ e, e < 16 → (s.epoch e).st ≠ 0) → exec (.openEpoch who w) s = .next (s.setEpres who 2 0)))
    ∧ (epReserved w = false → s.epPart who w = none → exec (.openEpoch who w) s = .next (s.setEpres who 3 0))
    ∧ (EpochsOpen s who w →
      (who.val < 32 → exec (.join who w) s
        = .next ((s.setCluster who { s.cluster who with dtaint := (s.cluster who).dtaint ||| epMask w }).setEpres who 0 0))
      ∧ exec (.commit who w) s = .next ((s.commitEpochs (epMask w) who).setEpres who 1 0)
      ∧ exec (.cancel who w) s = .next ((s.cancelEpochs (epMask w) 0 who).setEpres who 1 0)))
  ∧ (∀ (s t : State) (m : Half) (cancel : Bool) (k : Closing), s.market.closings.find? (fun k => k.mask = m ∧ k.cancel = cancel) = some k →
    s.inFlight m = false →
    (List.range 16).foldl (fun s e => if m.getLsbD e then s.setEpoch e ⟨0, 0, (s.epoch e).cause, false⟩ else s) s = t →
    ∀ u, { t with market := { t.market with closings := t.market.closings.filter (· ≠ k) } } = u →
    exec (if cancel then .cancelComplete m else .commitComplete m) s
      = .next (if (s.market.closings.filter (fun y => y.who = k.who)).getLast? = some k ∧ u.epresStatus k.who = 1 then u.setEpres k.who 0 0 else u))
  ∧ (∀ (s : State) (sector : Nat) (taint m : Half), maskWhere taint (fun e => (s.epoch e).st = 1) = m → m ≠ 0#16 → s.shadowBlocked (sector / 4) m = true →
    exec (.draftFull sector taint) s
      = .next (((s.cancelEpochs m 1 34).mktCount (fun k => { k with full := k.full + maskCount m })).event 0x32 2 m.toNat (s.maskPart m)))

/-- R259, R265, R266. -/
def Obligations.EpochsClose : Prop :=
  ∀ (s : State) (m : Half) (cancel : Bool) (cause who e : Nat), Tab.wf Epoch.blank s.market.epochs = true → e < 16 →
    (s.closeEpochs m cancel cause who).epoch e
      = (if m.getLsbD e then ⟨2, (s.epoch e).part, if cancel then cause else (s.epoch e).cause, cancel⟩ else s.epoch e)
    ∧ (s.closeEpochs m cancel cause who).market.closings = s.market.closings ++ [⟨m, cancel, who⟩]
    ∧ (s.closeEpochs m cancel cause who).cores = s.cores ∧ (s.closeEpochs m cancel cause who).hbm = s.hbm

/-- R141, R142, R219, R220, R249, R252. -/
def Obligations.MarketRequests : Prop :=
  (∀ (s : State) (acc : Acc) (addr n : Nat) (core : Option CoreIx) (r : URead), s.heldAtEntry acc addr = false →
    (piecesOf 32 addr n).foldl (agentPiece false acc) ⟨s, .ok, [], [], 0#16, 0, false⟩ = r → r.st = .ok →
    exec (.marketRead acc addr n core) s = .next ((r.s.staleOf core (decide (r.stale ≠ 0))).emit .sender 2
      [leNat r.bytes, if r.poison then 1 else 0, if r.stale = 0 then 0 else 1, r.taint.toNat]))
  ∧ (∀ (s : State) (acc : Acc) (addr : Nat) (bytes : List Byte) (poison : Bool) (r : WrAcc), s.heldAtEntry acc addr = false →
    (piecesOf 32 addr bytes.length).foldl (agentWritePiece acc poison) ⟨s, .ok, bytes⟩ = r → r.st = .ok →
    exec (.marketWrite acc addr bytes poison) s = .next (r.s.emit .sender 2 []))
  ∧ (∀ (s t : State) (acc : Acc) (op : AtomOp) (wide : Bool) (addr n : Nat) (lanes : List (Nat × Nat)) (v : View), s.heldAtEntry acc addr = false →
    (if wide then 8 else 4) = n → s.modifySector acc (addr / 32) true (sectorUpdate (addr % 32) n (fun w => atomEnd op n w lanes)) = (t, .ok, v) →
    exec (.stallAtomic acc op wide addr lanes) s = .next (t.emit .sender 2 ((if v.poison then 1 else 0) :: v.taint.toNat ::
      (if v.poison then lanes.map (fun _ => leNat (sliceSector (addr % 32) n v.data)) else atomChain op n (leNat (sliceSector (addr % 32) n v.data)) lanes))))
  ∧ (∀ (s : State) (acc : Acc) (sector fmt : Nat) (elems : List (Nat × FoldOperand)) (source st set : Nat), s.addrOk (32 * sector) = true →
    s.maskCancelled acc.taint = false → s.lineHome (sector / 4) = some (st, set) → (Tab.get [] s.market.foldQ st).length < 256 →
    ((Tab.get [] s.market.foldQ st).filter (fun r => r.sector / 4 = sector / 4)).length < 64 →
    exec (.foldInArrive acc sector fmt elems source) s = .next { s with market := { s.market with
      foldQ := Tab.set [] s.market.foldQ st (Tab.get [] s.market.foldQ st ++ [⟨sector, fmt, elems, acc.taint, acc.pageU, acc.anchor, acc.mir, source⟩]) } })
  ∧ (∀ (s t : State) (stall : StallIx) (r : FoldReq) (rest : List FoldReq) (e : FoldEnd), Tab.get [] s.market.foldQ stall = r :: rest →
    s.foldApply r.acc r.sector r.fmt r.elems = (t, .ok, e) →
    exec (.foldUnitApply stall) s = .next (({ t with market := { t.market with foldQ := Tab.set [] t.market.foldQ stall rest } }).emit .sender 5
      [r.source, if e.refused then 1 else 0, if e.flags.sat then 1 else 0, if e.flags.lostlow then 1 else 0, if e.flags.nan then 1 else 0]))
  ∧ (∀ (s t u : State) (acc : Acc) (n : Nat) (h : HbmSector), isHbmAddr (32 * n) = true → s.addrOk (32 * n) = true → s.lineClosed (n / 4) = false →
    (s.sector n).base = .absent → s.ensureLine acc (n / 4) = some t → t.hbmRead acc n = (u, h) →
    exec (.cacheFill acc n) s = .next (u.setSector n { u.sector n with
      base := .valid, data := h.data, chk := h.chk, dirty := false, pageU := acc.pageU, anchor := acc.anchor, mir := acc.mirAt n }))

/-- R219, R220: for cached HBM space and for market direct space. -/
def Obligations.ReadAfterWrite : Prop :=
  ∀ (s t : State) (acc : Acc) (n : Nat) (d : BitVec 256) (poison : Bool), acc.taint = 0#16 → acc.ldl = false → acc.pageU = 0 → acc.mir = none →
    s.foldQueued (n / 4) = false → s.writeSector acc n d poison = (t, .ok) →
    ∃ u, t.readSector acc n = (u, .ok, ⟨d, poison, false, 0#16⟩)

/-- R219, R222, R225, R226, R257, Table 7-3. -/
def Obligations.EvictionAndReservations : Prop :=
  (∀ (s s0 s1 s2 : State) (line st set : Nat) (secs : List Sector), s.drainLine line = s1 → s.lineHome line = some (st, set) → (s.line line).row1 ≠ 0 →
    s.lineClosed line = false → s1.foldQueued line = false → (lineSectors line).foldl State.closeSector (s1, []) = (s0, secs) →
    ((lineSectors line).foldl (fun s n => s.setSector n { Sector.blank with sh := (s.sector n).sh }) s0).setLine line LineRec.blank = s2 →
    exec (.eviction line) s = .next (if secs.any (fun x => (x.base = .valid && x.dirty) || x.base = .partl) then
      { s2 with market := { s2.market with
        closed := s2.market.closed ++ [⟨line, st, set, (s1.line line).row1 - 1, secs.map (fun x => { x with sh := Shadow.none })⟩] } } else s2))
  ∧ (∀ (s t : State) (line : Nat) (c : ClosedWay), s.market.closed.find? (fun c => c.line = line) = some c →
    (s.stack (stackOf (128 * line))).writeQ.length + 4 ≤ 256 → (s.stack (stackOf (128 * line))).mergeQ.length + 4 ≤ 64 →
    c.secs.zipIdx.foldl (fun s x => s.acceptSector (4 * line + x.2) x.1) s = t →
    exec (.writebackAccept line) s = .next { t with market := { t.market with closed := t.market.closed.filter (· ≠ c) } })
  ∧ (∀ (s : State) (who entry : Fin 16) (kind i part q row0 rows : Nat), 0x4010 + entry.val = i → Accepts s who i (s.authPlain who) →
    s.staged who i 2 0 = part → s.staged who i 3 0 = q → s.staged who i 4 0 = row0 → s.staged who i 5 0 = rows →
    (∀ t, s.rsvRefusal entry kind part q row0 rows = 0 → s.rsvSet entry kind part q row0 rows = some t →
      exec (.rsvApply who entry kind) s = .next (((t.rsvKeep entry kind part q row0 rows).remapBar4 kind).answer 0))
    ∧ (∀ e, e ≠ 0 → s.rsvRefusal entry kind part q row0 rows = e → exec (.rsvApply who entry kind) s = .next (s.answer e))
    ∧ (∀ t, s.rsvInUse entry = false → (s.rsv entry).kind ≠ 0 →
      s.releaseFrames (s.rsv entry).quarter (64 * (s.rsv entry).row0) (64 * (s.rsv entry).rows) = t →
      exec (.rsvRelease who entry) s = .next (((({ t with market := { t.market with rsv := Tab.set Rsv.blank t.market.rsv entry Rsv.blank } }).keepVal i 1 1 0)
        |>.remapBar4 (s.rsv entry).kind).answer 0))
    ∧ (s.rsvInUse entry = false → (s.rsv entry).kind = 0 → exec (.rsvRelease who entry) s = .next ((s.keepVal i 1 1 0).answer 0))
    ∧ (s.rsvInUse entry = true → exec (.rsvRelease who entry) s = .next (s.answer 0x0401)))

/-- R274, R276, R298, Table 9-9. -/
def Obligations.RunnerRings : Prop :=
  (∀ (s s1 : State) (who : Fin 16) (unit ch ctx ring ent : Nat) (r : URead), Accepts s who 0x4100 (s.authPlain who) →
    s.staged who 0x4100 1 0 = unit → s.staged who 0x4100 2 0 = ch → s.staged who 0x4100 3 0 = ctx → s.staged who 0x4100 4 0 = ring →
    s.staged who 0x4100 5 4 = ent →
    unit ≤ 15 → ch ≤ 63 → ctx ≤ 4095 → 4 ≤ ent → ent ≤ 16 → ring % 128 = 0 → ring + 128 * (2 ^ ent + 1) ≤ 2 ^ 56 → (s.chan unit ch).bound = false →
    s.runnerOk unit = true → (s.ctx ctx).active = true → (s.ctx ctx).part = (s.quarterPart (unit / 4)).getD 4 →
    s.allPlaced ctx ring (128 * (2 ^ ent + 1)) = true → (s.sealed (s.ctx ctx).part && s.windowCovers ctx ring (128 * (2 ^ ent + 1))) = false →
    s.setChan unit ch { Chan.blank with bound := true, ctx := ctx, ring := ring, ent := ent, st := 1 } = s1 →
    s1.agentRead (s1.chanAgent unit ch 0#16) ring 24 = r →
    let tail := leNat (r.bytes.take 8)
    let done := leNat ((r.bytes.drop 16).take 8)
    exec (.rbBind who) s = .next ((((r.s.onChan unit ch (fun x => { x with done := done, ann := if later done tail then [(tail, 0#16)] else [] })).writeHeader
      unit ch).answer 0).applied who 0x4100 rbSubs))
  ∧ (∀ (s : State) (who : Fin 16) (unit ch : Nat), Accepts s who 0x4100 (s.authPlain who) → s.staged who 0x4100 1 0 = unit →
    s.staged who 0x4100 2 0 = ch → unit ≤ 15 → ch ≤ 63 → (s.chan unit ch).bound = true → (s.chan unit ch).st ≠ 2 → (s.chan unit ch).st ≠ 4 →
    exec (.rbUnbind who) s = .next ((((s.chanState unit ch 0).setChan unit ch Chan.blank).answer 0).applied who 0x4100 rbSubs))
  ∧ (∀ (s : State) (unit : Fin 18) (ch : Fin 256) (tail : DWord) (m : Half) (x : Chan), s.chan unit ch = x → x.bound = true →
    exec (.ringTailReport unit ch tail m) s
      = .next ((s.setChan unit ch { x with
          waiting := x.waiting ++ [(tail.toNat % 2 ^ 64, m)]
          reps := x.reps ++ [(tail.toNat % 2 ^ 64, s.bell.count)] }).chanSettle unit ch))

/-- R275 to R280, R284, R288, R289, R295, R299: `State.carryOn` is the job run bag by bag. -/
def Obligations.RunnerJobs : Prop :=
  (∀ (s : State) (runner : StackIx) (ch : Fin 64) (x : Chan), s.chan runner ch = x → x.bound = true → x.st ≠ 3 →
    let row := fun (op : Nat) => if op = 0 then Instr.pool runner ch else if op = 1 then .spmv runner ch else if op = 2 then .spmtv runner ch else .prefetchJob runner ch
    ∀ op, op < 4 →
      (∀ j, x.run = some j → j.ended = false → rdOp j.desc = op → (s.runJob runner ch j).wait = false →
        exec (row op) s = .next (((s.runJob runner ch j).s.jobCounts runner j (s.runJob runner ch j).j).onChan runner ch (fun x =>
          { x with run := some (s.runJob runner ch j).j, st := if x.st = 4 then 4 else 2 })))
      ∧ (∀ num m r d, x.run = none → s.runnerOk runner = true → x.next = .job num m → s.activeJobs runner < 8 → s.noNewWork = false →
        s.agentRead (s.chanAgent runner ch m) (x.slot num) 64 = r → r.st = .ok → r.poison = false → BitVec.ofNat 512 (leNat r.bytes) = d →
        jobCrcOk d = true → jobBad d = false → rdOp d = op →
        let j : RunJob := ⟨num, d, m ||| r.taint, decide (m ≠ 0#16), 0, 0, 0, 0, 0, 0, 0, false, false, []⟩
        exec (row op) s = .next (((r.s.chanState runner ch (if x.st = 4 then 4 else 2)).onChan runner ch (fun x => { x with run := some j })).carryOn runner ch j)))
  ∧ (∀ (s : State) (runner : StackIx) (ch : Fin 64) (j : RunJob), (s.chan runner ch).run = some j → j.ended = true → j.mask = 0#16 →
    (j.status = 0 ∨ j.status = 6 → exec (.runnerJobDone runner ch) s = .next ((s.putRecord runner ch j j.status).chanDone runner ch (j.num + 1)))
    ∧ (j.status ≠ 0 → j.status ≠ 6 → (s.chan runner ch).st ≠ 3 → exec (.runnerHalt runner ch) s
      = .next ((({ s with fabric := { s.fabric with
          runners := Tab.modify Runner.blank s.fabric.runners runner (fun y => { y with halts := y.halts + 1 }) } }).putRecord runner ch j j.status).chanState runner ch 3)))

/-- R305 to R312, R318, R629. That CREATE keeps the fault counter is a reading (log entry 77). -/
def Obligations.PagerCommands : Prop :=
  (∀ (s : State) (who : Fin 16) (a : CxArgs), s.cxArgs who = a → Accepts s who 0x4200 (s.authPlain who) → a.id ≤ 4095 →
    (a.part ≤ 3 → a.half ≤ 1 → a.pmin ≤ a.pmax → (s.ctx a.id).active = false → (s.partQuarters a.part).all (fun q => quarterHalf q ≠ a.half) = false →
      16 * (s.placeMins a.part a.id + a.pmin) ≤ s.placeCap a.part →
      exec (.cxCreate who) s = .next (((s.setCtx a.id ⟨true, a.part, a.half, a.hbm, a.pmax, a.pmin, 0#64, (s.ctx a.id).faults⟩).answer 0).applied who 0x4200 cxSubs))
    ∧ ((s.ctx a.id).active = true →
      (a.pmin ≤ a.pmax → 16 * (s.placeMins (s.ctx a.id).part a.id + a.pmin) ≤ s.placeCap (s.ctx a.id).part →
        exec (.cxSet who) s = .next (((s.setCtx a.id { s.ctx a.id with hbmQuota := a.hbm, placeMax := a.pmax, placeMin := a.pmin }).answer 0).applied who 0x4200 cxSubs))
      ∧ (s.sched.queues.any (fun e => decide (e.2.st ≠ qFree ∧ e.2.ctx = a.id)) = false → s.fabric.chans.any (fun e => e.2.bound && decide (e.2.ctx = a.id)) = false →
        s.ctxTasks a.id = false →
        (s.pager.ranges.filter (fun r => r.ctx = a.id)).any (fun r => s.rangeAliased r (fun x => decide (x ≠ a.id)) || s.rangeShadowed r) = false →
        exec (.cxDestroy who) s = .next (((((s.pager.ranges.filter (fun r => r.ctx = a.id)).foldl State.dropRange s).setCtx a.id
          { Ctx.blank with faults := (s.ctx a.id).faults }).answer 0).applied who 0x4200 cxSubs))
      ∧ exec (.cxSelect who) s = .next ((((((s.select who 0x4200 9 1 1).select who 0x4200 10 4 (s.ctxUsed a.id)).select who 0x4200 11 4 (s.ctxPlaced a.id)).select
          who 0x4200 12 8 (s.ctx a.id).faults).answer 0).applied who 0x4200 cxSubs)))
  ∧ (∀ (s : State) (who : Fin 16) (id : Nat), s.staged who 0x4200 1 0 = id → Accepts s who 0x4200 (s.authTenant who (s.ctx id).part) → id ≤ 4095 →
    (s.ctx id).active = true →
    exec (.cxSetkey who) s = .next ((((s.setCtx id { s.ctx id with key := BitVec.ofNat 64 (s.staged who 0x4200 7 0) }).unstage who 0x4200 7).answer 0).applied who 0x4200 cxSubs))
  ∧ (∀ (s : State) (who : Fin 16) (a : RgArgs), s.rgArgs who = a → Accepts s who 0x4210 (s.authPlain who) → (s.ctx a.ctx).active = true →
    (∀ (r : Range) (t : State), (⟨a.ctx, a.va, a.bytes, a.attr, false, 0, 0, false⟩ : Range) = r → spanMisfit (attrPS a.attr) a.va a.bytes = false →
      attrBad a.attr = false → s.rangeMeets a.ctx a.va a.bytes = false →
      s.tablesOf (s.pager.ranges ++ [r]) (s.ctx a.ctx).part ≤ s.pager.policy.tablePool (s.ctx a.ctx).part * 2 ^ 20 → s.addRange r = t →
      exec (.rgMap who) s = .next (((if attrMIR a.attr then
        t.firmRecord (s.ctx a.ctx).part 3 a.ctx a.va (leBytes 8 a.bytes ++ leBytes 4 a.attr.toNat ++ leBytes 20 0) else t).answer 0).applied who 0x4210 rgSubs))
    ∧ (∀ (o r : Range) (ova : Nat) (w : Bool), s.resolveSpan a.src a.srcVa a.bytes = some (o, ova, w) → spanMisfit (attrPS o.attr) a.va a.bytes = false →
      spanMisfit (attrPS o.attr) a.srcVa a.bytes = false → attrBad a.attr = false → (s.ctx a.src).active = true → (s.ctx a.ctx).part = (s.ctx a.src).part →
      s.rangeMeets a.ctx a.va a.bytes = false →
      (⟨a.ctx, a.va, a.bytes, if w && attrW a.attr then o.attr else o.attr &&& 0x7FFFFFFF#32, true, o.ctx, ova, false⟩ : Range) = r →
      s.tablesOf (s.pager.ranges ++ [r]) (s.ctx a.ctx).part ≤ s.pager.policy.tablePool (s.ctx a.ctx).part * 2 ^ 20 →
      exec (.rgAlias who) s = .next (((s.addRange r).answer 0).applied who 0x4210 rgSubs))
    ∧ (∀ (r : Range) (x : List Nat × Nat × Word), s.rangeAt a.ctx a.va = some r → s.rangePages r = x →
      (∀ (pins placed pages : Nat) (t : State), (x.1.filter (fun va => !(s.page (pageKey x.2.1 va)).v || !s.pinned (s.page (pageKey x.2.1 va)))).length = pins →
        (x.1.filter (fun va => (s.page (pageKey x.2.1 va)).loc ≠ 1)).length = placed → (x.1.filter (fun va => !(s.page (pageKey x.2.1 va)).v)).length = pages →
        100 * (s.partPlacedPinned (s.ctx x.2.1).part + pins * pageFrames (attrPS x.2.2)) ≤ s.pager.policy.pinPct * s.placeCap (s.ctx x.2.1).part →
        s.ctxPlaced x.2.1 + placed * pageKiB (attrPS x.2.2) ≤ (s.ctx x.2.1).placeMax * 1024 → attrPLACE x.2.2 ≠ 1 →
        s.ctxUsed x.2.1 + pages * pageKiB (attrPS x.2.2) ≤ (s.ctx x.2.1).hbmQuota * 1024 → State.homesFor x.2.1 x.2.2 x.1 s = true →
        x.1.foldl (State.pinPage x.2.1 x.2.2) s = t →
        exec (.rgPin who) s = .next (if t.pinDone a.ctx a.va then (t.answer 0).applied who 0x4210 rgSubs
          else ({ t with pager := { t.pager with pinWait := t.pager.pinWait ++ [(who.val, a.ctx, a.va)] } }).applied who 0x4210 rgSubs))
      ∧ exec (.rgUnpin who) s = .next (((x.1.foldl (fun s va => if (s.page (pageKey x.2.1 va)).v then
          s.setPage (pageKey x.2.1 va) { s.page (pageKey x.2.1 va) with pin := false } else s) s).answer 0).applied who 0x4210 rgSubs)
      ∧ exec (.rgSelect who) s = .next (((s.select who 0x4210 8 16 (s.leafEntry (s.page (pageKey (r.owner a.va).1
          (pageStart (attrPS (s.ownerAttr r a.va)) (r.owner a.va).2))))).answer 0).applied who 0x4210 rgSubs))
    ∧ (∀ (r : Range) (t : State), s.pager.ranges.find? (fun r => r.ctx = a.ctx ∧ r.va = a.va) = some r → (r.isAlias = false → s.rangeAliased r (fun _ => true) = false) →
      s.rangeShadowed r = false → s.ringHolds r.ctx r.va r.bytes = false →
      (r.isAlias = false → s.pager.ranges.any (fun x => x.isAlias && decide (x.srcCtx = r.ctx ∧ r.va ≤ x.srcVa ∧ x.srcVa < r.va + r.bytes)
        && s.ringHolds x.ctx x.va x.bytes) = false) → s.dropRange r = t →
      exec (.rgFree who) s = .next (({ t with pager := { t.pager with shootWait := t.pager.shootWait ++ [who.val] } }).applied who 0x4210 rgSubs)))

/-- R317 to R320, R325, R327, R328. -/
def Obligations.PagerOperations : Prop :=
  (∀ (s t : State) (core : Option CoreIx) (cluster : ClusterIx) (ctx : Fin 4096) (va : Nat) (write : Bool) (w : Who), s.walkWho core cluster = w →
    s.pagerCount (fun c => { c with walks := c.walks + 1 }) = t →
    (∀ cause, s.trCause w ctx va write = some cause → exec (.walk core cluster ctx va write) s = .next ((t.trFault w ctx va cause).emit .core 2 [cause]))
    ∧ (∀ (r : Range) (o : Nat × Nat) (start : Nat) (p : Page), s.trCause w ctx va write = none → s.rangeAt ctx va = some r → r.owner va = o →
      pageStart (attrPS (s.ownerAttr r va)) o.2 = start → s.page (pageKey o.1 start) = p →
      exec (.walk core cluster ctx va write) s = .next (if p.v then t.emit .core 0 [p.phys (o.2 - start)] else t.emit .core 1 []))
    ∧ (∀ phys acc w', (s.translate w ctx va write).2 = .ok phys acc w' →
      exec (.demandAlloc core cluster ctx va write) s = .next ((s.translate w ctx va write).1.emit .core 0 [phys]))
    ∧ (∀ cause, (s.translate w ctx va write).2 = .fault cause →
      exec (.demandAlloc core cluster ctx va write) s = .next ((s.translate w ctx va write).1.emit .core 2 [cause])))
  ∧ (∀ (s : State) (who : Nat) (rest : List Nat), s.pager.shootWait = who :: rest →
    exec .shootdownComplete s = .next ((({ s with pager := { s.pager with shootWait := rest } }).pagerCount (fun c => { c with shootdowns := c.shootdowns + 1 })).answerLate
      (freeTag who) 0))
  ∧ (∀ (s : State) (cache : Fin 288) (ctx : Fin 4096) (va key : Nat) (r : Range), s.rangeAt ctx va = some r →
    pageKey (r.owner va).1 (pageStart (attrPS (s.ownerAttr r va)) (r.owner va).2) * 512 + cache.val = key → Tab.get 0 s.pager.gathered key ≠ 0 →
    exec (.heatFlush cache ctx va) s = .next (s.flush (key, Tab.get 0 s.pager.gathered key)))
  ∧ (∀ (s t : State), s.bell.count % s.policyNow.interval = 0 → { s with pager := { s.pager with policy := s.policyNow } } = t →
    exec .pagerInterval s = .next ((List.range 4).foldl State.interval (t.pager.gathered.foldl State.flush t)).retryPins)
  ∧ (∀ (s : State) (ctx : Fin 4096) (va : Nat) (p : Page), s.page (pageKey ctx va) = p →
    (attrPLACE p.attr ≠ 1 → exec (.promote ctx va) s = .next (s.tryPromote (pageKey ctx va)).settlePins)
    ∧ (p.v = true → p.loc = 1 → s.pinned p = false → s.pageShadowed p = false → exec (.demote ctx va) s = .next (s.demotePage (pageKey ctx va))))

/-- R309, R310. -/
def Obligations.RangesDisjoint : Prop :=
  ∀ (s t : State) (who : Fin 16), RangesApart s.pager.ranges → (exec (.rgMap who) s = .next t ∨ exec (.rgAlias who) s = .next t) →
    RangesApart t.pager.ranges

/-- R337, R338, R340, R341, R348, R473. -/
def Obligations.DoorbellsAndChecks : Prop :=
  (∀ (s : State) (path : Fin 3) (who : Fin 34) (q : Fin 1048576) (tail : DWord) (whole lcl : Bool), decide (path.val = prodLocal ∧ who.val < 32) = lcl →
    (path.val = prodHost → s.host.lanes = 0 → exec (.doorbell path who q tail whole) s = .next s)
    ∧ (path.val = prodHost → s.host.lanes ≠ 0 → s.host.d3hot = true →
      exec (.doorbell path who q tail whole) s = .next { s with host := { s.host with ur := s.host.ur + 1 } })
    ∧ ((path.val = prodHost → s.host.lanes ≠ 0 ∧ s.host.d3hot = false) →
      (whole = false ∨ (lcl = true ∧ s.clusterPart who ≠ some (s.queuePart q)) ∨ s.partResetting (s.queuePart q) = true →
        exec (.doorbell path who q tail whole) s = .next (s.ignoreBell q))
      ∧ (whole = true → (lcl = true → s.clusterPart who = some (s.queuePart q)) → s.partResetting (s.queuePart q) = false →
        exec (.doorbell path who q tail whole) s = .next (s.ringQueue q path tail.toNat (if lcl then (s.cluster who).dtaint else 0#16)))))
  ∧ (∀ (s : State) (q : Fin 1048576) (tagOk : Bool) (x : Queue) (e : QEntry) (r : State × MemSt × View × View) (w : BitVec 512), s.queue q = x →
    x.head = some e → x.st = qEnabled → e.st = 0 → s.readSlot q e.num e.mask = r → entryWord r.2.2.1 r.2.2.2 = w →
    (∀ t, r.2.1 = .ok ∨ r.2.1 = .fault → (r.2.1 = .fault ∨ r.2.2.1.poison = true ∨ r.2.2.2.poison = true ∨ entryBad w e.num = true) → r.1.endHead q e w 4 = t →
      exec (.entryCheck q tagOk) s = .next { t with sched := { t.sched with rejected := t.sched.rejected + 1 } })
    ∧ (∀ c, r.2.1 = .ok → r.2.2.1.poison = false → r.2.2.2.poison = false → entryBad w e.num = false → r.1.checkSeal q e.num e.mask tagOk = c → c.2.1 = .ok →
      (∀ t, c.2.2 = false → (c.1.authFailed (2 ^ 32 + q) (c.1.queuePart q)).endHead q e w 4 = t →
        exec (.entryCheck q tagOk) s = .next { t with sched := { t.sched with rejected := t.sched.rejected + 1 } })
      ∧ (c.2.2 = true → weKind w = 1 → exec (.entryCheck q tagOk) s = .next (c.1.endHead q e w 0))
      ∧ (∀ t, c.2.2 = true → weKind w = 0 → x.cls ≤ 5 → x.latedrop = true → weDeadline w ≠ 0 → s.bell.count > e.arrB + weDeadline w → c.1.endHead q e w 5 = t →
        exec (.entryCheck q tagOk) s = .next { t with sched := { t.sched with expired := t.sched.expired + 1 } })
      ∧ (c.2.2 = true → weKind w ≠ 1 → (weKind w = 2 ∨ x.cls > 5 ∨ x.latedrop = false ∨ weDeadline w = 0 ∨ s.bell.count ≤ e.arrB + weDeadline w) →
        exec (.entryCheck q tagOk) s = .next (c.1.setQueue q ((c.1.queue q).setHead (fun z => { z with word := w, st := 1 }))))))
  ∧ (∀ (s : State) (q : Fin 1048576) (x : Queue) (e : QEntry), s.queue q = x → x.head = some e → x.st = qEnabled → e.st = 1 → weKind e.word = 2 →
    (x.infl = 0 → x.entries.any (fun z => decide (z.st = 4)) = false → exec (.barrierComplete q) s = .next (s.endHead q e e.word 0))
    ∧ (x.infl ≠ 0 → exec (.barrierComplete q) s = .next s.waits))

/-- R339, R343, R345, R350, R351, R353, R360. The hundredths of credit and the whole-number account are readings (log entry 86). -/
def Obligations.SelectionAndCompletion : Prop :=
  (∀ (s s0 s1 : State) (ns : Nat) (c : Cand) (branch core p cr : Nat) (x : Queue), s.noNewWork = false → s.joinBulk s.candidates = s0 →
    s0.choose s0.candidates = some (c, branch) → chooseCore (s0.coresFor c.q) c.e.word = some core → s0.part c = p → s0.queue c.q = x →
    Tab.get 0 s0.sched.credit p = cr →
    { s0 with sched := { s0.sched with
      credit := Tab.set 0 s0.sched.credit p (if branch = 1 then cr - 100 else if branch = 0 then min (cr + s0.val 0x6810 (8 + p) 10) 400 else cr)
      lastIdle := if branch = 3 then c.q else s0.sched.lastIdle
      dispMax := if branch = 0 then max ns s0.sched.dispMax else s0.sched.dispMax } } = s1 →
    exec (.selection ns) s = .next ((if x.cls = 6 then s1.setQueue c.q { x with v := x.v + 65536 / x.weight } else s1).dispatch c core))
  ∧ (∀ (s s1 : State) (q : Fin 1048576) (x y : Queue) (e : QEntry) (w z : State × AccSt), s.queue q = x → x.completes = some e →
    s.agentWrite s.schedAgent (x.cq + 32 * (x.completed % 2 ^ x.logsz)) (completionEntry e x.completed s.bell.count) false = w → w.2 = .ok →
    w.1.sealCompletion q x.completed = z → z.2 = .ok → z.1.queue q = y →
    z.1.setQueue q { y with completed := x.completed + 1, entries := y.entries.filter (fun d => decide (d.num ≠ e.num ∨ d.st ≠ 3)) } = s1 →
    ∀ t, { s1 with sched := { s1.sched with late := s1.sched.late + (if entryLate e s.bell.count then 1 else 0) } } = t →
    exec (.completionWrite q) s = .next (if x.prod = prodHost then t.askVector x.msix else t))
  ∧ (∀ (s : State), s.bell.count % s.val 0x6810 16 1000 = 0 →
    exec .queueMirror s = .next (s.sched.queues.foldl (fun s e => if e.2.st ≠ qFree then s.queueDone e.1 else s) s))

/-- R332, R334, R335, R360, R365, Table 11-9. That ENABLE of a DRAINING queue is ENABLED is a reading (log entry 90). -/
def Obligations.QueueCommands : Prop :=
  ∀ (s : State) (who : Fin 16) (a : WqArgs), s.wqArgs who = a → Accepts s who 0x6800 (s.authPlain who) →
    (∀ (x : Queue), a.created (s.wqSealed a) = x →
      (s.wqRefusal a x (s.queue a.id) true = 0 → exec (.wqCreate who) s = .next ((((s.setQueue a.id x).queueDesc a.id).answer 0).applied who 0x6800 wqSubs))
      ∧ (∀ e, s.wqRefusal a x (s.queue a.id) true = e → e ≠ 0 → exec (.wqCreate who) s = .next (s.answer e)))
    ∧ (∀ (old x : Queue), s.queue a.id = old → old.st ≠ qFree → (a.kept old).queue old.sealed old = x →
      (s.wqRefusal (a.kept old) x old false = 0 → exec (.wqSet who) s = .next ((((s.setQueue a.id x).queueDesc a.id).answer 0).applied who 0x6800 wqSubs))
      ∧ (∀ e, s.wqRefusal (a.kept old) x old false = e → e ≠ 0 → exec (.wqSet who) s = .next (s.answer e)))
    ∧ (∀ (x : Queue), s.queue a.id = x → a.id < 2 ^ 20 → x.st ≠ qFree →
      exec (.wqPause who) s = .next ((((s.setQueue a.id { x with st := if x.st = qEnabled then qPaused else x.st }).queueDone a.id).answer 0).applied who 0x6800 wqSubs)
      ∧ (x.st ≠ qMigrating → exec (.wqEnable who) s = .next (((s.setQueue a.id { x with st := qEnabled }).answer 0).applied who 0x6800 wqSubs))
      ∧ (∀ t, (s.setQueue a.id { x with st := qDraining }).dropEntries a.id = t →
        exec (.wqDrain who) s = .next ((((t.setQueue a.id (t.queue a.id).settle).queueDone a.id).answer 0).applied who 0x6800 wqSubs))
      ∧ (x.st = qPaused → x.infl = 0 → exec (.wqDestroy who) s = .next (((s.setQueue a.id Queue.blank).answer 0).applied who 0x6800 wqSubs))
      ∧ exec (.wqSelect who) s = .next (((s.select who 0x6800 16 64 (leNat x.descriptor)).answer 0).applied who 0x6800 wqSubs))

/-- R380, R388 to R391. The average in 2^-16 ns and the position of the round robin are readings (log entries 102 and 97). R372 to R379, R386, R393, R394, Table 12-10. -/
def Obligations.HbmStacks : Prop :=
  ((∀ (s : State) (j : Fin 16) (k : Stack) (pc : Fin 64), s.stack j = k →
    (∀ (a b : Nat) (r : HbmReq) (bulk : Bool) (x : HbmReq × Nat), s.hbmChoose k pc a b = some (r, bulk) → s.passRow k pc r = x →
      exec (.hbmArbitrate j pc a b) s = .next (s.setStack j { k.issue x.1 with
        passes := Tab.set 0 k.passes pc x.2, rr7 := if bulk then Tab.modify 0 k.rr7 pc (· + 1) else k.rr7 }))
    ∧ (∀ (ns : Nat) (r : HbmReq) (l : Int), k.inService.find? (fun r => hbmPc r.addr = pc.val) = some r → ((Tab.get 0 k.lat r.cls : Nat) : Int) = l →
      exec (.hbmReadComplete j pc ns) s = .next (s.setStack j { k with
        inService := k.inService.erase r, lat := if r.cls ≤ 5 then Tab.set 0 k.lat r.cls (l + ((ns * 2 ^ 16 : Int) - l) / 16).toNat else k.lat }))
    ∧ (∀ m rest, k.mergeQ = m :: rest → exec (.merge j) s = .next ((s.setStack j { k with mergeQ := rest }).mergeNow m))
    ∧ (100 * (k.readQ.length + k.writeQ.length) > s.val 0xA041 2 90 * 768 → exec (.congestionLevel j) s = .next (s.setStack j { k with level := 2 }))
    ∧ (100 * (k.readQ.length + k.writeQ.length) ≤ s.val 0xA041 2 90 * 768 → 100 * (k.readQ.length + k.writeQ.length) > s.val 0xA041 1 75 * 768 →
      exec (.congestionLevel j) s = .next (s.setStack j { k with level := 1 }))
    ∧ (100 * (k.readQ.length + k.writeQ.length) ≤ s.val 0xA041 2 90 * 768 → 100 * (k.readQ.length + k.writeQ.length) ≤ s.val 0xA041 1 75 * 768 →
      exec (.congestionLevel j) s = .next (s.setStack j { k with
        level := if 100 * (k.readQ.length + k.writeQ.length) < s.val 0xA041 3 60 * 768 then 0 else k.level })))
  ∧ (∀ s : State, exec .levelBroadcast s = .next { s with hbm := { s.hbm with netLevel := (List.range 6).foldl (fun t c =>
    Tab.set 0 t c ((List.range 16).foldl (fun m j => Nat.max m (s.latLevel (s.stack j) c)) 0)) s.hbm.netLevel } }))
  ∧ ((∀ (s : State) (j : Fin 16) (k : Stack) (pc : Fin 64), s.stack j = k →
    (∀ (bank : Fin 64) (key p : Nat), pc.val * 64 + bank.val = key → Tab.get 0 k.postponed key = p →
      ((k.readQ ++ k.writeQ).any (fun r => decide (hbmPc r.addr = pc.val ∧ hbmBank r.addr = bank.val) && s.urgent r) = true → p < 8 →
        exec (.refresh j pc bank) s = .next (s.setStack j { k with postponed := Tab.set 0 k.postponed key (p + 1), refPostponed := k.refPostponed + 1 }))
      ∧ ((k.readQ ++ k.writeQ).any (fun r => decide (hbmPc r.addr = pc.val ∧ hbmBank r.addr = bank.val) && s.urgent r) = false ∨ 8 ≤ p →
        exec (.refresh j pc bank) s = .next (s.setStack j { k with postponed := Tab.set 0 k.postponed key (p - 1), rowOpen := Tab.set 0 k.rowOpen key 0 })))
    ∧ (∀ t : Int, exec (.stackTempRead j (some t)) s = .next (s.setStack j { k with temp := t, band := bandOf k.band t, hotRequest := decide (t > 105) }).settleLevel)
    ∧ exec (.stackTempRead j none) s = .next (s.setStack j { k with band := bandOf k.band 106, hotRequest := true }).settleLevel
    ∧ (∀ idle, s.val 0x4310 7 256 ≠ 0 → s.val 0x4310 7 256 ≤ idle → (k.readQ ++ k.writeQ ++ k.inService).any (fun r => hbmPc r.addr = pc.val) = false →
      exec (.powerDownEntry j pc idle) s = .next (s.setStack j { k with poweredDown := Tab.set false k.poweredDown pc true }))
    ∧ (∀ ok, exec (.phaseRetrain j pc ok) s = .next
      (if ok then s.setStack j { k with parityRun := Tab.set 0 k.parityRun pc 0 } else (s.setStack j { k with parityRun := Tab.set 0 k.parityRun pc 0 }).fenceStack j))
    ∧ (∀ (attempt : Fin 5) (ok : Bool) (run : Nat) (t : State), Tab.get 0 k.parityRun pc + 1 = run →
      (attempt.val ≤ 3 → run < 16 →
        exec (.parityError j pc attempt ok) s = .next (s.setStack j { k with parity := k.parity + 1, parityRun := Tab.set 0 k.parityRun pc run }))
      ∧ (attempt.val = 4 ∨ 16 ≤ run →
        s.setStack j { k with
          parity := k.parity + (if attempt.val ≤ 3 then 1 else 0), parityRun := Tab.set 0 k.parityRun pc 0, retrains := k.retrains + 1 } = t →
        exec (.parityError j pc attempt ok) s = .next (if ok then t else t.fenceStack j)))
    ∧ (s.inService ukStack j = true → exec (.stackNotAnswering j) s = .next ((s.moveUnit ukStack j usFenced 9).event 0x31 4 j k.rate)))
  ∧ (∀ (s : State) (who : Fin 16) (w : Fin 64) (i base stop sources cls : Nat), 0xA000 + w.val = i → Accepts s who i (s.authPlain who) →
    s.staged who i 1 0 = base → s.staged who i 2 0 = stop → s.staged who i 3 0 = sources → s.staged who i 4 0 = cls →
    (∀ t, s.windowRefusal w base stop sources cls = 0 →
      ((((s.keepVal i 1 8 base).keepVal i 2 8 stop).keepVal i 3 2 sources).keepVal i 4 1 cls).keepVal i 5 1 1 = t →
      exec (.rwEnable who w) s = .next (({ t with hbm := { t.hbm with windows := Tab.set RegWindow.blank t.hbm.windows w ⟨true, base, stop, sources, cls⟩ } }).answer 0))
    ∧ (∀ t, (s.window w).enabled = true → s.keepVal i 5 1 2 = t →
      exec (.rwDisable who w) s = .next (({ t with hbm := { t.hbm with windows := Tab.set RegWindow.blank t.hbm.windows w RegWindow.blank } }).answer 0))))

/-- R401, R405, R406. R409 to R411, Table 13-4. -/
def Obligations.StoredDataProtection : Prop :=
  ((∀ (s : State) (unit addr : Nat) (was : BitVec 256) (chk : Half),
    (∀ x p, s.sector addr = x → s.sectorPlace addr = p →
      (x.data = was → x.chk = chk → exec (.correctingWriteback 0 unit addr was chk) s = .next (match sectorDecide was chk with
        | .corrected i d => (s.setSector addr { x with data := d, chk := 0#16 }).eccWroteBack 0 p.1 i p.2
        | _ => s))
      ∧ (x.data ≠ was ∨ x.chk ≠ chk → exec (.correctingWriteback 0 unit addr was chk) s = .next s)
      ∧ (x.sh.data = was → x.sh.chk = chk → exec (.correctingWriteback 3 unit addr was chk) s = .next (match sectorDecide was chk with
        | .corrected i d => (s.setSector addr { x with sh := { x.sh with data := d, chk := 0#16 } }).eccWroteBack 0 p.1 i p.2
        | _ => s))
      ∧ (x.sh.data ≠ was ∨ x.sh.chk ≠ chk → exec (.correctingWriteback 3 unit addr was chk) s = .next s))
    ∧ (∀ x, s.hbmSector addr = x →
      (x = ⟨was, chk⟩ → exec (.correctingWriteback 1 unit addr was chk) s = .next (match s.hbmDecide addr x with
        | .corrected i d => (s.setHbmSector addr ⟨d, 0#16⟩).eccWroteBack 1 (stackOf (32 * addr)) i (32 * addr)
        | _ => s))
      ∧ (x ≠ ⟨was, chk⟩ → exec (.correctingWriteback 1 unit addr was chk) s = .next s))
    ∧ (∀ x e w, s.core unit = x → Tab.get 0#8 x.benchChk addr = e → Tab.le 0#8 x.bench (8 * addr) 8 = w →
      (e = BitVec.ofNat 8 chk.toNat → w = was.toNat % 2 ^ 64 → e ≠ 0#8 → e ≠ Config.wordPoison →
        exec (.correctingWriteback 2 unit addr was chk) s = .next (match Config.wordBit e with
        | some i => (s.setCore unit { x with
            bench := Tab.setLe 0#8 x.bench (8 * addr) 8 (if i < 64 then w ^^^ 2 ^ i else w), benchChk := Tab.set 0#8 x.benchChk addr 0#8 }).eccWroteBack
              2 unit i (8 * addr)
        | none => s))
      ∧ (e ≠ BitVec.ofNat 8 chk.toNat ∨ w ≠ was.toNat % 2 ^ 64 ∨ e = 0#8 ∨ e = Config.wordPoison →
        exec (.correctingWriteback 2 unit addr was chk) s = .next s)))
  ∧ (∀ s : State, (s.dev.st = 2 ∨ s.dev.st = 3 →
      exec (.scrubRead false) s = .next s.scrubMarket ∧ exec (.scrubRead true) s = .next s.scrubNextHbm)
    ∧ (s.dev.st ≠ 2 → s.dev.st ≠ 3 → ∀ b, exec (.scrubRead b) s = .next s)))
  ∧ ((∀ (s : State) (who : Fin 16) (kind unit addr : Nat), s.staged who 0x4420 1 0 = kind → s.staged who 0x4420 2 0 = unit → s.staged who 0x4420 3 0 = addr →
    Accepts s who 0x4420 (s.authPlain who) →
    (∀ t, s.retireRefusal kind unit addr = 0 → s.retire kind unit addr = some t →
      exec (.rtRetire who) s = .next ((t.applied who 0x4420 [(1, 1, 0), (2, 2, 0), (3, 8, 0)]).answer 0))
    ∧ (s.retireRefusal kind unit addr = 0 → s.retire kind unit addr = none → exec (.rtRetire who) s = .next s.waits)
    ∧ (∀ e, e ≠ 0 → s.retireRefusal kind unit addr = e → exec (.rtRetire who) s = .next (s.answer e))
    ∧ (unit < 288 → exec (.rtSelect who) s = .next ((s.select who 0x4420 5 1 (s.sparesLeft unit)).answer 0)))
  ∧ (∀ (s : State) (who : Fin 16) (mem a n data check : Nat) (u : TsUnit), s.val 0x4430 1 0 = mem → s.val 0x4430 2 0 = a → Accepts s who 0x4430 (s.authPlain who) →
    s.tsRefusal mem a = 0 → s.tsRead mem a = u → (if mem = 2 then 8 else 32) = n → s.val 0x4430 3 0 % 256 ^ n = data →
    s.val 0x4430 4 0 % 2 ^ (if mem = 2 then 8 else 16) = check →
    exec (.tsWriteData who) s = .next ((s.tsStore mem a data u.check).answer 0)
    ∧ exec (.tsWriteCheck who) s = .next ((s.tsStore mem a u.data check).answer 0)
    ∧ exec (.tsWriteBoth who) s = .next ((s.tsStore mem a data check).answer 0)
    ∧ exec (.tsReadRaw who) s = .next ((((s.setVal 0x4430 3 n u.data).setVal 0x4430 4 2 u.check).setVal 0x4430 6 1 u.decision).answer 0)))

/-- R424 to R426, R429, R432, R433, R438, R443, R444, R458. -/
def Obligations.FramesReceived : Prop :=
  (∀ (s t u : State) (port : Fin 18) (hdr : BitVec 512) (pmap tag : QWord) (payload : List Byte) (fcsOk tagOk ce : Bool) (r : RxFrame),
    s.inService ukPort port = true → s.setPort port { s.port port with rx := (s.port port).rx + 1 } = t →
    (⟨port, hdr, if frPx hdr then pmap else 0#128, payload, 0, ce⟩ : RxFrame) = r →
    (t.frameOk hdr pmap tag payload fcsOk = false → exec (.frameReceive port hdr pmap tag payload fcsOk tagOk ce) s = .next (t.fbCount 1 1))
    ∧ (t.frameOk hdr pmap tag payload fcsOk = true →
      (t.frameAuth hdr tagOk = false →
        exec (.frameReceive port hdr pmap tag payload fcsOk tagOk ce) s = .next ((t.fbCount 2 1).authFailed (2 * 2 ^ 32 + frSrc hdr) 0))
      ∧ (t.frameAuth hdr tagOk = true → (frType hdr ≠ tBeat ∨ frSrc hdr ≠ t.selfId) → t.hearPeer (frSrc hdr) = u →
        (u.redirectedFrame hdr = true → frType hdr ≤ 6 →
          exec (.frameReceive port hdr pmap tag payload fcsOk tagOk ce) s = .next (u.sendNack (port / 9) hdr 4 0))
        ∧ (u.redirectedFrame hdr = false →
          (8 ≤ frType hdr →
            exec (.frameReceive port hdr pmap tag payload fcsOk tagOk ce) s = .next { u with fabric := { u.fabric with rxQ := u.fabric.rxQ ++ [r] } })
          ∧ (frType hdr < 8 → (u.peer (frSrc hdr)).st ≠ 2 →
            exec (.frameReceive port hdr pmap tag payload fcsOk tagOk ce) s = .next (u.dataFrame r))))))
  ∧ (∀ (s : State) (e : Fin 2) (r : RxFrame) (h : BitVec 512), r.hdr = h →
    (∀ (w : Window) (a : Nat) (x : State × AccSt) (m : RxMsg), s.firstRx e tPut = some r → s.frameTarget h (frPlen h) = some (w, a) →
      State.writePayload (targetAgent w h e) r.pmap r.payload a 0 s = x → x.2 = .ok → (x.1.rxMsg e h).took (frPlen h / 32) (frPsn h) = m →
      (frColl h = false → (m.sectors < m.total ∨ frDb h = false) → exec (.putFrame e) s = .next (x.1.frameDone e r m))
      ∧ (frColl h = false → m.total ≤ m.sectors → frDb h = true → exec (.putFrame e) s = .next ((x.1.onFlow e (frSrc h) (fun f =>
        { f with bells := f.bells ++ [⟨frDbq h, frDbtail h, if w.kind = 1 then w.part + 1 else 0, m.psn⟩] })).frameDone e r m))
      ∧ (frColl h = true → frDb h = false → exec (.putFrame e) s = .next ((x.1.onColls (Coll.isOf h e) (fun c =>
        { c with puts := c.puts + (if m.total ≤ m.sectors then 1 else 0), flags := c.flags ||| (if m.total ≤ m.sectors then frCflags h else 0) ||| collPoison r })).frameDone
          e r m)))
    ∧ (∀ (w : Window) (a n : Nat) (x : State × AccSt × List Byte × Nat) (t : State), s.firstRx e tGetreq = some r →
      s.frameTarget h (32 * frSectors h) = some (w, a) → min (frSectors h - r.pos) (s.mtu / 32) = n →
      State.readSectors (targetAgent w h e) n (a + 32 * r.pos) 0 s = x → x.2.1 = .ok →
      x.1.sendData e
        { type := tGetresp, last := decide (frSectors h ≤ r.pos + n), plen := 32 * n, dst := frSrc h, deadline := frDeadline h,
          rclass := frRclass h, tkind := frTkind h, win := frWin h, addr := frAddr h + 32 * r.pos, msg := frMsg h, frag := r.pos / (s.mtu / 32),
          msectm1 := frSectors h - 1 } (some w.part) (BitVec.ofNat 128 x.2.2.2) x.2.2.1 = some t →
      exec (.getreq e) s = .next (if frSectors h ≤ r.pos + n then t.frameDone e r ((t.rxMsg e h).took (frSectors h) (frPsn h))
        else { t with fabric := { t.fabric with rxQ := t.fabric.rxQ.map (fun y => if y = r then { y with pos := r.pos + n } else y) } }))
    ∧ (∀ (m : Msg) (x : State × AccSt), s.firstRx e tGetresp = some r →
      s.fabric.msgs.find? (fun m => decide (m.engine = e.val ∧ m.num = frMsg h ∧ m.kind = tGetreq ∧ m.ended = 0)) = some m →
      State.writePayload (s.chanAgent (16 + e) m.chan 0#16) r.pmap r.payload (m.laddr + (frAddr h - m.raddr)) 0 s = x → x.2 = .ok →
      exec (.getresp e) s = .next (((x.1.onMsgs (fun y => decide (y = m)) (fun y =>
        { y with got := y.got + frPlen h / 32, poison := y.poison || decide (r.pmap ≠ 0#128) })).dropRx r).accept e (frSrc h) (frPsn h) r.ce))
    ∧ (∀ (w : Window) (a : Nat) (x : State × AccSt × Nat) (m m0 : RxMsg), s.firstRx e tFold = some r → s.frameTarget h (frPlen h) = some (w, a) →
      State.foldPayload (targetAgent w h e) (frFmt h) (frAnchor h) r.pmap r.payload a 0 s = x → x.2.1 = .ok →
      (x.1.rxMsg e h).took (frPlen h / 32) (frPsn h) = m0 → { m0 with flags := m0.flags ||| x.2.2 } = m → frColl h = false →
      (m.sectors < m.total → exec (.foldFrame e) s = .next (x.1.frameDone e r m))
      ∧ (∀ t, m.total ≤ m.sectors →
        x.1.sendData e { type := tDone, last := true, dst := frSrc h, msg := frMsg h, body := m.flags * 2 ^ 252 } (some w.part) 0#128 [] = some t →
        exec (.foldFrame e) s = .next (t.frameDone e r m)))
    ∧ (∀ (t : State), s.firstRx e tDone = some r →
      s.onMsgs (fun m => decide (m.engine = e.val ∧ m.num = frMsg h ∧ m.kind = tFold)) (fun m => { m with doneIn := true, flags := m.flags ||| frDflags h }) = t →
      s.fabric.msgs.all (fun m => !decide (m.engine = e.val ∧ m.num = frMsg h ∧ m.kind = tFold) || decide (m.coll = 0)) = true →
      exec (.doneFrame e) s = .next ((t.dropRx r).accept e (frSrc h) (frPsn h) r.ce)))

/-- R432, R434 to R437, R440, R446 to R449, R557, Table 14-6. -/
def Obligations.FlowsAndPeers : Prop :=
  (∀ (s : State) (e : Fin 2) (r : RxFrame) (h : BitVec 512) (peer : Nat), r.hdr = h → frSrc h = peer →
    (s.firstRx e tAck = some r →
      exec (.ack e) s = .next ((s.dropRx r).applyAck e peer r.port (bits 255 224 h) (bits 223 192 h) (bits 191 64 h) (frCe h)))
    ∧ (∀ t, s.firstRx e tNack = some r → (s.dropRx r).fbCount 5 1 = t →
      (bits 223 220 h = 3 → exec (.nack e) s = .next (t.onFlow e peer (fun f =>
        { f with unacked := f.unacked.map (fun x => if frPsn x.hdr = bits 255 224 h then { x with again := s.bell.count + 3 } else x) })))
      ∧ ((s.flow e peer).unacked.all (fun x => !decide (frPsn x.hdr = bits 255 224 h) || ownsMsg (frType x.hdr)) = true →
        (bits 223 220 h = 1 → exec (.nack e) s = .next
          (t.onMsgs (fun m => decide (m.engine = e.val ∧ m.num = frMsg h ∧ t.routeTo m.dst = peer)) (Msg.finish 4 (bits 219 212 h))).settleColls)
        ∧ (∀ u, (t.onMsgs (fun m => decide (m.engine = e.val ∧ m.num = frMsg h ∧ t.routeTo m.dst = peer)) (Msg.finish 5 (bits 219 212 h))).settleColls = u →
          bits 223 220 h = 2 → exec (.nack e) s = .next
            (if (s.flow e peer).unacked.any (fun x => decide (frPsn x.hdr = bits 255 224 h ∧ frType x.hdr = tMirror)) then u.stopStarters peer else u))))
    ∧ (∀ (p : Peer) (t u : State), s.firstRx e tBeat = some r → s.peer peer = p → p.st ≠ 2 → (p.heard = true → p.incarn = bits 191 160 h) → s.dropRx r = t →
      (if (t.flow e peer).open' then t else t.onFlow e peer (fun f => { f with cum := bits 159 128 h, open' := true })) = u →
      (∀ skew, min ((if s.bell.count ≤ bits 255 192 h then bits 255 192 h - s.bell.count else s.bell.count - bits 255 192 h) * 1000) 0xFFFFFFFF = skew →
        exec (.beat e) s = .next (({ u with bell := { u.bell with skewMax := max skew u.bell.skewMax } }).setPeer peer
          { p with st := if p.st = 3 then 3 else 1, ports := bits 123 106 h, lastHeard := s.bell.count, incarn := bits 191 160 h, heard := true }))))
  ∧ (∀ (s : State) (e : Fin 2) (peer : Fin 65536) (f : Flow), s.flow e peer = f →
    (0 < f.sinceAck → f.oldest + 2 ≤ s.bell.count → exec (.ackTimer e peer) s = .next (s.sendAck e peer))
    ∧ (∀ (x : TxFrame) (n : Nat) (t : State), f.unacked.find? (fun x => decide (x.sent + s.rto f ≤ s.bell.count)) = some x →
      Tab.get 0 f.planeTo x.plane + 1 = n → n < 8 →
      s.setFlow e peer { f with w := 8, grow := 0, backoff := f.backoff + 1, planeTo := Tab.set 0 f.planeTo x.plane n } = t →
      exec (.rtoExpiry e peer) s = .next (t.resend e peer (frPsn x.hdr)))
    ∧ (∀ (x : TxFrame) (t : State), f.unacked.find? (fun x => decide (x.sent + s.rto f ≤ s.bell.count)) = some x → 8 ≤ Tab.get 0 f.planeTo x.plane + 1 →
      s.setFlow e peer { f with w := 8, grow := 0, backoff := f.backoff + 1, planeTo := Tab.set 0 f.planeTo x.plane 0 } = t →
      exec (.rtoExpiry e peer) s = .next
        ((t.setPeer peer { s.peer peer with excluded := Tab.set 0 (s.peer peer).excluded x.plane (s.bell.count + 100000) }).resend e peer (frPsn x.hdr)))
    ∧ (∀ due, f.unacked.filter (fun t => decide (t.again ≠ 0 ∧ t.again - 1 ≤ s.bell.count)) = due →
      exec (.notreadyResend e peer) s = .next (due.foldl (fun s t => s.resend e peer (frPsn t.hdr)) s))
    ∧ (∀ id n k kn t, f.spent = [id] → Tab.get KeyRec.blank s.sec.keys id = k → k.st = 1 → k.use = 1 → s.nextKey id = some n →
      Tab.get KeyRec.blank s.sec.keys n = kn →
      { s with sec := { s.sec with
        keys := Tab.set KeyRec.blank (Tab.set KeyRec.blank s.sec.keys id { k with st := 3, bell := s.bell.count }) n { kn with st := 1 } } } = t →
      exec (.keySwitch e peer) s = .next (t.event 0x70 6 k.part n)))
  ∧ (∀ (s : State) (e : Fin 2), exec (.msgTimeout e) s = .next
      (s.onMsgs (fun m => decide (m.engine = e.val ∧ m.first ≠ 0 ∧ m.first - 1 + s.val 0x5030 6 100 * 1000 ≤ s.bell.count) && !m.complete s.mtu) (Msg.finish 6 0)).settleColls
    ∧ exec (.beatSend e) s = .next (s.beatList.foldl (fun s p => s.sendControl e (s.routeTo p) { type := tBeat, dst := p, body :=
        s.bell.count % 2 ^ 64 * 2 ^ 192 + s.fabric.incarn % 2 ^ 32 * 2 ^ 160 + (s.flow e (s.routeTo p)).next * 2 ^ 128 + s.dev.st % 16 * 2 ^ 124 + s.portsUp * 2 ^ 106 } none) s))
  ∧ (∀ (s t : State) (peer : Fin 65536) (x : Peer), s.peer peer = x → x.st < 2 → (s.beatList.contains peer.val || (s.flow 0 peer).open' || (s.flow 1 peer).open') = true →
    x.lastHeard + s.val 0x5030 2 20 * 1000 ≤ s.bell.count →
    (((((((s.endMessagesTo peer 3).endColls (fun c => (s.group c.group).contains peer.val) 3).settleColls.discardFlows peer).setPeer peer { x with st := 2 }).fbCount 6 1).event
      0x40 2 peer 2).stopStarters peer) = t → t.hostedOf peer = none → exec (.peerLost peer) s = .next t)
  ∧ (∀ (s : State) (id : Fin 65536) (k : KeyRec), Tab.get KeyRec.blank s.sec.keys id = k → k.st = 3 → k.use = 1 →
    (s.fabric.flows.any (fun e => e.2.unacked.any (fun t => decide (frKeyid t.hdr = id.val))) = false ∨ k.bell + s.val 0x5030 6 100 * 1000 ≤ s.bell.count) →
    exec (.keyRetire id) s = .next ((s.destroyKey id).event 0x70 6 k.part id))

/-- R276, R300, R428 to R432, R442, R445, R497, Tables 14-4 and 14-5. -/
def Obligations.SendJobs : Prop :=
  (∀ (s : State) (e : Fin 2) (ch : Fin 256) (x : Chan), s.chan (16 + e) ch = x → x.bound = true → x.st ≠ 3 →
    (∀ (j : RunJob), x.run = some j → j.ended = false → j.mask = 0#16 → s.fabric.waits.any (fun w => decide (w.engine = e.val ∧ w.chan = ch.val)) = false →
      (∀ (i : Instr) (m : Msg), s.sending e ch = some m →
        (i, sdOp j.desc) ∈ ([(.sendPut e ch, 0), (.sendGet e ch, 1), (.sendFold e ch, 2), (.allreduce e ch, 3), (.reducescatter e ch, 4), (.allgather e ch, 5)] : List (Instr × Nat)) →
        (3 ≤ sdOp j.desc → ∃ c, s.coll e ch = some c ∧ c.status = 0) →
        (∀ t, m.kind = tGetreq →
          s.sendData e { m.header s.bell.count m.sectors m.sectors with last := true } (some (s.ctx x.ctx).part) 0#128 [] = some t →
          exec i s = .next ((t.sentOne e m.num false).countFrame e ch))
        ∧ (∀ n u bytes pm t, m.kind ≠ tGetreq → min (m.sectors - s.mtu / 32 * m.sent) (s.mtu / 32) = n →
          State.readSectors (s.chanAgent (16 + e) ch 0#16) n (m.laddr + 32 * (s.mtu / 32) * m.sent) 0 s = (u, .ok, bytes, pm) →
          u.sendData e (m.header s.bell.count (s.mtu / 32) n) (some (s.ctx x.ctx).part) (BitVec.ofNat 128 pm) bytes = some t →
          exec i s = .next ((t.sentOne e m.num (decide (BitVec.ofNat 128 pm ≠ 0#128))).countFrame e ch)))
      ∧ (∀ m, s.sending e ch = none → s.chanMsgs e ch = [] →
        (sdOp j.desc = 0 → s.jobMsg e ch j tPut (sdDst j.desc) j.pos (sdSectors j.desc - j.pos) = m →
          exec (.sendPut e ch) s = .next (s.openAndSend e ch j
            { m with db := if sdDb j.desc then 2 ^ 52 + sdDbq j.desc * 2 ^ 32 + sdDbtail j.desc else 0 }))
        ∧ (sdOp j.desc = 1 → s.jobMsg e ch j tGetreq (sdDst j.desc) j.pos (sdSectors j.desc - j.pos) = m →
          exec (.sendGet e ch) s = .next (s.openAndSend e ch j { m with db := 0 }))
        ∧ (sdOp j.desc = 2 → s.jobMsg e ch j tFold (sdDst j.desc) j.pos (sdSectors j.desc - j.pos) = m →
          exec (.sendFold e ch) s = .next (s.openAndSend e ch j { m with db := 0 }))))
    ∧ (∀ (num : Nat) (m : Half) (r : URead) (i : Instr), x.run = none → x.next = .job num m → s.activeJobs (16 + e) < 64 → s.noNewWork = false →
      s.agentRead (s.chanAgent (16 + e) ch m) (x.slot num) 64 = r → r.st = .ok →
      i ∈ ([.sendPut e ch, .sendGet e ch, .sendFold e ch, .allreduce e ch, .reducescatter e ch, .allgather e ch] : List Instr) →
      (r.poison = true → exec i s = .next (r.s.onChan (16 + e) ch (fun y => { y with
        run := some ⟨num, 0#512, m ||| r.taint, decide (m ≠ 0#16), 0, 0, 0, 0, 0, 0, 1, true, false, []⟩, st := if y.st = 4 then 4 else 2 })))
      ∧ (∀ d, r.poison = false → BitVec.ofNat 512 (leNat r.bytes) = d → jobCrcOk d = false ∨ s.sendBad d = true →
        exec i s = .next (r.s.onChan (16 + e) ch (fun y => { y with
          run := some ⟨num, d, m ||| r.taint, decide (m ≠ 0#16), 0, 0, 0, 0, 0, 0, 8, true, false, []⟩, st := if y.st = 4 then 4 else 2 }))))
    ∧ (∀ (j : RunJob) (status detail : Nat) (t : State), x.run = some j → s.sendEnd e ch j = some (status, detail) → j.mask = 0#16 →
      s.putSendRecord e ch j status detail = t →
      exec (.sendComplete e ch) s = .next (if status = 1 ∨ status = 2 then t.chanState (16 + e) ch 3 else (t.dropSends e ch).chanDone (16 + e) ch (j.num + 1))))
  ∧ (∀ (s : State) (e : Fin 2) (ch : Fin 256), exec (.sendStart e ch) s = .next { s with fabric := { s.fabric with
      waits := s.fabric.waits.filter (fun w => !decide (w.engine = e.val ∧ w.chan = ch.val ∧ w.startB = s.bell.count % 2 ^ 32)) } })
  ∧ (∀ (s t : State) (u : Fin 18) (ch : Fin 256) (x : Chan) (j : RunJob), s.chan u ch = x → x.bound = true → x.st = 3 →
    (x.run = some j →
      ((if 16 ≤ u.val ∧ sdOp j.desc = 1 then s.dropSends (u - 16) ch else s) = t →
        exec (.ringResume u ch 0#16) s = .next ((t.onChan u ch (fun y => { y with run := j.resume, st := 1 })).chanSettle u ch))
      ∧ ((if 16 ≤ u.val then s.dropSends (u - 16) ch else s) = t → exec (.ringSkip u ch 0#16) s = .next (t.chanDone u ch (j.num + 1))))
    ∧ ((List.range (min ((x.known + 2 ^ 64 - x.done) % 2 ^ 64) (2 ^ x.ent))).foldl (fun s i =>
        if 16 ≤ u.val then (s.abortRecord u ch ((x.done + i) % 2 ^ 64)).dropSends (u - 16) ch else s.abortRecord u ch ((x.done + i) % 2 ^ 64)) s = t →
      exec (.ringAbort u ch 0#16) s = .next ((t.onChan u ch (fun y => { y with ovr := false })).chanDone u ch x.known)))

/-- R274, R422, R428, R442, R457, R458, R629, Tables 14-11 and 19-5. -/
def Obligations.FabricCommands : Prop :=
  (∀ (s : State) (who : Fin 16) (e c : Nat) (x : Chan), s.staged who 0x5200 1 0 = e → s.staged who 0x5200 2 0 = c → Accepts s who 0x5200 (s.authPlain who) → e < 2 → c ≤ 255 →
    s.chan (16 + e) c = x →
    (∀ (ctx ring ent : Nat) (s1 : State) (r : URead), s.staged who 0x5200 3 0 = ctx → s.staged who 0x5200 4 0 = ring → s.staged who 0x5200 5 4 = ent → x.bound = false →
      ctx ≤ 4095 → 4 ≤ ent → ent ≤ 16 → ring % 128 = 0 → ring + ringBytes ent ≤ 2 ^ 56 → (s.ctx ctx).active = true → s.allPlaced ctx ring (ringBytes ent) = true →
      (s.sealed (s.ctx ctx).part && s.windowCovers ctx ring (ringBytes ent)) = false →
      s.setChan (16 + e) c { Chan.blank with bound := true, ctx := ctx, ring := ring, ent := ent, st := 1 } = s1 →
      s1.agentRead (s1.chanAgent (16 + e) c 0#16) ring 24 = r →
      exec (.scBind who) s = .next ((((r.s.onChan (16 + e) c (fun y => { y with
        done := leNat ((r.bytes.drop 16).take 8)
        ann := if later (leNat ((r.bytes.drop 16).take 8)) (leNat (r.bytes.take 8)) then [(leNat (r.bytes.take 8), 0#16)] else [] })).writeHeader (16 + e) c).answer 0).applied who 0x5200 scSubs))
    ∧ (x.bound = true → x.st ≠ 2 → x.st ≠ 4 → exec (.scUnbind who) s
      = .next (((((s.chanState (16 + e) c 0).setChan (16 + e) c Chan.blank).answer 0).dropSends e c).applied who 0x5200 scSubs)))
  ∧ (∀ (s : State) (who : Fin 16) (id : Nat) (w : Window), s.staged who 0x5100 1 0 = id → Accepts s who 0x5100 (s.authPlain who) →
    (s.wnArgs who = w → s.wnRefusal id w = 0 →
      exec (.wnCreate who) s = .next ((((s.setWindow id w).firmRecord w.part 8 0 id w.body).answer 0).applied who 0x5100 wnSubs))
    ∧ (s.window' id = w → id ≤ 4095 →
      (w.enabled = true → s.windowBusy id = false → exec (.wnDestroy who) s
        = .next ((((s.setWindow id Window.blank).firmRecord w.part 8 0 id { w with enabled := false }.body).answer 0).applied who 0x5100 wnSubs))
      ∧ (w.enabled = true → s.windowBusy id = true → exec (.wnDestroy who) s = .next (s.setWindow id { w with closing := true }).waits)
      ∧ exec (.wnSelect who) s = .next (((((((((s.select who 0x5100 2 1 w.kind).select who 0x5100 3 1 w.part).select who 0x5100 4 2 w.ctx).select who 0x5100 5 8
          w.base).select who 0x5100 6 8 w.bytes).select who 0x5100 7 1 w.perm).select who 0x5100 8 8 w.src).select who 0x5100 9 2 w.keyid).answer 0)))
  ∧ (∀ (s : State) (who : Fin 16) (g : Nat), s.staged who 0x5300 1 0 = g → Accepts s who 0x5300 (s.authPlain who) → g ≤ 255 →
    (∀ n v, s.stagedBytes who 0x5300 2 = (n, v) → 4 ≤ n → n ≤ 512 → n % 2 = 0 → s.group g = [] → s.groupRuns g = false →
      exec (.grDefine who) s = .next ((({ s with fabric := { s.fabric with
        groups := Tab.set [] s.fabric.groups g (halves (n / 2) v), inst := Tab.set 0 s.fabric.inst g 0 } }).answer 0).applied who 0x5300 [(1, 1, 0)]))
    ∧ (s.group g ≠ [] → s.groupRuns g = false →
      exec (.grDelete who) s = .next ((({ s with fabric := { s.fabric with
        groups := Tab.set [] s.fabric.groups g [], inst := Tab.set 0 s.fabric.inst g 0 } }).answer 0).applied who 0x5300 [(1, 1, 0)]))
    ∧ exec (.grSelect who) s
      = .next ((s.select who 0x5300 2 (2 * (s.group g).length) ((s.group g).foldr (fun x a => x % 65536 + 65536 * a) 0)).answer 0))
  ∧ (∀ (s : State) (who : Fin 16) (old new : Nat) (r : Redirect), s.staged who 0x5440 1 0xFFFF = old → s.staged who 0x5440 2 0xFFFF = new →
    Tab.get Redirect.blank s.fabric.redirects old = r → Accepts s who 0x5440 (s.authPlain who) →
    (r.new1 ≠ 0 ∨ s.fabric.redirects.length < 64 → exec (.rdSet who) s = .next (((s.redirect old new).answer 0).applied who 0x5440 rdSubs))
    ∧ (∀ t, r.new1 ≠ 0 → { s with fabric := { s.fabric with redirects := Tab.set Redirect.blank s.fabric.redirects old Redirect.blank } } = t →
      exec (.rdClear who) s = .next (((t.setPeer old { t.peer old with st := 0 }).answer 0).applied who 0x5440 rdSubs))
    ∧ exec (.rdSelect who) s = .next (((s.select who 0x5440 2 2 (r.new1 - 1)).select who 0x5440 4 8 r.bell).answer 0))

/-- R451, R453, R454, R456 to R459, Table 14-9. -/
def Obligations.StarterStream : Prop :=
  (∀ (s : State) (who : Fin 16) (p : PartIx) (x : Starter), s.starter p = x → Accepts s who (0x5400 + p) (s.authPlain who) →
    (∀ ok, s.val (0x5400 + p) 1 0xFFFF ≠ 0xFFFF → (s.sealed p = true → ok = true ∧ s.sendKey (some p) ≠ 0) →
      exec (.fsStart who p ok) s = .next ((((s.dropStream p).setStarter p { x with st := 1, generation := x.generation + 1, placed := [], sent := [] }).copyShard p).answer 0))
    ∧ exec (.fsStop who p) s = .next (((s.dropStream p).setStarter p { x with st := 0 }).answer 0))
  ∧ (∀ (s t : State) (e : Fin 2) (p : PartIx) (x : Starter), s.starter p = x → x.st = 1 ∨ x.st = 2 →
    (s.bell.count % s.val (0x5400 + p) 3 1000 = 0 → Tab.get 0 x.placed e ≠ s.bell.count + 1 →
      (s.mirrorTo e ⟨7, p, 0, 0, 0, 0#16, s.bell.count, leBytes 8 s.bell.count ++ leBytes 8 x.generation ++ leBytes 16 0⟩).setStarter p
        { x with placed := Tab.set 0 x.placed e (s.bell.count + 1) } = t →
      exec (.cutSend e p) s = .next (State.sendMirror e p (Tab.get [] t.fabric.out e).length t))
    ∧ (s.bell.count % s.val (0x5400 + p) 3 1000 ≠ 0 → exec (.cutSend e p) s = .next (State.sendMirror e p (Tab.get [] s.fabric.out e).length s)))
  ∧ (∀ (s : State) (e : Fin 2) (r : RxFrame) (p : Nat) (h : Hosted),
    s.fabric.rxQ.find? (fun r => decide (r.port / 9 = e.val ∧ frType r.hdr = tMirror ∧ frPsn r.hdr = (s.flow e (frSrc r.hdr)).cum)) = some r →
    s.hostedOf (frSrc r.hdr) = some p →
    { s.hosted p with
      st := if (s.hosted p).st = 0 then 1 else (s.hosted p).st
      log := (s.hosted p).log ++ (parseRecords p (r.payload.length / 16) r.payload).map (fun x => (e.val, x)) } = h →
    (h.used ≤ s.val (0x5410 + p) 2 0 * 1000000000 → h.mapped ≤ s.val (0x5410 + p) 2 0 * 1000000000 →
      exec (.mirrorFrame e) s = .next (((s.setHosted p h).dropRx r).accept e (frSrc r.hdr) (frPsn r.hdr) r.ce))
    ∧ (((parseRecords p (r.payload.length / 16) r.payload).any (fun x => decide (x.kind = 3))) = true → s.val (0x5410 + p) 2 0 * 1000000000 < h.mapped →
      exec (.mirrorFrame e) s = .next ((s.dropRx r).refuseFrame e r.hdr r.ce 2 2)))
  ∧ (∀ (s : State) (p : PartIx) (h : Hosted), s.hosted p = h →
    (∀ b x, h.st = 1 → ((h.cuts 0).filter (fun b => (h.cuts 1).contains b)).getLast? = some b → splitLog b h.log [] = x →
      exec (.cutApply p) s = .next (s.setHosted p { x.1.foldl Hosted.apply h with log := x.2, cut := b }))
    ∧ (h.st = 2 → h.redirects ≠ [] → exec (.takeover p) s = .next (s.sendRedirects p (s.val (0x5410 + p) 1 0xFFFF)))
    ∧ (h.st = 2 → h.redirects = [] → 8 ≤ s.fabric.aliases.length → exec (.takeover p) s = .next (s.setHosted p { h with st := 4 }))
    ∧ (∀ (who : Fin 16), Accepts s who (0x5410 + p) (s.authPlain who) →
      (h.st = 1 → exec (.fhTakeover who p) s = .next (((s.beginTakeover p).takeover p).answer 0))
      ∧ (∀ t, h.st ≠ 2 → s.setHosted p Hosted.blank = t → exec (.fhDiscard who p) s
        = .next (({ t with fabric := { t.fabric with aliases := t.fabric.aliases.filter (fun a => decide (a.2 ≠ p.val)) } }).answer 0)))
    ∧ (∀ t u, h.st = 2 → h.redirects ≠ [] →
      (h.redirects.any (fun k => s.fabric.msgs.any (fun m => decide (m.engine = k.1 ∧ m.num = k.2 ∧ m.kind = tRedirect) && !m.complete s.mtu)) = false
        ∨ h.started + s.val (0x5410 + p) 4 500 * 1000 ≤ s.bell.count) →
      { s with fabric := { s.fabric with msgs := s.fabric.msgs.filter (fun m => !(decide (m.kind = tRedirect) && h.redirects.contains (m.engine, m.num))) } } = t →
      h.queues.foldl (fun s e => if (s.queue e.1).st = qMigrating then (s.setQueue e.1 { s.queue e.1 with st := qEnabled }).settleBells e.1 else s) t = u →
      exec (.redirectComplete p) s = .next ((u.setHosted p { h with st := 3, redirects := [] }).event 0x40 3 (s.val (0x5410 + p) 1 0xFFFF) 6)))
  ∧ (∀ (s : State) (e : Fin 2) (r : RxFrame), s.firstRx e tRedirect = some r →
    exec (.redirectFrame e) s = .next (((s.dropRx r).accept e (frSrc r.hdr) (frPsn r.hdr) r.ce).redirect (bits 255 240 r.hdr) (bits 239 224 r.hdr)))

/-- R463, R469, R470, R474, R475, R477 to R479, R662. -/
def Obligations.HostInterface : Prop :=
  (∀ s : State, s.linkUp = true →
    (s.host.d3hot = false →
      (∀ (off : Fin 67108864) (len : Fin 4097) (a : Nat) (r : URead), len.val ≠ 0 →
        (s.bar4At off len = some a → s.agentRead hostAgent a len = r → r.st = .ok →
          exec (.bar4Read off len) s = .next (r.s.emit .host 0 [if r.poison then 1 else 0, len.val, leNat (r.s.bulk 1 a r.bytes)]))
        ∧ (s.bar4At off len = none → exec (.bar4Read off len) s = .next s.hostUr))
      ∧ (∀ (off : Fin 67108864) (bytes : List Byte) (poisoned : Bool) (a : Nat) (t : State), bytes.isEmpty = false →
        (s.bar4At off bytes.length = some a → s.agentWrite hostAgent a (s.bulk 0 a bytes) poisoned = (t, .ok) → exec (.bar4Write off bytes poisoned) s = .next t)
        ∧ (s.bar4At off bytes.length = none → exec (.bar4Write off bytes poisoned) s = .next s.hostDrop))
      ∧ (∀ (f : Fin 4) (v : Word) (x : FnRing), s.ring f = x → x.st ≠ 2 → (v.toNat + 2 ^ 32 - x.rqTail) % 2 ^ 32 < 2 ^ 31 →
        ((v.toNat + 2 ^ 32 - x.rqHead) % 2 ^ 32 ≤ 64 → exec (.rqTail f v) s = .next (s.setRing f { x with rqTail := v.toNat }))
        ∧ (64 < (v.toNat + 2 ^ 32 - x.rqHead) % 2 ^ 32 → exec (.rqTail f v) s = .next ((s.setRing f { x with rqTail := (x.rqHead + 64) % 2 ^ 32 }).onHost
            (fun h => { h with dropped := h.dropped + ((v.toNat + 2 ^ 32 - x.rqHead) % 2 ^ 32 - 64) }))))
      ∧ (∀ (f : Fin 4) (v : Word) (x : FnRing), s.ring f = x →
        exec (.rsHead f v) s = .next (State.releaseHeld f x.held.length (s.setRing f { x with rsHead := v.toNat })))
      ∧ (∀ (n : Fin 2048) (ns : Nat) (x : MsixVec), s.vec n = x → x.asked = true ∨ x.pend = true → x.masked = false → s.val 0x5510 1 0 ≤ ns →
        exec (.msixSend n ns) s = .next ((s.setVec n { x with asked := false, pend := false }).emit .host 2 [n.val, x.addr, x.data])))
    ∧ (s.host.d3hot = true → (∀ off len, len ≠ 0 → exec (.bar4Read off len) s = .next s.hostUr)
      ∧ (∀ off bytes p, bytes ≠ [] → exec (.bar4Write off bytes p) s = .next s.hostUr) ∧ ∀ f v, exec (.rqTail f v) s = .next s.hostUr ∧ exec (.rsHead f v) s = .next s.hostUr)
    ∧ exec .flr s = .next ((s.hostReset.raiseEvt 5).event 0x41 3 s.host.lanes 0)
    ∧ exec .linkLoss s = .next ((s.linkDown.onHost (fun h => { h with wasLost := true, linkdowns := h.linkdowns + 1 })).event 0x41 2 s.host.lanes 0)
    ∧ (∀ b, exec (.d3hotEntry b) s = .next (s.onHost (fun h => { h with d3hot := b }))))
  ∧ (∀ s : State, s.endpointOn = true →
    exec .perstN s = .next (s.hostReset.onHost (fun h => { h with lanes := 0, speed := 0 }))
    ∧ (∀ (lanes : Fin 17) (mts : Nat) (t t' : State), lanes.val ≠ 0 → s.host.lanes = 0 → s.onHost (fun h => { h with lanes := lanes, speed := mts, wasLost := false }) = t →
      (if s.host.wasLost then (t.raiseEvt 1).raiseEvt 4 else t.raiseEvt 1) = t' →
      exec (.linkUp lanes mts) s = .next (if lanes.val < 16 ∨ mts < 64000 then t'.event 0x41 1 lanes (speedCode mts) else t')))

/-- R483, R484, R486 to R488, R496, R497. -/
def Obligations.TimeSources : Prop :=
  (∀ (s t : State) (src : Fin 20) (off : Int) (time : DWord), s.dev.st ≠ 0 → src.val ≠ 0 → src.val = s.timeSource → s.onBell (fun b => { b with src := src }) = t →
    (s.bell.acquired = true → exec (.ptpMeasurement src off time) s = .next (t.measured off))
    ∧ (s.bell.acquired = false → ∀ u, t.onBell (fun b => { b with offset := off, acquired := true }) = u →
      (s.bell.count < time.toNat → exec (.ptpMeasurement src off time) s
        = .next (((u.stepBell (time.toNat - s.bell.count)).shiftBells (time.toNat - s.bell.count)).measured off))
      ∧ (time.toNat ≤ s.bell.count → exec (.ptpMeasurement src off time) s = .next (u.measured off))))
  ∧ (∀ s : State, s.ppsSource = true → s.bell.acquired = true →
    (∀ d : Int, d.natAbs ≤ s.val 0x3001 11 500 → exec (.ppsEdge (some d)) s = .next (s.onBell (fun b => { b with
      ppsBad := 0, ppsGood := b.ppsGood + 1, ppsOff := b.ppsOff && decide (b.ppsGood + 1 < 8)
      offset := if b.ppsOff && decide (b.ppsGood + 1 < 8) then b.offset else d })))
    ∧ (∀ d : Int, s.val 0x3001 11 500 < d.natAbs → exec (.ppsEdge (some d)) s = .next (s.onBell (fun b => { b with
      ppsReject := b.ppsReject + 1, ppsBad := b.ppsBad + 1, ppsGood := 0, ppsOff := b.ppsOff || decide (3 ≤ b.ppsBad + 1) })))
    ∧ exec (.ppsEdge none) s = .next (s.onBell (fun b => { b with
      ppsBad := b.ppsBad + 1, ppsGood := 0, ppsOff := b.ppsOff || decide (3 ≤ b.ppsBad + 1) })))
  ∧ (∀ s : State, (s.bell.st = tsLocked ∨ s.bell.st = tsLocking → s.bell.last + s.val 0x3001 6 2000 * 1000 ≤ s.bell.count →
      exec .sourceLoss s = .next ((s.onBell (fun b => { b with valid := false })).timeState tsHoldover))
    ∧ (s.bell.st = tsHoldover → s.bell.last + s.val 0x3001 7 10 * 1000000 ≤ s.bell.count → exec .holdoverExpiry s = .next (s.timeState tsFreerun)))
  ∧ (∀ (s : State) (who : Fin 16), Accepts s who 0x3002 (s.authPlain who) →
    (∀ d : Nat, 0 ≤ s.bell.offset → s.bell.valid = true → (s.bell.offset / 1000).toNat = d →
      exec (.btStep who) s = .next ((((s.startPassed d).stepBell d).stepEvents).answer 0))
    ∧ (s.bell.offset < 0 → exec (.btStep who) s = .next (s.answer 0x0301))
    ∧ (0 ≤ s.bell.offset → s.bell.valid = false → exec (.btStep who) s = .next (s.answer 0x0402)))

/-- R416, R492 to R495, R498, R576, R632, R640, R667, Tables 16-4 and 24-6a. -/
def Obligations.ScheduledEvents : Prop :=
  (∀ (s : State) (who : Fin 16), Accepts s who 0x3010 (s.authPlain who) →
    (∀ (kind bell param i : Nat), s.staged who 0x3010 1 0 = kind → s.staged who 0x3010 2 0 = bell → s.staged who 0x3010 3 0 = param → s.freeSlot = some i →
      s.bellOut kind bell = false → s.armRefusal kind param bell = 0 →
      (kind = evGpio ∧ param < 16 ∧ s.val 0x1200 (param % 8 + 1) 0 = 3) ∨ (kind = evRecord ∧ param < 2 ^ 32) →
      exec (.seArm who) s = .next (((((s.setSlot i ⟨kind, esArmed, 0, param, bell, 0⟩).applied who 0x3010 seSubs).stage who 0x3010 5 1 i).setVal 0x3010 5 1 i).answerBell bell))
    ∧ (∀ (i : Nat) (x : EvSlot), s.staged who 0x3010 5 0 = i → s.slot i = x → i ≤ 63 →
      (x.waiting = true → evGpio ≤ x.kind → exec (.seCancel who) s
        = .next ((((s.setSlot i { x with st := esCancelled }).onBell (fun b => { b with cancelled := b.cancelled + 1 })).applied who 0x3010 seSubs).answer 0))
      ∧ exec (.seSelect who) s = .next (((s.select who 0x3010 6 16 x.bytes).applied who 0x3010 seSubs).answer 0)))
  ∧ (∀ (s s1 : State) (peaks : List (Nat × Nat)) (due : Nat → List Nat) (a : Admit),
    (∀ k, (List.range 64).filter (fun i => decide ((s.slot i).kind = k ∧ (s.slot i).st = esArmed ∧ (s.slot i).bell = s.bell.count)) = due k) →
    (due evFreq).foldl State.handFreq s = s1 →
    (⟨peaks, if s.power.point < s1.power.point then pointMhz s1.power.point else 1, if s.power.point < s1.power.point then pointMhz s.power.point else 1, []⟩ : Admit) = a →
    exec (.scheduledEvent peaks) s = .next ((due evRecord).foldl State.handRecord ((due evActivate).foldl State.activate
      ((due evGpio).foldl State.handGpio ((due evPowerup).foldl State.tryPowerup (s1, a)).1))))
  ∧ (∀ (s : State) (who : Fin 16) (pin : Fin 8) (f : Fin 256), Accepts s who 0x1200 (s.authPlain who) →
    (f.val ≤ 7 → (f.val = 0 ∨ f.val = s.gpio pin ∨ s.gpio pin = 0) → (f.val = 4 → s.gpioCount 4 pin = 0) → (f.val = 7 → s.gpioCount 7 pin < 2) →
      (s.gpio pin = 3 → f.val ≠ 3 → ∀ i, i < 64 → ¬ ((s.slot i).kind = evGpio ∧ (s.slot i).st = esArmed ∧ (s.slot i).param % 8 = pin.val)) →
      exec (.gpFunc who pin f) s = .next ((if f.val = s.gpio pin then s.keepVal 0x1200 (pin + 1) 1 f else (s.keepVal 0x1200 (pin + 1) 1 f).onPins (fun p => { p with
        driven := Tab.set false p.driven pin false, lastTrig := Tab.set 0 p.lastTrig pin 0 })).answer 0))
    ∧ (∀ v : Word, 2 ≤ v.toNat → v.toNat ≤ 100000000 → (∀ i, i < 8 → s.gpio i ≠ 4) → exec (.gpPeriod who v) s = .next ((s.keepVal 0x1200 9 4 v.toNat).answer 0)))
  ∧ (∀ (s : State) (pin : Fin 8), s.pinsOff = false →
    (s.gpio pin = 7 → Tab.get 0 s.pins.lastTrig pin = 0 ∨ Tab.get 0 s.pins.lastTrig pin + 999 ≤ s.bell.count →
      exec (.triggerIn pin) s = .next ((s.onPins (fun p => { p with
        triggers := p.triggers + 1, lastTrig := Tab.set 0 p.lastTrig pin (s.bell.count + 1) })).event 1 3 (0xFFFFFF00 + pin) 0))
    ∧ (s.gpio pin = 4 → exec (.bellOut pin) s = .next (s.onPins (fun p => { p with
      driven := Tab.set false p.driven pin (decide (s.bell.count % s.val 0x1200 9 1000000 < s.val 0x1200 9 1000000 / 2)) }))))
  ∧ (∀ (s : State) (i : Fin 19) (target : Nat), s.ownsAddr i target = true → exec (.neighborSolicitation i target) s = .next (s.emit (portOut i) 136 [i.val, target, s.mac i]))
  ∧ (∀ (s : State) (i : Fin 18) (mac : BitVec 48), s.inService ukPort i = true →
    exec (.neighborAdvertisement ⟨i, by omega⟩ (linkLocal (s.val 0x5022 (i + 1) 0)) mac) s = .next (s.setPort i { s.port i with hop := some mac.toNat })
    ∧ ∀ src body, exec (.echoRequest i src body) s = .next (s.emit .fabric 129 [i.val, src, body.length, leNat body]))
  ∧ (∀ (s : State) (pcie : Bool), s.mctpOn pcie = true → exec (.mctpControl pcie none) s = .next (s.emit (if pcie then .host else .mgmt) 0x200 [s.eidOn pcie])
    ∧ ∀ (e : Fin 256) (t : State), s.val 0x1010 10 0 = 0 → 8 ≤ e.val → e.val ≤ 254 →
      s.onPins (fun p => if pcie then { p with eidPcie := e } else { p with eidI3c := e }) = t →
      exec (.mctpControl pcie (some e)) s = .next (t.emit (if pcie then .host else .mgmt) 0x200 [t.eidOn pcie]))

/-- R501, R503, R504, R506, R510 to R512, R514, R519, R521, R522, R632. -/
def Obligations.PowerCommands : Prop :=
  (∀ s : State, s.dev.st ≠ 0 → s.dev.st ≠ 5 →
    (∀ (vin watts : Nat) (ovr : Word) (t u : State), s.onPower (fun p => { p with
        vin := vin, vinBad := if vin < 1710 ∨ 1890 < vin then p.vinBad + 1 else 0 }.cause 10 (decide (vin < 1746 ∨ 1854 < vin))) = t →
      ((vin < 1710 ∨ 1890 < vin) → 1 ≤ s.power.vinBad →
        exec (.powerSample vin watts ovr) s = .next ((t.event 0x20 (6 * 256 + t.power.level) t.causes vin).latchOff false))
      ∧ ((1746 ≤ vin ∧ vin ≤ 1854) →
        ((t.capper watts).onPower (fun p => { p with domCut := (List.range 32).foldl (fun c k =>
            if ovr.getLsbD k then Tab.modify 0 c k (fun v => if v < 64 then v + 1 else 64) else c) p.domCut }.cause 9 (Nat.testBit p.causes 9 && decide (ovr ≠ 0#32)))).settleLevel = u →
        exec (.powerSample vin watts ovr) s = .next u.sampleBoundary))
    ∧ (∀ k, exec (.clusterOvercurrent k) s = .next ((s.onPower (fun p => p.cause 9 true)).settleLevel))
    ∧ (∀ (r : Fin 352), (r.val < 288 → s.power.failed.contains r.val = false →
        exec (.regulatorFail r) s = .next
          (State.darken (r.val / 9) 9 ((s.onPower (fun p => { p with failed := p.failed ++ [r.val] })).event 0x20 (512 + s.power.level) r 0)).settleUnits)
      ∧ (∀ (g old m n : Nat) (t : State), 288 ≤ r.val → (r.val - 288) / 4 = g → Tab.get 0 s.power.mktFailed g = old → Nat.testBit old (r.val % 4) = false →
        old + 2 ^ (r.val % 4) = m → maskOnes m = n → (s.onPower (fun p => { p with mktFailed := Tab.set 0 p.mktFailed g m })).event 0x20 (512 + s.power.level) r 0 = t →
        ∀ u, { t with market := { t.market with
          stallCap := (List.range 18).foldl (fun c i => Tab.set 0 c (18 * g + i) (groupCap n)) t.market.stallCap } } = u →
        exec (.regulatorFail r) s = .next (if n = 4 ∧ u.serving = true then u.enterSafe 2 else u.settleUnits)))
    ∧ (∀ (k : ClusterIx) (second : Bool) (mv : Fin 65536) (now new old : Nat), Tab.get 0 s.power.stretch k = now → (if second ∨ now = 2 then 2 else 1) = new →
      Tab.get 0 s.power.drMin k = old → exec (.droop k second mv) s = .next (s.onPower (fun p => { p with
        stretch := Tab.set 0 p.stretch k new
        stretch1 := if new = 1 ∧ now = 0 then p.stretch1 + 1 else p.stretch1
        stretch2 := if new = 2 ∧ now ≠ 2 then p.stretch2 + 1 else p.stretch2
        drMin := if old = 0 ∨ mv.val < old / 2 ^ 48 then Tab.set 0 p.drMin k (mv.val * 2 ^ 48 + s.bell.count % 2 ^ 48) else p.drMin }))))
  ∧ (∀ (s : State) (k : ClusterIx), exec (.droopRecover k) s = .next (s.onPower (fun p => { p with stretch := Tab.set 0 p.stretch k 0 })))
  ∧ (∀ s : State, s.power.level = 2 → causeLevel s.causes < 2 → s.power.lastL2 + 100 ≤ s.bell.count →
    exec .level2Release s = .next ((s.onPower (fun p => { p with level := causeLevel s.causes })).event 0x20 (256 + causeLevel s.causes) s.causes 0))
  ∧ (∀ (s : State) (who : Fin 16), (Accepts s who 0x2131 (s.authPlain who) → exec (.drClear who) s = .next ((s.onPower (fun p => { p with drMin := [] })).answer 0))
    ∧ (∀ point bell, s.staged who 0x2101 2 48 = point → s.staged who 0x2101 3 0 = bell → Accepts s who 0x2101 (s.authPlain who) → point ≤ s.pmax →
      s.bellOut evFreq bell = false → s.group1 ≠ 0 → s.bell.st ≠ tsUnset → s.evConflict evFreq (s.group1 * 256 + point) bell = false →
      exec (.fgSchedule who) s = .next (((s.arm evFreq 1 (s.group1 * 256 + point) bell).applied who 0x2101 [(2, 1, 48), (3, 8, 0)]).answerBell bell)))
  ∧ (∀ (s t : State) (top d : Nat), s.serving = true →
    (if s.power.ranTask then (List.range 16).foldl (fun m i => if s.power.phases.getLsbD i && decide (m < s.val 0x2110 (i + 1) 48) then s.val 0x2110 (i + 1) 48 else m) 0
      else s.val 0x2110 1 48) = top → min top s.pmax = d →
    s.onPower (fun p => { p with demand := d, phases := s.phasesNow, ranTask := decide (s.phasesNow ≠ 0#16) }) = t →
    exec .phaseEval s = .next (if t.group1 = 0 ∧ d ≠ s.power.point
        ∧ (List.range 64).all (fun i => !decide ((s.slot i).kind = evFreq ∧ (s.slot i).st = esArmed)) = true ∧ t.armRefusal evFreq d (s.bell.count + 200) = 0
      then t.arm evFreq 1 d (s.bell.count + 200) else t))
  ∧ (∀ (s : State) (low : Word), s.serving = true → s.power.agLast + 500 ≤ s.recorder.opsec / 3600 →
    exec (.ageingTrim low) s = .next (((List.range 32).foldl (State.trimCluster low) s).onPower (fun p => { p with agLast := s.recorder.opsec / 3600 })))
  ∧ (∀ (s : State) (peaks : List (Nat × Nat)), exec (.powerupRetry peaks) s
    = .next (((List.range 64).filter (fun i => decide ((s.slot i).kind = evPowerup ∧ (s.slot i).st = esDeferred))).foldl State.tryPowerup (s, ⟨peaks, 1, 1, []⟩)).1)

/-- R531 to R533, R535, R536, R538, R539, R541. -/
def Obligations.ThermalCommands : Prop :=
  (∀ s : State, s.dev.st ≠ 0 → s.dev.st ≠ 5 →
    (∀ (readings : List (Nat × Int)) (rise : List (Nat × Nat)) (s1 s2 s3 s4 s5 s6 s7 : State),
      s.onThermal (fun t => { t with
        sensors := readings.foldl (fun q r => Tab.set Sensor.blank q r.1 { Tab.get Sensor.blank q r.1 with last := r.2 }) t.sensors
        rise := rise.foldl (fun q r => Tab.set 0 q r.1 r.2) t.rise }) = s1 →
      ((List.range 32).map clusterStallSensors).foldl (State.checkMedian 5) s1 = s2 → (List.range 288).foldl State.checkSite s2 = s3 →
      sensorGroups.foldl (State.checkMedian 1) s3 = s4 → (List.range 288).foldl State.limitSite s4 = s5 → (List.range 1040).foldl State.countHot s5 = s6 →
      (s6.thermalPeaks.setBands).onPower (fun p => p.cause 11 s6.thermalEmergency) = s7 →
      exec (.thermalSample readings rise) s = .next ((List.range 4).foldl State.gather s7).settleLevel.settleUnits)
    ∧ (∀ (t peak trough : Int) (armed : Bool), max s.thermal.cyclePeak t = peak → min s.thermal.trough t = trough → (s.thermal.armed || decide (trough + 160 ≤ t)) = armed →
      ((armed = false ∨ peak - 160 < t) → exec (.thermalCycleSample t) s = .next (s.onThermal (fun x => { x with armed := armed, cyclePeak := peak, trough := trough })))
      ∧ (∀ u, armed = true → t ≤ peak - 160 → s.onThermal (fun x => { x with
          cycles := x.cycles + 1, swingMax := max ((peak - trough) / 4).toNat x.swingMax, armed := false, cyclePeak := t, trough := t }) = u →
        exec (.thermalCycleSample t) s = .next (if s.thermal.cycles + 1 = 40000 ∨ s.thermal.cycles + 1 = 50000 then u.event 0x21 3 (s.thermal.cycles + 1) 0 else u)))
    ∧ (∀ (n : Fin 1040) (a b : Int) (t : State), (s.dev.st = 1 → 2 ≤ s.dev.bootStep) → (s.sensor n).failed = false → 460 ≤ a → 460 ≤ b →
      (s.event 0x21 2 n (int16 a + 65536 * int16 b)).latchOff true = t →
      exec (.thermalTrip n a b) s = .next t))
  ∧ (∀ (s : State) (who : Fin 16) (i : Fin 4) (j set period : Nat), 0x2340 + i.val = j → Accepts s who j (s.authPlain who) →
    s.staged who j 1 0 = set → s.staged who j 2 1000 = period →
    (20 ≤ period → period ≤ 1000000 → set ≠ 0 → period % 20 = 0 →
      exec (.tpEnable who i) s = .next (((s.setProfile i { s.profile i with on := true, sensors := set, period := period, start := s.bell.count, acc := [] }).applied who j
        [(1, 130, 0), (2, 4, 1000)]).answer 0))
    ∧ exec (.tpDisable who i) s = .next (((s.setProfile i { s.profile i with on := false }).applied who j [(1, 130, 0), (2, 4, 1000)]).answer 0))
  ∧ (∀ (s : State) (i : Fin 4) (p : Profile), s.profile i = p → p.on = true → p.start + p.period ≤ s.bell.count →
    exec (.telemetryPeriod i) s = .next (s.setProfile i { p with data := p.close, acc := [], start := p.start + p.period }))

/-- R547, R549 to R551, Tables 19-2 and 19-3. The codes of DSP0274 and the lapse of a silent session are taken from that standard (log entry 149). -/
def Obligations.SpdmExchanges : Prop :=
  (∀ (s : State) (peer : Fin 65536), s.spdmOn = true →
    exec (.getVersion peer) s = .next ((s.setSpdmPeer peer ⟨true, false, false⟩).spdm 0x04 [0x12])
    ∧ ((s.spdmPeer peer).version = true → exec (.getCapabilities peer) s = .next ((s.setSpdmPeer peer ⟨true, true, false⟩).spdm 0x61 [1, 1, 1, 1, 1, 1, 1, 1]))
    ∧ ((s.spdmPeer peer).caps = true → exec (.negotiateAlgorithms peer true) s = .next ((s.setSpdmPeer peer ⟨true, true, true⟩).spdm 0x63 [384, 384, 384, 256])
      ∧ exec (.negotiateAlgorithms peer false) s = .next (s.spdmError 1))
    ∧ ((s.spdmPeer peer).algs = true →
      exec (.getDigests peer) s = .next (s.spdm 0x01 [1, Config.sha384 s.chain])
      ∧ (∀ (o n : Fin 65536) (part : List Byte), o.val < s.chain.length → (s.chain.drop o).take n = part →
        exec (.getCertificate peer 0 o n) s = .next (s.spdm 0x02 [0, part.length, s.chain.length - o - part.length, leNat part]))
      ∧ exec (.challenge peer 0) s = .next (s.fresh.1.fresh.1.spdm 0x03 [0, Config.sha384 s.chain, s.fresh.2, s.fresh.1.fresh.2])
      ∧ exec (.getMeasurements peer 0) s = .next (s.spdm 0x60 [0, 10])
      ∧ (∀ (i : Fin 256) (d : Nat), i ≠ 0 → i ≠ 255 → s.measure i = some d → exec (.getMeasurements peer i) s = .next (s.spdm 0x60 [i.val, d]))
      ∧ (∀ (t : State) (n : Nat), s.endLapsed = t → (List.range 8).find? (fun n => !(t.session n).used) = some n →
        exec (.keyExchange peer 0) s = .next ((t.fresh.1.setSession n { Session.blank with used := true, bell := t.fresh.1.bell.count }).spdm 0x64 [n, 10, 1, t.fresh.2])))
    ∧ ((s.spdmPeer peer).algs = false → exec (.getDigests peer) s = .next (s.spdmError 4) ∧ ∀ slot, exec (.keyExchange peer slot) s = .next (s.spdmError 4)))
  ∧ (∀ (s : State) (n : Fin 8) (x : Session), s.spdmOn = true → s.session n = x → x.used = true → s.lapsed n = false →
    (x.finished = false →
      (∀ leaf root r, s.roleOf leaf root = r → exec (.finish n leaf root true) s
        = .next ((s.setSession n { x with finished := true, role := r.1, part := r.2, leaf := leaf, bell := s.bell.count }).spdm 0x65 [n.val]))
      ∧ (∀ leaf root, exec (.finish n leaf root false) s = .next (((s.authFailed (3 * 2 ^ 32 + n) 0).endSession n).spdmError 6)))
    ∧ (x.finished = true →
      exec (.heartbeat n true) s = .next ((s.setSession n { x with bell := s.bell.count }).spdm 0x68 [n.val])
      ∧ exec (.keyUpdate n true) s = .next ((s.setSession n { x with bell := s.bell.count, updates := x.updates + 1 }).spdm 0x69 [n.val])
      ∧ exec (.endSession n true) s = .next ((s.endSession n).spdm 0x6C [n.val])
      ∧ exec (.heartbeat n false) s = .next (s.sessionFailed n)))

/-- R548, R552, R554 to R557, R565, R566, R633, Table 19-7. -/
def Obligations.SecurityCommands : Prop :=
  (∀ (s s1 s2 s3 : State) (who : Fin 16) (p : PartIx) (x : Seal) (n : Nat), s.seal p = x → (s.requester who).source = n →
    Accepts s who (0x7010 + p) (s.authSeal who) → x.st = 0 → s.partEmpty p = true → s.sec.dbgLevel ≠ 2 → s.sec.pcieCryptoBad = false →
    (s.clearStorage (s.partQuarters p)).drawKey p = s1 → (s1.setSeal p ⟨1, (s.session n).leaf, x.seals + 1⟩).keepVal (0x7010 + p) 4 4 (x.seals + 1) = s2 →
    (s2.onSec (fun c => { c with sealedSinceBoot := true })).event 0x70 1 p (x.seals + 1) = s3 →
    exec (.psSeal who p) s = .next ((s3.setSession n { s3.session n with role := 2, part := p }).answer 0))
  ∧ (∀ (s : State) (who : Fin 16) (p : PartIx), Accepts s who (0x7010 + p) (s.authPlain who) → s.serving = true → s.partResetting p = false →
    exec (.psUnseal who p) s = .next ((s.beginPartReset p 2).answer 0))
  ∧ (∀ (s t : State) (who : Fin 16) (p id : Nat), s.staged who 0x7020 1 0 = p → s.staged who 0x7020 2 0 = id → Accepts s who 0x7020 (s.authTenant who p) →
    p ≤ 3 → 1 ≤ id → id ≤ 0xFFFE →
    (∀ use pred, s.staged who 0x7020 3 0 = use → (if use = 1 then s.staged who 0x7020 5 0 else 0) = pred → 1 ≤ use → use ≤ 3 → s.stagedLen who 0x7020 4 = 32 →
      (pred ≠ 0 → (s.key pred).st = 1 ∧ (s.key pred).use = 1 ∧ (s.key pred).part = p) → (s.key id).st = 0 →
      (s.sec.keys.filter (fun e => decide (e.2.st ≠ 0))).length < 256 →
      (use = 3 → s.sec.keys.any (fun e => decide (e.2.st ≠ 0 ∧ e.2.use = 3 ∧ e.2.part = p)) = false) →
      (pred ≠ 0 → s.sec.keys.any (fun e => decide (e.2.st = 2 ∧ e.2.pred = pred)) = false) →
      s.onSec (fun c => { c with keys := Tab.set KeyRec.blank c.keys id ⟨if pred = 0 then 1 else 2, p, use, s.staged who 0x7020 4 0, pred, s.bell.count⟩ }) = t →
      exec (.skInstall who) s = .next (((t.answer 0).applied who 0x7020 skSubs).unstage who 0x7020 4))
    ∧ ((s.key id).st ≠ 0 → (s.key id).part = p → exec (.skDestroy who) s = .next ((((s.destroyKey id).answer 0).applied who 0x7020 skSubs).unstage who 0x7020 4))
    ∧ exec (.skSelect who) s = .next ((((s.select who 0x7020 7 1 (if (s.key id).part = p then (s.key id).st else 0)).answer 0).applied who 0x7020 skSubs).unstage who 0x7020 4))
  ∧ (∀ (s : State) (who : Fin 16) (fails : Option (Fin 4 × Fin 65)), Accepts s who 0x7030 (decide (s.role who = 1) && !s.recovering) →
    (s.allHealthy = true → exec (.arCommit who fails) s = .next (((List.range 4).foldl (State.commitCounter fails) s).answer 0))
    ∧ (s.allHealthy = false → exec (.arCommit who fails) s = .next (s.answer 0x0402)))
  ∧ (∀ (s : State) (who : Fin 16) (token : List Byte), Accepts s who 0x7040 (decide (s.role who = 1) && !s.recovering) → token.length = 104 →
    s.sec.dbgWaits = false → s.sec.sealedSinceBoot = false → (List.range 4).filter (fun p => decide ((s.seal p).tenant ≠ 0)) = [] →
    exec (.dbgToken who token) s = .next (match Config.debugToken token s.sec.serial s.sec.dbgChallenge with
      | some level =>
        if level = 0 ∨ 2 < level then s.answer 0x0301
        else if level ≤ s.sec.dbgLevel then s.newChallenge.answer 0x0402 else (s.newChallenge.debugGrant level).answer 0
      | none => s.answer 0x0301))
  ∧ (∀ (s : State) (who : Fin 16) (bytes : List Byte),
    (Accepts s who 0x7000 (s.authRoots who) → bytes.length % 48 = 0 → bytes.length ≤ 192 → (bytes = [] → s.sec.opClosed = true) →
      exec (.secOpRoots who bytes) s = .next (((s.keepVal 0x7000 5 bytes.length (leNat bytes)).onSec (fun c => { c with opClosed := true })).answer 0))
    ∧ (Accepts s who 0x7000 (s.authPlain who) → bytes.length ≤ 4096 → exec (.secCert who bytes) s = .next (match Config.certRoot bytes with
      | some r =>
        if Config.certLeaf bytes = s.sec.devidHash ∧ Nat.testBit s.sec.rootsPresent r = true ∧ Nat.testBit s.sec.rootsRevoked r = false then
          (s.keepVal 0x7000 4 bytes.length (leNat bytes)).answer 0
        else s.answer 0x0301
      | none => s.answer 0x0301)))

/-- R575, R577 to R579, R581. That LOADER_ERROR has no effect but its report is the model's choice (log entry 157). -/
def Obligations.FirmwareLoading : Prop :=
  (∀ s : State, s.fw.loader.st = 1 → s.fw.loader.solicit + 1000000 ≤ s.bell.count →
    (1 < s.fw.loader.use → exec .solicitRetry s = .next s.solicit)
    ∧ (s.fw.loader.use ≤ 1 → exec .solicitRetry s
      = .next ((s.solicit.onFw (fun f => { f with refusal := if f.refusal = 0 then 1 else f.refusal })).bootRefusal 1)))
  ∧ (∀ (s s1 : State) (msg : List Byte) (h : Nat) (e : Nat → Nat × Nat) (wanted : List Nat), s.fw.loader.st = 1 → s.loaderFor 2 msg = some h →
    natBits 183 171 h = 32 → natBits 191 184 h = 255 → (∀ t, (imgField msg (32 + 8 * t) 4, imgField msg (36 + 8 * t) 4) = e t) →
    (if s.fw.loader.use = 2 then [0, 1, 2, 3] else s.fw.loader.types).filter (fun t => decide ((((List.range 4).map e).getD t (0, 0)).1 ≠ 0)) = wanted →
    s.onLoader (fun l => { l with st := 2, offered := (List.range 4).map e, types := wanted, lastData := s.bell.count }) = s1 →
    (s.fw.loader.use ≤ 1 → (e 0).1 = 0 → exec (.offer msg) s = .next (s.loadRefused 0 7 0))
    ∧ ((s.fw.loader.use ≤ 1 → (e 0).1 ≠ 0 ∧ (e 1).1 ≠ 0) → wanted ≠ [] → (∀ t, t ∈ wanted → (e t).1 ≤ 2 ^ 22) →
      exec (.offer msg) s = .next (State.issueReads 8 (s1.onLoader (fun l => { l with todo := wanted.flatMap (fun t => readsOf t (e t).1) })))))
  ∧ (∀ (s : State) (msg : List Byte) (h t o n : Nat), s.fw.loader.st = 2 → s.loaderFor 4 msg = some h → natBits 191 184 h = t → natBits 159 128 h = o →
    natBits 183 171 h = n → s.fw.loader.types.contains t = true → o % 1024 = 0 → o < s.fw.loader.bytes t →
    n = (if s.fw.loader.bytes t - o ≥ 1024 then 1024 else s.fw.loader.bytes t - o) →
    ∀ l1 : Loader, { s.fw.loader with
      lastData := s.bell.count, buf := Tab.setBytes 0#8 s.fw.loader.buf (t * 2 ^ 22 + o) (msg.drop 32)
      have' := Tab.set false s.fw.loader.have' (t * 4096 + o / 1024) true } = l1 →
    exec (.data msg) s = .next ((State.issueReads 8 (s.onLoader (fun _ => { l1 with reads := l1.reads.filter (fun r => !l1.readDone r) }))).loadDone))
  ∧ (∀ (s : State) (msg : List Byte) (h : Nat), s.loaderFor 5 msg = some h → exec (.loaderError msg) s = .next (s.emit .firmware 2 [natBits 215 208 h]))
  ∧ (∀ (s : State) (due : LoadRead → Bool) (missing : List (Nat × Nat)),
    (∀ r, decide (s.fw.loader.st = 2 ∧ s.bell.count ≥ r.bell + 20000) = due r) →
    (s.fw.loader.reads.filter due).flatMap (fun r => ((List.range (r.count / 1024)).filter (fun i =>
      decide (r.offset + 1024 * i < s.fw.loader.bytes r.itype) && !s.fw.loader.blockThere r.itype (r.offset / 1024 + i))).map
        (fun i => (r.itype, r.offset + 1024 * i))) = missing →
    exec .readRetry s = .next (missing.foldl (fun t b => t.emit .mgmt 0x103 [s.fw.loader.xid, b.1, b.2, 1024, t.sec.serial])
      (s.onLoader (fun l => { l with reads := l.reads.map (fun r => if due r then { r with bell := s.bell.count } else r) }))))
  ∧ (∀ s : State, s.fw.loader.st = 2 → s.fw.loader.complete = false → s.fw.loader.lastData + 2000000 ≤ s.bell.count →
    exec .loaderRestart s = .next (s.onFw (fun f => { f with refusal := 1 })).solicit)
  ∧ (∀ (s : State) (who : Fin 16), Accepts s who 0x1F50 (s.authPlain who) →
    (s.fw.stgState = 1 ∨ s.fw.loader.st ≠ 0 → exec (.fwStage who) s = .next (s.answer 0x0401))
    ∧ (s.fw.stgState ≠ 1 → s.fw.loader.st = 0 → s.fw.pcState = 0 → exec (.fwStage who) s
      = .next ((((s.clearSet 1).onFw (fun f => { f with stgState := 1, refusal := 0 })).startLoad 2 (s.val 0x1F50 3 0) []).answer 0))
    ∧ (s.fw.pcState = 0 → s.fw.loader.use ≠ 2 → exec (.fwDiscard who) s = .next (((s.clearSet 1).onFw (fun f => { f with stgState := 0 })).answer 0))
    ∧ (s.fw.pcState = 0 → s.fw.loader.use = 2 → exec (.fwDiscard who) s
      = .next (((s.stopLoad.clearSet 1).onFw (fun f => { f with stgState := 0 })).answer 0)))
  ∧ (∀ s : State, s.fw.stgState = 1 → s.fw.loader.use = 2 → s.fw.loader.complete = true →
    (s.firstRefusal s.secVersion s.fw.loader.types = none → ∀ t, ((s.placeImages 1).stopLoad).onFw (fun f => { f with stgState := 2 }) = t →
      exec .stageComplete s = .next (t.event 0x80 1 1 (t.setVersion 1)))
    ∧ (∀ t code, s.firstRefusal s.secVersion s.fw.loader.types = some (t, code) →
      exec .stageComplete s = .next (s.loadRefused t code (imgField (s.fw.loader.content t) 8 4))))

/-- R571 to R573, R582, R584, R586, R587, R589 to R591, Tables 20-3 and 20-9. -/
def Obligations.ActivationAndWatchdogs : Prop :=
  (∀ (s : State) (who : Fin 16), Accepts s who 0x1F51 (s.authPlain who) →
    (∀ bell slot, s.staged who 0x1F51 1 0 = bell → s.staged who 0x1F51 2 1 = slot → s.bellOut evActivate bell = false → slot = 1 ∨ slot = 2 → s.fw.pcState = 0 →
      s.evConflict evActivate slot bell = false → (slot = 1 → s.fw.stgState = 2) → (slot = 2 → s.fallbackOk = true) → s.bell.st ≠ tsUnset →
      exec (.pcSchedule who) s = .next ((((s.arm evActivate 2 slot bell).onFw (fun f => { f with
        pcState := 1, pcSlot := slot, pcBell := bell, pcFirst := bell, pcRearmed := false })).applied who 0x1F51 pcSubs).answerBell bell))
    ∧ (∀ i, s.fw.pcState = 1 ∨ s.fw.pcState = 2 → s.pcEvent = some i → exec (.pcCancel who) s = .next (((((s.setSlot i { s.slot i with st := esCancelled }).onBell
      (fun b => { b with cancelled := b.cancelled + 1 })).onFw (fun f => { f with pcState := 0, pcBell := 0, pcRearmed := false })).applied who 0x1F51 pcSubs).answer 0)))
  ∧ (∀ (s : State) (i : Nat), s.pcEvent = some i → s.fw.pcState = 2 → s.power.level < 2 → exec .activationRearm s
    = .next ((s.setSlot i { s.slot i with st := esArmed, bell := s.bell.count + 1000000 }).onFw (fun f => { f with
      pcState := 1, pcBell := s.bell.count + 1000000, pcRearmed := true })))
  ∧ (∀ (s s1 t : State) (p : Fin 64) (x : Proc), s.proc p = x → x.st = 1 ∨ x.st = 2 → s.setProc p { x with st := 2, healthy := true } = s1 →
    (if p.val = 1 then s1.onPower (fun q => { q with guardHold := false }) else if p.val = 0 ∧ x.st = 1 then s1.securityBack else s1) = t →
    (t.fw.pcState = 4 → t.trialHealthy = true → exec (.healthy p) s = .next t.acceptSet)
    ∧ (t.fw.pcState ≠ 4 ∨ t.trialHealthy = false → exec (.healthy p) s = .next t))
  ∧ (∀ (s s1 : State), s.fw.pcState = 4 → s.fw.pcStart + 5000000 ≤ s.bell.count → s.trialHealthy = false → s.onFw (fun f => { f with pcState := 5 }) = s1 →
    (s.power.level < 2 → exec .healthDeadline s = .next s1.rolledBack)
    ∧ (2 ≤ s.power.level → s.fw.pcSwitched.contains 1 = true → exec .healthDeadline s = .next (s1.switchBack (s.fw.pcSwitched.filter (· = 0)))))
  ∧ (∀ (s s1 : State) (p : Fin 64) (x : Proc) (dump : List Byte) (recent : List Nat), s.proc p = x → x.st ≠ 0 → s.dev.st ≠ 0 →
    x.restarts.filter (fun b => decide (s.bell.count < b + 3600000000)) = recent →
    (s.setProc p { x with restarts := recent ++ [s.bell.count], dump := dump.take 16384, dumpBell := s.bell.count }).event 0x80 5 p
      (s.running (procType p)).version = s1 →
    (recent.length < 2 →
      (p.val = 0 → exec (.watchdogExpiry p dump false) s = .next (((s1.startProc 0).endSessions.releaseReqs).pauseRings true))
      ∧ (p.val = 1 → exec (.watchdogExpiry p dump false) s = .next ((s1.startProc 1).onPower (fun q => { q with guardHold := true })))
      ∧ (p.val = 2 → exec (.watchdogExpiry p dump false) s = .next (s1.startProc 2)
        ∧ exec (.watchdogExpiry p dump true) s
          = .next ((s1.setProc p { s1.proc p with st := 0, healthy := false }).startLoad 3 (s.val 0x1F50 2 0) [2]))
      ∧ (32 ≤ p.val → exec (.watchdogExpiry p dump false) s
        = .next ((s1.startProc p).onFw (fun f => { f with ctxsel := Tab.set 0 f.ctxsel (p - 32) 0 }))))
    ∧ (2 ≤ recent.length → ∀ poisoned, exec (.watchdogExpiry p dump poisoned) s = .next (s1.thirdRestart p)))
  ∧ (∀ (s : State) (p : Fin 64) (a : Nat), (s.proc p).st = 1 ∨ (s.proc p).st = 2 →
    exec (.fwAccessFault p a false) s = .next (s.emit .firmware 1 [p.val, a])
    ∧ exec (.fwAccessFault p a true) s = .next (s.setProc p { s.proc p with st := 3, healthy := false }))
  ∧ (∀ (s t : State) (seq : Nat) (b : List Byte), s.ringTake 2 = t → RingRequest s 2 seq b → exec .frStatus s
    = .next (t.ringRespond 2 (fnResponse 1 seq fnOk (t.versions ++ leBytes 1 t.fw.pcState ++ leBytes 1 t.fw.stgState ++ leBytes 8 t.fw.pcBell))))
  ∧ (∀ (s t : State) (seq p o : Nat) (b : List Byte), s.ringTake 3 = t → RingRequest s 3 seq b → 6 ≤ b.length → leNat (b.take 2) = p → leNat ((b.drop 2).take 4) = o →
    p ≤ 2 ∨ 32 ≤ p → p ≤ 63 → o % 224 = 0 →
    (t.dumpDenied p = true → exec .frDump s = .next (t.ringRespond 3 (fnResponse 1 seq fnDenied [])))
    ∧ (t.dumpDenied p = false → exec .frDump s = .next (t.ringRespond 3 (fnResponse 1 seq fnOk
      (leBytes 4 (t.proc p).dump.length ++ leBytes 4 (t.proc p).dumpBell ++ ((t.proc p).dump.drop o).take 224)))))
  ∧ (∀ (s t : State) (seq : Nat) (b : List Byte), s.host.waits = [] → s.ringTake 1 = t → RingRequest s 1 seq b → 8 ≤ b.length →
    ∀ from' timeout id, leNat (b.take 4) = from' → leNat ((b.drop 6).take 2) = timeout → leNat ((b.drop 4).take 2) * 65536 + seq = id →
    from' ≠ 0xFFFFFFFF → 1 ≤ timeout → timeout ≤ 60000 →
    (∀ u, t.answerWait id from' = some u → exec .frWait s = .next u)
    ∧ (t.answerWait id from' = none → exec .frWait s = .next (t.onHost (fun h => { h with waits := [(id, from', t.bell.count + 1000 * timeout)] }))))
  ∧ (∀ (s : State) (w : Nat × Nat × Nat) (rest : List (Nat × Nat × Nat)), s.host.waits = w :: rest →
    (∀ t, s.answerWait w.1 w.2.1 = some t → exec .frWait s = .next (t.onHost (fun h => { h with waits := rest })))
    ∧ (w.2.2 ≤ s.bell.count → (s.onHost (fun h => { h with waits := rest })).answerWait w.1 w.2.1 = none → exec .frWaitTimeout s
      = .next ((s.onHost (fun h => { h with waits := rest })).ringRespond 1 (fnResponse 1 (w.1 % 65536) fnTimeout (leBytes 4 w.2.1)))))

/-- R602, R605 to R607, R611, R612, R614, Tables 21-6 and 21-7. -/
def Obligations.UnitAndPartitionResets : Prop :=
  (∀ (s : State) (who : Fin 16) (kind i : Nat) (test : Bool), s.staged who 0x6040 1 0 = kind → s.staged who 0x6040 2 0 = i →
    decide (s.staged who 0x6040 3 0 = 1) = test → Accepts s who 0x6040 (s.authPlain who) → i < unitCount kind →
    (∀ s1, s.addRun ⟨5, unitKey kind i, false, false, usFenced⟩ = s1 → kind ≠ ukStall → s.inService kind i = true → (kind = ukCore → s.moveOf i = none) →
      (kind = ukCluster → exec (.usFence who) s = .next (((s1.drainCluster i 6).settleUnits.answer 0).applied who 0x6040 usSubs))
      ∧ (kind ≠ ukCluster → exec (.usFence who) s = .next (((s1.drainUnit kind i 6).settleUnits.answer 0).applied who 0x6040 usSubs)))
    ∧ (s.unit kind i = usFenced → s.serving = true → (kind = ukCore → s.moveOf i = none) →
      (kind = ukPort → exec (.usUnfence who) s = .next (((s.moveUnit kind i usTesting 6).answer 0).applied who 0x6040 usSubs))
      ∧ (kind = ukCore ∨ kind = ukRunner ∨ kind = ukStack → exec (.usUnfence who) s = .next ((((s.moveUnit kind i (if test then usTesting else usResetting) 6).addRun
        ⟨6, unitKey kind i, true, test, 0⟩).answer 0).applied who 0x6040 usSubs)))
    ∧ (s.serving = true → s.inService kind i = true ∨ s.unit kind i = usFenced →
      (kind = ukCore → s.moveOf i = none → s.enclosed (i / 8) false = false →
        exec (.usReset who) s = .next (((s.beginCoreReset i test 0).answer 0).applied who 0x6040 usSubs))
      ∧ (kind = ukCluster → s.enclosed i true = false → exec (.usReset who) s = .next (((s.beginClusterReset i test 0).answer 0).applied who 0x6040 usSubs))
      ∧ (kind = ukRunner → s.unit kind i = usFenced → s.enclosed (8 * (i / 4)) true = false → exec (.usReset who) s
        = .next (((((s.addRun ⟨6, unitKey kind i, true, test, 0⟩).moveUnit kind i usResetting 12).settleUnits).answer 0).applied who 0x6040 usSubs)))
    ∧ (kind = ukCore → s.inService kind i = true → s.moveOf i = none → exec (.usRetire who) s = .next (((s.loseCore i 6).settleUnits.answer 0).applied who 0x6040 usSubs))
    ∧ (kind = ukCluster → s.inService kind i = true → exec (.usRetire who) s = .next (((s.loseCluster i).answer 0).applied who 0x6040 usSubs))
    ∧ (kind = ukPort ∨ kind = ukRunner ∨ kind = ukStack → s.inService kind i = true → exec (.usRetire who) s
      = .next (((((s.addRun ⟨5, unitKey kind i, false, false, usRetired⟩).drainUnit kind i 6).settleUnits).answer 0).applied who 0x6040 usSubs))
    ∧ exec (.usClearmm who) s = .next (((s.setUnit kind i { s.unitRec kind i with mismatch := false }).answer 0).applied who 0x6040 usSubs))
  ∧ (∀ (s : State) (who : Fin 16) (p m : Nat) (qs owners : List Nat), s.staged who 0x6100 1 0 = p → s.staged who 0x6100 2 0 = m →
    Accepts s who 0x6100 (s.authPlain who) → p ≤ 3 → s.serving = true →
    (s.partResetting p = false → exec (.ptReset who) s = .next (((s.beginPartReset p 0).applied who 0x6100 ptSubs).answer 0))
    ∧ (s.moving p m = qs → (p :: qs.filterMap s.quarterPart).eraseDups = owners → 1 ≤ m → m ≤ 15 → qs ≠ [] → owners.any s.partResetting = false →
      (qs.filterMap s.quarterPart).any (fun o => decide ((s.seal o).st = 1)) = false →
      s.market.rsv.any (fun e => decide (e.2.kind ≠ 0 ∧ (s.quarterPart e.2.quarter).isSome) && qs.contains e.2.quarter) = false →
      exec (.ptAssign who) s = .next ((((owners.foldl (fun t o => t.beginPartReset o 3) s).onDev (fun d => { d with assign := d.assign ++ [(p, m)] })).applied
        who 0x6100 ptSubs).answer 0)))
  ∧ (∀ (s : State) (index : Nat),
    (∀ m, s.dev.moves.find? (fun m => decide (m.core = index) && !m.drained) = some m → exec (.drainEnd 0 index) s = .next (s.lossDrained m))
    ∧ (∀ (scope : Fin 9) (r : ResetRun), s.dev.resets.find? (fun r => decide (r.scope = scope.val ∧ r.index = index) && !r.drained) = some r → scope ≠ 0 →
      exec (.drainEnd scope index) s = .next (s.runDrained r)
      ∧ (scope = 1 → exec (.drainEnd scope index) s = .next ((s.absorbReset index).markDrained r))
      ∧ (scope = 2 → exec (.drainEnd scope index) s = .next ((s.absorbCluster index).markDrained r)))
    ∧ (∀ (scope : Fin 9) (r : ResetRun) (pass : Bool),
      s.dev.resets.find? (fun r => decide (r.scope = scope.val ∧ r.index = index) && r.drained) = some r →
      (scope = 1 → exec (.resetEnd scope index pass) s
        = .next ((((s.dropRun (fun x => x = r)).backUnit ukCore index r.test pass).notice index).settleUnits))
      ∧ (scope = 2 → exec (.resetEnd scope index pass) s = .next (((clusterCores index).foldl (fun t c =>
        if t.unit ukCore c = usResetting then (t.backUnit ukCore c r.test pass).notice c else t)
        ((s.dropRun (fun x => x = r)).backUnit ukCluster index r.test pass)).settleUnits))
      ∧ (scope = 3 → exec (.resetEnd scope index pass) s = .next (s.partBack r))))
  ∧ (∀ (s : State) (key : Nat) (r u : UnitRec) (st : Nat), s.dev.units = [(key, r)] → r.dstate ≠ r.mstate → r.diffs ≠ 0 →
    (if strictness r.dstate ≥ strictness r.mstate then r.dstate else r.mstate) = st → (r.dstate ≠ usReady ∧ r.dstate ≠ usDegraded) →
    { r with dstate := st, mstate := st, mismatch := true, reason := 10, diffs := 0 } = u →
    ∀ seen, s.unitWord (key / 1024) (key % 1024) % 2 ^ 55 + 2 ^ 55 + r.dstate * 2 ^ 60 + r.mstate * 2 ^ 56 = seen →
    exec .fenceReconcile s = .next ((((s.onDev (fun d => { d with units := Tab.set UnitRec.blank d.units key u })).onDev (fun d => { d with reconciled := d.reconciled + 1 })).event
      0x12 (key / 1024 * 4096 + key % 1024) (seen % 2 ^ 32) (seen / 2 ^ 32)).settleUnits))

/-- R21, R22, R418, R419, R608, R609. -/
def Obligations.LossesAndPorts : Prop :=
  (∀ (s : State) (core : CoreIx) (reason : Fin 16) (site : Nat), s.siteOf core = some site → s.moveOf core = none → s.unit ukCore core ≠ usOff → s.unit ukCore core ≠ usRetired →
    ∀ s1, (s.markSite site).dropRun (fun r => decide (r.scope = 1 ∧ r.index = core.val ∨ (r.scope = 5 ∨ r.scope = 6) ∧ r.index = unitKey ukCore core)) = s1 →
    exec (.coreLoss core reason) s = .next (((s1.onDev (fun d => { d with
      moves := d.moves ++ [⟨core, site, (s1.spareFor (core / 8)).getD 288, false, false, false, reason⟩] })).drainUnit ukCore core reason).settleUnits))
  ∧ (∀ (s : State) (core : CoreIx) (m : MoveRun), s.moveOf core = some m → m.drained = true →
    exec (.stallCopyComplete core) s = .next (((((Tab.get [] s.market.foldQ core).map (fun r => r.sector / 4)).eraseDups.foldl State.drainLine s).setMove { m with copied := true }))
    ∧ (m.powered = true → m.copied = true → exec (.moveComplete core true) s = .next (s.moveDone m))
    ∧ (m.powered = true → exec (.moveComplete core false) s = .next (s.moveFailed m 1)))
  ∧ (∀ (s : State) (k : ClusterIx), s.unit ukCluster k ≠ usRetired → s.unit ukCluster k ≠ usOff →
    s.dev.resets.any (fun r => decide (r.scope = 8 ∧ r.index = k.val)) = false →
    ∀ s1, s.dropRun (fun r => inCluster k r || decide (r.scope = 2 ∧ r.index = k.val)
      || decide ((r.scope = 5 ∨ r.scope = 6) ∧ r.index = unitKey ukCluster k)) = s1 →
    exec (.clusterFail k) s = .next ((s1.addRun ⟨8, k, false, false, 0⟩).drainCluster k 7).settleUnits)
  ∧ (∀ (s s1 : State) (unit : Fin 320) (group : Fin 256) (wire : Fin 34) (g w old : Nat), unit.val * 256 + group.val = g → g * 64 + wire.val = w →
    Tab.get 0 s.dev.bondErrors w = old → s.onDev (fun d => { d with bondErrors := Tab.set 0 d.bondErrors w 0 }) = s1 →
    (old = 0 → exec (.bondError unit group wire) s = .next (s.onDev (fun d => { d with bondErrors := Tab.set 0 d.bondErrors w ((s.bell.count + 1) * 8 + 1) })))
    ∧ (old ≠ 0 → s.bell.count < old / 8 - 1 + 1000 → 3 ≤ old % 8 →
      (Tab.get 0 s.dev.bondRepairs g < 2 → exec (.bondError unit group wire) s = .next ((s1.onDev (fun d => { d with
        bondRepairs := Tab.set 0 d.bondRepairs g (Tab.get 0 s.dev.bondRepairs g + 1) })).onThermal (fun t => { t with bondSpares := t.bondSpares + 1 })))
      ∧ (2 ≤ Tab.get 0 s.dev.bondRepairs g → ∀ t, s1.onThermal (fun t => { t with bondLost := t.bondLost + 1 }) = t →
        (∀ c, unit.val < 288 → t.coreAt unit = some c → exec (.bondError unit group wire) s = .next (t.loseCore c 2).settleUnits)
        ∧ (288 ≤ unit.val → exec (.bondError unit group wire) s = .next (t.loseCluster (unit - 288))))))
  ∧ (∀ (s : State) (i : Fin 18),
    (s.inService ukPort i = true → exec (.portFailure i) s = .next (s.trainPort i))
    ∧ (s.unit ukPort i = usFenced → s.serving = true → exec (.portRetryTrain i) s = .next (s.trainPort i))
    ∧ (∀ who : Fin 16, Accepts s who (0x5000 + i) (s.authPlain who) → s.inService ukPort i = true ∨ s.unit ukPort i = usFenced →
      exec (.fpRetrain who i) s = .next ((s.trainPort i).answer 0))
    ∧ (∀ (lanes : Fin 16) (use st : Nat), s.unit ukPort i = usTesting →
      (if lanes.val = 15 then 15 else if lanes.val % 4 = 3 then 3 else if lanes.val / 4 = 3 then 12 else 0) = use →
      (if use = 15 then usReady else if use ≠ 0 then usDegraded else usFenced) = st →
      ∀ t, (s.setPort i { s.port i with speed := if use = 15 then 800 else if use ≠ 0 then 400 else 0, lanes := use }).moveUnit ukPort i st 9 = t →
      (use = 15 → exec (.portTrainingEnd i lanes) s = .next t.settleUnits)
      ∧ (use ≠ 15 → exec (.portTrainingEnd i lanes) s = .next ((t.event 0x40 1 i st).settleUnits))))

/-- R594, R600, R601, R603, R644, R647, R648, R652, R661. -/
def Obligations.BootAndRecorder : Prop :=
  (∀ s : State, s.dev.st = 0 → exec .coldBoot s = .next ((({ s with
      recorder := { s.recorder with pcycles := (s.recorder.pcycles + 1) % 2 ^ 32 }
      pins := { s.pins with pwrgood := true } } : State).onDev (fun d => { d with bootStep := 1, bootKind := 0, bootStart := s.bell.count })).setDev devBooting))
  ∧ (∀ s : State, (s.dev.st ≠ 5 ∨ s.pins.thermtrip = false → exec .pwrgoodDeassert s = .next s.powerOff)
    ∧ (s.dev.st = 5 → s.pins.thermtrip = true → exec .pwrgoodDeassert s = .next s) ∧ exec .brownout s = .next s.powerOff)
  ∧ (∀ (s : State) (who : Fin 16), Accepts s who 0x6000 (s.authPlain who) → s.dev.st = 2 ∨ s.dev.st = 3 ∨ s.dev.st = 4 →
    exec (.devWarmReset who) s = .next (s.warmReset.answer 0))
  ∧ (∀ (s : State) (o : BootOutcome), s.dev.st = 1 →
    (s.dev.bootStep = 1 → exec (.bootStepEnd o) s = .next (s.bootRom o))
    ∧ (s.dev.bootStep = 2 → exec (.bootStepEnd o) s = .next (s.bootClocks o))
    ∧ (s.dev.bootStep = 3 → s.imagesStarted = true → exec (.bootStepEnd o) s = .next ((s.stepRecord o false 0).toStep 4))
    ∧ (s.dev.bootStep = 4 → exec (.bootStepEnd o) s = .next (s.bootMemory o))
    ∧ (s.dev.bootStep = 5 → exec (.bootStepEnd o) s = .next (s.bootLinks o))
    ∧ (s.dev.bootStep = 6 → s.power.level < 2 → exec (.bootStepEnd o) s = .next (s.bootUnits o))
    ∧ (s.dev.bootStep = 0x11 → exec (.bootStepEnd o) s = .next (s.warmRom o))
    ∧ (s.dev.bootStep = 0x12 → exec (.bootStepEnd o) s = .next ((s.stepRecord o false 0).toStep 0x13))
    ∧ (s.dev.bootStep = 0x13 → exec (.bootStepEnd o) s = .next (s.warmImages o))
    ∧ (s.dev.bootStep = 0x14 → exec (.bootStepEnd o) s = .next ((s.stepRecord o false 0).toStep 0x15))
    ∧ (s.dev.bootStep = 0x15 → s.power.level < 2 → exec (.bootStepEnd o) s = .next (s.warmUnits o))
    ∧ (s.dev.bootStep = 7 ∨ s.dev.bootStep = 0x16 → ∀ t, s.onDev (fun d => { d with bootMs := o.ms }) = t →
      (t.coresEnabled = 0 → exec (.bootStepEnd o) s = .next (t.enterSafe 4))
      ∧ (t.coresEnabled ≠ 0 → t.anyPort = false → exec (.bootStepEnd o) s = .next (t.enterSafe 1))
      ∧ (t.coresEnabled ≠ 0 → t.anyPort = true → t.power.mktFailed.any (fun e => e.2 = 15) = false →
        exec (.bootStepEnd o) s = .next ((t.stepRecord o false 0).setDev (if t.allReady then 2 else 3)))))
  ∧ (∀ s : State, s.dev.st ≠ 0 →
    (s.recorder.state ≠ 2 →
      (∀ x rest, s.recorder.queue = x :: rest →
        exec (.recordFlashWrite 0) s = .next (({ s with recorder := { s.recorder.program x with queue := rest } } : State).recState 0)
        ∧ exec (.recordFlashWrite 1) s = .next (s.recState 2))
      ∧ exec (.recordFlashWrite 2) s = .next (s.recState 1))
    ∧ (s.recorder.state = 2 → ∀ flash, exec (.recordFlashWrite flash) s = .next s)
    ∧ exec .optimePersist s = .next { s with
      recorder := { s.recorder with opsecStored := s.recorder.opsec }
      thermal := { s.thermal with saved := (s.thermal.armed, s.thermal.cyclePeak, s.thermal.trough) } })
  ∧ (∀ (s t : State) (who : Fin 16), Accepts s who 0x9020 (s.authPlain who) → s.recorder.queue.length ≤ 510 →
    s.event 1 1 s.recorder.span (if (s.sessionOf who).isSome then 0 else 1) = t →
    exec (.erClear who) s = .next (({ t with recorder := { t.recorder with oldest := t.recorder.head, clears := t.recorder.clears + 1 } } : State).answer 0))

/-- R552, R554, R565, R566, R595, R631, R633, R638. -/
def Obligations.RefusalOrder : Prop :=
  ∀ (s : State) (who : Fin 16),
    (∀ x : Instr × Nat, x ∈ ([(.seArm who, 0x3010), (.seCancel who, 0x3010), (.seSelect who, 0x3010), (.btStep who, 0x3002), (.rbBind who, 0x4100),
        (.rbUnbind who, 0x4100), (.devWarmReset who, 0x6000), (.scBind who, 0x5200), (.scUnbind who, 0x5200), (.wnCreate who, 0x5100),
        (.wnDestroy who, 0x5100), (.wnSelect who, 0x5100), (.grDefine who, 0x5300), (.grDelete who, 0x5300), (.grSelect who, 0x5300),
        (.rdSet who, 0x5440), (.rdClear who, 0x5440), (.rdSelect who, 0x5440), (.fwStage who, 0x1F50), (.fwDiscard who, 0x1F50)] ++
        [(.pcSchedule who, 0x1F51), (.pcCancel who, 0x1F51), (.cxCreate who, 0x4200), (.cxSet who, 0x4200), (.cxDestroy who, 0x4200),
        (.cxSelect who, 0x4200), (.rgMap who, 0x4210), (.rgAlias who, 0x4210), (.rgFree who, 0x4210), (.rgPin who, 0x4210), (.rgUnpin who, 0x4210),
        (.rgSelect who, 0x4210), (.drClear who, 0x2131), (.fgSchedule who, 0x2101), (.rtRetire who, 0x4420), (.rtSelect who, 0x4420),
        (.tsWriteData who, 0x4430), (.tsWriteCheck who, 0x4430), (.tsWriteBoth who, 0x4430), (.tsReadRaw who, 0x4430)] ++
        [(.erClear who, 0x9020), (.usFence who, 0x6040), (.usUnfence who, 0x6040), (.usReset who, 0x6040), (.usRetire who, 0x6040),
        (.usClearmm who, 0x6040), (.ptReset who, 0x6100), (.ptAssign who, 0x6100), (.wqCreate who, 0x6800), (.wqSet who, 0x6800), (.wqPause who, 0x6800),
        (.wqEnable who, 0x6800), (.wqDrain who, 0x6800), (.wqDestroy who, 0x6800), (.wqSelect who, 0x6800), (.odDefaults who, 0x1020)] : List (Instr × Nat)) →
      RefusesFirst s who x.2 (s.authPlain who) x.1)
    ∧ (∀ p : PartIx, RefusesFirst s who (0x5400 + p) (s.authPlain who) (.fsStop who p) ∧ RefusesFirst s who (0x5410 + p) (s.authPlain who) (.fhTakeover who p)
      ∧ RefusesFirst s who (0x5410 + p) (s.authPlain who) (.fhDiscard who p) ∧ RefusesFirst s who (0x7010 + p) (s.authPlain who) (.psUnseal who p)
      ∧ RefusesFirst s who (0x7010 + p) (s.authSeal who) (.psSeal who p) ∧ RefusesFirst s who (0x2340 + p) (s.authPlain who) (.tpEnable who p)
      ∧ RefusesFirst s who (0x2340 + p) (s.authPlain who) (.tpDisable who p)
      ∧ ∀ partnerOk, RefusesFirst s who (0x5400 + p) (s.authPlain who) (.fsStart who p partnerOk))
    ∧ (∀ (i : Fin 16) (kind : Fin 256), RefusesFirst s who (rsvIndex i) (s.authPlain who) (.rsvApply who i kind)
      ∧ RefusesFirst s who (rsvIndex i) (s.authPlain who) (.rsvRelease who i))
    ∧ (∀ w : Fin 64, RefusesFirst s who (0xA000 + w) (s.authPlain who) (.rwEnable who w) ∧ RefusesFirst s who (0xA000 + w) (s.authPlain who) (.rwDisable who w))
    ∧ (∀ port : Fin 18, RefusesFirst s who (0x5000 + port) (s.authPlain who) (.fpRetrain who port))
    ∧ (∀ (pin : Fin 8) (code : Fin 256) (v : Word), RefusesFirst s who 0x1200 (s.authPlain who) (.gpFunc who pin code)
      ∧ RefusesFirst s who 0x1200 (s.authPlain who) (.gpPeriod who v))
    ∧ (∀ c, c = .skInstall who ∨ c = .skDestroy who ∨ c = .skSelect who → RefusesFirst s who 0x7020 (s.authTenant who (s.staged who 0x7020 1 0)) c)
    ∧ RefusesFirst s who 0x4200 (s.authTenant who (s.ctx (s.staged who 0x4200 1 0)).part) (.cxSetkey who)
    ∧ (∀ fails, RefusesFirst s who 0x7030 (decide (s.role who = 1) && !s.recovering) (.arCommit who fails))
    ∧ (∀ bytes, RefusesFirst s who 0x7040 (decide (s.role who = 1) && !s.recovering) (.dbgToken who bytes)
      ∧ RefusesFirst s who 0x7000 (s.authRoots who) (.secOpRoots who bytes) ∧ RefusesFirst s who 0x7000 (s.authPlain who) (.secCert who bytes))

/-- R595, R619, R621, R624 to R627, R631, Tables 22-4 and 22-5. -/
def Obligations.DictionaryFrames : Prop :=
  ∀ (s u v : State) (src : FrameSrc) (bytes : List Byte) (who : Fin 16) (f : DictFrame), Arrives s src bytes who f u → u.forgetTid who f.tid = v →
    (f.op = 9 → exec (.odAbort src bytes) s = .next (u.closeTrans who f.tid))
    ∧ (f.op = 1 → ∀ m, (u.requester who).memo.find? (fun m => m.key = f.key) = some m → exec (.odRead src bytes) s
      = .next (({ u with dict := { u.dict with repeats := u.dict.repeats + 1 } } : State).sendOd (u.requester who).path (u.requester who).source
        (leBytes (m.answer.headD 0) (m.answer.getD 1 0))))
    ∧ (Fresh u who f →
      (f.op = 1 → u.findTrans who f.tid ≠ none → exec (.odRead src bytes) s = .next (u.abortFrame who f abortSequence))
      ∧ (f.op = 1 → u.findTrans who f.tid = none → 4 ≤ (v.requester who).trans.length →
        exec (.odRead src bytes) s = .next (v.respondAbort who f.key f.tid f.index f.sub abortBusy))
      ∧ (f.op = 1 → u.findTrans who f.tid = none → (v.requester who).trans.length < 4 →
        (v.earlyBoot = true → ¬ (f.index = 0x6000 ∧ (f.sub = 1 ∨ f.sub = 2)) → exec (.odRead src bytes) s = .next (v.respondStatus who f 0x0402))
        ∧ (v.earlyBoot = false ∨ (f.index = 0x6000 ∧ (f.sub = 1 ∨ f.sub = 2)) →
          (∀ b, v.odRead who f.index f.sub = (0, b) → exec (.odRead src bytes) s = .next (v.sendSegment who f f.index f.sub 0 b))
          ∧ (∀ e b, e ≠ 0 → v.odRead who f.index f.sub = (e, b) → exec (.odRead src bytes) s = .next (v.respondStatus who f e))))
      ∧ (f.op = 4 → ∀ t, u.findTrans who f.tid = some t →
        (t.write = false → f.seg = t.seg → exec (.odNext src bytes) s = .next (u.sendSegment who f t.index t.sub t.seg t.buf))
        ∧ (t.write = true ∨ f.seg ≠ t.seg → exec (.odNext src bytes) s = .next (u.abortFrame who f abortSequence)))
      ∧ (f.op = 2 → u.findTrans who f.tid = none → (v.requester who).trans.length < 4 → v.earlyBoot = false → ∀ found e, v.odWriteCheck who f.index f.sub f.total = e →
        (e ≠ 0 → e ≠ 3 → exec (.odWrite src bytes found) s = .next (v.respondStatus who f e))
        ∧ (e = 3 → exec (.odWrite src bytes found) s = .next (v.abortFrame who f abortLength))
        ∧ (e = 0 → f.part = true → f.data.length = 236 → 236 ≤ f.total → exec (.odWrite src bytes found) s
          = .next ((v.openTrans who ⟨f.tid, true, f.index, f.sub, f.total, f.data, f.seg + 1, v.bell.count⟩).respondWith who f.key f.tid f.index f.sub 0 f.seg 0 true []))
        ∧ (e = 0 → f.part = false → f.data.length = f.total → ∀ t, v.finishWrite who f f.index f.sub f.data found = some t →
          exec (.odWrite src bytes found) s = .next t))
      ∧ (f.op = 3 → ∀ t, u.findTrans who f.tid = some t → t.write = true →
        (f.seg ≠ t.seg → exec (.odSeg src bytes) s = .next (u.abortFrame who f abortSequence))
        ∧ (f.seg = t.seg → f.part = false → (t.buf ++ f.data).length ≠ t.total → exec (.odSeg src bytes) s = .next (u.abortFrame who f abortLength))
        ∧ (f.seg = t.seg → f.part = false → (t.buf ++ f.data).length = t.total → ∀ r, u.finishWrite who f t.index t.sub (t.buf ++ f.data) nothingFound = some r →
          exec (.odSeg src bytes) s = .next r)))

/-- R569, R571, R621, R625, R626, R631, R636, R637. -/
def Obligations.RegistersAndTime : Prop :=
  (∀ (s : State) (who : Fin 16) (index : Fin 65536) (sub : Fin 256) (bytes : List Byte) (r : OdRow) (v : Nat), s.served who = true → s.earlyBoot = false →
    odRow index sub = some r → r.kind ≠ .command → leNat bytes = v →
    (∀ e, s.odWriteCheck who index sub bytes.length = e → e ≠ 0 → e ≠ 3 → exec (.registerWrite (.sub who index sub) bytes) s = .next (s.answer e))
    ∧ (s.odWriteCheck who index sub bytes.length = 0 → s.writable index = true →
      (r.kind ≠ .staged → s.plainRefusal index sub v = 0 →
        exec (.registerWrite (.sub who index sub) bytes) s = .next ((s.storePlain r.kind index sub bytes.length v).answer 0))
      ∧ (r.kind ≠ .staged → ∀ e, e ≠ 0 → s.plainRefusal index sub v = e → exec (.registerWrite (.sub who index sub) bytes) s = .next (s.answer e))
      ∧ (r.kind = .staged → (r.size = .bool → v ≤ 1) →
        exec (.registerWrite (.sub who index sub) bytes) s = .next ((s.storeStaged who index sub bytes.length v).answer 0))))
  ∧ (∀ (s : State) (bytes : List Byte),
    (∀ p : Fin 64, (s.proc p).st ≠ 0 → exec (.registerWrite (.beat p) bytes) s = .next (s.setProc p { s.proc p with beat := leNat bytes % 65536 }))
    ∧ (∀ k : ClusterIx, exec (.registerWrite (.ctxsel k) bytes) s = .next (s.onFw (fun f => { f with
      ctxsel := Tab.set 0 f.ctxsel k ((if Nat.testBit (leNat bytes) 63 then 2 ^ 63 else 0) + leNat bytes % 4096) }))))
  ∧ (∀ (s : State) (who : Fin 16), Accepts s who 0x1020 (s.authPlain who) →
    ((∃ p, p < 4 ∧ (s.seal p).st = 1) → exec (.odDefaults who) s = .next (s.answer 0x0402))
    ∧ ((∀ p, p < 4 → (s.seal p).st ≠ 1) → exec (.odDefaults who) s = .next (({ s with dict := { s.dict with defaults := true } } : State).answer 0)))
  ∧ (∀ (s u : State) (who : Fin 16) (tid : Fin 256) (t : Trans), s.findTrans who tid = some t → s.closeTrans who tid = u →
    (t.bell + 2000000 ≤ s.bell.count → exec (.transactionTimeout who tid) s
      = .next (({ u with dict := { u.dict with aborts := u.dict.aborts + 1 } } : State).sendOd (u.requester who).path (u.requester who).source
        (DictFrame.bytes ⟨9, tid, t.index, t.sub, abortTimeout, 0, 0, false, [], 0⟩)))
    ∧ (s.bell.count < t.bell + 2000000 → exec (.transactionTimeout who tid) s = .next s))
  ∧ (∀ (s : State) (who : Fin 16), (s.requester who).used = true →
    ((s.requester who).bell + 60000000 ≤ s.bell.count → exec (.requesterExpiry who) s = .next (s.releaseReq who))
    ∧ (s.bell.count < (s.requester who).bell + 60000000 → exec (.requesterExpiry who) s = .next s))
  ∧ (∀ s : State, s.recorder.state ≠ 1 → exec .persistRetry s
    = .next { s with dict := s.dict.storeBad.foldl (fun d k => d.persist k (Tab.get 0 d.vals k)) s.dict })

/-- R622, R623, Tables 22-3 and 22-4. -/
def Obligations.FrameRoundTrip : Prop :=
  (∀ f : DictFrame, FrameFields f → readFrame f.bytes = some { f with crc := crc32c (f.head ++ f.data) })
  ∧ (∀ (b : List Byte) (f : DictFrame), readFrame b = some f → FrameFields f ∧ f.bytes = b ∧ f.crc = crc32c (f.head ++ f.data))
end

