-- ==== Sys2Proof/Laws/Command.lean ====
section
/-!
SUPPORT. What the shared checks of a dictionary command and of an epoch command do when they pass.
-/

namespace Sys2Proof.Laws
open Sys2Proof Sys2Proof.Machine

/-- A command that is accepted runs. -/
theorem command_accepts {s : State} {who index : Nat} {auth : Bool} (h : Accepts s who index auth) (k : State → State) :
    s.command who index auth k = k s := by
  obtain ⟨h1, h2, h3, h4, h5⟩ := h
  simp only [State.command, State.admitWrite, h1, h2, h3, h4]
  by_cases hi : index = 0x6800
  · simp [hi, h5 hi]
  · simp [hi]

/-- A write that is accepted runs. -/
theorem admitWrite_accepts {s : State} {who index : Nat} {auth : Bool} (h : Accepts s who index auth) (k : State → State) :
    s.admitWrite who index auth k = k s := by
  obtain ⟨h1, h2, h3, h4, -⟩ := h
  simp [State.admitWrite, h1, h2, h3, h4]

/-- An epoch command whose epochs are open runs. -/
theorem epCmd_open {s : State} {who : Nat} {w : BitVec 28} (h : EpochsOpen s who w) {join : Bool} (hj : join = true → who < 32) (k : State → State) :
    s.epCmd who w join k = k s := by
  obtain ⟨h1, h2, h3⟩ := h
  simp only [State.epCmd, h1, Bool.false_or]
  rw [if_neg (by simp; intro e; exact hj e), if_neg h2, if_neg, if_neg]
  · simp only [List.any_eq_true, List.mem_range, not_exists, not_and, Bool.and_eq_true, decide_eq_true_eq]
    intro e he hm; simp [(h3 e he hm).1]
  · simp only [List.any_eq_true, List.mem_range, not_exists, not_and, Bool.and_eq_true, decide_eq_true_eq]
    intro e he hm; simp [(h3 e he hm.1).2]

/-- After answer 0 the staged values are the last applied. -/
theorem appliedIf_answer (t : State) (who i : Nat) (l : List (Nat × Nat × Nat)) :
    (t.answer 0).appliedIf who i l = (t.answer 0).applied who i l := by
  simp [State.appliedIf, State.answer, State.emit]

end Sys2Proof.Laws
end

