-- ==== Sys2Proof/Laws/Descriptor.lean ====
section
/-!
SUPPORT. What the shared checks of a descriptor do when it passes them.
-/

namespace Sys2Proof.Laws
open Sys2Proof Sys2Proof.Machine

/-- A running sequencer issues a descriptor whose CRC is right (R178, R179). -/
theorem decodeDesc_runs {s : State} {c cls : Nat} {p : BitVec 92} {crc : Word} (h : DescriptorRuns s c cls p crc) (k : State → State) :
    s.decodeDesc c cls p crc k = k s := by
  simp only [State.decodeDesc]
  rw [if_neg (not_not_intro h.1), if_neg (not_not_intro h.2)]

/-- A sequencer descriptor that is not malformed acts on the state with the descriptor taken. -/
theorem seqDesc_runs {s : State} {c cls : Nat} {p : BitVec 92} {crc : Word} (h : DescriptorRuns s c cls p crc) {bad : Bool} (hb : bad = false)
    (f : State → State) : s.seqDesc c cls p crc bad f = f (s.onCore c Core.taken) := by
  simp only [State.seqDesc, decodeDesc_runs h, hb]
  rfl

end Sys2Proof.Laws
end

