-- ==== Sys2Proof/Laws/Exec.lean ====
section
/-!
SUPPORT. What `exec` runs for each command: one equation per constructor, each by `rfl`, so that no proof unfolds the dispatch.
-/

namespace Sys2Proof.Laws
open Sys2Proof Sys2Proof.Machine

variable (s : State)

@[simp] theorem exec_pass (core : CoreIx) (payload : BitVec 92) (crc : Word) : exec (.pass core payload crc) s = execPass core payload crc s := rfl
@[simp] theorem exec_anchorScan (core : CoreIx) : exec (.anchorScan core) s = execAnchorScan core s := rfl
@[simp] theorem exec_passComplete (core : CoreIx) : exec (.passComplete core) s = execPassComplete core s := rfl
@[simp] theorem exec_arrayAbort (core : CoreIx) : exec (.arrayAbort core) s = execArrayAbort core s := rfl
@[simp] theorem exec_rampDown (core : CoreIx) : exec (.rampDown core) s = execRampDown core s := rfl
@[simp] theorem exec_run (core : CoreIx) (payload : BitVec 92) (crc : Word) : exec (.run core payload crc) s = execRun core payload crc s := rfl
@[simp] theorem exec_exportRun (core : CoreIx) (payload : BitVec 92) (crc : Word) : exec (.exportRun core payload crc) s = execExportRun core payload crc s := rfl
@[simp] theorem exec_summaryDeliver (core : CoreIx) : exec (.summaryDeliver core) s = execSummaryDeliver core s := rfl
@[simp] theorem exec_tld (core : CoreIx) (payload : BitVec 92) (crc : Word) : exec (.tld core payload crc) s = execTld core payload crc s := rfl
@[simp] theorem exec_tst (core : CoreIx) (payload : BitVec 92) (crc : Word) : exec (.tst core payload crc) s = execTst core payload crc s := rfl
@[simp] theorem exec_tcpy (core : CoreIx) (payload : BitVec 92) (crc : Word) : exec (.tcpy core payload crc) s = execTcpy core payload crc s := rfl
@[simp] theorem exec_launch (core : CoreIx) (payload : BitVec 92) (crc : Word) : exec (.launch core payload crc) s = execLaunch core payload crc s := rfl
@[simp] theorem exec_trayStart (core : CoreIx) (slot : Fin 16) : exec (.trayStart core slot) s = execTrayStart core slot s := rfl
@[simp] theorem exec_trayEnd (core : CoreIx) (slot : Fin 16) : exec (.trayEnd core slot) s = execTrayEnd core slot s := rfl
@[simp] theorem exec_livelock (core : CoreIx) (slot : Fin 16) : exec (.livelock core slot) s = execLivelock core slot s := rfl
@[simp] theorem exec_tAdd (core : CoreIx) (slot : Fin 16) (p : BitVec 54) : exec (.tAdd core slot p) s = execTAdd core slot p s := rfl
@[simp] theorem exec_tSub (core : CoreIx) (slot : Fin 16) (p : BitVec 54) : exec (.tSub core slot p) s = execTSub core slot p s := rfl
@[simp] theorem exec_tMul (core : CoreIx) (slot : Fin 16) (p : BitVec 54) : exec (.tMul core slot p) s = execTMul core slot p s := rfl
@[simp] theorem exec_tMin (core : CoreIx) (slot : Fin 16) (p : BitVec 54) : exec (.tMin core slot p) s = execTMin core slot p s := rfl
@[simp] theorem exec_tMax (core : CoreIx) (slot : Fin 16) (p : BitVec 54) : exec (.tMax core slot p) s = execTMax core slot p s := rfl
@[simp] theorem exec_tMinu (core : CoreIx) (slot : Fin 16) (p : BitVec 54) : exec (.tMinu core slot p) s = execTMinu core slot p s := rfl
@[simp] theorem exec_tMaxu (core : CoreIx) (slot : Fin 16) (p : BitVec 54) : exec (.tMaxu core slot p) s = execTMaxu core slot p s := rfl
@[simp] theorem exec_tAnd (core : CoreIx) (slot : Fin 16) (p : BitVec 54) : exec (.tAnd core slot p) s = execTAnd core slot p s := rfl
@[simp] theorem exec_tOr (core : CoreIx) (slot : Fin 16) (p : BitVec 54) : exec (.tOr core slot p) s = execTOr core slot p s := rfl
@[simp] theorem exec_tXor (core : CoreIx) (slot : Fin 16) (p : BitVec 54) : exec (.tXor core slot p) s = execTXor core slot p s := rfl
@[simp] theorem exec_tShl (core : CoreIx) (slot : Fin 16) (p : BitVec 54) : exec (.tShl core slot p) s = execTShl core slot p s := rfl
@[simp] theorem exec_tShr (core : CoreIx) (slot : Fin 16) (p : BitVec 54) : exec (.tShr core slot p) s = execTShr core slot p s := rfl
@[simp] theorem exec_tSar (core : CoreIx) (slot : Fin 16) (p : BitVec 54) : exec (.tSar core slot p) s = execTSar core slot p s := rfl
@[simp] theorem exec_tMov (core : CoreIx) (slot : Fin 16) (p : BitVec 54) : exec (.tMov core slot p) s = execTMov core slot p s := rfl
@[simp] theorem exec_tSel (core : CoreIx) (slot : Fin 16) (p : BitVec 54) : exec (.tSel core slot p) s = execTSel core slot p s := rfl
@[simp] theorem exec_tAdd64 (core : CoreIx) (slot : Fin 16) (p : BitVec 54) : exec (.tAdd64 core slot p) s = execTAdd64 core slot p s := rfl
@[simp] theorem exec_tSub64 (core : CoreIx) (slot : Fin 16) (p : BitVec 54) : exec (.tSub64 core slot p) s = execTSub64 core slot p s := rfl
@[simp] theorem exec_tMin64 (core : CoreIx) (slot : Fin 16) (p : BitVec 54) : exec (.tMin64 core slot p) s = execTMin64 core slot p s := rfl
@[simp] theorem exec_tMax64 (core : CoreIx) (slot : Fin 16) (p : BitVec 54) : exec (.tMax64 core slot p) s = execTMax64 core slot p s := rfl
@[simp] theorem exec_tLt (core : CoreIx) (slot : Fin 16) (p : BitVec 54) : exec (.tLt core slot p) s = execTLt core slot p s := rfl
@[simp] theorem exec_tLe (core : CoreIx) (slot : Fin 16) (p : BitVec 54) : exec (.tLe core slot p) s = execTLe core slot p s := rfl
@[simp] theorem exec_tEq (core : CoreIx) (slot : Fin 16) (p : BitVec 54) : exec (.tEq core slot p) s = execTEq core slot p s := rfl
@[simp] theorem exec_tLtu (core : CoreIx) (slot : Fin 16) (p : BitVec 54) : exec (.tLtu core slot p) s = execTLtu core slot p s := rfl
@[simp] theorem exec_tLeu (core : CoreIx) (slot : Fin 16) (p : BitVec 54) : exec (.tLeu core slot p) s = execTLeu core slot p s := rfl
@[simp] theorem exec_tLt64 (core : CoreIx) (slot : Fin 16) (p : BitVec 54) : exec (.tLt64 core slot p) s = execTLt64 core slot p s := rfl
@[simp] theorem exec_tEq64 (core : CoreIx) (slot : Fin 16) (p : BitVec 54) : exec (.tEq64 core slot p) s = execTEq64 core slot p s := rfl
@[simp] theorem exec_tPand (core : CoreIx) (slot : Fin 16) (p : BitVec 54) : exec (.tPand core slot p) s = execTPand core slot p s := rfl
@[simp] theorem exec_tPor (core : CoreIx) (slot : Fin 16) (p : BitVec 54) : exec (.tPor core slot p) s = execTPor core slot p s := rfl
@[simp] theorem exec_tPnot (core : CoreIx) (slot : Fin 16) (p : BitVec 54) : exec (.tPnot core slot p) s = execTPnot core slot p s := rfl
@[simp] theorem exec_tFadd (core : CoreIx) (slot : Fin 16) (p : BitVec 54) : exec (.tFadd core slot p) s = execTFadd core slot p s := rfl
@[simp] theorem exec_tFsub (core : CoreIx) (slot : Fin 16) (p : BitVec 54) : exec (.tFsub core slot p) s = execTFsub core slot p s := rfl
@[simp] theorem exec_tFmul (core : CoreIx) (slot : Fin 16) (p : BitVec 54) : exec (.tFmul core slot p) s = execTFmul core slot p s := rfl
@[simp] theorem exec_tFfma (core : CoreIx) (slot : Fin 16) (p : BitVec 54) : exec (.tFfma core slot p) s = execTFfma core slot p s := rfl
@[simp] theorem exec_tFmin (core : CoreIx) (slot : Fin 16) (p : BitVec 54) : exec (.tFmin core slot p) s = execTFmin core slot p s := rfl
@[simp] theorem exec_tFmax (core : CoreIx) (slot : Fin 16) (p : BitVec 54) : exec (.tFmax core slot p) s = execTFmax core slot p s := rfl
@[simp] theorem exec_tFabs (core : CoreIx) (slot : Fin 16) (p : BitVec 54) : exec (.tFabs core slot p) s = execTFabs core slot p s := rfl
@[simp] theorem exec_tFneg (core : CoreIx) (slot : Fin 16) (p : BitVec 54) : exec (.tFneg core slot p) s = execTFneg core slot p s := rfl
@[simp] theorem exec_tFrcp (core : CoreIx) (slot : Fin 16) (p : BitVec 54) : exec (.tFrcp core slot p) s = execTFrcp core slot p s := rfl
@[simp] theorem exec_tFsqrt (core : CoreIx) (slot : Fin 16) (p : BitVec 54) : exec (.tFsqrt core slot p) s = execTFsqrt core slot p s := rfl
@[simp] theorem exec_tFrsqrt (core : CoreIx) (slot : Fin 16) (p : BitVec 54) : exec (.tFrsqrt core slot p) s = execTFrsqrt core slot p s := rfl
@[simp] theorem exec_tFexp2 (core : CoreIx) (slot : Fin 16) (p : BitVec 54) : exec (.tFexp2 core slot p) s = execTFexp2 core slot p s := rfl
@[simp] theorem exec_tFlog2 (core : CoreIx) (slot : Fin 16) (p : BitVec 54) : exec (.tFlog2 core slot p) s = execTFlog2 core slot p s := rfl
@[simp] theorem exec_tFtanh (core : CoreIx) (slot : Fin 16) (p : BitVec 54) : exec (.tFtanh core slot p) s = execTFtanh core slot p s := rfl
@[simp] theorem exec_tFlogistic (core : CoreIx) (slot : Fin 16) (p : BitVec 54) : exec (.tFlogistic core slot p) s = execTFlogistic core slot p s := rfl
@[simp] theorem exec_tFrint (core : CoreIx) (slot : Fin 16) (p : BitVec 54) : exec (.tFrint core slot p) s = execTFrint core slot p s := rfl
@[simp] theorem exec_tFlt (core : CoreIx) (slot : Fin 16) (p : BitVec 54) : exec (.tFlt core slot p) s = execTFlt core slot p s := rfl
@[simp] theorem exec_tFle (core : CoreIx) (slot : Fin 16) (p : BitVec 54) : exec (.tFle core slot p) s = execTFle core slot p s := rfl
@[simp] theorem exec_tFeq (core : CoreIx) (slot : Fin 16) (p : BitVec 54) : exec (.tFeq core slot p) s = execTFeq core slot p s := rfl
@[simp] theorem exec_tF2x (core : CoreIx) (slot : Fin 16) (p : BitVec 54) : exec (.tF2x core slot p) s = execTF2x core slot p s := rfl
@[simp] theorem exec_tX2f (core : CoreIx) (slot : Fin 16) (p : BitVec 54) : exec (.tX2f core slot p) s = execTX2f core slot p s := rfl
@[simp] theorem exec_tMovs (core : CoreIx) (slot : Fin 16) (p : BitVec 54) : exec (.tMovs core slot p) s = execTMovs core slot p s := rfl
@[simp] theorem exec_tJmp (core : CoreIx) (slot : Fin 16) (p : BitVec 54) : exec (.tJmp core slot p) s = execTJmp core slot p s := rfl
@[simp] theorem exec_tJmpi (core : CoreIx) (slot : Fin 16) (p : BitVec 54) : exec (.tJmpi core slot p) s = execTJmpi core slot p s := rfl
@[simp] theorem exec_tSsy (core : CoreIx) (slot : Fin 16) (p : BitVec 54) : exec (.tSsy core slot p) s = execTSsy core slot p s := rfl
@[simp] theorem exec_tBrd (core : CoreIx) (slot : Fin 16) (p : BitVec 54) : exec (.tBrd core slot p) s = execTBrd core slot p s := rfl
@[simp] theorem exec_tBrk (core : CoreIx) (slot : Fin 16) (p : BitVec 54) : exec (.tBrk core slot p) s = execTBrk core slot p s := rfl
@[simp] theorem exec_tSync (core : CoreIx) (slot : Fin 16) (p : BitVec 54) : exec (.tSync core slot p) s = execTSync core slot p s := rfl
@[simp] theorem exec_tExit (core : CoreIx) (slot : Fin 16) (p : BitVec 54) : exec (.tExit core slot p) s = execTExit core slot p s := rfl
@[simp] theorem exec_tProgress (core : CoreIx) (slot : Fin 16) (p : BitVec 54) : exec (.tProgress core slot p) s = execTProgress core slot p s := rfl
@[simp] theorem exec_tLd (core : CoreIx) (slot : Fin 16) (p : BitVec 54) : exec (.tLd core slot p) s = execTLd core slot p s := rfl
@[simp] theorem exec_tLdl (core : CoreIx) (slot : Fin 16) (p : BitVec 54) : exec (.tLdl core slot p) s = execTLdl core slot p s := rfl
@[simp] theorem exec_tSt (core : CoreIx) (slot : Fin 16) (p : BitVec 54) : exec (.tSt core slot p) s = execTSt core slot p s := rfl
@[simp] theorem exec_tFold (core : CoreIx) (slot : Fin 16) (p : BitVec 54) : exec (.tFold core slot p) s = execTFold core slot p s := rfl
@[simp] theorem exec_trayFence (core : CoreIx) (slot : Fin 16) (p : BitVec 54) : exec (.trayFence core slot p) s = execTrayFence core slot p s := rfl
@[simp] theorem exec_atomAdd (core : CoreIx) (slot : Fin 16) (p : BitVec 54) : exec (.atomAdd core slot p) s = execAtomAdd core slot p s := rfl
@[simp] theorem exec_atomMin (core : CoreIx) (slot : Fin 16) (p : BitVec 54) : exec (.atomMin core slot p) s = execAtomMin core slot p s := rfl
@[simp] theorem exec_atomMax (core : CoreIx) (slot : Fin 16) (p : BitVec 54) : exec (.atomMax core slot p) s = execAtomMax core slot p s := rfl
@[simp] theorem exec_atomMinu (core : CoreIx) (slot : Fin 16) (p : BitVec 54) : exec (.atomMinu core slot p) s = execAtomMinu core slot p s := rfl
@[simp] theorem exec_atomMaxu (core : CoreIx) (slot : Fin 16) (p : BitVec 54) : exec (.atomMaxu core slot p) s = execAtomMaxu core slot p s := rfl
@[simp] theorem exec_atomFmin (core : CoreIx) (slot : Fin 16) (p : BitVec 54) : exec (.atomFmin core slot p) s = execAtomFmin core slot p s := rfl
@[simp] theorem exec_atomFmax (core : CoreIx) (slot : Fin 16) (p : BitVec 54) : exec (.atomFmax core slot p) s = execAtomFmax core slot p s := rfl
@[simp] theorem exec_atomAnd (core : CoreIx) (slot : Fin 16) (p : BitVec 54) : exec (.atomAnd core slot p) s = execAtomAnd core slot p s := rfl
@[simp] theorem exec_atomOr (core : CoreIx) (slot : Fin 16) (p : BitVec 54) : exec (.atomOr core slot p) s = execAtomOr core slot p s := rfl
@[simp] theorem exec_atomXor (core : CoreIx) (slot : Fin 16) (p : BitVec 54) : exec (.atomXor core slot p) s = execAtomXor core slot p s := rfl
@[simp] theorem exec_xchg (core : CoreIx) (slot : Fin 16) (p : BitVec 54) : exec (.xchg core slot p) s = execXchg core slot p s := rfl
@[simp] theorem exec_cas (core : CoreIx) (slot : Fin 16) (p : BitVec 54) : exec (.cas core slot p) s = execCas core slot p s := rfl
@[simp] theorem exec_atomFadd (core : CoreIx) (slot : Fin 16) (p : BitVec 54) : exec (.atomFadd core slot p) s = execAtomFadd core slot p s := rfl
@[simp] theorem exec_tLock (core : CoreIx) (slot : Fin 16) (p : BitVec 54) : exec (.tLock core slot p) s = execTLock core slot p s := rfl
@[simp] theorem exec_tUnlock (core : CoreIx) (slot : Fin 16) (p : BitVec 54) : exec (.tUnlock core slot p) s = execTUnlock core slot p s := rfl
@[simp] theorem exec_acp (core : CoreIx) (slot : Fin 16) (p : BitVec 54) : exec (.acp core slot p) s = execAcp core slot p s := rfl
@[simp] theorem exec_acpComplete (core : CoreIx) (slot : Fin 16) (id : Nat) : exec (.acpComplete core slot id) s = execAcpComplete core slot id s := rfl
@[simp] theorem exec_waita (core : CoreIx) (slot : Fin 16) (p : BitVec 54) : exec (.waita core slot p) s = execWaita core slot p s := rfl
@[simp] theorem exec_tsplit (core : CoreIx) (slot : Fin 16) (p : BitVec 54) : exec (.tsplit core slot p) s = execTsplit core slot p s := rfl
@[simp] theorem exec_tpack (core : CoreIx) (slot : Fin 16) (p : BitVec 54) : exec (.tpack core slot p) s = execTpack core slot p s := rfl
@[simp] theorem exec_taskStart (core : CoreIx) : exec (.taskStart core) s = execTaskStart core s := rfl
@[simp] theorem exec_descriptorFetch (core : CoreIx) : exec (.descriptorFetch core) s = execDescriptorFetch core s := rfl
@[simp] theorem exec_opd (core : CoreIx) (payload : BitVec 92) (crc : Word) : exec (.opd core payload crc) s = execOpd core payload crc s := rfl
@[simp] theorem exec_ops (core : CoreIx) (payload : BitVec 92) (crc : Word) : exec (.ops core payload crc) s = execOps core payload crc s := rfl
@[simp] theorem exec_bind (core : CoreIx) (payload : BitVec 92) (crc : Word) : exec (.bind core payload crc) s = execBind core payload crc s := rfl
@[simp] theorem exec_bindx (core : CoreIx) (payload : BitVec 92) (crc : Word) : exec (.bindx core payload crc) s = execBindx core payload crc s := rfl
@[simp] theorem exec_vargX (core : CoreIx) (payload : BitVec 92) (crc : Word) : exec (.vargX core payload crc) s = execVargX core payload crc s := rfl
@[simp] theorem exec_vargStream (core : CoreIx) (payload : BitVec 92) (crc : Word) : exec (.vargStream core payload crc) s = execVargStream core payload crc s := rfl
@[simp] theorem exec_vargDraw (core : CoreIx) (payload : BitVec 92) (crc : Word) : exec (.vargDraw core payload crc) s = execVargDraw core payload crc s := rfl
@[simp] theorem exec_copyLinear (core : CoreIx) (payload : BitVec 92) (crc : Word) : exec (.copyLinear core payload crc) s = execCopyLinear core payload crc s := rfl
@[simp] theorem exec_copyStrided (core : CoreIx) (payload : BitVec 92) (crc : Word) : exec (.copyStrided core payload crc) s = execCopyStrided core payload crc s := rfl
@[simp] theorem exec_copyTranspose8 (core : CoreIx) (payload : BitVec 92) (crc : Word) : exec (.copyTranspose8 core payload crc) s = execCopyTranspose8 core payload crc s := rfl
@[simp] theorem exec_copyTranspose16 (core : CoreIx) (payload : BitVec 92) (crc : Word) : exec (.copyTranspose16 core payload crc) s = execCopyTranspose16 core payload crc s := rfl
@[simp] theorem exec_copyFill (core : CoreIx) (payload : BitVec 92) (crc : Word) : exec (.copyFill core payload crc) s = execCopyFill core payload crc s := rfl
@[simp] theorem exec_copyPrefetch (core : CoreIx) (payload : BitVec 92) (crc : Word) : exec (.copyPrefetch core payload crc) s = execCopyPrefetch core payload crc s := rfl
@[simp] theorem exec_copyComplete (core : CoreIx) : exec (.copyComplete core) s = execCopyComplete core s := rfl
@[simp] theorem exec_waitDesc (core : CoreIx) (payload : BitVec 92) (crc : Word) : exec (.waitDesc core payload crc) s = execWaitDesc core payload crc s := rfl
@[simp] theorem exec_phaseDesc (core : CoreIx) (payload : BitVec 92) (crc : Word) : exec (.phaseDesc core payload crc) s = execPhaseDesc core payload crc s := rfl
@[simp] theorem exec_fenceDesc (core : CoreIx) (payload : BitVec 92) (crc : Word) : exec (.fenceDesc core payload crc) s = execFenceDesc core payload crc s := rfl
@[simp] theorem exec_bclr (core : CoreIx) (payload : BitVec 92) (crc : Word) : exec (.bclr core payload crc) s = execBclr core payload crc s := rfl
@[simp] theorem exec_endTask (core : CoreIx) (payload : BitVec 92) (crc : Word) : exec (.endTask core payload crc) s = execEndTask core payload crc s := rfl
@[simp] theorem exec_jumpDesc (core : CoreIx) (payload : BitVec 92) (crc : Word) : exec (.jumpDesc core payload crc) s = execJumpDesc core payload crc s := rfl
@[simp] theorem exec_nopDesc (core : CoreIx) (payload : BitVec 92) (crc : Word) : exec (.nopDesc core payload crc) s = execNopDesc core payload crc s := rfl
@[simp] theorem exec_trapResume (core : CoreIx) (slot : Fin 16) : exec (.trapResume core slot) s = execTrapResume core slot s := rfl
@[simp] theorem exec_trapSkip (core : CoreIx) (slot : Fin 16) : exec (.trapSkip core slot) s = execTrapSkip core slot s := rfl
@[simp] theorem exec_trapAbort (core : CoreIx) (slot : Fin 16) : exec (.trapAbort core slot) s = execTrapAbort core slot s := rfl
@[simp] theorem exec_sumheadRead (cluster : ClusterIx) : exec (.sumheadRead cluster) s = execSumheadRead cluster s := rfl
@[simp] theorem exec_sumack (cluster : ClusterIx) (n : Nat) : exec (.sumack cluster n) s = execSumack cluster n s := rfl
@[simp] theorem exec_trapack (cluster : ClusterIx) (n : Nat) : exec (.trapack cluster n) s = execTrapack cluster n s := rfl
@[simp] theorem exec_compack (cluster : ClusterIx) (n : Nat) : exec (.compack cluster n) s = execCompack cluster n s := rfl
@[simp] theorem exec_taskport (cluster : ClusterIx) (rank : Fin 8) (word : QWord) : exec (.taskport cluster rank word) s = execTaskport cluster rank word s := rfl
@[simp] theorem exec_completionRecordEnter (core : CoreIx) : exec (.completionRecordEnter core) s = execCompletionRecordEnter core s := rfl
@[simp] theorem exec_openEpoch (who : Fin 34) (word : BitVec 28) : exec (.openEpoch who word) s = execOpenEpoch who word s := rfl
@[simp] theorem exec_join (who : Fin 34) (word : BitVec 28) : exec (.join who word) s = execJoin who word s := rfl
@[simp] theorem exec_commit (who : Fin 34) (word : BitVec 28) : exec (.commit who word) s = execCommit who word s := rfl
@[simp] theorem exec_commitComplete (mask : Half) : exec (.commitComplete mask) s = execCommitComplete mask s := rfl
@[simp] theorem exec_cancel (who : Fin 34) (word : BitVec 28) : exec (.cancel who word) s = execCancel who word s := rfl
@[simp] theorem exec_cancelComplete (mask : Half) : exec (.cancelComplete mask) s = execCancelComplete mask s := rfl
@[simp] theorem exec_draftFull (sector : Nat) (taint : Half) : exec (.draftFull sector taint) s = execDraftFull sector taint s := rfl
@[simp] theorem exec_marketRead (acc : Acc) (addr n : Nat) (core : Option CoreIx) : exec (.marketRead acc addr n core) s = execMarketRead acc addr n core s := rfl
@[simp] theorem exec_marketWrite (acc : Acc) (addr : Nat) (bytes : List Byte) (poison : Bool) : exec (.marketWrite acc addr bytes poison) s = execMarketWrite acc addr bytes poison s := rfl
@[simp] theorem exec_stallAtomic (acc : Acc) (op : AtomOp) (wide : Bool) (addr : Nat) (lanes : List (Nat × Nat)) : exec (.stallAtomic acc op wide addr lanes) s = execStallAtomic acc op wide addr lanes s := rfl
@[simp] theorem exec_foldInArrive (acc : Acc) (sector fmt : Nat) (elems : List (Nat × FoldOperand)) (source : Nat) : exec (.foldInArrive acc sector fmt elems source) s = execFoldInArrive acc sector fmt elems source s := rfl
@[simp] theorem exec_foldUnitApply (stall : StallIx) : exec (.foldUnitApply stall) s = execFoldUnitApply stall s := rfl
@[simp] theorem exec_cacheFill (acc : Acc) (sector : Nat) : exec (.cacheFill acc sector) s = execCacheFill acc sector s := rfl
@[simp] theorem exec_eviction (line : Nat) : exec (.eviction line) s = execEviction line s := rfl
@[simp] theorem exec_writebackAccept (line : Nat) : exec (.writebackAccept line) s = execWritebackAccept line s := rfl
@[simp] theorem exec_rsvApply (who : Fin 16) (entry : Fin 16) (kind : Nat) : exec (.rsvApply who entry kind) s = execRsvApply who entry kind s := rfl
@[simp] theorem exec_rsvRelease (who : Fin 16) (entry : Fin 16) : exec (.rsvRelease who entry) s = execRsvRelease who entry s := rfl
@[simp] theorem exec_rbBind (who : Fin 16) : exec (.rbBind who) s = execRbBind who s := rfl
@[simp] theorem exec_rbUnbind (who : Fin 16) : exec (.rbUnbind who) s = execRbUnbind who s := rfl
@[simp] theorem exec_ringTailReport (unit : Fin 18) (chan : Fin 256) (tail : DWord) (mask : Half) : exec (.ringTailReport unit chan tail mask) s = execRingTailReport unit chan tail mask s := rfl
@[simp] theorem exec_pool (runner : StackIx) (chan : Fin 64) : exec (.pool runner chan) s = execPool runner chan s := rfl
@[simp] theorem exec_spmv (runner : StackIx) (chan : Fin 64) : exec (.spmv runner chan) s = execSpmv runner chan s := rfl
@[simp] theorem exec_spmtv (runner : StackIx) (chan : Fin 64) : exec (.spmtv runner chan) s = execSpmtv runner chan s := rfl
@[simp] theorem exec_prefetchJob (runner : StackIx) (chan : Fin 64) : exec (.prefetchJob runner chan) s = execPrefetchJob runner chan s := rfl
@[simp] theorem exec_runnerJobDone (runner : StackIx) (chan : Fin 64) : exec (.runnerJobDone runner chan) s = execRunnerJobDone runner chan s := rfl
@[simp] theorem exec_runnerHalt (runner : StackIx) (chan : Fin 64) : exec (.runnerHalt runner chan) s = execRunnerHalt runner chan s := rfl
@[simp] theorem exec_ringResume (unit : Fin 18) (chan : Fin 256) (mask : Half) : exec (.ringResume unit chan mask) s = execRingResume unit chan mask s := rfl
@[simp] theorem exec_ringSkip (unit : Fin 18) (chan : Fin 256) (mask : Half) : exec (.ringSkip unit chan mask) s = execRingSkip unit chan mask s := rfl
@[simp] theorem exec_ringAbort (unit : Fin 18) (chan : Fin 256) (mask : Half) : exec (.ringAbort unit chan mask) s = execRingAbort unit chan mask s := rfl
@[simp] theorem exec_cxCreate (who : Fin 16) : exec (.cxCreate who) s = execCxCreate who s := rfl
@[simp] theorem exec_cxSet (who : Fin 16) : exec (.cxSet who) s = execCxSet who s := rfl
@[simp] theorem exec_cxSetkey (who : Fin 16) : exec (.cxSetkey who) s = execCxSetkey who s := rfl
@[simp] theorem exec_cxDestroy (who : Fin 16) : exec (.cxDestroy who) s = execCxDestroy who s := rfl
@[simp] theorem exec_cxSelect (who : Fin 16) : exec (.cxSelect who) s = execCxSelect who s := rfl
@[simp] theorem exec_rgMap (who : Fin 16) : exec (.rgMap who) s = execRgMap who s := rfl
@[simp] theorem exec_rgAlias (who : Fin 16) : exec (.rgAlias who) s = execRgAlias who s := rfl
@[simp] theorem exec_rgFree (who : Fin 16) : exec (.rgFree who) s = execRgFree who s := rfl
@[simp] theorem exec_rgPin (who : Fin 16) : exec (.rgPin who) s = execRgPin who s := rfl
@[simp] theorem exec_rgUnpin (who : Fin 16) : exec (.rgUnpin who) s = execRgUnpin who s := rfl
@[simp] theorem exec_rgSelect (who : Fin 16) : exec (.rgSelect who) s = execRgSelect who s := rfl
@[simp] theorem exec_walk (core : Option CoreIx) (cluster : ClusterIx) (ctx : Fin 4096) (va : Nat) (write : Bool) : exec (.walk core cluster ctx va write) s = execWalk core cluster ctx va write s := rfl
@[simp] theorem exec_demandAlloc (core : Option CoreIx) (cluster : ClusterIx) (ctx : Fin 4096) (va : Nat) (write : Bool) : exec (.demandAlloc core cluster ctx va write) s = execDemandAlloc core cluster ctx va write s := rfl
@[simp] theorem exec_shootdownComplete : exec .shootdownComplete s = execShootdownComplete s := rfl
@[simp] theorem exec_heatFlush (cache : Fin 288) (ctx : Fin 4096) (va : Nat) : exec (.heatFlush cache ctx va) s = execHeatFlush cache ctx va s := rfl
@[simp] theorem exec_pagerInterval : exec .pagerInterval s = execPagerInterval s := rfl
@[simp] theorem exec_promote (ctx : Fin 4096) (va : Nat) : exec (.promote ctx va) s = execPromote ctx va s := rfl
@[simp] theorem exec_demote (ctx : Fin 4096) (va : Nat) : exec (.demote ctx va) s = execDemote ctx va s := rfl
@[simp] theorem exec_doorbell (path : Fin 3) (who : Fin 34) (queue : Fin 1048576) (tail : DWord) (whole : Bool) : exec (.doorbell path who queue tail whole) s = execDoorbell path who queue tail whole s := rfl
@[simp] theorem exec_entryCheck (queue : Fin 1048576) (tagOk : Bool) : exec (.entryCheck queue tagOk) s = execEntryCheck queue tagOk s := rfl
@[simp] theorem exec_barrierComplete (queue : Fin 1048576) : exec (.barrierComplete queue) s = execBarrierComplete queue s := rfl
@[simp] theorem exec_selection (ns : Nat) : exec (.selection ns) s = execSelection ns s := rfl
@[simp] theorem exec_completionWrite (queue : Fin 1048576) : exec (.completionWrite queue) s = execCompletionWrite queue s := rfl
@[simp] theorem exec_wqCreate (who : Fin 16) : exec (.wqCreate who) s = execWqCreate who s := rfl
@[simp] theorem exec_wqSet (who : Fin 16) : exec (.wqSet who) s = execWqSet who s := rfl
@[simp] theorem exec_wqPause (who : Fin 16) : exec (.wqPause who) s = execWqPause who s := rfl
@[simp] theorem exec_wqEnable (who : Fin 16) : exec (.wqEnable who) s = execWqEnable who s := rfl
@[simp] theorem exec_wqDrain (who : Fin 16) : exec (.wqDrain who) s = execWqDrain who s := rfl
@[simp] theorem exec_wqDestroy (who : Fin 16) : exec (.wqDestroy who) s = execWqDestroy who s := rfl
@[simp] theorem exec_wqSelect (who : Fin 16) : exec (.wqSelect who) s = execWqSelect who s := rfl
@[simp] theorem exec_queueMirror : exec .queueMirror s = execQueueMirror s := rfl
@[simp] theorem exec_hbmArbitrate (stack : Fin 16) (pc : Fin 64) (share8 share9 : Nat) : exec (.hbmArbitrate stack pc share8 share9) s = execHbmArbitrate stack pc share8 share9 s := rfl
@[simp] theorem exec_hbmReadComplete (stack : Fin 16) (pc : Fin 64) (ns : Nat) : exec (.hbmReadComplete stack pc ns) s = execHbmReadComplete stack pc ns s := rfl
@[simp] theorem exec_refresh (stack : Fin 16) (pc bank : Fin 64) : exec (.refresh stack pc bank) s = execRefresh stack pc bank s := rfl
@[simp] theorem exec_stackTempRead (stack : Fin 16) (reading : Option Int) : exec (.stackTempRead stack reading) s = execStackTempRead stack reading s := rfl
@[simp] theorem exec_powerDownEntry (stack : Fin 16) (pc : Fin 64) (idle : Nat) : exec (.powerDownEntry stack pc idle) s = execPowerDownEntry stack pc idle s := rfl
@[simp] theorem exec_phaseRetrain (stack : Fin 16) (pc : Fin 64) (ok : Bool) : exec (.phaseRetrain stack pc ok) s = execPhaseRetrain stack pc ok s := rfl
@[simp] theorem exec_parityError (stack : Fin 16) (pc : Fin 64) (attempt : Fin 5) (retrainOk : Bool) : exec (.parityError stack pc attempt retrainOk) s = execParityError stack pc attempt retrainOk s := rfl
@[simp] theorem exec_merge (stack : Fin 16) : exec (.merge stack) s = execMerge stack s := rfl
@[simp] theorem exec_congestionLevel (stack : Fin 16) : exec (.congestionLevel stack) s = execCongestionLevel stack s := rfl
@[simp] theorem exec_levelBroadcast : exec .levelBroadcast s = execLevelBroadcast s := rfl
@[simp] theorem exec_rwEnable (who : Fin 16) (window : Fin 64) : exec (.rwEnable who window) s = execRwEnable who window s := rfl
@[simp] theorem exec_rwDisable (who : Fin 16) (window : Fin 64) : exec (.rwDisable who window) s = execRwDisable who window s := rfl
@[simp] theorem exec_correctingWriteback (place : Fin 4) (unit addr : Nat) (was : BitVec 256) (chk : Half) : exec (.correctingWriteback place unit addr was chk) s = execCorrectingWriteback place unit addr was chk s := rfl
@[simp] theorem exec_scrubRead (hbm : Bool) : exec (.scrubRead hbm) s = execScrubRead hbm s := rfl
@[simp] theorem exec_rtRetire (who : Fin 16) : exec (.rtRetire who) s = execRtRetire who s := rfl
@[simp] theorem exec_rtSelect (who : Fin 16) : exec (.rtSelect who) s = execRtSelect who s := rfl
@[simp] theorem exec_tsWriteData (who : Fin 16) : exec (.tsWriteData who) s = execTsWriteData who s := rfl
@[simp] theorem exec_tsWriteCheck (who : Fin 16) : exec (.tsWriteCheck who) s = execTsWriteCheck who s := rfl
@[simp] theorem exec_tsWriteBoth (who : Fin 16) : exec (.tsWriteBoth who) s = execTsWriteBoth who s := rfl
@[simp] theorem exec_tsReadRaw (who : Fin 16) : exec (.tsReadRaw who) s = execTsReadRaw who s := rfl
@[simp] theorem exec_bondError (unit : Fin 320) (group : Fin 256) (wire : Fin 34) : exec (.bondError unit group wire) s = execBondError unit group wire s := rfl
@[simp] theorem exec_portFailure (port : Fin 18) : exec (.portFailure port) s = execPortFailure port s := rfl
@[simp] theorem exec_portRetryTrain (port : Fin 18) : exec (.portRetryTrain port) s = execPortRetryTrain port s := rfl
@[simp] theorem exec_fpRetrain (who : Fin 16) (port : Fin 18) : exec (.fpRetrain who port) s = execFpRetrain who port s := rfl
@[simp] theorem exec_frameReceive (port : Fin 18) (hdr : BitVec 512) (pmap tag : QWord) (payload : List Byte) (fcsOk tagOk ce : Bool) : exec (.frameReceive port hdr pmap tag payload fcsOk tagOk ce) s = execFrameReceive port hdr pmap tag payload fcsOk tagOk ce s := rfl
@[simp] theorem exec_putFrame (engine : Fin 2) : exec (.putFrame engine) s = execPutFrame engine s := rfl
@[simp] theorem exec_getreq (engine : Fin 2) : exec (.getreq engine) s = execGetreq engine s := rfl
@[simp] theorem exec_getresp (engine : Fin 2) : exec (.getresp engine) s = execGetresp engine s := rfl
@[simp] theorem exec_foldFrame (engine : Fin 2) : exec (.foldFrame engine) s = execFoldFrame engine s := rfl
@[simp] theorem exec_doneFrame (engine : Fin 2) : exec (.doneFrame engine) s = execDoneFrame engine s := rfl
@[simp] theorem exec_mirrorFrame (engine : Fin 2) : exec (.mirrorFrame engine) s = execMirrorFrame engine s := rfl
@[simp] theorem exec_cutApply (part : PartIx) : exec (.cutApply part) s = execCutApply part s := rfl
@[simp] theorem exec_redirectFrame (engine : Fin 2) : exec (.redirectFrame engine) s = execRedirectFrame engine s := rfl
@[simp] theorem exec_ack (engine : Fin 2) : exec (.ack engine) s = execAck engine s := rfl
@[simp] theorem exec_nack (engine : Fin 2) : exec (.nack engine) s = execNack engine s := rfl
@[simp] theorem exec_beat (engine : Fin 2) : exec (.beat engine) s = execBeat engine s := rfl
@[simp] theorem exec_ackTimer (engine : Fin 2) (peer : Fin 65536) : exec (.ackTimer engine peer) s = execAckTimer engine peer s := rfl
@[simp] theorem exec_rtoExpiry (engine : Fin 2) (peer : Fin 65536) : exec (.rtoExpiry engine peer) s = execRtoExpiry engine peer s := rfl
@[simp] theorem exec_notreadyResend (engine : Fin 2) (peer : Fin 65536) : exec (.notreadyResend engine peer) s = execNotreadyResend engine peer s := rfl
@[simp] theorem exec_msgTimeout (engine : Fin 2) : exec (.msgTimeout engine) s = execMsgTimeout engine s := rfl
@[simp] theorem exec_beatSend (engine : Fin 2) : exec (.beatSend engine) s = execBeatSend engine s := rfl
@[simp] theorem exec_peerLost (peer : Fin 65536) : exec (.peerLost peer) s = execPeerLost peer s := rfl
@[simp] theorem exec_sendPut (engine : Fin 2) (chan : Fin 256) : exec (.sendPut engine chan) s = execSendPut engine chan s := rfl
@[simp] theorem exec_sendGet (engine : Fin 2) (chan : Fin 256) : exec (.sendGet engine chan) s = execSendGet engine chan s := rfl
@[simp] theorem exec_sendFold (engine : Fin 2) (chan : Fin 256) : exec (.sendFold engine chan) s = execSendFold engine chan s := rfl
@[simp] theorem exec_allreduce (engine : Fin 2) (chan : Fin 256) : exec (.allreduce engine chan) s = execAllreduce engine chan s := rfl
@[simp] theorem exec_reducescatter (engine : Fin 2) (chan : Fin 256) : exec (.reducescatter engine chan) s = execReducescatter engine chan s := rfl
@[simp] theorem exec_allgather (engine : Fin 2) (chan : Fin 256) : exec (.allgather engine chan) s = execAllgather engine chan s := rfl
@[simp] theorem exec_sendStart (engine : Fin 2) (chan : Fin 256) : exec (.sendStart engine chan) s = execSendStart engine chan s := rfl
@[simp] theorem exec_sendComplete (engine : Fin 2) (chan : Fin 256) : exec (.sendComplete engine chan) s = execSendComplete engine chan s := rfl
@[simp] theorem exec_keySwitch (engine : Fin 2) (peer : Fin 65536) : exec (.keySwitch engine peer) s = execKeySwitch engine peer s := rfl
@[simp] theorem exec_keyRetire (keyid : Fin 65536) : exec (.keyRetire keyid) s = execKeyRetire keyid s := rfl
@[simp] theorem exec_scBind (who : Fin 16) : exec (.scBind who) s = execScBind who s := rfl
@[simp] theorem exec_scUnbind (who : Fin 16) : exec (.scUnbind who) s = execScUnbind who s := rfl
@[simp] theorem exec_wnCreate (who : Fin 16) : exec (.wnCreate who) s = execWnCreate who s := rfl
@[simp] theorem exec_wnDestroy (who : Fin 16) : exec (.wnDestroy who) s = execWnDestroy who s := rfl
@[simp] theorem exec_wnSelect (who : Fin 16) : exec (.wnSelect who) s = execWnSelect who s := rfl
@[simp] theorem exec_grDefine (who : Fin 16) : exec (.grDefine who) s = execGrDefine who s := rfl
@[simp] theorem exec_grDelete (who : Fin 16) : exec (.grDelete who) s = execGrDelete who s := rfl
@[simp] theorem exec_grSelect (who : Fin 16) : exec (.grSelect who) s = execGrSelect who s := rfl
@[simp] theorem exec_fsStart (who : Fin 16) (part : PartIx) (partnerOk : Bool) : exec (.fsStart who part partnerOk) s = execFsStart who part partnerOk s := rfl
@[simp] theorem exec_fsStop (who : Fin 16) (part : PartIx) : exec (.fsStop who part) s = execFsStop who part s := rfl
@[simp] theorem exec_cutSend (engine : Fin 2) (part : PartIx) : exec (.cutSend engine part) s = execCutSend engine part s := rfl
@[simp] theorem exec_takeover (part : PartIx) : exec (.takeover part) s = execTakeover part s := rfl
@[simp] theorem exec_fhTakeover (who : Fin 16) (part : PartIx) : exec (.fhTakeover who part) s = execFhTakeover who part s := rfl
@[simp] theorem exec_fhDiscard (who : Fin 16) (part : PartIx) : exec (.fhDiscard who part) s = execFhDiscard who part s := rfl
@[simp] theorem exec_redirectComplete (part : PartIx) : exec (.redirectComplete part) s = execRedirectComplete part s := rfl
@[simp] theorem exec_rdSet (who : Fin 16) : exec (.rdSet who) s = execRdSet who s := rfl
@[simp] theorem exec_rdClear (who : Fin 16) : exec (.rdClear who) s = execRdClear who s := rfl
@[simp] theorem exec_rdSelect (who : Fin 16) : exec (.rdSelect who) s = execRdSelect who s := rfl
@[simp] theorem exec_bar4Read (offset : Fin 67108864) (len : Fin 4097) : exec (.bar4Read offset len) s = execBar4Read offset len s := rfl
@[simp] theorem exec_bar4Write (offset : Fin 67108864) (bytes : List Byte) (poisoned : Bool) : exec (.bar4Write offset bytes poisoned) s = execBar4Write offset bytes poisoned s := rfl
@[simp] theorem exec_rqTail (ring : Fin 4) (value : Word) : exec (.rqTail ring value) s = execRqTail ring value s := rfl
@[simp] theorem exec_frWait : exec .frWait s = execFrWait s := rfl
@[simp] theorem exec_frWaitTimeout : exec .frWaitTimeout s = execFrWaitTimeout s := rfl
@[simp] theorem exec_frStatus : exec .frStatus s = execFrStatus s := rfl
@[simp] theorem exec_frDump : exec .frDump s = execFrDump s := rfl
@[simp] theorem exec_msixSend (vector : Fin 2048) (ns : Nat) : exec (.msixSend vector ns) s = execMsixSend vector ns s := rfl
@[simp] theorem exec_flr : exec .flr s = execFlr s := rfl
@[simp] theorem exec_perstN : exec .perstN s = execPerstN s := rfl
@[simp] theorem exec_linkLoss : exec .linkLoss s = execLinkLoss s := rfl
@[simp] theorem exec_linkUp (lanes : Fin 17) (mts : Nat) : exec (.linkUp lanes mts) s = execLinkUp lanes mts s := rfl
@[simp] theorem exec_d3hotEntry (enter : Bool) : exec (.d3hotEntry enter) s = execD3hotEntry enter s := rfl
@[simp] theorem exec_ptpMeasurement (src : Fin 20) (offset : Int) (time : DWord) : exec (.ptpMeasurement src offset time) s = execPtpMeasurement src offset time s := rfl
@[simp] theorem exec_ppsEdge (dev : Option Int) : exec (.ppsEdge dev) s = execPpsEdge dev s := rfl
@[simp] theorem exec_sourceLoss : exec .sourceLoss s = execSourceLoss s := rfl
@[simp] theorem exec_holdoverExpiry : exec .holdoverExpiry s = execHoldoverExpiry s := rfl
@[simp] theorem exec_btStep (who : Fin 16) : exec (.btStep who) s = execBtStep who s := rfl
@[simp] theorem exec_seArm (who : Fin 16) : exec (.seArm who) s = execSeArm who s := rfl
@[simp] theorem exec_seCancel (who : Fin 16) : exec (.seCancel who) s = execSeCancel who s := rfl
@[simp] theorem exec_seSelect (who : Fin 16) : exec (.seSelect who) s = execSeSelect who s := rfl
@[simp] theorem exec_scheduledEvent (peaks : List (Nat × Nat)) : exec (.scheduledEvent peaks) s = execScheduledEvent peaks s := rfl
@[simp] theorem exec_powerupRetry (peaks : List (Nat × Nat)) : exec (.powerupRetry peaks) s = execPowerupRetry peaks s := rfl
@[simp] theorem exec_powerSample (vin watts : Nat) (ovr : Word) : exec (.powerSample vin watts ovr) s = execPowerSample vin watts ovr s := rfl
@[simp] theorem exec_clusterOvercurrent (cluster : ClusterIx) : exec (.clusterOvercurrent cluster) s = execClusterOvercurrent cluster s := rfl
@[simp] theorem exec_regulatorFail (reg : Fin 352) : exec (.regulatorFail reg) s = execRegulatorFail reg s := rfl
@[simp] theorem exec_droop (cluster : ClusterIx) (second : Bool) (mv : Fin 65536) : exec (.droop cluster second mv) s = execDroop cluster second mv s := rfl
@[simp] theorem exec_droopRecover (cluster : ClusterIx) : exec (.droopRecover cluster) s = execDroopRecover cluster s := rfl
@[simp] theorem exec_level2Release : exec .level2Release s = execLevel2Release s := rfl
@[simp] theorem exec_fgSchedule (who : Fin 16) : exec (.fgSchedule who) s = execFgSchedule who s := rfl
@[simp] theorem exec_phaseEval : exec .phaseEval s = execPhaseEval s := rfl
@[simp] theorem exec_ageingTrim (low : Word) : exec (.ageingTrim low) s = execAgeingTrim low s := rfl
@[simp] theorem exec_drClear (who : Fin 16) : exec (.drClear who) s = execDrClear who s := rfl
@[simp] theorem exec_thermalSample (readings : List (Nat × Int)) (rise : List (Nat × Nat)) : exec (.thermalSample readings rise) s = execThermalSample readings rise s := rfl
@[simp] theorem exec_thermalTrip (sensor : Fin 1040) (first second : Int) : exec (.thermalTrip sensor first second) s = execThermalTrip sensor first second s := rfl
@[simp] theorem exec_thermalCycleSample (t : Int) : exec (.thermalCycleSample t) s = execThermalCycleSample t s := rfl
@[simp] theorem exec_tpEnable (who : Fin 16) (profile : Fin 4) : exec (.tpEnable who profile) s = execTpEnable who profile s := rfl
@[simp] theorem exec_tpDisable (who : Fin 16) (profile : Fin 4) : exec (.tpDisable who profile) s = execTpDisable who profile s := rfl
@[simp] theorem exec_telemetryPeriod (profile : Fin 4) : exec (.telemetryPeriod profile) s = execTelemetryPeriod profile s := rfl
@[simp] theorem exec_getVersion (peer : Fin 65536) : exec (.getVersion peer) s = execGetVersion peer s := rfl
@[simp] theorem exec_getCapabilities (peer : Fin 65536) : exec (.getCapabilities peer) s = execGetCapabilities peer s := rfl
@[simp] theorem exec_negotiateAlgorithms (peer : Fin 65536) (common : Bool) : exec (.negotiateAlgorithms peer common) s = execNegotiateAlgorithms peer common s := rfl
@[simp] theorem exec_getDigests (peer : Fin 65536) : exec (.getDigests peer) s = execGetDigests peer s := rfl
@[simp] theorem exec_getCertificate (peer : Fin 65536) (slot : Fin 8) (offset length : Fin 65536) : exec (.getCertificate peer slot offset length) s = execGetCertificate peer slot offset length s := rfl
@[simp] theorem exec_challenge (peer : Fin 65536) (slot : Fin 8) : exec (.challenge peer slot) s = execChallenge peer slot s := rfl
@[simp] theorem exec_getMeasurements (peer : Fin 65536) (index : Fin 256) : exec (.getMeasurements peer index) s = execGetMeasurements peer index s := rfl
@[simp] theorem exec_keyExchange (peer : Fin 65536) (slot : Fin 8) : exec (.keyExchange peer slot) s = execKeyExchange peer slot s := rfl
@[simp] theorem exec_finish (session : Fin 8) (leaf root : Nat) (ok : Bool) : exec (.finish session leaf root ok) s = execFinish session leaf root ok s := rfl
@[simp] theorem exec_heartbeat (session : Fin 8) (ok : Bool) : exec (.heartbeat session ok) s = execHeartbeat session ok s := rfl
@[simp] theorem exec_keyUpdate (session : Fin 8) (ok : Bool) : exec (.keyUpdate session ok) s = execKeyUpdate session ok s := rfl
@[simp] theorem exec_endSession (session : Fin 8) (ok : Bool) : exec (.endSession session ok) s = execEndSession session ok s := rfl
@[simp] theorem exec_psSeal (who : Fin 16) (part : PartIx) : exec (.psSeal who part) s = execPsSeal who part s := rfl
@[simp] theorem exec_psUnseal (who : Fin 16) (part : PartIx) : exec (.psUnseal who part) s = execPsUnseal who part s := rfl
@[simp] theorem exec_skInstall (who : Fin 16) : exec (.skInstall who) s = execSkInstall who s := rfl
@[simp] theorem exec_skDestroy (who : Fin 16) : exec (.skDestroy who) s = execSkDestroy who s := rfl
@[simp] theorem exec_skSelect (who : Fin 16) : exec (.skSelect who) s = execSkSelect who s := rfl
@[simp] theorem exec_arCommit (who : Fin 16) (fails : Option (Fin 4 × Fin 65)) : exec (.arCommit who fails) s = execArCommit who fails s := rfl
@[simp] theorem exec_dbgToken (who : Fin 16) (token : List Byte) : exec (.dbgToken who token) s = execDbgToken who token s := rfl
@[simp] theorem exec_secOpRoots (who : Fin 16) (bytes : List Byte) : exec (.secOpRoots who bytes) s = execSecOpRoots who bytes s := rfl
@[simp] theorem exec_secCert (who : Fin 16) (chain : List Byte) : exec (.secCert who chain) s = execSecCert who chain s := rfl
@[simp] theorem exec_fwStage (who : Fin 16) : exec (.fwStage who) s = execFwStage who s := rfl
@[simp] theorem exec_fwDiscard (who : Fin 16) : exec (.fwDiscard who) s = execFwDiscard who s := rfl
@[simp] theorem exec_stageComplete : exec .stageComplete s = execStageComplete s := rfl
@[simp] theorem exec_pcSchedule (who : Fin 16) : exec (.pcSchedule who) s = execPcSchedule who s := rfl
@[simp] theorem exec_pcCancel (who : Fin 16) : exec (.pcCancel who) s = execPcCancel who s := rfl
@[simp] theorem exec_activationRearm : exec .activationRearm s = execActivationRearm s := rfl
@[simp] theorem exec_healthy (proc : Fin 64) : exec (.healthy proc) s = execHealthy proc s := rfl
@[simp] theorem exec_healthDeadline : exec .healthDeadline s = execHealthDeadline s := rfl
@[simp] theorem exec_watchdogExpiry (proc : Fin 64) (dump : List Byte) (poisoned : Bool) : exec (.watchdogExpiry proc dump poisoned) s = execWatchdogExpiry proc dump poisoned s := rfl
@[simp] theorem exec_fwAccessFault (proc : Fin 64) (addr : Nat) (inHandler : Bool) : exec (.fwAccessFault proc addr inHandler) s = execFwAccessFault proc addr inHandler s := rfl
@[simp] theorem exec_solicitRetry : exec .solicitRetry s = execSolicitRetry s := rfl
@[simp] theorem exec_offer (msg : List Byte) : exec (.offer msg) s = execOffer msg s := rfl
@[simp] theorem exec_data (msg : List Byte) : exec (.data msg) s = execData msg s := rfl
@[simp] theorem exec_loaderError (msg : List Byte) : exec (.loaderError msg) s = execLoaderError msg s := rfl
@[simp] theorem exec_readRetry : exec .readRetry s = execReadRetry s := rfl
@[simp] theorem exec_loaderRestart : exec .loaderRestart s = execLoaderRestart s := rfl
@[simp] theorem exec_coldBoot : exec .coldBoot s = execColdBoot s := rfl
@[simp] theorem exec_pwrgoodDeassert : exec .pwrgoodDeassert s = execPwrgoodDeassert s := rfl
@[simp] theorem exec_brownout : exec .brownout s = execBrownout s := rfl
@[simp] theorem exec_devWarmReset (who : Fin 16) : exec (.devWarmReset who) s = execDevWarmReset who s := rfl
@[simp] theorem exec_usFence (who : Fin 16) : exec (.usFence who) s = execUsFence who s := rfl
@[simp] theorem exec_usUnfence (who : Fin 16) : exec (.usUnfence who) s = execUsUnfence who s := rfl
@[simp] theorem exec_usReset (who : Fin 16) : exec (.usReset who) s = execUsReset who s := rfl
@[simp] theorem exec_usRetire (who : Fin 16) : exec (.usRetire who) s = execUsRetire who s := rfl
@[simp] theorem exec_usClearmm (who : Fin 16) : exec (.usClearmm who) s = execUsClearmm who s := rfl
@[simp] theorem exec_ptAssign (who : Fin 16) : exec (.ptAssign who) s = execPtAssign who s := rfl
@[simp] theorem exec_ptReset (who : Fin 16) : exec (.ptReset who) s = execPtReset who s := rfl
@[simp] theorem exec_drainEnd (scope : Fin 9) (index : Nat) : exec (.drainEnd scope index) s = execDrainEnd scope index s := rfl
@[simp] theorem exec_coreLoss (core : CoreIx) (reason : Fin 16) : exec (.coreLoss core reason) s = execCoreLoss core reason s := rfl
@[simp] theorem exec_stallCopyComplete (core : CoreIx) : exec (.stallCopyComplete core) s = execStallCopyComplete core s := rfl
@[simp] theorem exec_moveComplete (core : CoreIx) (pass : Bool) : exec (.moveComplete core pass) s = execMoveComplete core pass s := rfl
@[simp] theorem exec_clusterFail (cluster : ClusterIx) : exec (.clusterFail cluster) s = execClusterFail cluster s := rfl
@[simp] theorem exec_fenceReconcile : exec .fenceReconcile s = execFenceReconcile s := rfl
@[simp] theorem exec_odRead (src : FrameSrc) (bytes : List Byte) : exec (.odRead src bytes) s = execOdRead src bytes s := rfl
@[simp] theorem exec_odWrite (src : FrameSrc) (bytes : List Byte) (found : WriteFound) : exec (.odWrite src bytes found) s = execOdWrite src bytes found s := rfl
@[simp] theorem exec_odSeg (src : FrameSrc) (bytes : List Byte) : exec (.odSeg src bytes) s = execOdSeg src bytes s := rfl
@[simp] theorem exec_odNext (src : FrameSrc) (bytes : List Byte) : exec (.odNext src bytes) s = execOdNext src bytes s := rfl
@[simp] theorem exec_odAbort (src : FrameSrc) (bytes : List Byte) : exec (.odAbort src bytes) s = execOdAbort src bytes s := rfl
@[simp] theorem exec_registerWrite (target : RegTarget) (bytes : List Byte) : exec (.registerWrite target bytes) s = execRegisterWrite target bytes s := rfl
@[simp] theorem exec_transactionTimeout (who : Fin 16) (tid : Fin 256) : exec (.transactionTimeout who tid) s = execTransactionTimeout who tid s := rfl
@[simp] theorem exec_requesterExpiry (who : Fin 16) : exec (.requesterExpiry who) s = execRequesterExpiry who s := rfl
@[simp] theorem exec_odDefaults (who : Fin 16) : exec (.odDefaults who) s = execOdDefaults who s := rfl
@[simp] theorem exec_persistRetry : exec .persistRetry s = execPersistRetry s := rfl
@[simp] theorem exec_recordFlashWrite (flash : Fin 3) : exec (.recordFlashWrite flash) s = execRecordFlashWrite flash s := rfl
@[simp] theorem exec_erClear (who : Fin 16) : exec (.erClear who) s = execErClear who s := rfl
@[simp] theorem exec_optimePersist : exec .optimePersist s = execOptimePersist s := rfl
@[simp] theorem exec_gpFunc (who : Fin 16) (pin : Fin 8) (code : Fin 256) : exec (.gpFunc who pin code) s = execGpFunc who pin code s := rfl
@[simp] theorem exec_gpPeriod (who : Fin 16) (value : Word) : exec (.gpPeriod who value) s = execGpPeriod who value s := rfl
@[simp] theorem exec_triggerIn (pin : Fin 8) : exec (.triggerIn pin) s = execTriggerIn pin s := rfl
@[simp] theorem exec_bellOut (pin : Fin 8) : exec (.bellOut pin) s = execBellOut pin s := rfl
@[simp] theorem exec_bootStepEnd (outcome : BootOutcome) : exec (.bootStepEnd outcome) s = execBootStepEnd outcome s := rfl
@[simp] theorem exec_resetEnd (scope : Fin 9) (index : Nat) (pass : Bool) : exec (.resetEnd scope index pass) s = execResetEnd scope index pass s := rfl
@[simp] theorem exec_portTrainingEnd (port : Fin 18) (lanes : Fin 16) : exec (.portTrainingEnd port lanes) s = execPortTrainingEnd port lanes s := rfl
@[simp] theorem exec_stackNotAnswering (stack : Fin 16) : exec (.stackNotAnswering stack) s = execStackNotAnswering stack s := rfl
@[simp] theorem exec_rsHead (ring : Fin 4) (value : Word) : exec (.rsHead ring value) s = execRsHead ring value s := rfl
@[simp] theorem exec_neighborSolicitation (port : Fin 19) (target : Nat) : exec (.neighborSolicitation port target) s = execNeighborSolicitation port target s := rfl
@[simp] theorem exec_neighborAdvertisement (port : Fin 19) (target : Nat) (mac : BitVec 48) : exec (.neighborAdvertisement port target mac) s = execNeighborAdvertisement port target mac s := rfl
@[simp] theorem exec_echoRequest (port : Fin 18) (src : Nat) (body : List Byte) : exec (.echoRequest port src body) s = execEchoRequest port src body s := rfl
@[simp] theorem exec_mctpControl (pcie : Bool) (eid : Option (Fin 256)) : exec (.mctpControl pcie eid) s = execMctpControl pcie eid s := rfl

end Sys2Proof.Laws
end

