-- ==== Sys2Proof/Laws/State.lean ====
section
/-!
SUPPORT. What each named update of the state leaves in every field: one lemma per field per update, each by `rfl`, so that no proof
unfolds a record update.
-/

namespace Sys2Proof.Laws
open Sys2Proof Sys2Proof.Machine

variable (s : State)

@[simp] theorem emit_pending (p : OutPort) (code : Nat) (vals : List Nat) : (s.emit p code vals).pending = s.pending := rfl
@[simp] theorem emit_out (p : OutPort) (code : Nat) (vals : List Nat) : (s.emit p code vals).out = s.out ++ [⟨p, code, vals⟩] := rfl
@[simp] theorem emit_freeCtr (p : OutPort) (code : Nat) (vals : List Nat) : (s.emit p code vals).freeCtr = s.freeCtr := rfl
@[simp] theorem emit_dev (p : OutPort) (code : Nat) (vals : List Nat) : (s.emit p code vals).dev = s.dev := rfl
@[simp] theorem emit_recorder (p : OutPort) (code : Nat) (vals : List Nat) : (s.emit p code vals).recorder = s.recorder := rfl
@[simp] theorem emit_bell (p : OutPort) (code : Nat) (vals : List Nat) : (s.emit p code vals).bell = s.bell := rfl
@[simp] theorem emit_cores (p : OutPort) (code : Nat) (vals : List Nat) : (s.emit p code vals).cores = s.cores := rfl
@[simp] theorem emit_clusters (p : OutPort) (code : Nat) (vals : List Nat) : (s.emit p code vals).clusters = s.clusters := rfl
@[simp] theorem emit_sched (p : OutPort) (code : Nat) (vals : List Nat) : (s.emit p code vals).sched = s.sched := rfl
@[simp] theorem emit_host (p : OutPort) (code : Nat) (vals : List Nat) : (s.emit p code vals).host = s.host := rfl
@[simp] theorem emit_market (p : OutPort) (code : Nat) (vals : List Nat) : (s.emit p code vals).market = s.market := rfl
@[simp] theorem emit_hbm (p : OutPort) (code : Nat) (vals : List Nat) : (s.emit p code vals).hbm = s.hbm := rfl
@[simp] theorem emit_ecc (p : OutPort) (code : Nat) (vals : List Nat) : (s.emit p code vals).ecc = s.ecc := rfl
@[simp] theorem emit_pager (p : OutPort) (code : Nat) (vals : List Nat) : (s.emit p code vals).pager = s.pager := rfl
@[simp] theorem emit_fabric (p : OutPort) (code : Nat) (vals : List Nat) : (s.emit p code vals).fabric = s.fabric := rfl
@[simp] theorem emit_sec (p : OutPort) (code : Nat) (vals : List Nat) : (s.emit p code vals).sec = s.sec := rfl
@[simp] theorem emit_power (p : OutPort) (code : Nat) (vals : List Nat) : (s.emit p code vals).power = s.power := rfl
@[simp] theorem emit_thermal (p : OutPort) (code : Nat) (vals : List Nat) : (s.emit p code vals).thermal = s.thermal := rfl
@[simp] theorem emit_fw (p : OutPort) (code : Nat) (vals : List Nat) : (s.emit p code vals).fw = s.fw := rfl
@[simp] theorem emit_pins (p : OutPort) (code : Nat) (vals : List Nat) : (s.emit p code vals).pins = s.pins := rfl
@[simp] theorem emit_dict (p : OutPort) (code : Nat) (vals : List Nat) : (s.emit p code vals).dict = s.dict := rfl

@[simp] theorem waits_pending : s.waits.pending = s.pending := rfl
@[simp] theorem waits_out : s.waits.out = s.out ++ [⟨.sender, 1, []⟩] := rfl
@[simp] theorem waits_freeCtr : s.waits.freeCtr = s.freeCtr := rfl
@[simp] theorem waits_dev : s.waits.dev = s.dev := rfl
@[simp] theorem waits_recorder : s.waits.recorder = s.recorder := rfl
@[simp] theorem waits_bell : s.waits.bell = s.bell := rfl
@[simp] theorem waits_cores : s.waits.cores = s.cores := rfl
@[simp] theorem waits_clusters : s.waits.clusters = s.clusters := rfl
@[simp] theorem waits_sched : s.waits.sched = s.sched := rfl
@[simp] theorem waits_host : s.waits.host = s.host := rfl
@[simp] theorem waits_market : s.waits.market = s.market := rfl
@[simp] theorem waits_hbm : s.waits.hbm = s.hbm := rfl
@[simp] theorem waits_ecc : s.waits.ecc = s.ecc := rfl
@[simp] theorem waits_pager : s.waits.pager = s.pager := rfl
@[simp] theorem waits_fabric : s.waits.fabric = s.fabric := rfl
@[simp] theorem waits_sec : s.waits.sec = s.sec := rfl
@[simp] theorem waits_power : s.waits.power = s.power := rfl
@[simp] theorem waits_thermal : s.waits.thermal = s.thermal := rfl
@[simp] theorem waits_fw : s.waits.fw = s.fw := rfl
@[simp] theorem waits_pins : s.waits.pins = s.pins := rfl
@[simp] theorem waits_dict : s.waits.dict = s.dict := rfl

@[simp] theorem onBell_pending (f : Bell → Bell) : (s.onBell f).pending = s.pending := rfl
@[simp] theorem onBell_out (f : Bell → Bell) : (s.onBell f).out = s.out := rfl
@[simp] theorem onBell_freeCtr (f : Bell → Bell) : (s.onBell f).freeCtr = s.freeCtr := rfl
@[simp] theorem onBell_dev (f : Bell → Bell) : (s.onBell f).dev = s.dev := rfl
@[simp] theorem onBell_recorder (f : Bell → Bell) : (s.onBell f).recorder = s.recorder := rfl
@[simp] theorem onBell_bell (f : Bell → Bell) : (s.onBell f).bell = f s.bell := rfl
@[simp] theorem onBell_cores (f : Bell → Bell) : (s.onBell f).cores = s.cores := rfl
@[simp] theorem onBell_clusters (f : Bell → Bell) : (s.onBell f).clusters = s.clusters := rfl
@[simp] theorem onBell_sched (f : Bell → Bell) : (s.onBell f).sched = s.sched := rfl
@[simp] theorem onBell_host (f : Bell → Bell) : (s.onBell f).host = s.host := rfl
@[simp] theorem onBell_market (f : Bell → Bell) : (s.onBell f).market = s.market := rfl
@[simp] theorem onBell_hbm (f : Bell → Bell) : (s.onBell f).hbm = s.hbm := rfl
@[simp] theorem onBell_ecc (f : Bell → Bell) : (s.onBell f).ecc = s.ecc := rfl
@[simp] theorem onBell_pager (f : Bell → Bell) : (s.onBell f).pager = s.pager := rfl
@[simp] theorem onBell_fabric (f : Bell → Bell) : (s.onBell f).fabric = s.fabric := rfl
@[simp] theorem onBell_sec (f : Bell → Bell) : (s.onBell f).sec = s.sec := rfl
@[simp] theorem onBell_power (f : Bell → Bell) : (s.onBell f).power = s.power := rfl
@[simp] theorem onBell_thermal (f : Bell → Bell) : (s.onBell f).thermal = s.thermal := rfl
@[simp] theorem onBell_fw (f : Bell → Bell) : (s.onBell f).fw = s.fw := rfl
@[simp] theorem onBell_pins (f : Bell → Bell) : (s.onBell f).pins = s.pins := rfl
@[simp] theorem onBell_dict (f : Bell → Bell) : (s.onBell f).dict = s.dict := rfl

@[simp] theorem onDev_pending (f : Device → Device) : (s.onDev f).pending = s.pending := rfl
@[simp] theorem onDev_out (f : Device → Device) : (s.onDev f).out = s.out := rfl
@[simp] theorem onDev_freeCtr (f : Device → Device) : (s.onDev f).freeCtr = s.freeCtr := rfl
@[simp] theorem onDev_dev (f : Device → Device) : (s.onDev f).dev = f s.dev := rfl
@[simp] theorem onDev_recorder (f : Device → Device) : (s.onDev f).recorder = s.recorder := rfl
@[simp] theorem onDev_bell (f : Device → Device) : (s.onDev f).bell = s.bell := rfl
@[simp] theorem onDev_cores (f : Device → Device) : (s.onDev f).cores = s.cores := rfl
@[simp] theorem onDev_clusters (f : Device → Device) : (s.onDev f).clusters = s.clusters := rfl
@[simp] theorem onDev_sched (f : Device → Device) : (s.onDev f).sched = s.sched := rfl
@[simp] theorem onDev_host (f : Device → Device) : (s.onDev f).host = s.host := rfl
@[simp] theorem onDev_market (f : Device → Device) : (s.onDev f).market = s.market := rfl
@[simp] theorem onDev_hbm (f : Device → Device) : (s.onDev f).hbm = s.hbm := rfl
@[simp] theorem onDev_ecc (f : Device → Device) : (s.onDev f).ecc = s.ecc := rfl
@[simp] theorem onDev_pager (f : Device → Device) : (s.onDev f).pager = s.pager := rfl
@[simp] theorem onDev_fabric (f : Device → Device) : (s.onDev f).fabric = s.fabric := rfl
@[simp] theorem onDev_sec (f : Device → Device) : (s.onDev f).sec = s.sec := rfl
@[simp] theorem onDev_power (f : Device → Device) : (s.onDev f).power = s.power := rfl
@[simp] theorem onDev_thermal (f : Device → Device) : (s.onDev f).thermal = s.thermal := rfl
@[simp] theorem onDev_fw (f : Device → Device) : (s.onDev f).fw = s.fw := rfl
@[simp] theorem onDev_pins (f : Device → Device) : (s.onDev f).pins = s.pins := rfl
@[simp] theorem onDev_dict (f : Device → Device) : (s.onDev f).dict = s.dict := rfl

@[simp] theorem onHost_pending (f : HostIf → HostIf) : (s.onHost f).pending = s.pending := rfl
@[simp] theorem onHost_out (f : HostIf → HostIf) : (s.onHost f).out = s.out := rfl
@[simp] theorem onHost_freeCtr (f : HostIf → HostIf) : (s.onHost f).freeCtr = s.freeCtr := rfl
@[simp] theorem onHost_dev (f : HostIf → HostIf) : (s.onHost f).dev = s.dev := rfl
@[simp] theorem onHost_recorder (f : HostIf → HostIf) : (s.onHost f).recorder = s.recorder := rfl
@[simp] theorem onHost_bell (f : HostIf → HostIf) : (s.onHost f).bell = s.bell := rfl
@[simp] theorem onHost_cores (f : HostIf → HostIf) : (s.onHost f).cores = s.cores := rfl
@[simp] theorem onHost_clusters (f : HostIf → HostIf) : (s.onHost f).clusters = s.clusters := rfl
@[simp] theorem onHost_sched (f : HostIf → HostIf) : (s.onHost f).sched = s.sched := rfl
@[simp] theorem onHost_host (f : HostIf → HostIf) : (s.onHost f).host = f s.host := rfl
@[simp] theorem onHost_market (f : HostIf → HostIf) : (s.onHost f).market = s.market := rfl
@[simp] theorem onHost_hbm (f : HostIf → HostIf) : (s.onHost f).hbm = s.hbm := rfl
@[simp] theorem onHost_ecc (f : HostIf → HostIf) : (s.onHost f).ecc = s.ecc := rfl
@[simp] theorem onHost_pager (f : HostIf → HostIf) : (s.onHost f).pager = s.pager := rfl
@[simp] theorem onHost_fabric (f : HostIf → HostIf) : (s.onHost f).fabric = s.fabric := rfl
@[simp] theorem onHost_sec (f : HostIf → HostIf) : (s.onHost f).sec = s.sec := rfl
@[simp] theorem onHost_power (f : HostIf → HostIf) : (s.onHost f).power = s.power := rfl
@[simp] theorem onHost_thermal (f : HostIf → HostIf) : (s.onHost f).thermal = s.thermal := rfl
@[simp] theorem onHost_fw (f : HostIf → HostIf) : (s.onHost f).fw = s.fw := rfl
@[simp] theorem onHost_pins (f : HostIf → HostIf) : (s.onHost f).pins = s.pins := rfl
@[simp] theorem onHost_dict (f : HostIf → HostIf) : (s.onHost f).dict = s.dict := rfl

@[simp] theorem onPower_pending (f : Power → Power) : (s.onPower f).pending = s.pending := rfl
@[simp] theorem onPower_out (f : Power → Power) : (s.onPower f).out = s.out := rfl
@[simp] theorem onPower_freeCtr (f : Power → Power) : (s.onPower f).freeCtr = s.freeCtr := rfl
@[simp] theorem onPower_dev (f : Power → Power) : (s.onPower f).dev = s.dev := rfl
@[simp] theorem onPower_recorder (f : Power → Power) : (s.onPower f).recorder = s.recorder := rfl
@[simp] theorem onPower_bell (f : Power → Power) : (s.onPower f).bell = s.bell := rfl
@[simp] theorem onPower_cores (f : Power → Power) : (s.onPower f).cores = s.cores := rfl
@[simp] theorem onPower_clusters (f : Power → Power) : (s.onPower f).clusters = s.clusters := rfl
@[simp] theorem onPower_sched (f : Power → Power) : (s.onPower f).sched = s.sched := rfl
@[simp] theorem onPower_host (f : Power → Power) : (s.onPower f).host = s.host := rfl
@[simp] theorem onPower_market (f : Power → Power) : (s.onPower f).market = s.market := rfl
@[simp] theorem onPower_hbm (f : Power → Power) : (s.onPower f).hbm = s.hbm := rfl
@[simp] theorem onPower_ecc (f : Power → Power) : (s.onPower f).ecc = s.ecc := rfl
@[simp] theorem onPower_pager (f : Power → Power) : (s.onPower f).pager = s.pager := rfl
@[simp] theorem onPower_fabric (f : Power → Power) : (s.onPower f).fabric = s.fabric := rfl
@[simp] theorem onPower_sec (f : Power → Power) : (s.onPower f).sec = s.sec := rfl
@[simp] theorem onPower_power (f : Power → Power) : (s.onPower f).power = f s.power := rfl
@[simp] theorem onPower_thermal (f : Power → Power) : (s.onPower f).thermal = s.thermal := rfl
@[simp] theorem onPower_fw (f : Power → Power) : (s.onPower f).fw = s.fw := rfl
@[simp] theorem onPower_pins (f : Power → Power) : (s.onPower f).pins = s.pins := rfl
@[simp] theorem onPower_dict (f : Power → Power) : (s.onPower f).dict = s.dict := rfl

@[simp] theorem onThermal_pending (f : Thermal → Thermal) : (s.onThermal f).pending = s.pending := rfl
@[simp] theorem onThermal_out (f : Thermal → Thermal) : (s.onThermal f).out = s.out := rfl
@[simp] theorem onThermal_freeCtr (f : Thermal → Thermal) : (s.onThermal f).freeCtr = s.freeCtr := rfl
@[simp] theorem onThermal_dev (f : Thermal → Thermal) : (s.onThermal f).dev = s.dev := rfl
@[simp] theorem onThermal_recorder (f : Thermal → Thermal) : (s.onThermal f).recorder = s.recorder := rfl
@[simp] theorem onThermal_bell (f : Thermal → Thermal) : (s.onThermal f).bell = s.bell := rfl
@[simp] theorem onThermal_cores (f : Thermal → Thermal) : (s.onThermal f).cores = s.cores := rfl
@[simp] theorem onThermal_clusters (f : Thermal → Thermal) : (s.onThermal f).clusters = s.clusters := rfl
@[simp] theorem onThermal_sched (f : Thermal → Thermal) : (s.onThermal f).sched = s.sched := rfl
@[simp] theorem onThermal_host (f : Thermal → Thermal) : (s.onThermal f).host = s.host := rfl
@[simp] theorem onThermal_market (f : Thermal → Thermal) : (s.onThermal f).market = s.market := rfl
@[simp] theorem onThermal_hbm (f : Thermal → Thermal) : (s.onThermal f).hbm = s.hbm := rfl
@[simp] theorem onThermal_ecc (f : Thermal → Thermal) : (s.onThermal f).ecc = s.ecc := rfl
@[simp] theorem onThermal_pager (f : Thermal → Thermal) : (s.onThermal f).pager = s.pager := rfl
@[simp] theorem onThermal_fabric (f : Thermal → Thermal) : (s.onThermal f).fabric = s.fabric := rfl
@[simp] theorem onThermal_sec (f : Thermal → Thermal) : (s.onThermal f).sec = s.sec := rfl
@[simp] theorem onThermal_power (f : Thermal → Thermal) : (s.onThermal f).power = s.power := rfl
@[simp] theorem onThermal_thermal (f : Thermal → Thermal) : (s.onThermal f).thermal = f s.thermal := rfl
@[simp] theorem onThermal_fw (f : Thermal → Thermal) : (s.onThermal f).fw = s.fw := rfl
@[simp] theorem onThermal_pins (f : Thermal → Thermal) : (s.onThermal f).pins = s.pins := rfl
@[simp] theorem onThermal_dict (f : Thermal → Thermal) : (s.onThermal f).dict = s.dict := rfl

@[simp] theorem onPins_pending (f : Pins → Pins) : (s.onPins f).pending = s.pending := rfl
@[simp] theorem onPins_out (f : Pins → Pins) : (s.onPins f).out = s.out := rfl
@[simp] theorem onPins_freeCtr (f : Pins → Pins) : (s.onPins f).freeCtr = s.freeCtr := rfl
@[simp] theorem onPins_dev (f : Pins → Pins) : (s.onPins f).dev = s.dev := rfl
@[simp] theorem onPins_recorder (f : Pins → Pins) : (s.onPins f).recorder = s.recorder := rfl
@[simp] theorem onPins_bell (f : Pins → Pins) : (s.onPins f).bell = s.bell := rfl
@[simp] theorem onPins_cores (f : Pins → Pins) : (s.onPins f).cores = s.cores := rfl
@[simp] theorem onPins_clusters (f : Pins → Pins) : (s.onPins f).clusters = s.clusters := rfl
@[simp] theorem onPins_sched (f : Pins → Pins) : (s.onPins f).sched = s.sched := rfl
@[simp] theorem onPins_host (f : Pins → Pins) : (s.onPins f).host = s.host := rfl
@[simp] theorem onPins_market (f : Pins → Pins) : (s.onPins f).market = s.market := rfl
@[simp] theorem onPins_hbm (f : Pins → Pins) : (s.onPins f).hbm = s.hbm := rfl
@[simp] theorem onPins_ecc (f : Pins → Pins) : (s.onPins f).ecc = s.ecc := rfl
@[simp] theorem onPins_pager (f : Pins → Pins) : (s.onPins f).pager = s.pager := rfl
@[simp] theorem onPins_fabric (f : Pins → Pins) : (s.onPins f).fabric = s.fabric := rfl
@[simp] theorem onPins_sec (f : Pins → Pins) : (s.onPins f).sec = s.sec := rfl
@[simp] theorem onPins_power (f : Pins → Pins) : (s.onPins f).power = s.power := rfl
@[simp] theorem onPins_thermal (f : Pins → Pins) : (s.onPins f).thermal = s.thermal := rfl
@[simp] theorem onPins_fw (f : Pins → Pins) : (s.onPins f).fw = s.fw := rfl
@[simp] theorem onPins_pins (f : Pins → Pins) : (s.onPins f).pins = f s.pins := rfl
@[simp] theorem onPins_dict (f : Pins → Pins) : (s.onPins f).dict = s.dict := rfl

@[simp] theorem onRec_pending (f : Recorder → Recorder) : (s.onRec f).pending = s.pending := rfl
@[simp] theorem onRec_out (f : Recorder → Recorder) : (s.onRec f).out = s.out := rfl
@[simp] theorem onRec_freeCtr (f : Recorder → Recorder) : (s.onRec f).freeCtr = s.freeCtr := rfl
@[simp] theorem onRec_dev (f : Recorder → Recorder) : (s.onRec f).dev = s.dev := rfl
@[simp] theorem onRec_recorder (f : Recorder → Recorder) : (s.onRec f).recorder = f s.recorder := rfl
@[simp] theorem onRec_bell (f : Recorder → Recorder) : (s.onRec f).bell = s.bell := rfl
@[simp] theorem onRec_cores (f : Recorder → Recorder) : (s.onRec f).cores = s.cores := rfl
@[simp] theorem onRec_clusters (f : Recorder → Recorder) : (s.onRec f).clusters = s.clusters := rfl
@[simp] theorem onRec_sched (f : Recorder → Recorder) : (s.onRec f).sched = s.sched := rfl
@[simp] theorem onRec_host (f : Recorder → Recorder) : (s.onRec f).host = s.host := rfl
@[simp] theorem onRec_market (f : Recorder → Recorder) : (s.onRec f).market = s.market := rfl
@[simp] theorem onRec_hbm (f : Recorder → Recorder) : (s.onRec f).hbm = s.hbm := rfl
@[simp] theorem onRec_ecc (f : Recorder → Recorder) : (s.onRec f).ecc = s.ecc := rfl
@[simp] theorem onRec_pager (f : Recorder → Recorder) : (s.onRec f).pager = s.pager := rfl
@[simp] theorem onRec_fabric (f : Recorder → Recorder) : (s.onRec f).fabric = s.fabric := rfl
@[simp] theorem onRec_sec (f : Recorder → Recorder) : (s.onRec f).sec = s.sec := rfl
@[simp] theorem onRec_power (f : Recorder → Recorder) : (s.onRec f).power = s.power := rfl
@[simp] theorem onRec_thermal (f : Recorder → Recorder) : (s.onRec f).thermal = s.thermal := rfl
@[simp] theorem onRec_fw (f : Recorder → Recorder) : (s.onRec f).fw = s.fw := rfl
@[simp] theorem onRec_pins (f : Recorder → Recorder) : (s.onRec f).pins = s.pins := rfl
@[simp] theorem onRec_dict (f : Recorder → Recorder) : (s.onRec f).dict = s.dict := rfl

@[simp] theorem onSec_pending (f : Security → Security) : (s.onSec f).pending = s.pending := rfl
@[simp] theorem onSec_out (f : Security → Security) : (s.onSec f).out = s.out := rfl
@[simp] theorem onSec_freeCtr (f : Security → Security) : (s.onSec f).freeCtr = s.freeCtr := rfl
@[simp] theorem onSec_dev (f : Security → Security) : (s.onSec f).dev = s.dev := rfl
@[simp] theorem onSec_recorder (f : Security → Security) : (s.onSec f).recorder = s.recorder := rfl
@[simp] theorem onSec_bell (f : Security → Security) : (s.onSec f).bell = s.bell := rfl
@[simp] theorem onSec_cores (f : Security → Security) : (s.onSec f).cores = s.cores := rfl
@[simp] theorem onSec_clusters (f : Security → Security) : (s.onSec f).clusters = s.clusters := rfl
@[simp] theorem onSec_sched (f : Security → Security) : (s.onSec f).sched = s.sched := rfl
@[simp] theorem onSec_host (f : Security → Security) : (s.onSec f).host = s.host := rfl
@[simp] theorem onSec_market (f : Security → Security) : (s.onSec f).market = s.market := rfl
@[simp] theorem onSec_hbm (f : Security → Security) : (s.onSec f).hbm = s.hbm := rfl
@[simp] theorem onSec_ecc (f : Security → Security) : (s.onSec f).ecc = s.ecc := rfl
@[simp] theorem onSec_pager (f : Security → Security) : (s.onSec f).pager = s.pager := rfl
@[simp] theorem onSec_fabric (f : Security → Security) : (s.onSec f).fabric = s.fabric := rfl
@[simp] theorem onSec_sec (f : Security → Security) : (s.onSec f).sec = f s.sec := rfl
@[simp] theorem onSec_power (f : Security → Security) : (s.onSec f).power = s.power := rfl
@[simp] theorem onSec_thermal (f : Security → Security) : (s.onSec f).thermal = s.thermal := rfl
@[simp] theorem onSec_fw (f : Security → Security) : (s.onSec f).fw = s.fw := rfl
@[simp] theorem onSec_pins (f : Security → Security) : (s.onSec f).pins = s.pins := rfl
@[simp] theorem onSec_dict (f : Security → Security) : (s.onSec f).dict = s.dict := rfl

@[simp] theorem onFw_pending (f : Firmware → Firmware) : (s.onFw f).pending = s.pending := rfl
@[simp] theorem onFw_out (f : Firmware → Firmware) : (s.onFw f).out = s.out := rfl
@[simp] theorem onFw_freeCtr (f : Firmware → Firmware) : (s.onFw f).freeCtr = s.freeCtr := rfl
@[simp] theorem onFw_dev (f : Firmware → Firmware) : (s.onFw f).dev = s.dev := rfl
@[simp] theorem onFw_recorder (f : Firmware → Firmware) : (s.onFw f).recorder = s.recorder := rfl
@[simp] theorem onFw_bell (f : Firmware → Firmware) : (s.onFw f).bell = s.bell := rfl
@[simp] theorem onFw_cores (f : Firmware → Firmware) : (s.onFw f).cores = s.cores := rfl
@[simp] theorem onFw_clusters (f : Firmware → Firmware) : (s.onFw f).clusters = s.clusters := rfl
@[simp] theorem onFw_sched (f : Firmware → Firmware) : (s.onFw f).sched = s.sched := rfl
@[simp] theorem onFw_host (f : Firmware → Firmware) : (s.onFw f).host = s.host := rfl
@[simp] theorem onFw_market (f : Firmware → Firmware) : (s.onFw f).market = s.market := rfl
@[simp] theorem onFw_hbm (f : Firmware → Firmware) : (s.onFw f).hbm = s.hbm := rfl
@[simp] theorem onFw_ecc (f : Firmware → Firmware) : (s.onFw f).ecc = s.ecc := rfl
@[simp] theorem onFw_pager (f : Firmware → Firmware) : (s.onFw f).pager = s.pager := rfl
@[simp] theorem onFw_fabric (f : Firmware → Firmware) : (s.onFw f).fabric = s.fabric := rfl
@[simp] theorem onFw_sec (f : Firmware → Firmware) : (s.onFw f).sec = s.sec := rfl
@[simp] theorem onFw_power (f : Firmware → Firmware) : (s.onFw f).power = s.power := rfl
@[simp] theorem onFw_thermal (f : Firmware → Firmware) : (s.onFw f).thermal = s.thermal := rfl
@[simp] theorem onFw_fw (f : Firmware → Firmware) : (s.onFw f).fw = f s.fw := rfl
@[simp] theorem onFw_pins (f : Firmware → Firmware) : (s.onFw f).pins = s.pins := rfl
@[simp] theorem onFw_dict (f : Firmware → Firmware) : (s.onFw f).dict = s.dict := rfl

@[simp] theorem setCore_pending (c : Nat) (x : Core) : (s.setCore c x).pending = s.pending := rfl
@[simp] theorem setCore_out (c : Nat) (x : Core) : (s.setCore c x).out = s.out := rfl
@[simp] theorem setCore_freeCtr (c : Nat) (x : Core) : (s.setCore c x).freeCtr = s.freeCtr := rfl
@[simp] theorem setCore_dev (c : Nat) (x : Core) : (s.setCore c x).dev = s.dev := rfl
@[simp] theorem setCore_recorder (c : Nat) (x : Core) : (s.setCore c x).recorder = s.recorder := rfl
@[simp] theorem setCore_bell (c : Nat) (x : Core) : (s.setCore c x).bell = s.bell := rfl
@[simp] theorem setCore_cores (c : Nat) (x : Core) : (s.setCore c x).cores = Tab.set Core.blank s.cores c x := rfl
@[simp] theorem setCore_clusters (c : Nat) (x : Core) : (s.setCore c x).clusters = s.clusters := rfl
@[simp] theorem setCore_sched (c : Nat) (x : Core) : (s.setCore c x).sched = s.sched := rfl
@[simp] theorem setCore_host (c : Nat) (x : Core) : (s.setCore c x).host = s.host := rfl
@[simp] theorem setCore_market (c : Nat) (x : Core) : (s.setCore c x).market = s.market := rfl
@[simp] theorem setCore_hbm (c : Nat) (x : Core) : (s.setCore c x).hbm = s.hbm := rfl
@[simp] theorem setCore_ecc (c : Nat) (x : Core) : (s.setCore c x).ecc = s.ecc := rfl
@[simp] theorem setCore_pager (c : Nat) (x : Core) : (s.setCore c x).pager = s.pager := rfl
@[simp] theorem setCore_fabric (c : Nat) (x : Core) : (s.setCore c x).fabric = s.fabric := rfl
@[simp] theorem setCore_sec (c : Nat) (x : Core) : (s.setCore c x).sec = s.sec := rfl
@[simp] theorem setCore_power (c : Nat) (x : Core) : (s.setCore c x).power = s.power := rfl
@[simp] theorem setCore_thermal (c : Nat) (x : Core) : (s.setCore c x).thermal = s.thermal := rfl
@[simp] theorem setCore_fw (c : Nat) (x : Core) : (s.setCore c x).fw = s.fw := rfl
@[simp] theorem setCore_pins (c : Nat) (x : Core) : (s.setCore c x).pins = s.pins := rfl
@[simp] theorem setCore_dict (c : Nat) (x : Core) : (s.setCore c x).dict = s.dict := rfl

@[simp] theorem onCore_pending (c : Nat) (f : Core → Core) : (s.onCore c f).pending = s.pending := rfl
@[simp] theorem onCore_out (c : Nat) (f : Core → Core) : (s.onCore c f).out = s.out := rfl
@[simp] theorem onCore_freeCtr (c : Nat) (f : Core → Core) : (s.onCore c f).freeCtr = s.freeCtr := rfl
@[simp] theorem onCore_dev (c : Nat) (f : Core → Core) : (s.onCore c f).dev = s.dev := rfl
@[simp] theorem onCore_recorder (c : Nat) (f : Core → Core) : (s.onCore c f).recorder = s.recorder := rfl
@[simp] theorem onCore_bell (c : Nat) (f : Core → Core) : (s.onCore c f).bell = s.bell := rfl
@[simp] theorem onCore_cores (c : Nat) (f : Core → Core) : (s.onCore c f).cores = Tab.set Core.blank s.cores c (f (s.core c)) := rfl
@[simp] theorem onCore_clusters (c : Nat) (f : Core → Core) : (s.onCore c f).clusters = s.clusters := rfl
@[simp] theorem onCore_sched (c : Nat) (f : Core → Core) : (s.onCore c f).sched = s.sched := rfl
@[simp] theorem onCore_host (c : Nat) (f : Core → Core) : (s.onCore c f).host = s.host := rfl
@[simp] theorem onCore_market (c : Nat) (f : Core → Core) : (s.onCore c f).market = s.market := rfl
@[simp] theorem onCore_hbm (c : Nat) (f : Core → Core) : (s.onCore c f).hbm = s.hbm := rfl
@[simp] theorem onCore_ecc (c : Nat) (f : Core → Core) : (s.onCore c f).ecc = s.ecc := rfl
@[simp] theorem onCore_pager (c : Nat) (f : Core → Core) : (s.onCore c f).pager = s.pager := rfl
@[simp] theorem onCore_fabric (c : Nat) (f : Core → Core) : (s.onCore c f).fabric = s.fabric := rfl
@[simp] theorem onCore_sec (c : Nat) (f : Core → Core) : (s.onCore c f).sec = s.sec := rfl
@[simp] theorem onCore_power (c : Nat) (f : Core → Core) : (s.onCore c f).power = s.power := rfl
@[simp] theorem onCore_thermal (c : Nat) (f : Core → Core) : (s.onCore c f).thermal = s.thermal := rfl
@[simp] theorem onCore_fw (c : Nat) (f : Core → Core) : (s.onCore c f).fw = s.fw := rfl
@[simp] theorem onCore_pins (c : Nat) (f : Core → Core) : (s.onCore c f).pins = s.pins := rfl
@[simp] theorem onCore_dict (c : Nat) (f : Core → Core) : (s.onCore c f).dict = s.dict := rfl

@[simp] theorem setCluster_pending (k : Nat) (x : Cluster) : (s.setCluster k x).pending = s.pending := rfl
@[simp] theorem setCluster_out (k : Nat) (x : Cluster) : (s.setCluster k x).out = s.out := rfl
@[simp] theorem setCluster_freeCtr (k : Nat) (x : Cluster) : (s.setCluster k x).freeCtr = s.freeCtr := rfl
@[simp] theorem setCluster_dev (k : Nat) (x : Cluster) : (s.setCluster k x).dev = s.dev := rfl
@[simp] theorem setCluster_recorder (k : Nat) (x : Cluster) : (s.setCluster k x).recorder = s.recorder := rfl
@[simp] theorem setCluster_bell (k : Nat) (x : Cluster) : (s.setCluster k x).bell = s.bell := rfl
@[simp] theorem setCluster_cores (k : Nat) (x : Cluster) : (s.setCluster k x).cores = s.cores := rfl
@[simp] theorem setCluster_clusters (k : Nat) (x : Cluster) : (s.setCluster k x).clusters = Tab.set Cluster.blank s.clusters k x := rfl
@[simp] theorem setCluster_sched (k : Nat) (x : Cluster) : (s.setCluster k x).sched = s.sched := rfl
@[simp] theorem setCluster_host (k : Nat) (x : Cluster) : (s.setCluster k x).host = s.host := rfl
@[simp] theorem setCluster_market (k : Nat) (x : Cluster) : (s.setCluster k x).market = s.market := rfl
@[simp] theorem setCluster_hbm (k : Nat) (x : Cluster) : (s.setCluster k x).hbm = s.hbm := rfl
@[simp] theorem setCluster_ecc (k : Nat) (x : Cluster) : (s.setCluster k x).ecc = s.ecc := rfl
@[simp] theorem setCluster_pager (k : Nat) (x : Cluster) : (s.setCluster k x).pager = s.pager := rfl
@[simp] theorem setCluster_fabric (k : Nat) (x : Cluster) : (s.setCluster k x).fabric = s.fabric := rfl
@[simp] theorem setCluster_sec (k : Nat) (x : Cluster) : (s.setCluster k x).sec = s.sec := rfl
@[simp] theorem setCluster_power (k : Nat) (x : Cluster) : (s.setCluster k x).power = s.power := rfl
@[simp] theorem setCluster_thermal (k : Nat) (x : Cluster) : (s.setCluster k x).thermal = s.thermal := rfl
@[simp] theorem setCluster_fw (k : Nat) (x : Cluster) : (s.setCluster k x).fw = s.fw := rfl
@[simp] theorem setCluster_pins (k : Nat) (x : Cluster) : (s.setCluster k x).pins = s.pins := rfl
@[simp] theorem setCluster_dict (k : Nat) (x : Cluster) : (s.setCluster k x).dict = s.dict := rfl

@[simp] theorem setUnit_pending (kind i : Nat) (r : UnitRec) : (s.setUnit kind i r).pending = s.pending := rfl
@[simp] theorem setUnit_out (kind i : Nat) (r : UnitRec) : (s.setUnit kind i r).out = s.out := rfl
@[simp] theorem setUnit_freeCtr (kind i : Nat) (r : UnitRec) : (s.setUnit kind i r).freeCtr = s.freeCtr := rfl
@[simp] theorem setUnit_dev (kind i : Nat) (r : UnitRec) : (s.setUnit kind i r).dev = { s.dev with units := Tab.set UnitRec.blank s.dev.units (unitKey kind i) r } := rfl
@[simp] theorem setUnit_recorder (kind i : Nat) (r : UnitRec) : (s.setUnit kind i r).recorder = s.recorder := rfl
@[simp] theorem setUnit_bell (kind i : Nat) (r : UnitRec) : (s.setUnit kind i r).bell = s.bell := rfl
@[simp] theorem setUnit_cores (kind i : Nat) (r : UnitRec) : (s.setUnit kind i r).cores = s.cores := rfl
@[simp] theorem setUnit_clusters (kind i : Nat) (r : UnitRec) : (s.setUnit kind i r).clusters = s.clusters := rfl
@[simp] theorem setUnit_sched (kind i : Nat) (r : UnitRec) : (s.setUnit kind i r).sched = s.sched := rfl
@[simp] theorem setUnit_host (kind i : Nat) (r : UnitRec) : (s.setUnit kind i r).host = s.host := rfl
@[simp] theorem setUnit_market (kind i : Nat) (r : UnitRec) : (s.setUnit kind i r).market = s.market := rfl
@[simp] theorem setUnit_hbm (kind i : Nat) (r : UnitRec) : (s.setUnit kind i r).hbm = s.hbm := rfl
@[simp] theorem setUnit_ecc (kind i : Nat) (r : UnitRec) : (s.setUnit kind i r).ecc = s.ecc := rfl
@[simp] theorem setUnit_pager (kind i : Nat) (r : UnitRec) : (s.setUnit kind i r).pager = s.pager := rfl
@[simp] theorem setUnit_fabric (kind i : Nat) (r : UnitRec) : (s.setUnit kind i r).fabric = s.fabric := rfl
@[simp] theorem setUnit_sec (kind i : Nat) (r : UnitRec) : (s.setUnit kind i r).sec = s.sec := rfl
@[simp] theorem setUnit_power (kind i : Nat) (r : UnitRec) : (s.setUnit kind i r).power = s.power := rfl
@[simp] theorem setUnit_thermal (kind i : Nat) (r : UnitRec) : (s.setUnit kind i r).thermal = s.thermal := rfl
@[simp] theorem setUnit_fw (kind i : Nat) (r : UnitRec) : (s.setUnit kind i r).fw = s.fw := rfl
@[simp] theorem setUnit_pins (kind i : Nat) (r : UnitRec) : (s.setUnit kind i r).pins = s.pins := rfl
@[simp] theorem setUnit_dict (kind i : Nat) (r : UnitRec) : (s.setUnit kind i r).dict = s.dict := rfl

@[simp] theorem setVal_pending (index sub len v : Nat) : (s.setVal index sub len v).pending = s.pending := rfl
@[simp] theorem setVal_out (index sub len v : Nat) : (s.setVal index sub len v).out = s.out := rfl
@[simp] theorem setVal_freeCtr (index sub len v : Nat) : (s.setVal index sub len v).freeCtr = s.freeCtr := rfl
@[simp] theorem setVal_dev (index sub len v : Nat) : (s.setVal index sub len v).dev = s.dev := rfl
@[simp] theorem setVal_recorder (index sub len v : Nat) : (s.setVal index sub len v).recorder = s.recorder := rfl
@[simp] theorem setVal_bell (index sub len v : Nat) : (s.setVal index sub len v).bell = s.bell := rfl
@[simp] theorem setVal_cores (index sub len v : Nat) : (s.setVal index sub len v).cores = s.cores := rfl
@[simp] theorem setVal_clusters (index sub len v : Nat) : (s.setVal index sub len v).clusters = s.clusters := rfl
@[simp] theorem setVal_sched (index sub len v : Nat) : (s.setVal index sub len v).sched = s.sched := rfl
@[simp] theorem setVal_host (index sub len v : Nat) : (s.setVal index sub len v).host = s.host := rfl
@[simp] theorem setVal_market (index sub len v : Nat) : (s.setVal index sub len v).market = s.market := rfl
@[simp] theorem setVal_hbm (index sub len v : Nat) : (s.setVal index sub len v).hbm = s.hbm := rfl
@[simp] theorem setVal_ecc (index sub len v : Nat) : (s.setVal index sub len v).ecc = s.ecc := rfl
@[simp] theorem setVal_pager (index sub len v : Nat) : (s.setVal index sub len v).pager = s.pager := rfl
@[simp] theorem setVal_fabric (index sub len v : Nat) : (s.setVal index sub len v).fabric = s.fabric := rfl
@[simp] theorem setVal_sec (index sub len v : Nat) : (s.setVal index sub len v).sec = s.sec := rfl
@[simp] theorem setVal_power (index sub len v : Nat) : (s.setVal index sub len v).power = s.power := rfl
@[simp] theorem setVal_thermal (index sub len v : Nat) : (s.setVal index sub len v).thermal = s.thermal := rfl
@[simp] theorem setVal_fw (index sub len v : Nat) : (s.setVal index sub len v).fw = s.fw := rfl
@[simp] theorem setVal_pins (index sub len v : Nat) : (s.setVal index sub len v).pins = s.pins := rfl
@[simp] theorem setVal_dict (index sub len v : Nat) : (s.setVal index sub len v).dict = { s.dict with vals := Tab.set 0 s.dict.vals (dictKey index sub) (encVal len v) } := rfl

@[simp] theorem event_pending (cls detail p0 p1 : Nat) : (s.event cls detail p0 p1).pending = s.pending := rfl
@[simp] theorem event_out (cls detail p0 p1 : Nat) : (s.event cls detail p0 p1).out = s.out := rfl
@[simp] theorem event_freeCtr (cls detail p0 p1 : Nat) : (s.event cls detail p0 p1).freeCtr = s.freeCtr := rfl
@[simp] theorem event_dev (cls detail p0 p1 : Nat) : (s.event cls detail p0 p1).dev = s.dev := rfl
@[simp] theorem event_recorder (cls detail p0 p1 : Nat) : (s.event cls detail p0 p1).recorder = s.recorder.event s.bell.count cls detail p0 p1 := rfl
@[simp] theorem event_bell (cls detail p0 p1 : Nat) : (s.event cls detail p0 p1).bell = s.bell := rfl
@[simp] theorem event_cores (cls detail p0 p1 : Nat) : (s.event cls detail p0 p1).cores = s.cores := rfl
@[simp] theorem event_clusters (cls detail p0 p1 : Nat) : (s.event cls detail p0 p1).clusters = s.clusters := rfl
@[simp] theorem event_sched (cls detail p0 p1 : Nat) : (s.event cls detail p0 p1).sched = s.sched := rfl
@[simp] theorem event_host (cls detail p0 p1 : Nat) : (s.event cls detail p0 p1).host = s.host := rfl
@[simp] theorem event_market (cls detail p0 p1 : Nat) : (s.event cls detail p0 p1).market = s.market := rfl
@[simp] theorem event_hbm (cls detail p0 p1 : Nat) : (s.event cls detail p0 p1).hbm = s.hbm := rfl
@[simp] theorem event_ecc (cls detail p0 p1 : Nat) : (s.event cls detail p0 p1).ecc = s.ecc := rfl
@[simp] theorem event_pager (cls detail p0 p1 : Nat) : (s.event cls detail p0 p1).pager = s.pager := rfl
@[simp] theorem event_fabric (cls detail p0 p1 : Nat) : (s.event cls detail p0 p1).fabric = s.fabric := rfl
@[simp] theorem event_sec (cls detail p0 p1 : Nat) : (s.event cls detail p0 p1).sec = s.sec := rfl
@[simp] theorem event_power (cls detail p0 p1 : Nat) : (s.event cls detail p0 p1).power = s.power := rfl
@[simp] theorem event_thermal (cls detail p0 p1 : Nat) : (s.event cls detail p0 p1).thermal = s.thermal := rfl
@[simp] theorem event_fw (cls detail p0 p1 : Nat) : (s.event cls detail p0 p1).fw = s.fw := rfl
@[simp] theorem event_pins (cls detail p0 p1 : Nat) : (s.event cls detail p0 p1).pins = s.pins := rfl
@[simp] theorem event_dict (cls detail p0 p1 : Nat) : (s.event cls detail p0 p1).dict = s.dict := rfl

@[simp] theorem setQueue_pending (q : Nat) (x : Queue) : (s.setQueue q x).pending = s.pending := rfl
@[simp] theorem setQueue_out (q : Nat) (x : Queue) : (s.setQueue q x).out = s.out := rfl
@[simp] theorem setQueue_freeCtr (q : Nat) (x : Queue) : (s.setQueue q x).freeCtr = s.freeCtr := rfl
@[simp] theorem setQueue_dev (q : Nat) (x : Queue) : (s.setQueue q x).dev = s.dev := rfl
@[simp] theorem setQueue_recorder (q : Nat) (x : Queue) : (s.setQueue q x).recorder = s.recorder := rfl
@[simp] theorem setQueue_bell (q : Nat) (x : Queue) : (s.setQueue q x).bell = s.bell := rfl
@[simp] theorem setQueue_cores (q : Nat) (x : Queue) : (s.setQueue q x).cores = s.cores := rfl
@[simp] theorem setQueue_clusters (q : Nat) (x : Queue) : (s.setQueue q x).clusters = s.clusters := rfl
@[simp] theorem setQueue_host (q : Nat) (x : Queue) : (s.setQueue q x).host = s.host := rfl
@[simp] theorem setQueue_market (q : Nat) (x : Queue) : (s.setQueue q x).market = s.market := rfl
@[simp] theorem setQueue_hbm (q : Nat) (x : Queue) : (s.setQueue q x).hbm = s.hbm := rfl
@[simp] theorem setQueue_ecc (q : Nat) (x : Queue) : (s.setQueue q x).ecc = s.ecc := rfl
@[simp] theorem setQueue_pager (q : Nat) (x : Queue) : (s.setQueue q x).pager = s.pager := rfl
@[simp] theorem setQueue_fabric (q : Nat) (x : Queue) : (s.setQueue q x).fabric = s.fabric := rfl
@[simp] theorem setQueue_sec (q : Nat) (x : Queue) : (s.setQueue q x).sec = s.sec := rfl
@[simp] theorem setQueue_power (q : Nat) (x : Queue) : (s.setQueue q x).power = s.power := rfl
@[simp] theorem setQueue_thermal (q : Nat) (x : Queue) : (s.setQueue q x).thermal = s.thermal := rfl
@[simp] theorem setQueue_fw (q : Nat) (x : Queue) : (s.setQueue q x).fw = s.fw := rfl
@[simp] theorem setQueue_pins (q : Nat) (x : Queue) : (s.setQueue q x).pins = s.pins := rfl
@[simp] theorem setQueue_dict (q : Nat) (x : Queue) : (s.setQueue q x).dict = s.dict := rfl

@[simp] theorem setTray_pending (c slot : Nat) (t : Tray) : (s.setTray c slot t).pending = s.pending := rfl
@[simp] theorem setTray_out (c slot : Nat) (t : Tray) : (s.setTray c slot t).out = s.out := rfl
@[simp] theorem setTray_freeCtr (c slot : Nat) (t : Tray) : (s.setTray c slot t).freeCtr = s.freeCtr := rfl
@[simp] theorem setTray_dev (c slot : Nat) (t : Tray) : (s.setTray c slot t).dev = s.dev := rfl
@[simp] theorem setTray_recorder (c slot : Nat) (t : Tray) : (s.setTray c slot t).recorder = s.recorder := rfl
@[simp] theorem setTray_bell (c slot : Nat) (t : Tray) : (s.setTray c slot t).bell = s.bell := rfl
@[simp] theorem setTray_clusters (c slot : Nat) (t : Tray) : (s.setTray c slot t).clusters = s.clusters := rfl
@[simp] theorem setTray_sched (c slot : Nat) (t : Tray) : (s.setTray c slot t).sched = s.sched := rfl
@[simp] theorem setTray_host (c slot : Nat) (t : Tray) : (s.setTray c slot t).host = s.host := rfl
@[simp] theorem setTray_market (c slot : Nat) (t : Tray) : (s.setTray c slot t).market = s.market := rfl
@[simp] theorem setTray_hbm (c slot : Nat) (t : Tray) : (s.setTray c slot t).hbm = s.hbm := rfl
@[simp] theorem setTray_ecc (c slot : Nat) (t : Tray) : (s.setTray c slot t).ecc = s.ecc := rfl
@[simp] theorem setTray_pager (c slot : Nat) (t : Tray) : (s.setTray c slot t).pager = s.pager := rfl
@[simp] theorem setTray_fabric (c slot : Nat) (t : Tray) : (s.setTray c slot t).fabric = s.fabric := rfl
@[simp] theorem setTray_sec (c slot : Nat) (t : Tray) : (s.setTray c slot t).sec = s.sec := rfl
@[simp] theorem setTray_power (c slot : Nat) (t : Tray) : (s.setTray c slot t).power = s.power := rfl
@[simp] theorem setTray_thermal (c slot : Nat) (t : Tray) : (s.setTray c slot t).thermal = s.thermal := rfl
@[simp] theorem setTray_fw (c slot : Nat) (t : Tray) : (s.setTray c slot t).fw = s.fw := rfl
@[simp] theorem setTray_pins (c slot : Nat) (t : Tray) : (s.setTray c slot t).pins = s.pins := rfl
@[simp] theorem setTray_dict (c slot : Nat) (t : Tray) : (s.setTray c slot t).dict = s.dict := rfl

end Sys2Proof.Laws
end

