-- ==== Sys2Proof/Laws/Tab.lean ====
section
/-!
SUPPORT. The laws of sparse tables: every operation keeps the canonical form, and a read after a write gives the value written at
the written key and the old value at every other key.
-/

namespace Sys2Proof.Laws
open Sys2Proof Sys2Proof.Machine

variable {α : Type} [DecidableEq α]

/-- What a key holds below which nothing is listed. -/
theorem tab_get_low {d : α} {b : Nat} {t : Tab α} (h : Tab.wfFrom d (some b) t = true) {k : Nat} (hk : k ≤ b) : Tab.get d t k = d := by
  cases t with
  | nil => rfl
  | cons e r =>
    obtain ⟨k', v⟩ := e
    simp only [Tab.wfFrom, Bool.and_eq_true, decide_eq_true_eq] at h
    simp only [Tab.get]
    rw [if_neg (by omega), if_pos (by omega)]

/-- A bound may be lowered or dropped. -/
theorem tab_wfFrom_weaken {d : α} {b : Nat} {t : Tab α} (h : Tab.wfFrom d (some b) t = true) {lo : Option Nat}
    (hlo : ∀ c, lo = some c → c ≤ b) : Tab.wfFrom d lo t = true := by
  cases t with
  | nil => rfl
  | cons e r =>
    obtain ⟨k', v⟩ := e
    simp only [Tab.wfFrom, Bool.and_eq_true, decide_eq_true_eq] at h ⊢
    refine ⟨⟨?_, h.1.2⟩, h.2⟩
    cases lo with
    | none => rfl
    | some c => have := hlo c rfl; simp; omega

theorem tab_wfFrom_set {d : α} {lo : Option Nat} {t : Tab α} (h : Tab.wfFrom d lo t = true) {k : Nat} {v : α}
    (hk : ∀ c, lo = some c → c < k) : Tab.wfFrom d lo (Tab.set d t k v) = true := by
  induction t generalizing lo with
  | nil =>
    simp only [Tab.set]
    split
    · rfl
    · cases lo with
      | none => simp [Tab.wfFrom, *]
      | some c => have := hk c rfl; simp [Tab.wfFrom, *]
  | cons e r ih =>
    obtain ⟨k', w⟩ := e
    simp only [Tab.wfFrom, Bool.and_eq_true, decide_eq_true_eq] at h
    simp only [Tab.set]
    split
    · split
      · simp only [Tab.wfFrom, Bool.and_eq_true, decide_eq_true_eq]; exact h
      · simp only [Tab.wfFrom, Bool.and_eq_true, decide_eq_true_eq]
        exact ⟨⟨by cases lo with | none => rfl | some c => simpa using hk c rfl, by assumption⟩, ⟨by assumption, h.1.2⟩, h.2⟩
    · split
      · subst k'
        split
        · exact tab_wfFrom_weaken h.2 (fun c hc => (hk c hc).le)
        · simp only [Tab.wfFrom, Bool.and_eq_true, decide_eq_true_eq]
          exact ⟨⟨by cases lo with | none => rfl | some c => simpa using hk c rfl, by assumption⟩, h.2⟩
      · simp only [Tab.wfFrom, Bool.and_eq_true, decide_eq_true_eq]
        exact ⟨h.1, ih h.2 (fun c hc => by cases hc; omega)⟩

/-- A write keeps the canonical form. -/
theorem tab_wf_set {d : α} {t : Tab α} (h : Tab.wf d t = true) (k : Nat) (v : α) : Tab.wf d (Tab.set d t k v) = true :=
  tab_wfFrom_set h (fun c hc => by cases hc)

@[simp] theorem tab_wf_nil (d : α) : Tab.wf d ([] : Tab α) = true := rfl

theorem tab_wf_modify {d : α} {t : Tab α} (h : Tab.wf d t = true) (k : Nat) (f : α → α) : Tab.wf d (Tab.modify d t k f) = true :=
  tab_wf_set h _ _

theorem tab_wf_modifyRange {d : α} {f : Nat → α → α} (n : Nat) : ∀ {lo : Nat} {t : Tab α}, Tab.wf d t = true →
    Tab.wf d (Tab.modifyRange d f n lo t) = true := by
  induction n with
  | zero => intro lo t h; exact h
  | succ n ih => intro lo t h; exact ih (tab_wf_modify h _ _)

theorem tab_wfFrom_filter {d : α} {p : Nat × α → Bool} {lo : Option Nat} {t : Tab α} (h : Tab.wfFrom d lo t = true) :
    Tab.wfFrom d lo (t.filter p) = true := by
  induction t generalizing lo with
  | nil => rfl
  | cons e r ih =>
    obtain ⟨k', w⟩ := e
    simp only [Tab.wfFrom, Bool.and_eq_true, decide_eq_true_eq] at h
    simp only [List.filter]
    split
    · simp only [Tab.wfFrom, Bool.and_eq_true, decide_eq_true_eq]; exact ⟨h.1, ih h.2⟩
    · refine ih (tab_wfFrom_weaken h.2 (fun c hc => ?_))
      subst hc
      simpa using (of_decide_eq_true h.1.1).le

/-- Leaving entries out keeps the canonical form. -/
theorem tab_wf_filter {d : α} {t : Tab α} (h : Tab.wf d t = true) (p : Nat × α → Bool) : Tab.wf d (t.filter p) = true :=
  tab_wfFrom_filter h

theorem tab_wf_keep {d : α} {t : Tab α} (h : Tab.wf d t = true) (p : Nat → α → Bool) : Tab.wf d (Tab.keep p t) = true :=
  tab_wf_filter h _

theorem tab_wfFrom_mapVals {d : α} {f : Nat → α → α} {lo : Option Nat} {t : Tab α} (h : Tab.wfFrom d lo t = true) :
    Tab.wfFrom d lo (Tab.mapVals d f t) = true := by
  induction t generalizing lo with
  | nil => rfl
  | cons e r ih =>
    obtain ⟨k', w⟩ := e
    simp only [Tab.wfFrom, Bool.and_eq_true, decide_eq_true_eq] at h
    simp only [Tab.mapVals, List.map, List.filter]
    split
    · rename_i hd
      simp only [Tab.wfFrom, Bool.and_eq_true, decide_eq_true_eq]
      exact ⟨⟨h.1.1, by simpa using hd⟩, ih h.2⟩
    · refine ih (tab_wfFrom_weaken h.2 (fun c hc => ?_))
      subst hc
      simpa using (of_decide_eq_true h.1.1).le

/-- Mapping the values keeps the canonical form. -/
theorem tab_wf_mapVals {d : α} {t : Tab α} (h : Tab.wf d t = true) (f : Nat → α → α) : Tab.wf d (Tab.mapVals d f t) = true :=
  tab_wfFrom_mapVals h

theorem tab_wf_setBytes {d : Byte} (bs : List Byte) : ∀ {t : Tab Byte} {a : Nat}, Tab.wf d t = true →
    Tab.wf d (Tab.setBytes d t a bs) = true := by
  induction bs with
  | nil => intro t a h; exact h
  | cons b r ih => intro t a h; exact ih (tab_wf_set h _ _)

theorem tab_wf_setLe {d : Byte} {t : Tab Byte} (h : Tab.wf d t = true) (a n v : Nat) : Tab.wf d (Tab.setLe d t a n v) = true :=
  tab_wf_setBytes _ h

theorem tab_get_setFrom {d : α} {lo : Option Nat} {t : Tab α} (h : Tab.wfFrom d lo t = true) (k k' : Nat) (v : α)
    (hk : ∀ c, lo = some c → c < k) : Tab.get d (Tab.set d t k v) k' = if k' = k then v else Tab.get d t k' := by
  induction t generalizing lo with
  | nil => simp only [Tab.set]; split <;> simp_all [Tab.get]
  | cons e r ih =>
    obtain ⟨j, w⟩ := e
    simp only [Tab.wfFrom, Bool.and_eq_true, decide_eq_true_eq] at h
    simp only [Tab.set]
    split
    · split
      · subst v
        by_cases e : k' = k
        · subst e; simp only [Tab.get]; rw [if_neg (by omega), if_pos (by omega)]; simp
        · rw [if_neg e]
      · simp only [Tab.get]
        by_cases e : k' = k
        · simp [e]
        · rw [if_neg e, if_neg e]
          by_cases e2 : k' < k
          · rw [if_pos e2, if_neg (by omega), if_pos (by omega)]
          · rw [if_neg e2]
    · split
      · subst j
        split
        · subst v
          by_cases e : k' = k
          · subst e; rw [if_pos rfl]; exact tab_get_low h.2 (le_refl _)
          · rw [if_neg e]
            simp only [Tab.get, if_neg e]
            by_cases e2 : k' < k
            · rw [if_pos e2]; exact tab_get_low h.2 e2.le
            · rw [if_neg e2]
        · simp only [Tab.get]
          by_cases e : k' = k
          · simp [e]
          · simp [e]
      · have hjk : j < k := by omega
        simp only [Tab.get]
        rw [ih h.2 (fun c hc => by cases hc; exact hjk)]
        by_cases e : k' = k
        · subst e; rw [if_neg (by omega), if_neg (by omega), if_pos rfl, if_pos rfl]
        · simp [e]

/-- A read after a write: the value written at its key, the old value at every other key. -/
theorem tab_get_set {d : α} {t : Tab α} (h : Tab.wf d t = true) (k k' : Nat) (v : α) :
    Tab.get d (Tab.set d t k v) k' = if k' = k then v else Tab.get d t k' :=
  tab_get_setFrom h k k' v (fun c hc => by cases hc)

theorem tab_get_modify {d : α} {t : Tab α} (h : Tab.wf d t = true) (k k' : Nat) (f : α → α) :
    Tab.get d (Tab.modify d t k f) k' = if k' = k then f (Tab.get d t k) else Tab.get d t k' :=
  tab_get_set h _ _ _

/-- The bytes after a list of bytes is written at `a`: the byte of the list at its place, elsewhere the old byte. -/
theorem tab_get_setBytes {d : Byte} (bs : List Byte) : ∀ {t : Tab Byte} {a : Nat}, Tab.wf d t = true → ∀ x,
    Tab.get d (Tab.setBytes d t a bs) x = if a ≤ x ∧ x < a + bs.length then bs.getD (x - a) d else Tab.get d t x := by
  induction bs with
  | nil => intro t a h x; rw [if_neg (by simp only [List.length_nil]; omega)]; rfl
  | cons b r ih =>
    intro t a h x
    simp only [Tab.setBytes]
    rw [ih (tab_wf_set h a b), tab_get_set h]
    by_cases e : x = a
    · subst e; simp
    · rw [if_neg e]
      by_cases e2 : a + 1 ≤ x ∧ x < a + 1 + r.length
      · have e3 : a ≤ x ∧ x < a + (b :: r).length := ⟨by omega, by simp only [List.length_cons]; omega⟩
        rw [if_pos e2, if_pos e3]
        obtain ⟨n, hn⟩ : ∃ n, x - a = n + 1 := ⟨x - a - 1, by omega⟩
        rw [hn, show x - (a + 1) = n by omega]
        simp
      · rw [if_neg e2, if_neg]
        rintro ⟨h1, h2⟩
        exact e2 ⟨by omega, by simp only [List.length_cons] at h2; omega⟩

end Sys2Proof.Laws
end

