-- ==== Sys2Proof/Laws/Tray.lean ====
section
/-!
SUPPORT. What the shared operations of a tray do: an instruction that issues runs in the fetched state, and an instruction of format A
that is legal is its step folded over the active lanes.
-/

namespace Sys2Proof.Laws
open Sys2Proof Sys2Proof.Machine

/-- A tray that issues runs its instruction in the fetched state (R129, R137, R158). -/
theorem trayDo_runs {s u : State} {y : Tray} {c slot : Nat} (h : Runs s c slot u y) (k : State → State) : s.trayDo c slot k = k u := by
  obtain ⟨⟨h1, h2, h3, h4, h5⟩, rfl, -⟩ := h
  simp only [State.trayDo, fetched, launched] at *
  rw [h1, h2]
  simp only [Bool.not_true, Bool.false_eq_true, if_false]
  rw [if_neg (by omega), if_neg (by simpa using h4), if_neg (by simpa using h5)]

/-- A legal instruction of format A is its step folded over the active lanes, from the lowest up. -/
theorem formatA_legal {s u : State} {y : Tray} {c slot : Nat} {p : BitVec 54} {a : ASpec} (h : Runs s c slot u y) (hl : LegalA a y p)
    (f : Tray → Nat → Tray × Nat) : s.formatA c slot p a f = (u.setTray c slot (y.eachLane f).1.next).tflags c (y.eachLane f).2 := by
  obtain ⟨h1, h2⟩ := hl
  simp only [State.formatA, trayDo_runs h, h.2.2, h1, h2]
  rfl

/-- A legal instruction of format M runs in the fetched state. -/
theorem memDo_legal {s u : State} {y : Tray} {c slot n : Nat} {p : BitVec 54} {illegal : Tray → Bool} {srcs : List Nat} {block : Bool}
    (h : Runs s c slot u y) (hl : LegalM y p n illegal srcs block) (k : Tray → State → State) :
    s.memDo c slot p n illegal srcs block k = k y u := by
  obtain ⟨h1, h2, h3, h4⟩ := hl
  simp only [State.memDo, trayDo_runs h, h.2.2, h1, h2, h3, h4]
  rfl

/-! ## Lane registers -/

@[simp] theorem lanes_setReg (t : Tray) (l r : Nat) (w : Word) (b : Bool) : (t.setReg l r w b).lanes = t.lanes := rfl
@[simp] theorem pred_setReg (t : Tray) (l r l' q : Nat) (w : Word) (b : Bool) : (t.setReg l r w b).pred l' q = t.pred l' q := rfl

/-- A register after a write of one: keys of different lanes differ because a lane has 64 registers. -/
theorem reg_setReg {t : Tray} (h : Tab.wf 0#32 t.regs = true) {l l' r r' : Nat} (hr : r < 64) (hr' : r' < 64) (w : Word) (b : Bool) :
    (t.setReg l r w b).reg l' r' = if l' = l ∧ r' = r then w else t.reg l' r' := by
  simp only [Tray.reg, Tray.setReg, tab_get_set h]
  congr 1
  exact propext ⟨fun e => by omega, fun e => by omega⟩

theorem poisoned_setReg {t : Tray} (h : Tab.wf false t.poison = true) {l l' r r' : Nat} (hr : r < 64) (hr' : r' < 64) (w : Word) (b : Bool) :
    (t.setReg l r w b).poisoned l' r' = if l' = l ∧ r' = r then b else t.poisoned l' r' := by
  simp only [Tray.poisoned, Tray.setReg, tab_get_set h]
  congr 1
  exact propext ⟨fun e => by omega, fun e => by omega⟩

theorem tables_setReg {t : Tray} (h : TrayTables t) (l r : Nat) (w : Word) (b : Bool) : TrayTables (t.setReg l r w b) :=
  ⟨tab_wf_set h.1 _ _, tab_wf_set h.2.1 _ _, h.2.2⟩

theorem tables_setPred {t : Tray} (h : TrayTables t) (l q : Nat) (b : Bool) : TrayTables (t.setPred l q b) :=
  ⟨h.1, h.2.1, tab_wf_set h.2.2 _ _⟩

end Sys2Proof.Laws
end

