-- ==== Sys2Proof/WellFormed.lean ====
section
/-!
DEFINITION. Which commands are well formed: the operands that a type alone does not bound.
-/

namespace Sys2Proof

/-- The fold-in formats (Table 8-3) and their elements in one sector. -/
def foldFmt (fmt : Nat) : Bool := decide (fmt = 0xA ∨ fmt = 0xC ∨ fmt = 0xD ∨ fmt = 0xE ∨ fmt = 0xF)
def foldElemsOf (fmt : Nat) : Nat := if fmt = 0xA then 16 else if fmt = 0xE then 4 else if fmt = 0xF then 2 else 8

/-- The command's operands lie in the ranges the spec gives them. -/
def Instr.wf : Instr → Bool
  | .pass _ _ _ => true
  | .anchorScan _ => true
  | .passComplete _ => true
  | .arrayAbort _ => true
  | .rampDown _ => true
  | .run _ payload _ => !payload.getLsbD 91
  | .exportRun _ payload _ => payload.getLsbD 91
  | .summaryDeliver _ => true
  | .tld _ payload _ => decide (payload.extractLsb' 90 2 = 0#2)
  | .tst _ payload _ => decide (payload.extractLsb' 90 2 = 1#2)
  | .tcpy _ payload _ => decide (payload.extractLsb' 90 2 = 2#2)
  | .launch _ _ _ => true
  | .trayStart _ _ => true
  | .trayEnd _ _ => true
  | .livelock _ _ => true
  | .tAdd _ _ _ => true
  | .tSub _ _ _ => true
  | .tMul _ _ _ => true
  | .tMin _ _ _ => true
  | .tMax _ _ _ => true
  | .tMinu _ _ _ => true
  | .tMaxu _ _ _ => true
  | .tAnd _ _ _ => true
  | .tOr _ _ _ => true
  | .tXor _ _ _ => true
  | .tShl _ _ _ => true
  | .tShr _ _ _ => true
  | .tSar _ _ _ => true
  | .tMov _ _ _ => true
  | .tSel _ _ _ => true
  | .tAdd64 _ _ _ => true
  | .tSub64 _ _ _ => true
  | .tMin64 _ _ _ => true
  | .tMax64 _ _ _ => true
  | .tLt _ _ _ => true
  | .tLe _ _ _ => true
  | .tEq _ _ _ => true
  | .tLtu _ _ _ => true
  | .tLeu _ _ _ => true
  | .tLt64 _ _ _ => true
  | .tEq64 _ _ _ => true
  | .tPand _ _ _ => true
  | .tPor _ _ _ => true
  | .tPnot _ _ _ => true
  | .tFadd _ _ _ => true
  | .tFsub _ _ _ => true
  | .tFmul _ _ _ => true
  | .tFfma _ _ _ => true
  | .tFmin _ _ _ => true
  | .tFmax _ _ _ => true
  | .tFabs _ _ _ => true
  | .tFneg _ _ _ => true
  | .tFrcp _ _ _ => true
  | .tFsqrt _ _ _ => true
  | .tFrsqrt _ _ _ => true
  | .tFexp2 _ _ _ => true
  | .tFlog2 _ _ _ => true
  | .tFtanh _ _ _ => true
  | .tFlogistic _ _ _ => true
  | .tFrint _ _ _ => true
  | .tFlt _ _ _ => true
  | .tFle _ _ _ => true
  | .tFeq _ _ _ => true
  | .tF2x _ _ _ => true
  | .tX2f _ _ _ => true
  | .tMovs _ _ _ => true
  | .tJmp _ _ _ => true
  | .tJmpi _ _ _ => true
  | .tSsy _ _ _ => true
  | .tBrd _ _ _ => true
  | .tBrk _ _ _ => true
  | .tSync _ _ _ => true
  | .tExit _ _ _ => true
  | .tProgress _ _ _ => true
  | .tLd _ _ _ => true
  | .tLdl _ _ _ => true
  | .tSt _ _ _ => true
  | .tFold _ _ _ => true
  | .trayFence _ _ _ => true
  | .atomAdd _ _ _ => true
  | .atomMin _ _ _ => true
  | .atomMax _ _ _ => true
  | .atomMinu _ _ _ => true
  | .atomMaxu _ _ _ => true
  | .atomFmin _ _ _ => true
  | .atomFmax _ _ _ => true
  | .atomAnd _ _ _ => true
  | .atomOr _ _ _ => true
  | .atomXor _ _ _ => true
  | .xchg _ _ _ => true
  | .cas _ _ _ => true
  | .atomFadd _ _ _ => true
  | .tLock _ _ _ => true
  | .tUnlock _ _ _ => true
  | .acp _ _ _ => true
  | .acpComplete _ _ _ => true
  | .waita _ _ _ => true
  | .tsplit _ _ _ => true
  | .tpack _ _ _ => true
  | .taskStart _ => true
  | .descriptorFetch _ => true
  | .opd _ _ _ => true
  | .ops _ _ _ => true
  | .bind _ _ _ => true
  | .bindx _ _ _ => true
  | .vargX _ payload _ => decide (payload.extractLsb' 88 4 = 0#4)
  | .vargStream _ payload _ => decide (payload.extractLsb' 88 4 = 1#4)
  | .vargDraw _ payload _ => decide (payload.extractLsb' 88 4 = 2#4)
  | .copyLinear _ payload _ => decide (payload.extractLsb' 56 4 = 0#4)
  | .copyStrided _ payload _ => decide (payload.extractLsb' 56 4 = 1#4)
  | .copyTranspose8 _ payload _ => decide (payload.extractLsb' 56 4 = 2#4)
  | .copyTranspose16 _ payload _ => decide (payload.extractLsb' 56 4 = 3#4)
  | .copyFill _ payload _ => decide (payload.extractLsb' 56 4 = 4#4)
  | .copyPrefetch _ payload _ => decide (payload.extractLsb' 56 4 = 5#4)
  | .copyComplete _ => true
  | .waitDesc _ _ _ => true
  | .phaseDesc _ _ _ => true
  | .fenceDesc _ _ _ => true
  | .bclr _ _ _ => true
  | .endTask _ payload _ => decide (payload.extractLsb' 88 4 = 0#4)
  | .jumpDesc _ payload _ => decide (payload.extractLsb' 88 4 = 1#4)
  | .nopDesc _ payload _ => decide (payload.extractLsb' 88 4 = 2#4)
  | .trapResume _ _ => true
  | .trapSkip _ _ => true
  | .trapAbort _ _ => true
  | .sumheadRead _ => true
  | .sumack _ n => decide (n < 4294967296)
  | .trapack _ n => decide (n < 4294967296)
  | .compack _ n => decide (n < 4294967296)
  | .taskport _ _ _ => true
  | .completionRecordEnter _ => true
  | .openEpoch _ _ => true
  | .join _ _ => true
  | .commit _ _ => true
  | .commitComplete _ => true
  | .cancel _ _ => true
  | .cancelComplete _ => true
  | .draftFull _ _ => true
  | .marketRead _ addr n _ => decide (1 ≤ n) && decide (addr % 128 + n ≤ 128)
  | .marketWrite _ addr bytes _ => decide (1 ≤ bytes.length) && decide (addr % 128 + bytes.length ≤ 128)
  | .stallAtomic _ _ wide addr lanes => decide (addr % (if wide then 8 else 4) = 0) && decide (1 ≤ lanes.length) && decide (lanes.length ≤ 64) && lanes.all (fun x => decide (x.1 < 2 ^ (if wide then 64 else 32)) && decide (x.2 < 2 ^ (if wide then 64 else 32)))
  | .foldInArrive _ _ fmt elems _ => foldFmt fmt && decide (1 ≤ elems.length) && elems.all (fun x => decide (x.1 < foldElemsOf fmt))
  | .foldUnitApply _ => true
  | .cacheFill _ _ => true
  | .eviction _ => true
  | .writebackAccept _ => true
  | .rsvApply _ _ kind => decide (1 ≤ kind) && decide (kind < 256)
  | .rsvRelease _ _ => true
  | .rbBind _ => true
  | .rbUnbind _ => true
  | .ringTailReport _ _ _ _ => true
  | .pool _ _ => true
  | .spmv _ _ => true
  | .spmtv _ _ => true
  | .prefetchJob _ _ => true
  | .runnerJobDone _ _ => true
  | .runnerHalt _ _ => true
  | .ringResume _ _ _ => true
  | .ringSkip _ _ _ => true
  | .ringAbort _ _ _ => true
  | .cxCreate _ => true
  | .cxSet _ => true
  | .cxSetkey _ => true
  | .cxDestroy _ => true
  | .cxSelect _ => true
  | .rgMap _ => true
  | .rgAlias _ => true
  | .rgFree _ => true
  | .rgPin _ => true
  | .rgUnpin _ => true
  | .rgSelect _ => true
  | .walk _ _ _ va _ => decide (va < 18446744073709551616)
  | .demandAlloc _ _ _ va _ => decide (va < 18446744073709551616)
  | .shootdownComplete => true
  | .heatFlush _ _ _ => true
  | .pagerInterval => true
  | .promote _ _ => true
  | .demote _ _ => true
  | .doorbell _ _ _ _ _ => true
  | .entryCheck _ _ => true
  | .barrierComplete _ => true
  | .selection _ => true
  | .completionWrite _ => true
  | .wqCreate _ => true
  | .wqSet _ => true
  | .wqPause _ => true
  | .wqEnable _ => true
  | .wqDrain _ => true
  | .wqDestroy _ => true
  | .wqSelect _ => true
  | .queueMirror => true
  | .hbmArbitrate _ _ share8 share9 => decide (share8 ≤ 100) && decide (share9 ≤ 100)
  | .hbmReadComplete _ _ _ => true
  | .refresh _ _ _ => true
  | .stackTempRead _ _ => true
  | .powerDownEntry _ _ _ => true
  | .phaseRetrain _ _ _ => true
  | .parityError _ _ attempt _ => decide (1 ≤ attempt.val)
  | .merge _ => true
  | .congestionLevel _ => true
  | .levelBroadcast => true
  | .rwEnable _ _ => true
  | .rwDisable _ _ => true
  | .correctingWriteback place unit addr _ _ => decide (place.val = 2 → unit < 256 ∧ addr < 65536)
  | .scrubRead _ => true
  | .rtRetire _ => true
  | .rtSelect _ => true
  | .tsWriteData _ => true
  | .tsWriteCheck _ => true
  | .tsWriteBoth _ => true
  | .tsReadRaw _ => true
  | .bondError _ _ _ => true
  | .portFailure _ => true
  | .portRetryTrain _ => true
  | .fpRetrain _ _ => true
  | .frameReceive _ _ _ _ payload _ _ _ => decide (payload.length ≤ 4096)
  | .putFrame _ => true
  | .getreq _ => true
  | .getresp _ => true
  | .foldFrame _ => true
  | .doneFrame _ => true
  | .mirrorFrame _ => true
  | .cutApply _ => true
  | .redirectFrame _ => true
  | .ack _ => true
  | .nack _ => true
  | .beat _ => true
  | .ackTimer _ _ => true
  | .rtoExpiry _ _ => true
  | .notreadyResend _ _ => true
  | .msgTimeout _ => true
  | .beatSend _ => true
  | .peerLost _ => true
  | .sendPut _ _ => true
  | .sendGet _ _ => true
  | .sendFold _ _ => true
  | .allreduce _ _ => true
  | .reducescatter _ _ => true
  | .allgather _ _ => true
  | .sendStart _ _ => true
  | .sendComplete _ _ => true
  | .keySwitch _ _ => true
  | .keyRetire _ => true
  | .scBind _ => true
  | .scUnbind _ => true
  | .wnCreate _ => true
  | .wnDestroy _ => true
  | .wnSelect _ => true
  | .grDefine _ => true
  | .grDelete _ => true
  | .grSelect _ => true
  | .fsStart _ _ _ => true
  | .fsStop _ _ => true
  | .cutSend _ _ => true
  | .takeover _ => true
  | .fhTakeover _ _ => true
  | .fhDiscard _ _ => true
  | .redirectComplete _ => true
  | .rdSet _ => true
  | .rdClear _ => true
  | .rdSelect _ => true
  | .bar4Read _ len => decide (1 ≤ len.val)
  | .bar4Write _ bytes _ => decide (1 ≤ bytes.length ∧ bytes.length ≤ 4096)
  | .rqTail _ _ => true
  | .frWait => true
  | .frWaitTimeout => true
  | .frStatus => true
  | .frDump => true
  | .msixSend _ _ => true
  | .flr => true
  | .perstN => true
  | .linkLoss => true
  | .linkUp lanes mts => ([1, 2, 4, 8, 16].contains lanes.val) && ([2500, 5000, 8000, 16000, 32000, 64000].contains mts)
  | .d3hotEntry _ => true
  | .ptpMeasurement _ _ _ => true
  | .ppsEdge _ => true
  | .sourceLoss => true
  | .holdoverExpiry => true
  | .btStep _ => true
  | .seArm _ => true
  | .seCancel _ => true
  | .seSelect _ => true
  | .scheduledEvent _ => true
  | .powerupRetry _ => true
  | .powerSample _ _ _ => true
  | .clusterOvercurrent _ => true
  | .regulatorFail _ => true
  | .droop _ _ _ => true
  | .droopRecover _ => true
  | .level2Release => true
  | .fgSchedule _ => true
  | .phaseEval => true
  | .ageingTrim _ => true
  | .drClear _ => true
  | .thermalSample readings rise => readings.all (fun r => decide (r.1 < 1040 ∧ -40 ≤ r.2 ∧ r.2 ≤ 500)) && rise.all (fun r => decide (r.1 < 288))
  | .thermalTrip _ _ _ => true
  | .thermalCycleSample _ => true
  | .tpEnable _ _ => true
  | .tpDisable _ _ => true
  | .telemetryPeriod _ => true
  | .getVersion _ => true
  | .getCapabilities _ => true
  | .negotiateAlgorithms _ _ => true
  | .getDigests _ => true
  | .getCertificate _ _ _ _ => true
  | .challenge _ _ => true
  | .getMeasurements _ _ => true
  | .keyExchange _ _ => true
  | .finish _ leaf root _ => decide (leaf < 2 ^ 384 ∧ root < 2 ^ 384)
  | .heartbeat _ _ => true
  | .keyUpdate _ _ => true
  | .endSession _ _ => true
  | .psSeal _ _ => true
  | .psUnseal _ _ => true
  | .skInstall _ => true
  | .skDestroy _ => true
  | .skSelect _ => true
  | .arCommit _ _ => true
  | .dbgToken _ _ => true
  | .secOpRoots _ _ => true
  | .secCert _ _ => true
  | .fwStage _ => true
  | .fwDiscard _ => true
  | .stageComplete => true
  | .pcSchedule _ => true
  | .pcCancel _ => true
  | .activationRearm => true
  | .healthy proc => decide (proc.val < 3 ∨ 32 ≤ proc.val)
  | .healthDeadline => true
  | .watchdogExpiry proc dump _ => decide (proc.val < 3 ∨ 32 ≤ proc.val) && decide (dump.length = 16384)
  | .fwAccessFault proc _ _ => decide (proc.val < 3 ∨ 32 ≤ proc.val)
  | .solicitRetry => true
  | .offer msg => decide (msg.length ≤ 1056)
  | .data msg => decide (msg.length ≤ 1056)
  | .loaderError msg => decide (msg.length ≤ 1056)
  | .readRetry => true
  | .loaderRestart => true
  | .coldBoot => true
  | .pwrgoodDeassert => true
  | .brownout => true
  | .devWarmReset _ => true
  | .usFence _ => true
  | .usUnfence _ => true
  | .usReset _ => true
  | .usRetire _ => true
  | .usClearmm _ => true
  | .ptAssign _ => true
  | .ptReset _ => true
  | .drainEnd _ _ => true
  | .coreLoss _ reason => [2, 3, 4, 5, 6, 12].contains reason.val
  | .stallCopyComplete _ => true
  | .moveComplete _ _ => true
  | .clusterFail _ => true
  | .fenceReconcile => true
  | .odRead _ bytes => decide (bytes.length ≤ 1276)
  | .odWrite _ bytes _ => decide (bytes.length ≤ 1276)
  | .odSeg _ bytes => decide (bytes.length ≤ 1276)
  | .odNext _ bytes => decide (bytes.length ≤ 1276)
  | .odAbort _ bytes => decide (bytes.length ≤ 1276)
  | .registerWrite _ bytes => decide (bytes.length ≤ 4096)
  | .transactionTimeout _ _ => true
  | .requesterExpiry _ => true
  | .odDefaults _ => true
  | .persistRetry => true
  | .recordFlashWrite _ => true
  | .erClear _ => true
  | .optimePersist => true
  | .gpFunc _ _ _ => true
  | .gpPeriod _ _ => true
  | .triggerIn _ => true
  | .bellOut _ => true
  | .bootStepEnd outcome => outcome.banks.all (fun b => decide (b.1 < 288 ∧ b.2 < 160)) && outcome.bonds.all (fun b => decide (b.1 < 320 ∧ b.2.1 < 256 ∧ b.2.2 ≤ 34)) && outcome.stks.all (fun x => decide (x.1 < 16) && [0, 4800, 5600, 6400].contains x.2.1) && (outcome.sites ++ outcome.stalls).all (fun n => decide (n < 288)) && outcome.clusters.all (fun k => decide (k < 32)) && (outcome.runners ++ outcome.cryptoStacks).all (fun k => decide (k < 16)) && outcome.cryptoEngines.all (fun k => decide (k < 2)) && outcome.sensors.all (fun n => decide (n < 1040))
  | .resetEnd _ _ _ => true
  | .portTrainingEnd _ _ => true
  | .stackNotAnswering _ => true
  | .rsHead _ _ => true
  | .neighborSolicitation _ target => decide (target < 2 ^ 128)
  | .neighborAdvertisement _ target _ => decide (target < 2 ^ 128)
  | .echoRequest _ src body => decide (src < 2 ^ 128) && decide (body.length ≤ 9216)
  | .mctpControl _ _ => true

end Sys2Proof
end

