-- ==== Sys2Proof/Tests/Slice0.lean ====
section
/-!
SUPPORT. Tests: an ill-formed term per check, values from the spec's tables and hand calculation, a witness for each set of hypotheses of the
statements.
-/

namespace Sys2Proof.Tests
open Sys2Proof Sys2Proof.Machine
set_option Elab.async false

/-! ## Helpers -/

/-- What `f` sees in the state that a command answers. -/
def after {α : Type} (r : Res) (f : State → α) : Option α :=
  match r with
  | .next t => some (f t)
  | _ => none

/-- The last thing a command sends out: its port and code. -/
def sent (r : Res) : Option (Option Nat) := after r (fun t => t.out.getLast?.map (·.code))

/-- A state with one core that is not blank. -/
def coreS (x : Core) : State := State.reset.setCore 0 x

/-! ## A device in service -/

/-- READY, with an operator's session as requester 0, partition 0 on quarter 0, stall 0 and core 0 present, port 0 READY, the firmware running. -/
def opS : State :=
  { State.reset with
    dev := { Device.reset with st := 2, quarterPart := [(0, 1)], stallSite := [(0, 1)], coreSite := [(0, 1)], units := [(ukPort * 1024, { UnitRec.blank with dstate := usReady, mstate := usReady })] }
    sec := { Security.reset with sessions := [(0, { Session.blank with used := true, finished := true, role := 1 })] }
    dict := { Dict.reset with reqs := [(0, ⟨true, pathSession, 0, [], [], 0⟩)] }
    fw := { Firmware.reset with procs := [(0, { Proc.blank with st := 2 }), (1, { Proc.blank with st := 2 }), (2, { Proc.blank with st := 2 })] } }

/-- `s` with values staged by requester 0. -/
def staging (index : Nat) (l : List (Nat × Nat × Nat)) (s : State) : State := l.foldl (fun s x => s.stage 0 index x.1 x.2.1 x.2.2) s

/-- The status of the last answer. -/
def status (r : Res) : Option (Option Nat) := sent r

theorem hyps_accepts : Accepts opS 0 0x4010 (opS.authPlain 0) ∧ Accepts opS 0 0x6800 (opS.authPlain 0) := by simp only [Accepts]; decide +kernel
theorem hyps_refusals : State.reset.served 0 = false ∧ ({ opS with dev := { opS.dev with st := 1, bootStep := 3 } } : State).earlyBoot = true ∧ opS.authPlain 1 = false ∧ opS.served 1 = true
    ∧ ({ opS with dev := { opS.dev with st := 1, bootStep := 4 } } : State).writable 0x4010 = false ∧ ({ opS with dev := { opS.dev with st := 1, bootStep := 4 } } : State).served 0 = true := by decide +kernel

/-! ## Step and reset -/

theorem test_step_front : step { State.reset with pending := [.coldBoot] } = exec .coldBoot State.reset := by rfl
theorem test_idle : after (step opS) (fun t => t.bell.count) = some 1 ∧ after (step State.reset) (fun t => t.bell.count) = some 0 := by decide +kernel
theorem test_reset_cold : State.reset.dev.st = 0 := by rfl
theorem hyps_device_state : opS.dev.st ≤ 5 ∧ (step opS |> fun r => after r (fun t => decide (t.dev.st ≤ 5))) = some true := by decide +kernel
/-- READY is code 2; the link is down. -/
theorem test_devstate : opS.bar0Get 0 = 0x96200000 ∧ opS.odRead 0 0x6000 1 = (0, [2#8]) := by decide +kernel
theorem test_fold_int : (foldElem 0xD 0 0xFFFFFFFF (.int 2)).1 = 1 ∧ (foldElem 0xE 0 0xFFFFFFFF (.int (-0x100000000))).1 = 0xFFFFFFFFFFFFFFFF := by decide +kernel
/-- A range of 64 KiB at 0x10000 of context 1, writable, its page placed in frame 0 of quarter 0; runner 0 and stacks 0 to 3 READY. -/
def pgS : State :=
  { (((((opS.setUnit ukRunner 0 { UnitRec.blank with dstate := usReady }).setUnit ukStack 0 { UnitRec.blank with dstate := usReady }).setUnit ukStack 1
        { UnitRec.blank with dstate := usReady }).setUnit ukStack 2 { UnitRec.blank with dstate := usReady }).setUnit ukStack 3 { UnitRec.blank with dstate := usReady }).setFrame 0 0 .placed
    with pager := { Pager.reset with
      ctxs := [(1, ⟨true, 0, 0, 1024, 1024, 0, 0#64, 0⟩)]
      ranges := [⟨1, 0x10000, 0x10000, 0x80000000#32, false, 0, 0, false⟩]
      pages := [(pageKey 1 0x10000, { Page.blank with v := true, ctx := 1, va := 0x10000, attr := 0x80000000#32, loc := 1, quarter := 0, frame := 0 })] } }
/-- Frame 0 of quarter 0 is a landing frame: 64 KiB at the start of market direct space. -/
def mkS : State := opS.setFrame 0 0 .landing
def a0 : Nat := directBase
/-- Stacks 0 to 3 READY. -/
def stkS : State := [0, 1, 2, 3].foldl (fun s i => s.setUnit ukStack i { UnitRec.blank with dstate := usReady, mstate := usReady }) opS

/-! ## Trays (chapters 5 and 6) -/

def lnch : Launch := ⟨0, 16, 16, 2, 1, 0, 64, 256, 0, false, true, false, 0, 0, 0#16, 1, 0⟩

/-- Two lanes run; registers 1 to 7 of lane 0 hold edge values, those of lane 1 others; predicate 1 of lane 0 is set. -/
def ty : Tray :=
  (((((((({ Tray.blank with present := true, width := 16, nreg := 16, nctr := 2, active := 3#64 }.setReg 0 1 0xFFFFFFFF#32 false).setReg 0 2 1#32 false).setReg
    1 1 0x80000000#32 false).setReg 1 2 33#32 false).setReg 0 4 0xFFFFFFFF#32 false).setReg 0 5 0x7FFFFFFF#32 false).setReg 0 6 1#32 false).setReg
    0 8 0x3FC00000#32 false).setPred 0 1 true

def trayS (y : Tray) : State := coreS { Core.blank with trays := [(0, y)], launches := [lnch], seqState := 1 }
def ts : State := trayS ty

/-- Format A without an immediate (Table 6-2). -/
def fa (d a b q : Nat) : BitVec 54 := BitVec.ofNat 54 (d * 2 ^ 48 + a * 2 ^ 42 + b * 2 ^ 36 + q * 2 ^ 33)
/-- Format A with an immediate. -/
def fi (d a q imm : Nat) : BitVec 54 := BitVec.ofNat 54 (d * 2 ^ 48 + a * 2 ^ 42 + q * 2 ^ 33 + 2 ^ 32 + imm)
/-- Format M (Table 6-3): SP, SIZE, OFF. -/
def fm (d a b c sp size off : Nat) : BitVec 54 :=
  BitVec.ofNat 54 (d * 2 ^ 48 + a * 2 ^ 42 + b * 2 ^ 36 + c * 2 ^ 30 + sp * 2 ^ 29 + size * 2 ^ 27 + off)

def rg (lane k : Nat) (t : State) : Word := ((t.core 0).tray 0).reg lane k
def pq (q : Nat) (t : State) : Bool × Bool := (((t.core 0).tray 0).pred 0 q, ((t.core 0).tray 0).pred 1 q)
def two (k : Nat) (t : State) : Word × Word := (rg 0 k t, rg 1 k t)

theorem hyps_tray_issues : Issues ts 0 0 ∧ TrayTables ty ∧ (fetched ts 0 0).core 0 = ts.core 0 := by
  simp only [Issues, TrayTables]; decide +kernel

theorem hyps_tray_legal : LegalA ⟨false, 2, false, true⟩ ty (fa 3 1 2 1) ∧ LegalA ⟨false, 1, false, true⟩ ty (fa 15 1 0 0)
    ∧ LegalA ⟨true, 2, false, true⟩ ty (fa 14 4 6 0) ∧ LegalA ⟨false, 2, true, true⟩ ty (fa 0 1 2 7) ∧ LegalA ⟨true, 2, true, true⟩ ty (fa 0 4 6 7)
    ∧ LegalA ⟨false, 0, true, true⟩ ty (fa 0 1 2 7) ∧ LegalA ⟨false, 3, false, false⟩ ty (fa 3 1 2 0) := by
  simp only [LegalA]; decide +kernel

theorem test_add_wraps : after (exec (.tAdd 0 0 (fa 3 1 2 0)) ts) (two 3) = some (0#32, 0x80000021#32) := by decide +kernel
theorem test_sub : after (exec (.tSub 0 0 (fa 3 2 1 0)) ts) (two 3) = some (2#32, 0x80000021#32) := by decide +kernel
theorem test_mul : after (exec (.tMul 0 0 (fa 3 1 1 0)) ts) (two 3) = some (1#32, 0#32) := by decide +kernel
theorem test_min : after (exec (.tMin 0 0 (fa 3 1 2 0)) ts) (two 3) = some (0xFFFFFFFF#32, 0x80000000#32) := by decide +kernel
theorem test_max : after (exec (.tMax 0 0 (fa 3 1 2 0)) ts) (two 3) = some (1#32, 33#32) := by decide +kernel
theorem test_minu : after (exec (.tMinu 0 0 (fa 3 1 2 0)) ts) (two 3) = some (1#32, 33#32) := by decide +kernel
theorem test_maxu : after (exec (.tMaxu 0 0 (fa 3 1 2 0)) ts) (two 3) = some (0xFFFFFFFF#32, 0x80000000#32) := by decide +kernel
theorem test_and : after (exec (.tAnd 0 0 (fa 3 1 2 0)) ts) (two 3) = some (1#32, 0#32) := by decide +kernel
theorem test_or : after (exec (.tOr 0 0 (fi 3 1 0 0xF0)) ts) (two 3) = some (0xFFFFFFFF#32, 0x800000F0#32) := by decide +kernel
theorem test_xor : after (exec (.tXor 0 0 (fa 3 1 2 0)) ts) (two 3) = some (0xFFFFFFFE#32, 0x80000021#32) := by decide +kernel
theorem test_shl : after (exec (.tShl 0 0 (fa 3 1 2 0)) ts) (two 3) = some (0xFFFFFFFE#32, 0#32) := by decide +kernel
theorem test_shr : after (exec (.tShr 0 0 (fa 3 1 2 0)) ts) (two 3) = some (0x7FFFFFFF#32, 0x40000000#32) := by decide +kernel
theorem test_sar : after (exec (.tSar 0 0 (fa 3 1 2 0)) ts) (two 3) = some (0xFFFFFFFF#32, 0xC0000000#32) := by decide +kernel
theorem test_mov_own : after (exec (.tMov 0 0 (fa 1 1 0 0)) ts) (fun t => (two 1 t, ((t.core 0).tray 0).pc)) = some ((0xFFFFFFFF#32, 0x80000000#32), 8) := by decide +kernel
theorem test_sel : after (exec (.tSel 0 0 (fa 3 1 2 1)) ts) (two 3) = some (0xFFFFFFFF#32, 33#32) := by decide +kernel
theorem test_add64_carry : after (exec (.tAdd64 0 0 (fa 14 4 6 0)) ts) (fun t => (rg 0 14 t, rg 0 15 t)) = some (0#32, 0x80000000#32) := by decide +kernel
theorem test_sub64 : after (exec (.tSub64 0 0 (fa 14 6 4 0)) ts) (fun t => (rg 0 14 t, rg 0 15 t)) = some (2#32, 0x80000000#32) := by decide +kernel
theorem test_min64 : after (exec (.tMin64 0 0 (fi 14 4 0 0xFFFFFFFF)) ts) (fun t => (rg 0 14 t, rg 0 15 t)) = some (0xFFFFFFFF#32, 0xFFFFFFFF#32) := by decide +kernel
theorem test_max64 : after (exec (.tMax64 0 0 (fa 14 4 6 0)) ts) (fun t => (rg 0 14 t, rg 0 15 t)) = some (0xFFFFFFFF#32, 0x7FFFFFFF#32) := by decide +kernel
theorem test_lt : after (exec (.tLt 0 0 (fa 0 1 2 7)) ts) (pq 7) = some (true, true) := by decide +kernel
theorem test_le : after (exec (.tLe 0 0 (fa 0 2 1 7)) ts) (pq 7) = some (false, false) := by decide +kernel
theorem test_eq : after (exec (.tEq 0 0 (fi 0 2 7 33)) ts) (pq 7) = some (false, true) := by decide +kernel
theorem test_ltu : after (exec (.tLtu 0 0 (fa 0 1 2 7)) ts) (pq 7) = some (false, false) := by decide +kernel
theorem test_leu : after (exec (.tLeu 0 0 (fa 0 2 1 7)) ts) (pq 7) = some (true, true) := by decide +kernel
theorem test_lt64 : after (exec (.tLt64 0 0 (fa 0 6 4 7)) ts) (pq 7) = some (true, false) := by decide +kernel
theorem test_eq64 : after (exec (.tEq64 0 0 (fa 0 6 4 7)) ts) (pq 7) = some (false, true) := by decide +kernel
theorem test_pand : after (exec (.tPand 0 0 (fa 0 1 1 7)) ts) (pq 7) = some (true, false) := by decide +kernel
theorem test_por : after (exec (.tPor 0 0 (fa 0 0 1 7)) ts) (pq 7) = some (true, false) := by decide +kernel
theorem test_pnot : after (exec (.tPnot 0 0 (fa 0 1 0 7)) ts) (pq 7) = some (false, true) := by decide +kernel

/-- The fields of D only: other lanes and registers stay. -/
theorem test_add_frame : after (exec (.tAdd 0 0 (fa 3 1 2 0)) ts) (fun t => (two 1 t, rg 2 3 t, pq 1 t)) = some ((0xFFFFFFFF#32, 0x80000000#32), 0#32, (true, false)) := by
  decide +kernel

-- 1.5 is 0x3FC00000; sums and products of FP32 by hand
theorem test_fadd : after (exec (.tFadd 0 0 (fa 3 8 8 0)) ts) (rg 0 3) = some 0x40400000#32 := by decide +kernel
theorem test_fsub : after (exec (.tFsub 0 0 (fa 3 8 8 0)) ts) (rg 0 3) = some 0#32 := by decide +kernel
theorem test_fmul : after (exec (.tFmul 0 0 (fa 3 8 8 0)) ts) (rg 0 3) = some 0x40100000#32 := by decide +kernel
theorem test_ffma : after (exec (.tFfma 0 0 (BitVec.ofNat 54 (3 * 2 ^ 48 + 8 * 2 ^ 42 + 8 * 2 ^ 36 + 8 * 2 ^ 26))) ts) (rg 0 3) = some 0x40700000#32 := by decide +kernel
theorem test_fmin : after (exec (.tFmin 0 0 (fi 3 8 0 0xBF800000)) ts) (rg 0 3) = some 0xBF800000#32 := by decide +kernel
theorem test_fmax : after (exec (.tFmax 0 0 (fi 3 8 0 0xBF800000)) ts) (rg 0 3) = some 0x3FC00000#32 := by decide +kernel
theorem test_fabs : after (exec (.tFabs 0 0 (fa 3 1 0 0)) (trayS (ty.setReg 0 1 0xBFC00000#32 false))) (rg 0 3) = some 0x3FC00000#32 := by decide +kernel
theorem test_fneg : after (exec (.tFneg 0 0 (fa 3 8 0 0)) ts) (rg 0 3) = some 0xBFC00000#32 := by decide +kernel
theorem test_frint : after (exec (.tFrint 0 0 (fa 3 8 0 0)) ts) (rg 0 3) = some 0x40000000#32 := by decide +kernel
theorem test_fsqrt : after (exec (.tFsqrt 0 0 (fa 3 9 0 0)) (trayS (ty.setReg 0 9 0x40800000#32 false))) (rg 0 3) = some 0x40000000#32 := by decide +kernel
theorem test_frcp : after (exec (.tFrcp 0 0 (fa 3 9 0 0)) (trayS (ty.setReg 0 9 0x40800000#32 false))) (rg 0 3) = some 0x3E800000#32 := by decide +kernel
theorem test_flt : after (exec (.tFlt 0 0 (fi 0 8 7 0x40000000)) ts) (pq 7) = some (true, true) := by decide +kernel
theorem test_fle_feq : after (exec (.tFle 0 0 (fi 0 8 7 0x3FC00000)) ts) (pq 7) = some (true, true) ∧ after (exec (.tFeq 0 0 (fi 0 8 7 0x3FC00000)) ts) (pq 7) = some (true, false) := by
  decide +kernel
theorem test_f2x_x2f : after (exec (.tF2x 0 0 (BitVec.ofNat 54 (3 * 2 ^ 48 + 8 * 2 ^ 42 + 0xD * 2 ^ 22))) ts) (rg 0 3) = some 2#32
    ∧ after (exec (.tX2f 0 0 (BitVec.ofNat 54 (3 * 2 ^ 48 + 2 * 2 ^ 42 + 0xD * 2 ^ 22))) ts) (two 3) = some (0x3F800000#32, 0x42040000#32) := by decide +kernel

-- Table 5-3: LANE, WIDTH, LCORE, and ARG1 from the launch's argument words at bench offset 64
theorem test_movs : after (exec (.tMovs 0 0 (fa 3 0 0 0)) ts) (two 3) = some (0#32, 1#32) ∧ after (exec (.tMovs 0 0 (fa 3 1 0 0)) ts) (two 3) = some (16#32, 16#32) := by
  decide +kernel
theorem test_movs_arg : after (exec (.tMovs 0 0 (fa 3 7 0 0)) (coreS { Core.blank with
    trays := [(0, ty)], launches := [lnch], seqState := 1, bench := Tab.setBytes 0#8 [] 68 [0x78#8, 0x56#8, 0x34#8, 0x12#8] })) (two 3)
  = some (0x12345678#32, 0x12345678#32) := by decide +kernel

theorem hyps_tray_special : (ts.core 0).launchOf ty = some lnch ∧ iImm (fa 3 7 0 0) = false ∧ bits 21 0 (fa 3 7 0 0) = 0 ∧ regBad ty false (iD (fa 3 7 0 0)) = false
    ∧ iA (fa 3 15 0 0) = 15 ∧ iA (fa 3 6 0 0) = 6 ∧ convFmtOk 0xD = true ∧ ty.anyPoison [8] = false := by decide +kernel

/-! Jumps and the mask stack -/

def pcOf (t : State) : Nat × DWord := (((t.core 0).tray 0).pc, ((t.core 0).tray 0).active)
def tgt (q n : Nat) : BitVec 54 := BitVec.ofNat 54 (q * 2 ^ 33 + n)

theorem test_jmp : after (exec (.tJmp 0 0 (tgt 0 0x40)) ts) pcOf = some (0x40, 3#64) := by decide +kernel
theorem test_progress : after (exec (.tProgress 0 0 0#54) (trayS { ty with progress := 5 })) (fun t => ((t.core 0).tray 0).progress) = some 0 := by decide +kernel
theorem test_jmpi : after (exec (.tJmpi 0 0 (fa 0 6 0 0)) (trayS (ty.setReg 1 6 1#32 false))) pcOf = some (1, 3#64) := by decide +kernel
theorem test_ssy : after (exec (.tSsy 0 0 (tgt 0 0x40)) ts) (fun t => (pcOf t, ((t.core 0).tray 0).stack)) = some ((8, 3#64), [⟨3#64, true, 0x40⟩]) := by decide +kernel
-- predicate 1 holds in lane 0 only
theorem test_brd_splits : after (exec (.tBrd 0 0 (tgt 1 0x40)) ts) (fun t => (pcOf t, ((t.core 0).tray 0).stack)) = some ((0x40, 1#64), [⟨2#64, false, 8⟩]) := by decide +kernel
theorem test_brd_agrees : after (exec (.tBrd 0 0 (tgt 2 0x40)) ts) pcOf = some (8, 3#64)
    ∧ after (exec (.tBrd 0 0 (tgt 1 0x40)) (trayS (ty.setPred 1 1 true))) pcOf = some (0x40, 3#64) := by decide +kernel
theorem test_brk : after (exec (.tBrk 0 0 (tgt 1 0)) ts) pcOf = some (8, 2#64)
    ∧ after (exec (.tBrk 0 0 (tgt 1 0)) (trayS { ty.setPred 1 1 true with stack := [⟨3#64, true, 0x80⟩] })) pcOf = some (0x80, 3#64) := by decide +kernel
theorem test_sync : after (exec (.tSync 0 0 0#54) (trayS { ty with stack := [⟨0#64, false, 0x20⟩, ⟨2#64, false, 0x48⟩] })) pcOf = some (0x48, 2#64) := by decide +kernel
theorem test_exit_ends : after (exec (.tExit 0 0 0#54) (trayS { ty with active := 0xFFFF#64 })) (fun t => ((t.core 0).tray 0).ending) = some true := by decide +kernel

theorem hyps_tray_flow : formatCBad (tgt 1 0x40) = false ∧ ty.lanes = [0, 1] ∧ ty.anyPoison [6] = false ∧ (ts.maskPush 0 0 lnch ⟨3#64, true, 0x40⟩).isSome = true
    ∧ Tab.wf Core.blank ts.cores = true ∧ Tab.wf Tray.blank (ts.core 0).trays = true ∧ ty.spilled = 0 ∧ (2#64 &&& ~~~ty.exited) ≠ 0#64
    ∧ allLanes 16 = 0xFFFF#64 := by decide +kernel

/-! Memory -/

theorem hyps_tray_memory : LegalM ty (fm 3 10 0 0 0 2 0) 4 (fun t => mAddrBad t (fm 3 10 0 0 0 2 0) || regBad t (mPair (fm 3 10 0 0 0 2 0)) 3) [10] true
    ∧ mScope (fm 0 0 0 0 0 0 0) ≠ 3 ∧ inRegBlock 0 = false := by simp only [LegalM]; decide +kernel

/-- Register 10 addresses bench byte 128 in lane 0 and 132 in lane 1. -/
def tym : Tray := (ty.setReg 0 10 128#32 false).setReg 1 10 132#32 false
def tsm (b : List Byte) : State := coreS { Core.blank with trays := [(0, tym)], launches := [lnch], seqState := 1, bench := Tab.setBytes 0#8 [] 128 b }

theorem test_ld : after (exec (.tLd 0 0 (fm 3 10 0 0 0 2 0)) (tsm [1#8, 2#8, 3#8, 4#8, 0xFF#8])) (two 3) = some (0x04030201#32, 0xFF#32) := by decide +kernel
theorem test_ldl_sx : after (exec (.tLdl 0 0 (fm 3 10 0 0 0 0 (2 ^ 26))) (tsm [1#8, 2#8, 3#8, 4#8, 0x80#8])) (two 3) = some (1#32, 0xFFFFFF80#32) := by decide +kernel
theorem test_st : after (exec (.tSt 0 0 (fm 1 10 0 0 0 1 0)) (tsm [])) (fun t => Tab.le 0#8 (t.core 0).bench 126 8) = some 0x00000000FFFF0000 := by decide +kernel
theorem test_st_last_lane : after (exec (.tSt 0 0 (fm 2 11 0 0 0 0 4)) (tsm [])) (fun t => Tab.le 0#8 (t.core 0).bench 0 8) = some (33 * 2 ^ 32) := by decide +kernel
theorem test_tray_fence : after (exec (.trayFence 0 0 0#54) ts) pcOf = some (8, 3#64) := by decide +kernel
theorem hyps_tray_store : Tab.wf 0#8 ((tsm [1#8]).core 0).bench = true ∧ mSp (fm 1 10 0 0 0 1 0) = false ∧ tym.ea 0 (fm 1 10 0 0 0 1 0) = 128
    ∧ inRegBlock (tym.ea 1 (fm 1 10 0 0 0 1 0)) = false := by decide +kernel

/-! Launch and end -/

def dLaunch : BitVec 92 := BitVec.ofNat 92 (0 * 2 ^ 90 + 1 * 2 ^ 87 + 2 * 2 ^ 83 + 0 * 2 ^ 67 + 4 * 2 ^ 51 + 16 * 2 ^ 34 + 15 * 2 ^ 26)
def runS (x : Core) : State := coreS { x with seqState := 1 }

theorem test_launch : after (exec (.launch 0 dLaunch (descCrc 9 dLaunch)) (runS Core.blank)) (fun t => (t.core 0).launches.map (fun l => [l.width, l.nreg, l.ntrays, l.code, l.args, l.dmax]))
    = some [[16, 16, 1, 32, 64, 16]] := by decide +kernel
theorem hyps_launch : DescriptorRuns (runS Core.blank) 0 9 dLaunch (descCrc 9 dLaunch) ∧ (runS Core.blank).launchBad 0 dLaunch = false := by
  simp only [DescriptorRuns]; decide +kernel
theorem test_tray_start : after (exec (.trayStart 0 3) (runS { Core.blank with launches := [{ lnch with started := 0, code := 32 }] }))
    (fun t => (((t.core 0).tray 3).present, ((t.core 0).tray 3).pc, ((t.core 0).tray 3).active)) = some (true, 32, 0xFFFF#64) := by decide +kernel
theorem test_tray_end : after (exec (.trayEnd 0 0) (trayS { ty with ending := true })) (fun t => ((t.core 0).tray 0).present) = some false := by decide +kernel
theorem hyps_tray_end : (ts.releaseLocks 0 (fun r => r.slot = 0)).isSome = true ∧ ({ ty with ending := true } : Tray).copies = [] ∧ ty.trap = 0 ∧ ty.ending = false := by decide +kernel
theorem test_livelock : after (exec (.livelock 0 0) ts) (fun t => decide (((t.core 0).tray 0).trap ≠ 0)) = some true := by decide +kernel

/-! Copies, splitting, packing -/

/-- Format Y: D source, A target, B bytes, CTR, M (Table 6-5). -/
def fy (d a b ctr m : Nat) : BitVec 54 := BitVec.ofNat 54 (d * 2 ^ 48 + a * 2 ^ 42 + b * 2 ^ 36 + ctr * 2 ^ 33 + m)
def tyc : Tray := (((ty.setReg 0 10 0#32 false).setReg 0 11 1024#32 false).setReg 0 12 32#32 false)

theorem test_acp : after (exec (.acp 0 0 (fy 10 11 12 0 0)) (trayS tyc)) (fun t => (((t.core 0).tray 0).copies, Tab.get 0 ((t.core 0).tray 0).ctrs 0))
    = some ([⟨0, 0, 0, 1024, false, false, 32⟩], 1) := by decide +kernel
theorem test_waita : after (exec (.waita 0 0 (fy 0 0 0 0 0)) ts) pcOf = some (8, 3#64)
    ∧ after (exec (.waita 0 0 (fy 0 0 0 0 0)) (trayS { ty with ctrs := [(0, 1)] })) (fun t => ((t.core 0).tray 0).wait) = some (some (0, 0)) := by decide +kernel
theorem hyps_copies : formatYBad (fy 10 11 12 0 0) = false ∧ yCtr (fy 10 11 12 0 0) < tyc.nctr ∧ regBad tyc (ySsp (fy 10 11 12 0 0)) 10 = false
    ∧ (tyc.reg 0 12).toNat = 32 := by decide +kernel
/-- The copy brings 32 bytes from bench byte 0 to byte 1024. -/
theorem test_acp_complete : after (exec (.acpComplete 0 0 0) (coreS { Core.blank with
    trays := [(0, { ty with copies := [⟨0, 0, 0, 1024, false, false, 32⟩], ctrs := [(0, 1)] })], launches := [lnch], seqState := 1
    bench := Tab.setBytes 0#8 [] 0 [7#8, 0#8, 9#8] })) (fun t => (Tab.le 0#8 (t.core 0).bench 1024 4, ((t.core 0).tray 0).copies, Tab.get 0 ((t.core 0).tray 0).ctrs 0))
    = some (0x090007, [], 0) := by decide +kernel

/-- A service launch of a recovery task. -/
def svc (y : Tray) : State := coreS { Core.blank with
  trays := [(0, y)], launches := [{ lnch with service := true }], seqState := 1, task := { Task.blank with recovery := true } }
theorem test_tsplit : after (exec (.tsplit 0 0 (fa 3 0 0 0)) (svc { ty with width := 32, active := 0xFFFFFFFF#64 }))
    (fun t => (((t.core 0).tray 0).width, ((t.core 0).tray 1).width, rg 0 3 t, pcOf t)) = some (16, 16, 0#32, (8, 0xFFFF#64)) := by decide +kernel
theorem test_tsplit_refused : after (exec (.tsplit 0 0 (fa 3 0 0 0)) (svc ty)) (fun t => (two 3 t, pcOf t)) = some ((1#32, 1#32), (8, 3#64)) := by decide +kernel
theorem test_tpack_alone : after (exec (.tpack 0 0 (fa 3 6 0 0)) (svc (ty.setReg 0 6 2#32 false))) (two 3) = some (1#32, 1#32)
    ∧ after (exec (.tpack 0 0 (fa 3 6 0 0)) (svc (ty.setReg 0 6 3#32 false))) (fun t => ((t.core 0).tray 0).pack) = some (some 3) := by decide +kernel
theorem hyps_split : (svc ty).serviceOk 0 { lnch with service := true } = true ∧ formatSBad (fa 3 0 0 0) = false ∧ regBad ty false 3 = false
    ∧ ((svc ty).core 0).freeSlot = some 1 := by decide +kernel

/-! ## Well-formed commands: a term that breaks each check of `Instr.wf` -/

def one' (b : Nat) : BitVec 92 := BitVec.ofNat 92 (2 ^ b)
/-- No term of the list is well formed. -/
def noneWf (l : List Instr) : Bool := l.all (fun i => !i.wf)

theorem test_wf_runs : noneWf [.run 0 (one' 91) 0#32, .exportRun 0 0#92 0#32, .tld 0 (one' 90) 0#32, .tst 0 0#92 0#32, .tcpy 0 0#92 0#32, .tst 0 (one' 91) 0#32, .tcpy 0 (one' 90) 0#32] = true := by decide +kernel
theorem test_wf_modes : noneWf [.vargX 0 (one' 88) 0#32, .vargStream 0 0#92 0#32, .vargDraw 0 (one' 88) 0#32, .copyLinear 0 (one' 56) 0#32, .copyStrided 0 0#92 0#32,
    .copyTranspose8 0 (one' 56) 0#32, .copyTranspose16 0 (one' 57) 0#32, .copyFill 0 (one' 57) 0#32, .copyPrefetch 0 (one' 58) 0#32, .endTask 0 (one' 88) 0#32,
    .jumpDesc 0 0#92 0#32, .nopDesc 0 (one' 88) 0#32] = true := by decide +kernel
theorem test_wf_windows : noneWf [.sumack 0 (2 ^ 32), .trapack 0 (2 ^ 32), .compack 0 (2 ^ 32)] = true := by decide +kernel
theorem test_wf_market : noneWf [.marketRead Acc.plain 0 0 none, .marketRead Acc.plain 1 128 none, .marketWrite Acc.plain 0 [] false,
    .marketWrite Acc.plain 127 [0#8, 0#8] false, .stallAtomic Acc.plain .add true 4 [(0, 0)], .stallAtomic Acc.plain .add false 0 [],
    .stallAtomic Acc.plain .add false 0 (List.replicate 65 (0, 0)), .stallAtomic Acc.plain .add false 0 [(2 ^ 32, 0)], .stallAtomic Acc.plain .cas false 0 [(0, 2 ^ 32)],
    .foldInArrive Acc.plain 0 0xB [(0, .int 0)] 0, .foldInArrive Acc.plain 0 0xE [] 0, .foldInArrive Acc.plain 0 0xE [(4, .int 0)] 0, .rsvApply 0 0 0, .rsvApply 0 0 256] = true := by decide +kernel
theorem test_wf_memory : noneWf [.walk none 0 0 (2 ^ 64) false, .demandAlloc none 0 0 (2 ^ 64) true, .hbmArbitrate 0 0 101 0, .hbmArbitrate 0 0 0 101, .parityError 0 0 0 true,
    .correctingWriteback 2 256 0 0#256 0#16, .correctingWriteback 2 0 65536 0#256 0#16] = true := by decide +kernel
theorem test_wf_links : noneWf [.frameReceive 0 0#512 0#128 0#128 (List.replicate 4097 0#8) true true false, .bar4Read 0 0, .bar4Write 0 [] false,
    .bar4Write 0 (List.replicate 4097 0#8) false, .linkUp 3 32000, .linkUp 16 1000, .neighborSolicitation 0 (2 ^ 128), .neighborAdvertisement 0 (2 ^ 128) 0#48,
    .echoRequest 0 (2 ^ 128) [], .echoRequest 0 0 (List.replicate 9217 0#8)] = true := by decide +kernel
theorem test_wf_heat : noneWf [.thermalSample [(1040, 0)] [], .thermalSample [(0, -41)] [], .thermalSample [(0, 501)] [], .thermalSample [] [(288, 0)]] = true := by decide +kernel
theorem test_wf_firmware : noneWf [.finish 0 (2 ^ 384) 0 true, .finish 0 0 (2 ^ 384) true, .healthy 3, .watchdogExpiry 31 (List.replicate 16384 0#8) false, .watchdogExpiry 0 [] false,
    .fwAccessFault 4 0 false, .offer (List.replicate 1057 0#8), .data (List.replicate 1057 0#8), .loaderError (List.replicate 1057 0#8), .coreLoss 0 1]  = true := by decide +kernel
theorem test_wf_frames : noneWf [.odRead .ring (List.replicate 1277 0#8), .odWrite .ring (List.replicate 1277 0#8) ⟨true, none⟩, .odSeg .ring (List.replicate 1277 0#8),
    .odNext .ring (List.replicate 1277 0#8), .odAbort .ring (List.replicate 1277 0#8), .registerWrite (.beat 0) (List.replicate 4097 0#8)] = true := by decide +kernel
/-- What a step finds when nothing is amiss. -/
def clean : BootOutcome := ⟨true, 0, [], [], [], [], [], [], [], [], [], [], false⟩
theorem test_wf_boot : (Instr.bootStepEnd clean).wf = true ∧ noneWf [.bootStepEnd { clean with banks := [(288, 0)] }, .bootStepEnd { clean with banks := [(0, 160)] },
    .bootStepEnd { clean with bonds := [(320, 0, 0)] }, .bootStepEnd { clean with bonds := [(0, 256, 0)] }, .bootStepEnd { clean with bonds := [(0, 0, 35)] },
    .bootStepEnd { clean with stks := [(16, 0, 0)] }, .bootStepEnd { clean with stks := [(0, 1, 0)] }, .bootStepEnd { clean with sites := [288] },
    .bootStepEnd { clean with stalls := [288] }, .bootStepEnd { clean with clusters := [32] }, .bootStepEnd { clean with runners := [16] },
    .bootStepEnd { clean with cryptoStacks := [16] }, .bootStepEnd { clean with cryptoEngines := [2] }, .bootStepEnd { clean with sensors := [1040] }] = true := by decide +kernel

/-! ## The core (chapters 3, 4, 6) -/

/-- A 1 × 1 pass over INT8 operands with K = 2 into bank 0 (Tables 2-5 and 6-6): operand register 1 is A at bench 0, 2 is B at bench 64. -/
def dPass : BitVec 92 := BitVec.ofNat 92 (1 * 2 ^ 75 + 2 * 2 ^ 71 + 1 * 2 ^ 16)
def opAt (a : Nat) : OpReg := { OpReg.blank with addr := a, stride8 := 1 }
def passS : State := runS { Core.blank with
  ors := [(1, opAt 0), (2, opAt 64)], bench := Tab.setBytes 0#8 (Tab.setBytes 0#8 [] 0 [3#8, 0xFE#8]) 64 [5#8, 7#8] }

theorem hyps_pass : DescriptorRuns passS 0 1 dPass (descCrc 1 dPass) ∧ (passS.core 0).arrQ.length < 5
    ∧ passMalformed dPass (Tab.get OpReg.blank (passS.core 0).ors (bits 78 75 dPass)) (Tab.get OpReg.blank (passS.core 0).ors (bits 74 71 dPass)) = false := by
  simp only [DescriptorRuns]; decide +kernel
/-- 3 · 5 − 2 · 7 = 1. -/
theorem test_pass : after (exec (.pass 0 dPass (descCrc 1 dPass)) passS) (fun t => (((t.core 0).arrQ.map (fun e => e.done)), (Tab.get AccElem.zero (t.core 0).banks 0).tag)) = some ([true], .fin) := by
  decide +kernel
theorem test_pass_value : after (exec (.pass 0 dPass (descCrc 1 dPass)) passS) (fun t => (Tab.get AccElem.zero (t.core 0).banks 0).a) = some 1#96 := by decide +kernel
theorem test_pass_bad_crc : after (exec (.pass 0 dPass (descCrc 1 dPass + 1#32)) passS) (fun t => ((t.core 0).arrQ.length, (t.core 0).crcErr)) = some (0, true) := by decide +kernel

/-- A pass that waits for its anchor scan, one that is done, one that failed. -/
def pe : PassEntry := ⟨1, 1, 2, false, 0x1100#32, opAt 0, opAt 64, true, 3, 0, 0#16, 0, false, 0, false, false, false, 0, false, false, false⟩
theorem test_anchor_scan : after (exec (.anchorScan 0) (runS { Core.blank with arrQ := [pe] })) (fun t => (t.core 0).arrQ.all (fun e => e.scanned)) = some true := by decide +kernel
theorem test_pass_complete : after (exec (.passComplete 0) (runS { Core.blank with arrQ := [{ pe with done := true }], sc := [(3, 1)] }))
    (fun t => ((t.core 0).arrQ.length, Tab.get 0 (t.core 0).sc 3)) = some (0, 0) := by decide +kernel
theorem hyps_array_abort : (((runS { Core.blank with arrQ := [{ pe with arith := 0#32, failed := true }] }).core 0).atArray).map (fun e => e.failed) = some true := by decide +kernel
theorem test_ramp_down : after (exec (.rampDown 0) (runS { Core.blank with arrState := 2 })) (fun t => (t.core 0).arrState) = some 0 := by decide +kernel

def dRun : BitVec 92 := BitVec.ofNat 92 (0xFFFFFFFF * 2 ^ 31 + 1 * 2 ^ 7 + 2 * 2 ^ 4)
theorem test_run_queued : after (exec (.run 0 dRun (descCrc 4 dRun)) (runS Core.blank)) (fun t => ((t.core 0).task.index, (t.core 0).crcErr)) = some (1, false) := by decide +kernel
theorem test_export_queued : after (exec (.exportRun 0 (dRun + BitVec.ofNat 92 (2 ^ 91)) (descCrc 4 (dRun + BitVec.ofNat 92 (2 ^ 91)))) (runS Core.blank))
    (fun t => ((t.core 0).task.index, (t.core 0).crcErr)) = some (1, false) := by decide +kernel
theorem hyps_run : DescriptorRuns (runS Core.blank) 0 4 dRun (descCrc 4 dRun) ∧ ((runS Core.blank).core 0).vecQ.length < 2 := by simp only [DescriptorRuns]; decide +kernel

/-- TLD of block 1 into register 2; its first word is 0x04030201. -/
def dTld : BitVec 92 := BitVec.ofNat 92 (2 * 2 ^ 85 + 1 * 2 ^ 66)
def mvE (p : BitVec 92) : VecEntry := ⟨true, p, [], 0#32, 0#32, 0#32, 0#32, 0#64, [], false, 0, 0, 0#16, 0⟩
theorem hyps_tld : DescriptorRuns (runS Core.blank) 0 8 dTld (descCrc 8 dTld) ∧ moveBad dTld = false ∧ moveOp dTld = 0 ∧ (mvE dTld).taint = 0#16
    ∧ Tab.wf Core.blank (runS Core.blank).cores = true ∧ Tab.wf 0#32 Core.blank.tiles = true := by simp only [DescriptorRuns]; decide +kernel
theorem test_tld_block : (passS.vecExec 0 (mvE (BitVec.ofNat 92 (2 * 2 ^ 85))) |> fun r => match r with | .ran t _ => some (Tab.get 0#32 (t.core 0).tiles 512) | _ => none) = some 0xFE03#32 := by
  decide +kernel

def dOpd : BitVec 92 := BitVec.ofNat 92 (5 * 2 ^ 88 + 1 * 2 ^ 87 + 3 * 2 ^ 56 + 0x12340)
theorem test_opd : after (exec (.opd 0 dOpd (descCrc 2 dOpd)) (runS Core.blank)) (fun t => (Tab.get OpReg.blank (t.core 0).ors 5)) = some { OpReg.blank with space := true, stride8 := 3, addr := 0x12340 } := by
  decide +kernel
def dOps : BitVec 92 := BitVec.ofNat 92 (5 * 2 ^ 88 + 9 * 2 ^ 56 + 0x7FFE0)
theorem test_ops : after (exec (.ops 0 dOps (descCrc 3 dOps)) (runS Core.blank)) (fun t => (Tab.get OpReg.blank (t.core 0).ors 5)) = some { OpReg.blank with sstride := 9, saddr := 0x7FFE0 } := by
  decide +kernel
def dBind : BitVec 92 := BitVec.ofNat 92 (3 * 2 ^ 89 + 6 * 2 ^ 85 + 0xC * 2 ^ 81 + 0x40)
theorem test_bind : after (exec (.bind 0 dBind (descCrc 5 dBind)) (runS Core.blank)) (fun t => (Tab.get Bind.blank (t.core 0).vbs 3)) = some ⟨6, 0xC, false, 0, 0x40, false, 0, 0⟩ := by decide +kernel
def dBindx : BitVec 92 := BitVec.ofNat 92 (3 * 2 ^ 89 + 128 * 2 ^ 56 + 0x60)
theorem test_bindx : after (exec (.bindx 0 dBindx (descCrc 6 dBindx)) (runS Core.blank)) (fun t => (Tab.get Bind.blank (t.core 0).vbs 3)) = some { Bind.blank with ext := true, ostride := 128, saddr := 0x60 } := by
  decide +kernel
def dVarg (sel : Nat) : BitVec 92 := BitVec.ofNat 92 (sel * 2 ^ 88 + 7 * 2 ^ 32 + 9)
theorem test_varg : after (exec (.vargX 0 (dVarg 0) (descCrc 7 (dVarg 0))) (runS Core.blank)) (fun t => ((t.core 0).x1, (t.core 0).x0)) = some (7#32, 9#32)
    ∧ after (exec (.vargStream 0 (dVarg 1) (descCrc 7 (dVarg 1))) (runS Core.blank)) (fun t => (t.core 0).stream) = some 0x0000000700000009#64
    ∧ after (exec (.vargDraw 0 (dVarg 2) (descCrc 7 (dVarg 2))) (runS Core.blank)) (fun t => ((t.core 0).draw, (t.core 0).indexBase)) = some (7#32, 9#32) := by decide +kernel
theorem hyps_operands : bits 85 80 dOpd = 0 ∧ bitAt dOpd 87 = true ∧ bits 86 76 dOps = 0 ∧ bits 55 19 dOps = 0 ∧ bits 55 0 dOps % 32 = 0 ∧ bits 88 85 dBind ≤ 6 ∧ bits 88 80 dBindx = 0
    ∧ bits 55 0 dBindx % 32 = 0 ∧ bits 87 64 (dVarg 2) = 0 ∧ bits 91 88 (dVarg 1) = 1 := by decide +kernel

def d0 (n : Nat) : BitVec 92 := BitVec.ofNat 92 n
def runD (c : CoreIx → BitVec 92 → Word → Instr) (cls : Nat) (p : BitVec 92) (x : Core) : Res := exec (c 0 p (descCrc cls p)) (runS x)
theorem test_wait : after (runD .waitDesc 0xB (d0 (2 * 2 ^ 89)) { Core.blank with sc := [(2, 1)] }) (fun t => (t.core 0).seqState) = some 2
    ∧ after (runD .waitDesc 0xB (d0 (2 * 2 ^ 89 + 1 * 2 ^ 72)) { Core.blank with sc := [(2, 1)] }) (fun t => (t.core 0).seqState) = some 1
    ∧ after (runD .waitDesc 0xB (d0 (2 ^ 88)) Core.blank) (fun t => (t.core 0).seqState) = some 1 := by decide +kernel
theorem test_phase : after (runD .phaseDesc 0xC (d0 (5 * 2 ^ 88)) Core.blank) (fun t => (t.core 0).phase) = some 5 := by decide +kernel
theorem test_fence : after (runD .fenceDesc 0xD (d0 (2 * 2 ^ 90)) Core.blank) (fun t => ((t.core 0).seqState, (t.core 0).task.index)) = some (1, 1) := by decide +kernel
theorem test_bclr : after (runD .bclr 0xE (d0 (1 * 2 ^ 83)) { Core.blank with bench := [(1023, 7#8), (1024, 7#8), (2047, 7#8), (2048, 7#8)] }) (fun t => (t.core 0).bench) = some [(1023, 7#8), (2048, 7#8)] := by
  decide +kernel
theorem test_end_jump_nop : after (runD .endTask 0xF (d0 0) { Core.blank with task := { Task.blank with source := 1 } }) (fun t => (t.core 0).seqState) = some 0
    ∧ after (runD .jumpDesc 0xF (d0 (1 * 2 ^ 88 + 0x80)) Core.blank) (fun t => (t.core 0).task.addr) = some 0x80
    ∧ after (runD .nopDesc 0xF (d0 (2 * 2 ^ 88)) Core.blank) (fun t => (t.core 0).task.index) = some 1 := by decide +kernel
theorem hyps_control : bits 71 0 (d0 (2 * 2 ^ 89)) = 0 ∧ bitAt (d0 (2 ^ 88)) 88 = true ∧ bits 87 0 (d0 (5 * 2 ^ 88)) = 0 ∧ bits 91 90 (d0 (2 * 2 ^ 90)) ≠ 3 ∧ bits 89 0 (d0 (2 * 2 ^ 90)) = 0
    ∧ bits 91 83 (d0 (511 * 2 ^ 83)) + (bits 82 74 (d0 (511 * 2 ^ 83)) + 1) = 512 ∧ bits 86 56 (d0 (1 * 2 ^ 88 + 0x80)) = 0 ∧ bits 55 0 (d0 (1 * 2 ^ 88 + 0x80)) % 16 = 0 := by decide +kernel

/-- COPY of 32 bytes from register 1 (bench 0) to register 2 (bench 64), mode 0. -/
def dCopy (mode : Nat) : BitVec 92 := d0 (1 * 2 ^ 88 + 2 * 2 ^ 84 + mode * 2 ^ 56)
def copyX : Core := { Core.blank with ors := [(1, opAt 0), (2, opAt 64)], bench := [(0, 1#8), (31, 2#8)] }
def copyE : CopyEntry := ⟨0, 32, opAt 0, opAt 64, false, 0, 0, 0#16, 0⟩
theorem hyps_copy : DescriptorRuns (runS copyX) 0 0xA (dCopy 0) (descCrc 0xA (dCopy 0)) ∧ copyX.copyQ.length < 4 ∧ bits 51 0 (dCopy 0) = 0 ∧ copyBad copyE = false
    ∧ ((runS copyX).copyRun ⟨0, 0, 0#16, 0, 0, false, 0, false⟩ copyE).st = .ok ∧ ((runS copyX).copyRun ⟨0, 0, 0#16, 0, 0, false, 0, false⟩ copyE).halted = false := by
  simp only [DescriptorRuns]; decide +kernel
theorem test_copy_queued : after (runD .copyLinear 0xA (dCopy 0) copyX) (fun t => (t.core 0).copyQ) = some [copyE] := by decide +kernel
theorem test_copy_modes : after (runD .copyFill 0xA (dCopy 4) copyX) (fun t => (t.core 0).copyQ.map (·.mode)) = some [4] := by decide +kernel
theorem test_copy_complete : after (exec (.copyComplete 0) (runS { copyX with copyQ := [copyE] })) (fun t => ((t.core 0).bench, (t.core 0).copyQ)) = some ([(0, 1#8), (31, 2#8), (64, 1#8), (95, 2#8)], []) := by
  decide +kernel

theorem test_task_start : after (exec (.taskStart 0) (coreS { Core.blank with dispatched := some { Task.blank with source := 1, addr := 0x40 } })) (fun t => ((t.core 0).seqState, (t.core 0).task.addr)) = some (1, 0x40) := by
  decide +kernel
theorem test_task_start_local : after (exec (.taskStart 0) (coreS { Core.blank with localQ := [0#128], localTaint := [1#16] })) (fun t => ((t.core 0).seqState, (t.core 0).localQ)) = some (1, []) := by decide +kernel
theorem hyps_task_start : (coreS { Core.blank with localQ := [0#128] }).noNewWork = false ∧ (Tab.get Proc.blank State.reset.fw.procs 32).st ≠ 1 := by decide +kernel
theorem test_fetch : after (exec (.descriptorFetch 0) (runS { Core.blank with bench := [(64, 7#8)], task := { Task.blank with addr := 48 } }))
    (fun t => ((t.core 0).fetched.length, (t.core 0).task.addr)) = some (1, 64) := by decide +kernel
theorem hyps_fetch : ((runS Core.blank).unitRead ((runS Core.blank).core 0 |>.env 0 0#16 0) false 48 16).st = .ok ∧ ((runS Core.blank).unitRead ((runS Core.blank).core 0 |>.env 0 0#16 0) false 48 16).poison = false := by
  decide +kernel

def trapped (unit code : Nat) : State := coreS { Core.blank with
  seqState := 3, outTraps := [(unit, 0, code)], trays := [(0, { ty with trap := 0x80 + code })], launches := [lnch] }
theorem hyps_trap_replies : takeRecord 0 ((trapped 3 0x21).core 0).outTraps = some ((3, 0, 0x21), []) := by decide +kernel
theorem test_trap_resume : after (exec (.trapResume 0 0) (trapped 3 0x21)) (fun t => (((t.core 0).tray 0).trap, ((t.core 0).tray 0).pc, (t.core 0).outTraps)) = some (0, 0, []) := by decide +kernel
theorem test_trap_skip : after (exec (.trapSkip 0 0) (trapped 3 0x21)) (fun t => (((t.core 0).tray 0).trap, ((t.core 0).tray 0).pc)) = some (0, 8) := by decide +kernel
theorem test_trap_abort : after (exec (.trapAbort 0 0) (trapped 3 0x21)) (fun t => (((t.core 0).tray 0).ending, ((t.core 0).tray 0).active)) = some (true, 0#64)
    ∧ after (exec (.trapAbort 0 0) (trapped 1 0x10)) (fun t => decide ((t.core 0).seqState = 4 ∨ (t.core 0).seqState = 0)) = some true := by decide +kernel

def clS (k : Cluster) : State := State.reset.setCluster 1 k
theorem test_sumhead : sent (exec (.sumheadRead 1) (clS { Cluster.blank with sumQ := [BitVec.ofNat 128 (3 * 2 ^ 80)] })) = some (some 0)
    ∧ after (exec (.sumheadRead 1) (clS { Cluster.blank with sumQ := [BitVec.ofNat 128 (3 * 2 ^ 80)] })) (fun t => ((t.cluster 1).dtaint, (t.cluster 1).sumQ.length)) = some (3#16, 1) := by decide +kernel
theorem test_acks : after (exec (.sumack 1 1) (clS { Cluster.blank with sumQ := [0#128, 1#128] })) (fun t => (t.cluster 1).sumQ) = some [1#128]
    ∧ after (exec (.trapack 1 2) (clS { Cluster.blank with trapQ := [0#128, 1#128] })) (fun t => (t.cluster 1).trapQ) = some []
    ∧ after (exec (.compack 1 3) (clS { Cluster.blank with compQ := [0#64] })) (fun t => (t.cluster 1).compQ) = some [0#64] := by decide +kernel
/-- A local task descriptor whose CRC is wrong is refused with status 4; core 8 is rank 0 of cluster 1. -/
theorem test_taskport : after (exec (.taskport 1 0 0#128) State.reset) (fun t => ((t.core 8).localQ.length, (t.cluster 1).compQ.length)) = some (0, 1)
    ∧ after (exec (.taskport 1 7 (BitVec.ofNat 128 (crc32c (leBytes 12 0) * 2 ^ 96))) State.reset) (fun t => ((t.core 15).localQ.length, (t.cluster 1).compQ.length)) = some (1, 0) := by decide +kernel
theorem test_taskport_overrun : after (exec (.taskport 1 0 0#128) (State.reset.setCore 8 { Core.blank with localQ := [0#128, 0#128, 0#128, 0#128] })) (fun t => (t.core 8).overrun) = some true := by
  decide +kernel
theorem test_completion_enters : after (exec (.completionRecordEnter 8) (State.reset.setCore 8 { Core.blank with heldComp := [5#64] })) (fun t => ((t.core 8).heldComp, (t.cluster 1).compQ)) = some ([], [5#64]) := by
  decide +kernel
theorem test_rejection_enters : after (exec (.completionRecordEnter 8) (State.reset.setCore 8 { Core.blank with heldReject := some 5#64 })) (fun t => ((t.core 8).heldReject, (t.cluster 1).compQ)) = some (none, [5#64]) := by
  decide +kernel
theorem test_summary_deliver : after (exec (.summaryDeliver 8) (State.reset.setCore 8 { Core.blank with heldRun := [⟨[1#128, 2#128], false, 0, [], 0#16, 0⟩] }))
    (fun t => ((t.cluster 1).sumQ, (t.core 8).heldRun.length)) = some ([1#128, 2#128], 0) := by decide +kernel

/-! ## The market (chapters 7 and 8) -/


theorem test_write_read : (after (exec (.marketWrite Acc.plain (a0 + 30) [1#8, 2#8, 3#8, 4#8] false) mkS) (fun t => after (exec (.marketRead Acc.plain (a0 + 31) 2 none) t)
    (fun u => u.out.getLast?.map (fun o => o.vals.take 2)))) = some (some (some [0x0302, 0])) := by decide +kernel
theorem hyps_market : mkS.heldAtEntry Acc.plain a0 = false ∧ mkS.addrOk a0 = true ∧ (mkS.writeSector Acc.plain (a0 / 32) 7#256 false).2 = .ok ∧ mkS.foldQueued (a0 / 128) = false
    ∧ mkS.lineHome (a0 / 128) = some (0, 0) ∧ Acc.plain.taint = 0#16 ∧ Acc.plain.ldl = false ∧ Acc.plain.pageU = 0 ∧ Acc.plain.mir = none := by decide +kernel
theorem test_read_bad_address : sent (exec (.marketRead Acc.plain (a0 + 0x10000) 1 none) mkS) = some (some 3) := by decide +kernel
/-- Two additions to a word that holds 5: the lanes see 5 and 12. -/
theorem test_stall_atomic : (after (exec (.marketWrite Acc.plain a0 [5#8, 0#8, 0#8, 0#8] false) mkS) (fun t => after (exec (.stallAtomic Acc.plain .add false a0 [(7, 0), (1, 0)]) t)
    (fun u => u.out.getLast?.map (fun o => o.vals.drop 2)))) = some (some (some [5, 12])) := by decide +kernel
theorem test_fold_in : (after (exec (.foldInArrive Acc.plain (a0 / 32) 0xD [(1, .int (-3))] 9) mkS) (fun t => after (exec (.foldUnitApply 0) t)
    (fun u => (u.out.getLast?.map (·.vals), (u.sector (a0 / 32)).data)))) = some (some (some [9, 0, 0, 0, 0], BitVec.ofNat 256 (0xFFFFFFFD * 2 ^ 32))) := by decide +kernel
theorem hyps_fold : (Tab.get [] mkS.market.foldQ 0).length < 256 ∧ mkS.maskCancelled Acc.plain.taint = false := by decide +kernel

theorem test_open_epoch : after (exec (.openEpoch 0 0#28) opS) (fun t => ((t.epoch 0).st, (t.epoch 0).part)) = some (1, 0) := by decide +kernel
theorem hyps_open : epReserved 0#28 = false ∧ opS.epPart 0 0#28 = some 0 ∧ State.reset.epPart 0 0#28 = none := by decide +kernel
/-- Epoch 0 is OPEN for partition 0. -/
def epS : State := opS.setEpoch 0 ⟨1, 0, 0, false⟩
/-- A mask of epoch 0 (R259). -/
def em : BitVec 28 := ⟨(List.range 28).find? (fun i => (epMask (BitVec.ofNat 28 (2 ^ i))).getLsbD 0) |>.getD 0 |> fun i => 2 ^ i % 2 ^ 28, by exact Nat.mod_lt _ (by decide)⟩
theorem hyps_epochs : epReserved em = false ∧ epMask em = 1#16 ∧ (epS.epoch 0).st = 1 ∧ some (epS.epoch 0).part = epS.epPart 0 em := by decide +kernel
theorem test_join : after (exec (.join 0 em) epS) (fun t => (t.cluster 0).dtaint) = some 1#16 := by decide +kernel
theorem test_commit : after (exec (.commit 0 em) epS) (fun t => ((t.epoch 0).st, t.market.closings.length)) = some (2, 1) := by decide +kernel
theorem test_cancel : after (exec (.cancel 0 em) epS) (fun t => ((t.epoch 0).st, (t.epoch 0).cancelling)) = some (2, true) := by decide +kernel
theorem test_commit_complete : after (exec (.commitComplete 1#16) { epS with market := { epS.market with closings := [⟨1#16, false, 0⟩], epochs := [(0, ⟨2, 0, 0, false⟩)] } })
    (fun t => ((t.epoch 0).st, t.market.closings)) = some (0, []) := by decide +kernel
theorem test_cancel_complete : after (exec (.cancelComplete 1#16) { epS with market := { epS.market with closings := [⟨1#16, true, 0⟩], epochs := [(0, ⟨2, 0, 0, true⟩)] } })
    (fun t => ((t.epoch 0).st, t.market.closings)) = some (0, []) := by decide +kernel
theorem hyps_closing : epS.inFlight 1#16 = false ∧ maskWhere 1#16 (fun e => (epS.epoch e).st = 1) = 1#16 ∧ Tab.wf Epoch.blank epS.market.epochs = true := by decide +kernel

/-- A cached line of HBM space with one dirty sector. -/
def cacheS : State := (opS.setLine 0 ⟨5, 1⟩).setSector 1 { Sector.blank with base := .valid, data := 9#256, dirty := true }
theorem test_eviction : after (exec (.eviction 0) cacheS) (fun t => ((t.line 0).row1, t.market.closed.map (fun c => (c.line, c.row, c.secs.length)))) = some (0, [(0, 4, 4)]) := by decide +kernel
theorem hyps_eviction : (cacheS.line 0).row1 ≠ 0 ∧ (cacheS.lineHome 0).isSome = true ∧ cacheS.lineClosed 0 = false ∧ (cacheS.drainLine 0).foldQueued 0 = false := by decide +kernel
theorem test_writeback : after (exec (.writebackAccept 0) { opS with market := { opS.market with closed := [⟨0, 0, 0, 4, []⟩] } }) (fun t => t.market.closed) = some [] := by decide +kernel
theorem test_cache_fill : after (exec (.cacheFill Acc.plain 0) stkS) (fun t => (t.sector 0).base) = some .valid := by decide +kernel

/-- Entry 0: kind 1 for partition 0, quarter 0, row 0, one row. -/
def rsvS : State := staging 0x4010 [(2, 1, 0), (3, 1, 0), (4, 2, 0), (5, 2, 1)] opS
theorem test_rsv_apply_range : status (exec (.rsvApply 0 0 4) rsvS) = some (some 0x0301) := by decide +kernel
theorem test_rsv_release_free : status (exec (.rsvRelease 0 0) rsvS) = some (some 0) := by decide +kernel
theorem hyps_rsv : (rsvS.staged 0 0x4010 5 0) = 1 ∧ rsvS.rsvRefusal 0 4 0 0 0 1 = 0x0301 ∧ rsvS.rsvInUse 0 = false := by decide +kernel
theorem hyps_rsv_accepted : rsvS.rsvRefusal 0 1 0 0 0 1 = 0 ∧ (rsvS.rsvSet 0 1 0 0 0 1).isSome = true := by decide +kernel

/-! ## Runners and the pager (chapters 9 and 10) -/

/-- RB_BIND of channel 0 of runner 0: ring of 2^4 slots at 0x10000 in context 1. -/
def rbS : State := staging 0x4100 [(3, 4, 1), (4, 8, 0x10000), (5, 1, 4)] pgS

theorem hyps_rb : Accepts rbS 0 0x4100 (rbS.authPlain 0) ∧ (rbS.staged 0 0x4100 1 0 = 0 ∧ rbS.staged 0 0x4100 2 0 = 0 ∧ rbS.staged 0 0x4100 3 0 = 1
    ∧ rbS.staged 0 0x4100 4 0 = 0x10000 ∧ rbS.staged 0 0x4100 5 4 = 4 ∧ (rbS.chan 0 0).bound = false ∧ rbS.runnerOk 0 = true ∧ (rbS.ctx 1).active = true
    ∧ (rbS.ctx 1).part = (rbS.quarterPart 0).getD 4 ∧ rbS.allPlaced 1 0x10000 (128 * (2 ^ 4 + 1)) = true ∧ (rbS.sealed 0 && rbS.windowCovers 1 0x10000 2176) = false) := by
  simp only [Accepts]; decide +kernel
/-- The channel is IDLE (1) and bound; the header shows state 1 in the top nibble of the word at 0x18. -/
theorem test_rb_bind : after (exec (.rbBind 0) rbS) (fun t => ((t.chan 0 0).bound, (t.chan 0 0).st, leNat (t.agentRead (t.chanAgent 0 0 0#16) 0x10018 8).bytes)) = some (true, 1, 2 ^ 60)
    ∧ status (exec (.rbBind 0) rbS) = some (some 0) := by decide +kernel
/-- The channel bound, job 0 announced. -/
def chS : State := rbS.setChan 0 0 { Chan.blank with bound := true, ctx := 1, ring := 0x10000, ent := 4, st := 1, ann := [(1, 0#16)] }
theorem test_rb_unbind : after (exec (.rbUnbind 0) chS) (fun t => (t.chan 0 0).bound) = some false ∧ status (exec (.rbUnbind 0) chS) = some (some 0) := by decide +kernel
theorem hyps_rb_unbind : (chS.chan 0 0).bound = true ∧ (chS.chan 0 0).st ≠ 2 ∧ (chS.chan 0 0).st ≠ 4 := by decide +kernel
theorem test_tail_report : after (exec (.ringTailReport 0 0 3#64 0#16) chS) (fun t => ((t.chan 0 0).ann, (t.chan 0 0).waiting)) = some ([(1, 0#16), (3, 0#16)], []) := by decide +kernel

/-- A PREFETCH job of no bags' bytes: OP 3, element bytes 4 of a row of 4 bytes, FP32. -/
def jobFields (op : Nat) : Nat := op * 2 ^ 63 + 0xC * 2 ^ 69 + 1 * 2 ^ 92 + 0xC * 2 ^ 65 + 4 * 2 ^ 104 + 2 * 2 ^ 61 + 1 * 2 ^ 57 + 2 ^ 53 + 0x10C00 * 2 ^ 368
  + 0x11000 * 2 ^ 424 + 0x11800 * 2 ^ 312 + 0x12000 * 2 ^ 200 + 100 * 2 ^ 160
def jobWord (op : Nat) : BitVec 512 := BitVec.ofNat 512 (jobFields op + crc32c (leBytes 60 (jobFields op)) * 2 ^ 480)
theorem hyps_job_words : [0, 1, 2, 3].all (fun op => jobCrcOk (jobWord op) && !jobBad (jobWord op) && decide (rdOp (jobWord op) = op)) = true := by decide +kernel
/-- Slot 0 of the ring holds the job. -/
def jobS (op : Nat) : State := (chS.agentWrite (chS.chanAgent 0 0 0#16) 0x10080 (leBytes 64 (jobWord op).toNat) false).1
theorem hyps_job : [0, 1, 2, 3].all (fun op =>
    let s := jobS op
    let r := s.agentRead (s.chanAgent 0 0 0#16) ((s.chan 0 0).slot 0) 64
    decide ((s.chan 0 0).run = none ∧ s.activeJobs 0 < 8 ∧ s.noNewWork = false ∧ r.st = .ok ∧ r.poison = false ∧ leNat r.bytes = (jobWord op).toNat)
      && (match (s.chan 0 0).next with | .job n m => decide (n = 0 ∧ m = 0#16) | _ => false)) = true := by decide +kernel
/-- Index 100 or more of 100 rows does not exist; index 0 (memory of zeros) does. -/
theorem test_pool_reads_row : after (exec (.pool 0 0) (jobS 0)) (fun t => (t.chan 0 0).run.map (fun j => (j.bags, j.ended, j.status))) = some (some (1, true, 0)) := by decide +kernel
theorem test_job_done : after (exec (.runnerJobDone 0 0) (match exec (.prefetchJob 0 0) (jobS 3) with | .next t => t | _ => State.reset)) (fun t => ((t.chan 0 0).done, (t.chan 0 0).st))
    = some (1, 1) := by decide +kernel
/-- A job at its end, whole or failed. -/
def endJob (st : Nat) : RunJob := ⟨0, jobWord 0, 0#16, false, 0, 0, 0, 0, 0, 0, st, true, false, []⟩
theorem test_halt : after (exec (.runnerHalt 0 0) (chS.onChan 0 0 (fun x => { x with run := some (endJob 2) }))) (fun t => ((t.chan 0 0).st, (t.fabric.runners.map (fun e => e.2.halts)))) = some (3, [1]) := by
  decide +kernel
theorem hyps_carry_on : (chS.runJob 0 0 { endJob 0 with ended := false }).wait = false := by decide +kernel

/-! ### Contexts, ranges, pages -/

/-- CX_ID 2, partition 0, half 0, 16 MiB of HBM, PLACE_MAX 8, PLACE_MIN 0. -/
def cxS : State := staging 0x4200 [(1, 2, 2), (4, 4, 16), (5, 4, 8)] pgS
theorem hyps_cx : Accepts cxS 0 0x4200 (cxS.authPlain 0) ∧ (cxS.ctx 2).active = false ∧ ((cxS.partQuarters 0).all (fun q => quarterHalf q ≠ 0)) = false
    ∧ 16 * (cxS.placeMins 0 2 + 0) ≤ cxS.placeCap 0 ∧ Accepts cxS 0 0x4200 (cxS.authTenant 0 0) := by simp only [Accepts]; decide +kernel
theorem test_cx_create : after (exec (.cxCreate 0) cxS) (fun t => t.ctx 2) = some ⟨true, 0, 0, 16, 8, 0, 0#64, 0⟩ ∧ status (exec (.cxCreate 0) cxS) = some (some 0) := by decide +kernel
/-- CX_ID 1 is ACTIVE. -/
def cx1S : State := staging 0x4200 [(1, 2, 1), (4, 4, 7), (5, 4, 5), (6, 4, 0), (7, 8, 0x1234)] pgS
theorem test_cx_create_taken : status (exec (.cxCreate 0) cx1S) = some (some 0x0401) := by decide +kernel
theorem test_cx_set : after (exec (.cxSet 0) cx1S) (fun t => ((t.ctx 1).hbmQuota, (t.ctx 1).placeMax)) = some (7, 5) := by decide +kernel
theorem test_cx_setkey : after (exec (.cxSetkey 0) cx1S) (fun t => (t.ctx 1).key) = some 0x1234#64 := by decide +kernel
theorem test_cx_destroy : after (exec (.cxDestroy 0) cx1S) (fun t => ((t.ctx 1).active, t.pager.ranges.length)) = some (false, 0) := by decide +kernel
/-- 64 KiB held and placed. -/
theorem test_cx_select : after (exec (.cxSelect 0) cx1S) (fun t => (t.odRead 0 0x4200 10, t.odRead 0 0x4200 11)) = some ((0, [64#8, 0#8, 0#8, 0#8]), (0, [64#8, 0#8, 0#8, 0#8])) := by
  decide +kernel

/-- RG_CTX 1, VA 0x20000, 64 KiB, writable; the source 0x10000 of context 1. -/
def rgS : State := staging 0x4210 [(1, 2, 1), (2, 8, 0x20000), (3, 8, 0x10000), (4, 4, 0x80000000), (5, 2, 1), (6, 8, 0x10000)] pgS
theorem hyps_rg : Accepts rgS 0 0x4210 (rgS.authPlain 0) ∧ (rgS.ctx 1).active = true ∧ spanMisfit (attrPS 0x80000000#32) 0x20000 0x10000 = false ∧ attrBad 0x80000000#32 = false
    ∧ rgS.rangeMeets 1 0x20000 0x10000 = false ∧ rgS.tablesOf (rgS.pager.ranges ++ [⟨1, 0x20000, 0x10000, 0x80000000#32, false, 0, 0, false⟩]) 0 ≤ rgS.pager.policy.tablePool 0 * 2 ^ 20
    ∧ (rgS.resolveSpan 1 0x10000 0x10000).isSome = true := by simp only [Accepts]; decide +kernel
theorem test_rg_map : after (exec (.rgMap 0) rgS) (fun t => t.pager.ranges.map (fun r => r.va)) = some [0x10000, 0x20000] := by decide +kernel
/-- The alias reaches the page at 0x10000: the start of frame 0. -/
theorem test_rg_alias : after (exec (.rgAlias 0) rgS) (fun t => (t.translate ⟨some 0, 0, 0⟩ 1 0x20008 true).2) = some (.ok (directBase + 8) 0x80000000#32 (1, 0x10008)) := by decide +kernel
/-- The range at 0x10000. -/
def rg1S : State := staging 0x4210 [(1, 2, 1), (2, 8, 0x10000)] pgS
theorem test_rg_free : after (exec (.rgFree 0) rg1S) (fun t => (t.pager.ranges.length, t.pager.shootWait, t.pager.pages.length)) = some (0, [0], 0) := by decide +kernel
theorem hyps_rg_free : rg1S.rangeAliased ⟨1, 0x10000, 0x10000, 0x80000000#32, false, 0, 0, false⟩ (fun _ => true) = false ∧ rg1S.ringHolds 1 0x10000 0x10000 = false
    ∧ rg1S.rangeShadowed ⟨1, 0x10000, 0x10000, 0x80000000#32, false, 0, 0, false⟩ = false := by decide +kernel
theorem test_rg_pin : after (exec (.rgPin 0) rg1S) (fun t => (t.page (pageKey 1 0x10000)).pin) = some true ∧ status (exec (.rgPin 0) rg1S) = some (some 0) := by decide +kernel
theorem hyps_rg_pin : 100 * (rg1S.partPlacedPinned 0 + 1) ≤ rg1S.pager.policy.pinPct * rg1S.placeCap 0 ∧ rg1S.ctxPlaced 1 + 0 ≤ 1024 * 1024
    ∧ State.homesFor 1 0x80000000#32 [0x10000] rg1S = true := by decide +kernel
theorem test_rg_unpin : after (exec (.rgPin 0) rg1S) (fun t => after (exec (.rgUnpin 0) t) (fun u => (u.page (pageKey 1 0x10000)).pin)) = some (some false) := by decide +kernel
theorem test_rg_select : status (exec (.rgSelect 0) rg1S) = some (some 0) := by decide +kernel

theorem test_walk : (after (exec (.walk none 0 1 0x10010 true) pgS) (fun t => t.out.getLast?.map (·.vals))) = some (some [directBase + 16])
    ∧ (after (exec (.walk none 0 1 0x20000 false) pgS) (fun t => t.out.getLast?.map (fun o => (o.code, o.vals)))) = some (some (2, [1])) := by decide +kernel
/-- First touch of the range at 0x20000: its home is the lowest free block, 0x10000 of quarter 0; the page at 0x10000 holds block 0. -/
def demS : State := (match exec (.rgMap 0) rgS with | .next t => t | _ => rgS)
theorem test_demand : (after (exec (.demandAlloc none 0 1 0x20000 true) demS) (fun t => (t.out.getLast?.map (·.vals), t.pager.cnt.demand))) = some (some [0x10000], 1) := by decide +kernel
theorem test_walk_dem : sent (exec (.walk none 0 1 0x20000 false) demS) = some (some 1) := by decide +kernel
theorem test_shootdown : after (exec .shootdownComplete { pgS with pager := { pgS.pager with shootWait := [0, 3] } }) (fun t => (t.pager.shootWait, t.pager.cnt.shootdowns)) = some ([3], 1) := by decide +kernel
/-- One touch is gathered in the cache of cluster 0 (256) and flushed to the page. -/
def heatS : State := (match exec (.demandAlloc none 0 1 0x10000 false) pgS with | .next t => t | _ => pgS)
theorem hyps_heat : Tab.get 0 heatS.pager.gathered (pageKey 1 0x10000 * 512 + 256) = 1 ∧ (heatS.rangeAt 1 0x10000).isSome = true := by decide +kernel
theorem test_heat : after (exec (.heatFlush 256 1 0x10000) heatS) (fun t => (t.page (pageKey 1 0x10000)).heat) = some 1 := by decide +kernel
theorem hyps_interval : heatS.bell.count % heatS.policyNow.interval = 0 := by decide +kernel
theorem test_interval : (after (exec .pagerInterval heatS) (fun t => t.pager.gathered)) = some [] := by decide +kernel
theorem test_demote : after (exec (.demote 1 0x10000) pgS) (fun t => ((t.page (pageKey 1 0x10000)).loc, t.frameRole 0 0, t.pager.cnt.demotions)) = some (0, .cache, 1) := by decide +kernel
theorem test_promote : after (exec (.demote 1 0x10000) pgS) (fun t => after (exec (.promote 1 0x10000) t) (fun u => ((u.page (pageKey 1 0x10000)).loc, u.pager.cnt.movedKiB))) = some (some (1, 128)) := by
  decide +kernel
theorem hyps_moves : attrPLACE (pgS.page (pageKey 1 0x10000)).attr ≠ 1 ∧ pgS.pinned (pgS.page (pageKey 1 0x10000)) = false ∧ pgS.pageShadowed (pgS.page (pageKey 1 0x10000)) = false := by decide +kernel
theorem hyps_ranges_apart : RangesApart pgS.pager.ranges := by unfold RangesApart; decide +kernel

/-! ## Work queues (chapter 11) -/

/-- Row 1 of stall 0 (frame 64 of quarter 0) is LANDING and lies in host-ring reservation 0; core 0 READY. -/
def wqBase : State :=
  { ((pgS.setFrame 0 64 .landing).setUnit ukCore 0 { UnitRec.blank with dstate := usReady, mstate := usReady }) with
    market := { (pgS.setFrame 0 64 .landing).market with rsv := [(0, ⟨1, 0, 0, 1, 1, directBase + 0x400000, 0x400000⟩)] } }
/-- The values of queue 5: context 1, HOST, INTERACTIVE (0), 16 entries, cluster 0, rings in the landing frame. -/
def wqStaged : List (Nat × Nat × Nat) := [(1, 4, 5), (2, 2, 1), (4, 1, 0), (6, 1, 4), (10, 4, 1), (12, 8, directBase + 0x400000), (13, 8, directBase + 0x400400)]
def wqS : State := staging 0x6800 wqStaged wqBase
theorem hyps_wq : Accepts wqS 0 0x6800 (wqS.authPlain 0) ∧ wqS.wqRefusal (wqS.wqArgs 0) ((wqS.wqArgs 0).created false) (wqS.queue 5) true = 0 ∧ wqS.wqSealed (wqS.wqArgs 0) = false := by
  simp only [Accepts]; decide +kernel
theorem test_wq_create : after (exec (.wqCreate 0) wqS) (fun t => ((t.queue 5).st, (t.queue 5).logsz, (t.queue 5).maxinfl)) = some (qPaused, 4, 1) := by decide +kernel
/-- The rings cross: both begin at one address. -/
theorem test_wq_overlap : status (exec (.wqCreate 0) (staging 0x6800 [(13, 8, directBase + 0x400000)] wqS)) = some (some 0x0401) := by decide +kernel
/-- Queue 5 stands, in state `st`, with these entries. -/
def quS (st : Nat) (es : List QEntry) : State := wqS.setQueue 5 { (wqS.wqArgs 0).created false with st := st, entries := es, arrived := es.length }
theorem test_wq_set : after (exec (.wqSet 0) (staging 0x6800 [(7, 2, 9)] (quS 2 []))) (fun t => ((t.queue 5).maxinfl, (t.queue 5).st)) = some (9, qPaused) := by decide +kernel
theorem hyps_wq_set : (quS 2 []).wqRefusal (((quS 2 []).wqArgs 0).kept ((quS 2 []).queue 5)) ((((quS 2 []).wqArgs 0).kept ((quS 2 []).queue 5)).queue false ((quS 2 []).queue 5)) ((quS 2 []).queue 5) false = 0
    ∧ ((quS 2 []).queue 5).st ≠ qFree ∧ ((quS 2 []).wqArgs 0).id < 2 ^ 20 := by decide +kernel
theorem test_wq_set_ebench : status (exec (.wqSet 0) (staging 0x6800 [(7, 2, 9), (10, 4, 2 ^ 31)] (quS 2 []))) = some (some 0x0402) := by decide +kernel
theorem test_wq_states : after (exec (.wqEnable 0) (quS 2 [])) (fun t => (t.queue 5).st) = some qEnabled ∧ after (exec (.wqPause 0) (quS 1 [])) (fun t => (t.queue 5).st) = some qPaused
    ∧ after (exec (.wqDrain 0) (quS 1 [QEntry.fresh 0 0 0 0#16])) (fun t => ((t.queue 5).st, (t.queue 5).entries.map (·.status))) = some (qPaused, [6])
    ∧ after (exec (.wqDestroy 0) (quS 2 [])) (fun t => (t.queue 5).st) = some qFree ∧ status (exec (.wqDestroy 0) (quS 1 [])) = some (some 0x0402) := by decide +kernel
/-- STATE 2 in bits 479:477 of the descriptor: byte 59 is 0x40. -/
theorem test_wq_select : after (exec (.wqSelect 0) (quS 2 [])) (fun t => (t.odRead 0 0x6800 16).2[59]?) = some (some 0x40#8) := by decide +kernel

/-- The host link is up. -/
def upS (s : State) : State := { s with host := { s.host with lanes := 16 } }
theorem test_doorbell : after (exec (.doorbell 0 0 5 2#64 true) (upS (quS 1 []))) (fun t => ((t.queue 5).arrived, (t.queue 5).entries.map (fun e => (e.num, e.st)))) = some (2, [(0, 0), (1, 0)]) := by decide +kernel
theorem test_doorbell_ignored : after (exec (.doorbell 1 0 5 2#64 true) (quS 1 [])) (fun t => (t.sched.ignored, (t.queue 5).arrived)) = some (1, 0)
    ∧ after (exec (.doorbell 0 0 5 2#64 false) (upS (quS 1 []))) (fun t => t.sched.ignored) = some 1 ∧ (quS 1 []).host.lanes = 0
    ∧ after (exec (.doorbell 0 0 5 2#64 true) { upS (quS 1 []) with host := { (upS (quS 1 [])).host with d3hot := true } }) (fun t => t.host.ur) = some 1 := by decide +kernel

/-- A work entry of a kind: number 0, its stream at bench byte 0, TAG 7, DEADLINE 10, its CRC. -/
def weFields (kind : Nat) : Nat := kind * 2 ^ 444 + 7 * 2 ^ 408 + 10 * 2 ^ 424
def weWord (kind : Nat) : BitVec 512 := BitVec.ofNat 512 (weFields kind + crc32c (leBytes 60 (weFields kind)) * 2 ^ 480)
def weS (kind : Nat) : State := ((quS 1 [QEntry.fresh 0 0 0 0#16]).agentWrite ⟨⟨none, 256, 0⟩, none, Acc.plain, false⟩ (directBase + 0x400000) (leBytes 64 (weWord kind).toNat) false).1
theorem hyps_entry : [0, 1, 2].all (fun k => let r := (weS k).readSlot 5 0 0#16
    decide (r.2.1 = .ok ∧ r.2.2.1.poison = false ∧ r.2.2.2.poison = false ∧ entryWord r.2.2.1 r.2.2.2 = weWord k ∧ weKind (weWord k) = k) && !entryBad (weWord k) 0) = true := by decide +kernel
theorem test_entry_check : [0, 1, 2].map (fun k => after (exec (.entryCheck 5 true) (weS k)) (fun t => (t.queue 5).entries.map (fun e => (e.st, e.status)))) = [some [(1, 0)], some [(3, 0)], some [(1, 0)]] := by
  decide +kernel
/-- A slot of zeros fails its CRC: status 4. -/
theorem test_entry_rejected : after (exec (.entryCheck 5 true) (quS 1 [QEntry.fresh 0 0 0 0#16])) (fun t => ((t.queue 5).entries.map (·.status), t.sched.rejected)) = some ([4], 1) := by decide +kernel
/-- Eleven bells after a deadline of ten, with LATEDROP: status 5. -/
def lateS : State := let s := weS 0; { s.setQueue 5 { s.queue 5 with latedrop := true } with bell := { s.bell with count := 11 } }
theorem test_entry_late : after (exec (.entryCheck 5 true) lateS) (fun t => ((t.queue 5).entries.map (·.status), t.sched.expired)) = some ([5], 1) := by decide +kernel
/-- A sealed queue whose seal record names no key. -/
theorem test_entry_seal : after (exec (.entryCheck 5 true) ((weS 0).setQueue 5 { (weS 0).queue 5 with sealed := true })) (fun t => (t.queue 5).entries.map (·.status)) = some [4] := by decide +kernel
/-- The head is checked. -/
def chkS (kind : Nat) : State := quS 1 [{ QEntry.fresh 0 0 0 0#16 with st := 1, word := weWord kind }]
theorem test_barrier : after (exec (.barrierComplete 5) (chkS 2)) (fun t => (t.queue 5).entries.map (fun e => (e.st, e.status))) = some [(3, 0)]
    ∧ sent (exec (.barrierComplete 5) ((chkS 2).setQueue 5 { (chkS 2).queue 5 with infl := 1 })) = some (some 1) := by decide +kernel
theorem hyps_selection : (chkS 0).noNewWork = false ∧ (((chkS 0).joinBulk (chkS 0).candidates).choose ((chkS 0).joinBulk (chkS 0).candidates).candidates).map (fun c => (c.1.q, c.2)) = some (5, 0)
    ∧ chooseCore (((chkS 0).joinBulk (chkS 0).candidates).coresFor 5) (weWord 0) = some 0 := by decide +kernel
theorem test_selection : after (exec (.selection 300) (chkS 0)) (fun t => ((t.queue 5).infl, (t.queue 5).taken, (t.core 0).dispatched.map (·.tag), t.sched.dispMax)) = some (1, 1, some 7, 300) := by decide +kernel
/-- The entry has finished. -/
def finS : State := quS 1 [{ QEntry.fresh 0 0 0 0#16 with st := 3, word := weWord 0, lcore := 0 }]
theorem hyps_completion : (finS.queue 5).completes.isSome = true ∧ (finS.agentWrite finS.schedAgent (directBase + 0x400400) [0#8] false).2 = .ok ∧ (finS.sealCompletion 5 0).2 = .ok := by decide +kernel
theorem test_completion : after (exec (.completionWrite 5) finS) (fun t => ((t.queue 5).completed, (t.queue 5).entries.length, (t.vec 0).pend)) = some (1, 0, true) := by decide +kernel
theorem hyps_mirror_bell : finS.bell.count % finS.val 0x6810 16 1000 = 0 := by decide +kernel

/-! ## HBM, regulation, stored data (chapters 12 and 13) -/

/-- Stack 0 with these reads. -/
def hbS (rs : List HbmReq) : State := stkS.setStack 0 { Stack.blank with readQ := rs }
/-- Address 0 lies in pseudo-channel 0, bank 0; the requests of class 0 and class 6 without deadline. -/
theorem test_hbm_place : hbmPc 0 = 0 ∧ hbmBank 0 = 0 ∧ stackOf 0 = 0 := by decide +kernel
def rq (seq cls deadline : Nat) : HbmReq := ⟨seq, 0x100000 * seq, 0, cls, deadline, 0⟩
/-- A sector with a remaining deadline of 1 bell (REG_URGENT is 2) goes before class 0. -/
theorem test_arbitrate_urgent : ((hbS [rq 0 0 0xFFFF, ⟨1, 0, 0, 5, 1, 0⟩]).hbmChoose ((hbS [⟨0, 32, 0, 0, 0xFFFF, 0⟩, ⟨1, 0, 0, 5, 1, 0⟩]).stack 0) 0 0 0).map (fun x => (x.1.seq, x.2)) = some (1, false) := by decide +kernel
/-- Class 6 stands in the first three turns of four. -/
theorem hyps_arbitrate : ((hbS [⟨0, 0, 0, 6, 0xFFFF, 0⟩]).hbmChoose ((hbS [⟨0, 0, 0, 6, 0xFFFF, 0⟩]).stack 0) 0 0 0).map (fun x => (x.1.seq, x.2)) = some (0, true) := by decide +kernel
theorem test_arbitrate : after (exec (.hbmArbitrate 0 0 0 0) (hbS [⟨0, 0, 0, 6, 0xFFFF, 0⟩])) (fun t => ((t.stack 0).readQ.length, (t.stack 0).inService.length, Tab.get 0 (t.stack 0).rowOpen 0)) = some (0, 1, hbmRow 0 + 1) := by
  decide +kernel
def svS : State := stkS.setStack 0 { Stack.blank with inService := [⟨0, 0, 0, 2, 0xFFFF, 0⟩] }
/-- One sixteenth of 160 ns: 10 ns. -/
theorem test_read_complete : after (exec (.hbmReadComplete 0 0 160) svS) (fun t => ((t.stack 0).inService.length, Tab.get 0 (t.stack 0).lat 2)) = some (0, 10 * 65536) := by decide +kernel
/-- A PARTIAL sector with BF16 element 0 equal 0 waits for its merge. -/
def mgS : State := stkS.setStack 0 { Stack.blank with mergeQ := [⟨0, 0, { Sector.blank with base := .partl, fmt := 0xD, elems := 1#16, data := 5#256 }, Acc.plain⟩] }
theorem test_merge : after (exec (.merge 0) mgS) (fun t => ((t.stack 0).mergeQ.length, (t.hbmSector 0).data)) = some (0, 5#256) := by decide +kernel
/-- More than 90 % of 768 is more than 691. -/
theorem test_congestion : after (exec (.congestionLevel 0) (hbS (List.replicate 692 (rq 0 6 0xFFFF)))) (fun t => (t.stack 0).level) = some 2
    ∧ after (exec (.congestionLevel 0) (hbS (List.replicate 691 (rq 0 6 0xFFFF)))) (fun t => (t.stack 0).level) = some 1
    ∧ after (exec (.congestionLevel 0) (hbS (List.replicate 576 (rq 0 6 0xFFFF)))) (fun t => (t.stack 0).level) = some 0 := by decide +kernel
/-- 150 ns against a target of 150 ns: 8 × 1, at most 7. -/
theorem test_levels : after (exec .levelBroadcast (stkS.setStack 0 { Stack.blank with lat := [(0, 150 * 65536)] })) (fun t => Tab.get 0 t.hbm.netLevel 0) = some 7 := by decide +kernel

theorem test_refresh : after (exec (.refresh 0 0 0) (hbS [⟨0, 0, 0, 5, 1, 0⟩])) (fun t => (Tab.get 0 (t.stack 0).postponed 0, (t.stack 0).refPostponed)) = some (1, 1)
    ∧ after (exec (.refresh 0 0 0) ((hbS []).setStack 0 { Stack.blank with postponed := [(0, 2)], rowOpen := [(0, 9)] })) (fun t => (Tab.get 0 (t.stack 0).postponed 0, Tab.get 0 (t.stack 0).rowOpen 0)) = some (1, 0) := by
  decide +kernel
theorem hyps_refresh : ((hbS [⟨0, 0, 0, 5, 1, 0⟩]).stack 0).readQ.any (fun r => decide (hbmPc r.addr = 0 ∧ hbmBank r.addr = 0) && stkS.urgent r) = true := by decide +kernel
theorem test_temp : after (exec (.stackTempRead 0 (some 100)) stkS) (fun t => ((t.stack 0).band, (t.stack 0).hotRequest)) = some (3, false) ∧ bandOf 3 99 = 3 ∧ bandOf 3 98 = 2 ∧ bandOf 0 44 = 0
    ∧ after (exec (.stackTempRead 0 none) stkS) (fun t => ((t.stack 0).hotRequest, t.power.level)) = some (true, 2) := by decide +kernel
theorem test_power_down : after (exec (.powerDownEntry 0 0 256) stkS) (fun t => Tab.get false (t.stack 0).poweredDown 0) = some true
    ∧ after (exec (.powerDownEntry 0 0 255) stkS) (fun t => Tab.get false (t.stack 0).poweredDown 0) = some false := by decide +kernel
theorem test_retrain : after (exec (.phaseRetrain 0 0 false) stkS) (fun t => t.unit ukStack 0) = some usFenced ∧ after (exec (.phaseRetrain 0 0 true) stkS) (fun t => t.unit ukStack 0) = some usReady := by decide +kernel
theorem test_parity : after (exec (.parityError 0 0 1 true) stkS) (fun t => ((t.stack 0).parity, (t.stack 0).retrains)) = some (1, 0)
    ∧ after (exec (.parityError 0 0 4 true) stkS) (fun t => ((t.stack 0).parity, (t.stack 0).retrains)) = some (0, 1)
    ∧ after (exec (.parityError 0 0 1 false) (stkS.setStack 0 { Stack.blank with parityRun := [(0, 15)] })) (fun t => (t.stack 0).retrains) = some 1 := by decide +kernel
theorem test_not_answering : stkS.inService ukStack 0 = true ∧ after (exec (.stackNotAnswering 0) stkS) (fun t => t.unit ukStack 0) = some usFenced := by decide +kernel
/-- 64 KiB from 0 for the cores (source bit 0), class 2. -/
def rwS : State := staging 0xA000 [(2, 8, 0x10000), (3, 2, 1), (4, 1, 2)] stkS
theorem hyps_rw : Accepts rwS 0 0xA000 (rwS.authPlain 0) ∧ rwS.windowRefusal 0 0 0x10000 1 2 = 0 := by simp only [Accepts]; decide +kernel
theorem test_rw : after (exec (.rwEnable 0 0) rwS) (fun t => (t.window 0, after (exec (.rwDisable 0 0) t) (fun u => (u.window 0).enabled))) = some (⟨true, 0, 0x10000, 1, 2⟩, some false) := by decide +kernel

/-- A sector whose stored check bits are wrong by `chk`. -/
def wbS : State := mkS.setSector (a0 / 32) { Sector.blank with base := .valid, data := 3#256, chk := 1#16 }
theorem hyps_writeback : (wbS.sector (a0 / 32)).data = 3#256 ∧ (wbS.sector (a0 / 32)).chk = 1#16 ∧ (wbS.setHbmSector 0 ⟨3#256, 1#16⟩).hbmSector 0 = ⟨3#256, 1#16⟩
    ∧ (BitVec.ofNat 8 (1#16).toNat ≠ 0#8 ∧ BitVec.ofNat 8 (1#16).toNat ≠ Config.wordPoison) := by decide +kernel
theorem test_writeback_changed : after (exec (.correctingWriteback 0 0 (a0 / 32) 4#256 1#16) wbS) (fun t => (t.sector (a0 / 32)).data) = some 3#256 := by decide +kernel
/-- Poison stays poison: it is counted when the scrub reads it. -/
theorem test_scrub : after (exec (.scrubRead false) (mkS.setSector (a0 / 32) { Sector.blank with base := .valid, chk := Config.poison })) (fun t => (t.ecc.poisonRead, t.ecc.scrubLine)) = some (1, 1)
    ∧ after (exec (.scrubRead true) stkS) (fun t => t.ecc.scrubAddr) = some 32 ∧ after (exec (.scrubRead true) State.reset) (fun t => t.ecc.scrubAddr) = some 0 := by decide +kernel
/-- Bank 7 of stall site 0. -/
def rtS : State := staging 0x4420 [(1, 1, 3), (3, 8, 7)] mkS
theorem hyps_rt : Accepts rtS 0 0x4420 (rtS.authPlain 0) ∧ rtS.retireRefusal 3 0 7 = 0 ∧ (rtS.retire 3 0 7).isSome = true := by simp only [Accepts]; decide +kernel
theorem test_rt_retire : after (exec (.rtRetire 0) rtS) (fun t => (t.ecc.bankMap, t.sparesLeft 0)) = some ([(0, 7)], 1) := by decide +kernel
theorem test_rt_landing : status (exec (.rtRetire 0) (staging 0x4420 [(1, 1, 2), (3, 8, a0)] mkS)) = some (some 0x0401) := by decide +kernel
theorem test_rt_select : after (exec (.rtSelect 0) rtS) (fun t => t.odRead 0 0x4420 5) = some (0, [2#8]) := by decide +kernel
/-- Stall site 0 in TESTING; TS_MEM 0, the address of frame 0, data 1, check 2. -/
def tsS : State := (((mkS.setUnit ukStall 0 { UnitRec.blank with dstate := usTesting }).setVal 0x4430 2 8 a0).setVal 0x4430 3 32 1).setVal 0x4430 4 2 2
theorem hyps_ts : Accepts tsS 0 0x4430 (tsS.authPlain 0) ∧ tsS.tsRefusal 0 a0 = 0 := by simp only [Accepts]; decide +kernel
theorem test_ts_write : after (exec (.tsWriteData 0) tsS) (fun t => (t.sector (a0 / 32)).data) = some 1#256 ∧ after (exec (.tsWriteBoth 0) tsS) (fun t => (t.sector (a0 / 32)).data) = some 1#256
    ∧ after (exec (.tsWriteCheck 0) tsS) (fun t => (t.sector (a0 / 32)).data) = some 0#256 := by decide +kernel

/-! ## The fabric (chapter 14) -/

/-- This device is 1 of domain 0; port 0 is READY at 800 Gb/s; device 2 is LIVE with every port up; window 0 opens context 1 from 0x10000. -/
def fbS : State :=
  let s := pgS.setUnit ukPort 0 { UnitRec.blank with dstate := usReady }
  { s with fabric := { s.fabric with
      device := 1, ports := [(0, { Port.blank with speed := 800, lanes := 8 })], peers := [(2, { Peer.blank with st := 1, ports := 2 ^ 18 - 1, heard := true, incarn := 7 })]
      windows := [(0, ⟨true, false, 2, 0, 1, 0x10000, 0x10000, 7, 2 ^ 56 + 8191, 0⟩)] } }
/-- A frame from device 2 with PSN `psn` and its CRC. -/
def frameOf (h : Hdr) (psn : Nat) : BitVec 512 := let w := h.word 2 psn 0 false; BitVec.ofNat 512 (w + frameCrc w 0#128 0 false false)
/-- One sector to byte 0 of the window. -/
def putF : BitVec 512 := frameOf { type := 0, last := true, plen := 32, dst := 1, tkind := 1 } 0
def pay : List Byte := List.replicate 32 5#8
def rxOf (h : BitVec 512) (p : List Byte) : RxFrame := ⟨0, h, 0#128, p, 0, false⟩
def withRx (h : BitVec 512) (p : List Byte) : State := { fbS with fabric := { fbS.fabric with rxQ := [rxOf h p] } }
/-- VER is 1 in the top nibble, TYPE 0; PLEN 32 stands at bit 483. -/
theorem test_frame_fields : bits 511 504 putF = 0x10 ∧ bits 495 483 putF = 32 ∧ bits 479 448 putF = 0x00020001 := by decide +kernel
theorem hyps_frame : fbS.inService ukPort 0 = true ∧ fbS.frameOk putF 0#128 0#128 pay true = true ∧ fbS.frameAuth putF true = true ∧ fbS.selfId = 1
    ∧ (Tab.get Redirect.blank (fbS.hearPeer 2).fabric.redirects 2).new1 = 0 ∧ ((fbS.hearPeer 2).peer 2).st ≠ 2 ∧ fbS.frameOk putF 0#128 0#128 pay false = false := by decide +kernel
theorem test_frame_receive : after (exec (.frameReceive 0 putF 0#128 0#128 pay true true false) fbS) (fun t => (t.fabric.rxQ.length, (t.port 0).rx)) = some (1, 1)
    ∧ after (exec (.frameReceive 0 putF 0#128 0#128 pay false true false) fbS) (fun t => (t.fabric.rxQ.length, Tab.get 0 t.fabric.cnt 1)) = some (0, 1) := by decide +kernel
/-- A redirected source is answered NACK (type 9) with code 4. -/
theorem test_frame_redirected : after (exec (.frameReceive 0 putF 0#128 0#128 pay true true false) { fbS with fabric := { fbS.fabric with redirects := [(2, ⟨4, 0⟩)] } })
    (fun t => (t.fabric.rxQ.length, Tab.get 0 t.fabric.cnt 4)) = some (0, 1) := by decide +kernel
theorem test_put_frame : after (exec (.putFrame 0) (withRx putF pay)) (fun t => ((t.agentRead (t.chanAgent 0 0 0#16) 0 1).st, (t.sector (directBase / 32)).data.toNat % 256, (t.flow 0 2).cum, t.fabric.rxQ.length))
    = some (.fault 0, 5, 1, 0) := by decide +kernel
theorem hyps_put : ((withRx putF pay).firstRx 0 tPut).isSome = true ∧ ((withRx putF pay).frameTarget putF 32).map (fun x => x.2) = some 0x10000 := by decide +kernel
/-- A message that rings queue 5 once its only frame is in. -/
theorem test_put_doorbell : after (exec (.putFrame 0) (withRx (frameOf { type := 0, db := true, last := true, plen := 32, dst := 1, tkind := 1, body := 5 * 2 ^ 236 } 0) pay))
    (fun t => t.sched.ignored) = some 1 := by decide +kernel
theorem test_put_coll : after (exec (.putFrame 0) { withRx (frameOf { type := 0, coll := true, last := true, plen := 32, dst := 1, tkind := 1 } 0) pay with
    fabric := { (withRx (frameOf { type := 0, coll := true, last := true, plen := 32, dst := 1, tkind := 1 } 0) pay).fabric with colls := [⟨0, 0, 0, 0, 2, 0, true, 1, 1, 0, 0, 0, 0⟩] } })
    (fun t => t.fabric.colls.map (·.puts)) = some [1] := by decide +kernel
/-- One sector asked for: a GETRESP (type 2) of 32 bytes leaves. -/
theorem test_getreq : after (exec (.getreq 0) (withRx (frameOf { type := 1, last := true, dst := 1, tkind := 1 } 0) [])) (fun t => (t.fabric.rxQ.length, (t.flow 0 2).unacked.map (fun x => (frType x.hdr, frPlen x.hdr))))
    = some (0, [(2, 32)]) := by decide +kernel
/-- Channel 0 of engine west is bound in context 1. -/
def scS : State := fbS.setChan 16 0 { Chan.blank with bound := true, ctx := 1, ring := 0x10000, ent := 4, st := 1, ann := [(1, 0#16)] }
theorem test_getresp : after (exec (.getresp 0) { scS with fabric := { scS.fabric with
    rxQ := [rxOf (frameOf { type := 2, last := true, plen := 32, dst := 1, addr := 0 } 0) pay], msgs := [{ Msg.blank 0 0 tGetreq 2 with laddr := 0x11000, sent := 1 }] } })
    (fun t => (t.fabric.msgs.map (·.got), (t.sector ((directBase + 0x1000) / 32)).data.toNat % 256)) = some ([1], 5) := by decide +kernel
/-- Two u32 elements of a sector fold into the window; a DONE (type 4) leaves. -/
def foldF : BitVec 512 := frameOf { type := 3, last := true, plen := 32, dst := 1, tkind := 1, body := 0xD * 2 ^ 252 } 0
theorem test_fold_frame : after (exec (.foldFrame 0) (withRx foldF ([9#8] ++ List.replicate 31 0#8))) (fun t => ((t.flow 0 2).unacked.map (fun x => frType x.hdr), t.fabric.rxQ.length)) = some ([4], 0) := by decide +kernel
theorem test_done_frame : after (exec (.doneFrame 0) { fbS with fabric := { fbS.fabric with
    rxQ := [rxOf (frameOf { type := 4, last := true, dst := 1, body := 8 * 2 ^ 252 } 0) []], msgs := [Msg.blank 0 0 tFold 2] } })
    (fun t => t.fabric.msgs.map (fun m => (m.doneIn, m.flags))) = some [(true, 8)] := by decide +kernel

/-- Flow 0 to device 2 holds PSN 0, a PUT. -/
def txS : State := { fbS with fabric := { fbS.fabric with
  flows := [(2, { Flow.blank with open' := true, next := 1, unacked := [⟨putF, 0#128, 0, pay, 0, 0, 1, 0⟩] })], msgs := [{ Msg.blank 0 0 tPut 2 with sent := 1, first := 1 }] } }
def txRx (h : BitVec 512) : State := { txS with fabric := { txS.fabric with rxQ := [rxOf h []] } }
/-- CUMPSN 1 covers PSN 0. -/
theorem test_ack : after (exec (.ack 0) (txRx (frameOf { type := 8, dst := 1, body := 2 ^ 224 + 2 ^ 192 } 0))) (fun t => ((t.flow 0 2).unacked.length, t.fabric.msgs.map (·.acked))) = some (0, [1]) := by decide +kernel
theorem test_nack : [1, 2, 3].map (fun c => after (exec (.nack 0) (txRx (frameOf { type := 9, dst := 1, body := c * 2 ^ 220 } 0)))
    (fun t => (t.fabric.msgs.map (·.ended), (t.flow 0 2).unacked.map (·.again)))) = [some ([5], [0]), some ([6], [0]), some ([0], [3])] := by decide +kernel
/-- INCARN 7, ports 1: the bit of port 0. -/
theorem test_beat : after (exec (.beat 0) (txRx (frameOf { type := 10, dst := 1, body := 3 * 2 ^ 192 + 7 * 2 ^ 160 + 2 ^ 106 } 0))) (fun t => ((t.peer 2).st, (t.peer 2).ports, t.bell.skewMax)) = some (1, 1, 3000) := by decide +kernel
def atBell (n : Nat) (s : State) : State := { s with bell := { s.bell with count := n } }
theorem test_ack_timer : after (exec (.ackTimer 0 2) (atBell 2 (fbS.setFlow 0 2 { Flow.blank with sinceAck := 1 }))) (fun t => (t.flow 0 2).sinceAck) = some 0
    ∧ after (exec (.ackTimer 0 2) (atBell 1 (fbS.setFlow 0 2 { Flow.blank with sinceAck := 1 }))) (fun t => (t.flow 0 2).sinceAck) = some 1 := by decide +kernel
/-- FB_RTO is 50 µs: W falls to 8 and the frame goes out a second time. -/
theorem test_rto : after (exec (.rtoExpiry 0 2) (atBell 50 txS)) (fun t => ((t.flow 0 2).w, (t.flow 0 2).unacked.map (·.tries))) = some (8, [2])
    ∧ after (exec (.rtoExpiry 0 2) (atBell 49 txS)) (fun t => (t.flow 0 2).w) = some 64
    ∧ after (exec (.rtoExpiry 0 2) (atBell 50 (txS.onFlow 0 2 (fun f => { f with planeTo := [(0, 7)] })))) (fun t => Tab.get 0 (t.peer 2).excluded 0) = some 100050 := by decide +kernel
theorem test_notready : after (exec (.notreadyResend 0 2) (txS.onFlow 0 2 (fun f => { f with unacked := f.unacked.map (fun x => { x with again := 1 }) }))) (fun t => (t.flow 0 2).unacked.map (·.tries)) = some [2] := by
  decide +kernel
/-- The default FB_MSG_TIMEOUT: 100 ms after bell 0. -/
theorem test_msg_timeout : after (exec (.msgTimeout 0) (atBell 100000 txS)) (fun t => t.fabric.msgs.map (·.ended)) = some [7] ∧ after (exec (.msgTimeout 0) (atBell 99999 txS)) (fun t => t.fabric.msgs.map (·.ended)) = some [0] := by
  decide +kernel
theorem test_beat_send : after (exec (.beatSend 0) (fbS.setVal 0x5031 1 2 2)) (fun t => (t.port 0).tx) = some 1 := by decide +kernel
theorem test_peer_lost : after (exec (.peerLost 2) (atBell 20000 txS)) (fun t => ((t.peer 2).st, t.fabric.msgs.map (·.ended))) = some (2, [4]) ∧ (atBell 20000 txS).hostedOf 2 = none
    ∧ after (exec (.peerLost 2) (atBell 19999 txS)) (fun t => (t.peer 2).st) = some 1 := by decide +kernel
/-- Key 9 RETIRING; key 1 spent with its successor 9. -/
def keyS (st1 st9 : Nat) : State := { fbS with sec := { fbS.sec with keys := [(1, ⟨st1, 0, 1, 0, 0, 0⟩), (9, ⟨st9, 0, 1, 0, 1, 0⟩)] } }
theorem test_key_retire : after (exec (.keyRetire 9) (keyS 1 3)) (fun t => (t.key 9).st) = some 0 := by decide +kernel
theorem test_key_switch : after (exec (.keySwitch 0 2) ((keyS 1 2).setFlow 0 2 { Flow.blank with spent := [1] })) (fun t => ((t.key 1).st, (t.key 9).st)) = some (3, 1) := by decide +kernel

/-! ### Sending -/

/-- A send descriptor: OP, device 2, one sector from 0x11000, U32 for a FOLD. -/
def sdFields (op : Nat) : Nat := op * 2 ^ 476 + (if op ≥ 2 then 0xD * 2 ^ 472 else 0) + 2 ^ 460 + (if op ≥ 3 then 0 else 2 * 2 ^ 432) + 0x11000 * 2 ^ 320 + (if op ≥ 3 then 7 * 2 ^ 300 else 0) + 0xFFFF * 2 ^ 226 + 7
def sdWord (op : Nat) : BitVec 512 := BitVec.ofNat 512 (sdFields op + crc32c (leBytes 60 (sdFields op)) * 2 ^ 480)
def grpS : State := { scS with fabric := { scS.fabric with groups := [(0, [1, 2])] } }
theorem hyps_send_words : [0, 1, 2, 3, 4, 5].all (fun op => jobCrcOk (sdWord op) && !grpS.sendBad (sdWord op) && decide (sdOp (sdWord op) = op)) = true := by decide +kernel
def rowOf (op : Nat) : Instr := match op with | 0 => .sendPut 0 0 | 1 => .sendGet 0 0 | 2 => .sendFold 0 0 | 3 => .allreduce 0 0 | 4 => .reducescatter 0 0 | _ => .allgather 0 0
def sendS (op : Nat) : State := (grpS.agentWrite (grpS.chanAgent 16 0 0#16) 0x10080 (leBytes 64 (sdWord op).toNat) false).1
/-- PUT (0), GETREQ (1), FOLD (3) frames; an ALLGATHER sends PUT, the others FOLD: 4 sectors of 32 bytes to the other member. -/
theorem test_sends : [0, 1, 2, 3, 4, 5].map (fun op => after (exec (rowOf op) (sendS op)) (fun t => (t.flow 0 2).unacked.map (fun x => (frType x.hdr, frPlen x.hdr))))
    = [some [(0, 32)], some [(1, 0)], some [(3, 32)], some [(3, 128)], some [(3, 128)], some [(0, 128)]] := by decide +kernel
def runOf (op : Nat) : RunJob := ⟨0, sdWord op, 0#16, false, 0, 0, 0, 0, 0, 0, 0, false, false, []⟩
/-- Its job stands at the channel, with no message or with one whose first frame has not gone. -/
def standS (op : Nat) (ms : List Msg) : State := let s := grpS.onChan 16 0 (fun x => { x with run := some (runOf op) }); { s with fabric := { s.fabric with msgs := ms } }
theorem hyps_send : [0, 1, 2].all (fun op => decide ((standS op []).sending 0 0 = none ∧ (standS op []).chanMsgs 0 0 = [])
    && decide ((standS op [Msg.blank 0 0 [tPut, tGetreq, tFold][op]! 2]).sending 0 0 = some (Msg.blank 0 0 [tPut, tGetreq, tFold][op]! 2))) = true
    ∧ (State.readSectors (scS.chanAgent 16 0 0#16) 1 0x11000 0 scS).2.1 = .ok := by decide +kernel
theorem test_send_poison : after (exec (.sendPut 0 0) (grpS.agentWrite (grpS.chanAgent 16 0 0#16) 0x10080 (List.replicate 64 0#8) true).1) (fun t => (t.chan 16 0).run.map (fun j => (j.ended, j.status))) = some (some (true, 1)) := by
  decide +kernel
theorem test_send_start : after (exec (.sendStart 0 0) { scS with fabric := { scS.fabric with waits := [⟨0, 0, 0⟩, ⟨0, 1, 0⟩] } }) (fun t => t.fabric.waits.map (·.chan)) = some [1] := by decide +kernel
/-- A record of status 8 has its nibble in byte 27. -/
theorem test_send_complete : after (exec (.sendComplete 0 0) (grpS.onChan 16 0 (fun x => { x with run := some { runOf 0 with ended := true, status := 8 } })))
    (fun t => ((t.chan 16 0).done, (t.agentRead (t.chanAgent 16 0 0#16) (0x10080 + 64 + 27) 1).bytes)) = some (1, [0x80#8]) := by decide +kernel
/-- A channel halted by a fault of its first job. -/
def haltS : State := grpS.onChan 16 0 (fun x => { x with st := 3, run := some { runOf 0 with ended := true, status := 2 } })
theorem test_ring_ctrl : after (exec (.ringResume 16 0 0#16) haltS) (fun t => ((t.chan 16 0).st, (t.chan 16 0).run.map (·.ended))) = some (2, some false)
    ∧ after (exec (.ringSkip 16 0 0#16) haltS) (fun t => ((t.chan 16 0).st, (t.chan 16 0).done)) = some (1, 1)
    ∧ after (exec (.ringAbort 16 0 0#16) haltS) (fun t => ((t.chan 16 0).st, (t.chan 16 0).done)) = some (1, 1) := by decide +kernel

/-! ### Commands -/

def sc1S : State := staging 0x5200 [(2, 1, 1), (3, 2, 1), (4, 8, 0x12000), (5, 1, 4)] scS
theorem hyps_sc : Accepts sc1S 0 0x5200 (sc1S.authPlain 0) ∧ (sc1S.chan 16 1).bound = false ∧ (sc1S.ctx 1).active = true ∧ sc1S.allPlaced 1 0x12000 (ringBytes 4) = true
    ∧ (sc1S.sealed 0 && sc1S.windowCovers 1 0x12000 (ringBytes 4)) = false := by simp only [Accepts]; decide +kernel
theorem test_sc : after (exec (.scBind 0) sc1S) (fun t => ((t.chan 16 1).bound, after (exec (.scUnbind 0) (staging 0x5200 [(1, 1, 0), (2, 1, 1)] t)) (fun u => (u.chan 16 1).bound))) = some (true, some false) := by decide +kernel
def wn1S : State := staging 0x5100 [(1, 2, 4095), (2, 1, 2), (4, 2, 1), (5, 8, 0x10000), (6, 8, 0x10000), (7, 1, 1), (8, 8, 2 ^ 56 + 8191)] scS
theorem hyps_wn : Accepts wn1S 0 0x5100 (wn1S.authPlain 0) ∧ wn1S.wnRefusal 4095 (wn1S.wnArgs 0) = 0 ∧ (withRx putF pay).windowBusy 0 = true ∧ fbS.windowBusy 0 = false := by simp only [Accepts]; decide +kernel
theorem test_wn : after (exec (.wnCreate 0) wn1S) (fun t => (t.window' 4095).enabled) = some true ∧ after (exec (.wnDestroy 0) (staging 0x5100 [(1, 2, 0)] fbS)) (fun t => (t.window' 0).enabled) = some false
    ∧ after (exec (.wnDestroy 0) (staging 0x5100 [(1, 2, 0)] (withRx putF pay))) (fun t => ((t.window' 0).enabled, (t.window' 0).closing)) = some (true, true)
    ∧ after (exec (.wnSelect 0) (staging 0x5100 [(1, 2, 0)] fbS)) (fun t => t.odRead 0 0x5100 7) = some (0, [7#8]) := by decide +kernel
def gr1S : State := (staging 0x5300 [(1, 1, 255), (2, 4, 0x00020001)] scS)
theorem hyps_gr : Accepts gr1S 0 0x5300 (gr1S.authPlain 0) ∧ gr1S.stagedBytes 0 0x5300 2 = (4, 0x00020001) ∧ gr1S.group 255 = [] ∧ gr1S.groupRuns 255 = false := by simp only [Accepts]; decide +kernel
theorem test_gr : after (exec (.grDefine 0) gr1S) (fun t => (t.group 255, after (exec (.grDelete 0) (staging 0x5300 [(1, 1, 255)] t)) (fun u => u.group 255))) = some ([1, 2], some []) := by decide +kernel
def rd1S : State := staging 0x5440 [(1, 2, 2), (2, 2, 3)] txS
theorem hyps_rd : Accepts rd1S 0 0x5440 (rd1S.authPlain 0) ∧ rd1S.fabric.redirects.length < 64 := by simp only [Accepts]; decide +kernel
theorem test_rd : after (exec (.rdSet 0) rd1S) (fun t => (t.routeTo 2, (t.peer 2).st, t.fabric.msgs.map (·.ended))) = some (3, 3, [4])
    ∧ after (exec (.rdSet 0) rd1S) (fun t => after (exec (.rdClear 0) (staging 0x5440 [(1, 2, 2)] t)) (fun u => (u.routeTo 2, (u.peer 2).st))) = some (some (2, 0))
    ∧ status (exec (.rdClear 0) rd1S) = some (some 0x0402) := by decide +kernel

/-! ### Starters -/

/-- Partition 0 has partner 2 and hosts the starter of 2 in 1 GB. -/
def stS : State := let s := (((fbS.setVal 0x5400 1 2 2).setVal 0x5410 1 2 2).setVal 0x5410 2 2 1); { s with market := { s.market with rsv := [(1, ⟨3, 0, 0, 2, 1, directBase + 0x800000, 0x400000⟩)] } }
theorem hyps_fs : Accepts stS 0 0x5400 (stS.authPlain 0) ∧ stS.val 0x5400 1 0xFFFF = 2 ∧ stS.sealed 0 = false ∧ stS.hostedOf 2 = some 0 := by simp only [Accepts]; decide +kernel
theorem test_fs_stop : after (exec (.fsStop 0 0) (stS.setStarter 0 { Starter.blank with st := 2 })) (fun t => (t.starter 0).st) = some 0 := by decide +kernel
theorem test_fs_no_partner : status (exec (.fsStart 0 0 true) fbS) = some (some 0x0402) := by decide +kernel
theorem test_cut_send : after (exec (.cutSend 0 0) (stS.setStarter 0 { Starter.blank with st := 1 })) (fun t => (Tab.get 0 (t.starter 0).sent 0, Tab.get 0 (t.starter 0).placed 0)) = some (1, 1) := by decide +kernel
/-- The stream of device 2: a CUT record of bell 0 in one frame. -/
def cutRec : MirRec := ⟨7, 0, 0, 0, 0, 0#16, 0, leBytes 32 0⟩
def cutPay : List Byte := padSectors cutRec.bytes
def mirS : State := { stS with fabric := { stS.fabric with rxQ := [rxOf (frameOf { type := 5, last := true, plen := cutPay.length, dst := 1 } 0) cutPay] } }
theorem test_mirror_frame : after (exec (.mirrorFrame 0) mirS) (fun t => ((t.hosted 0).st, (t.hosted 0).log.map (fun x => (x.1, x.2.kind)))) = some (1, [(0, 7)]) := by decide +kernel
/-- A MAP of 2 bytes, with a starter region of 0 GB: refused. -/
def mapPay : List Byte := padSectors (⟨3, 0, 1, 0, 0, 0#16, 0, leBytes 32 2⟩ : MirRec).bytes
def mapS : State := { stS.setVal 0x5410 2 4 0 with fabric := { stS.fabric with rxQ := [rxOf (frameOf { type := 5, last := true, plen := mapPay.length, dst := 1 } 0) mapPay] } }
theorem test_mirror_refused : after (exec (.mirrorFrame 0) mapS) (fun t => (t.hosted 0).log.length) = some 0 := by decide +kernel
/-- A refused MIRROR frame stops the starter toward its partner. -/
def nackMirS : State := let s := (txRx (frameOf { type := 9, dst := 1, body := 2 * 2 ^ 220 } 0)).setVal 0x5400 1 2 2
  ((s.onFlow 0 2 (fun f => { f with unacked := [⟨frameOf { type := 5, dst := 2 } 0, 0#128, 0, [], 0, 0, 1, 0⟩] })).setStarter 0 { Starter.blank with st := 2 })
theorem test_mirror_nack : after (exec (.nack 0) nackMirS) (fun t => (t.starter 0).st) = some 3 ∧ after (exec (.nack 0) ((txRx (frameOf { type := 9, dst := 1, body := 2 * 2 ^ 220 } 0)).setStarter 0 { Starter.blank with st := 2 })) (fun t => (t.starter 0).st) = some 2 := by decide +kernel
/-- Both engines have sent the cut of bell 1000. -/
def cutS : State := stS.setHosted 0 { Hosted.blank with st := 1, log := [(0, { cutRec with keyv := 1000 }), (1, { cutRec with keyv := 1000 })] }
theorem test_cut_apply : after (exec (.cutApply 0) cutS) (fun t => ((t.hosted 0).cut, (t.hosted 0).log.length)) = some (1000, 0) := by decide +kernel
theorem test_takeover : after (exec (.takeover 0) (stS.setHosted 0 { Hosted.blank with st := 2, redirects := [(0, 0)] })) (fun t => (t.hosted 0).st) = some 2
    ∧ after (exec (.takeover 0) { stS.setHosted 0 { Hosted.blank with st := 2 } with fabric := { (stS.setHosted 0 { Hosted.blank with st := 2 }).fabric with aliases := List.replicate 8 (9, 1) } })
      (fun t => (t.hosted 0).st) = some 4 := by decide +kernel
theorem test_fh : status (exec (.fhTakeover 0 0) (stS.setHosted 0 { Hosted.blank with st := 1 })) = some (some 0) ∧ after (exec (.fhDiscard 0 0) (stS.setHosted 0 { Hosted.blank with st := 4 })) (fun t => (t.hosted 0).st) = some 0 := by
  decide +kernel
theorem test_redirect_complete : after (exec (.redirectComplete 0) (stS.setHosted 0 { Hosted.blank with st := 2, redirects := [(0, 0)] })) (fun t => (t.hosted 0).st) = some 3 := by decide +kernel
theorem test_redirect_frame : after (exec (.redirectFrame 0) { fbS with fabric := { fbS.fabric with rxQ := [rxOf (frameOf { type := 6, last := true, dst := 1, body := 5 * 2 ^ 240 + 6 * 2 ^ 224 } 0) []] } })
    (fun t => t.routeTo 5) = some 6 := by decide +kernel

/-! ## Host, time, power, temperature (chapters 15 to 18) -/

/-- The link is up with 16 lanes; BAR4 maps the first 4 MiB of direct space. -/
def hoS : State := { mkS with host := { mkS.host with lanes := 16, speed := 64000, bar4 := [(a0, 0x400000)], vectors := [(0, ⟨0x1000, 7, false, false, true⟩)] } }
theorem hyps_host : hoS.linkUp = true ∧ hoS.endpointOn = true ∧ hoS.bar4At 8 4 = some (a0 + 8) ∧ hoS.bar4At 0x10000 4 = none ∧ (hoS.ring 0).st ≠ 2 ∧ (hoS.vec 0).asked = true ∧ hoS.val 0x5510 1 0 ≤ 0 := by
  decide +kernel
theorem test_bar4 : after (exec (.bar4Write 8 [1#8, 2#8] false) hoS) (fun t => after (exec (.bar4Read 8 4) t) (fun u => u.out.getLast?.map (·.vals))) = some (some (some [0, 4, 0x0201]))
    ∧ after (exec (.bar4Read 0x10000 4) hoS) (fun t => t.host.ur) = some 1 ∧ after (exec (.bar4Write 0x10000 [1#8] false) hoS) (fun t => t.host.dropped) = some 1 := by decide +kernel
def d3S : State := { hoS with host := { hoS.host with d3hot := true } }
theorem test_d3hot : after (exec (.bar4Read 8 4) d3S) (fun t => t.host.ur) = some 1 ∧ after (exec (.rqTail 0 1#32) d3S) (fun t => (t.ring 0).rqTail) = some 0 := by decide +kernel
/-- RQ_TAIL at 64, the whole ring; at 65 one slot is dropped. -/
theorem test_rq_tail : after (exec (.rqTail 0 64#32) hoS) (fun t => ((t.ring 0).rqTail, t.host.dropped)) = some (64, 0)
    ∧ after (exec (.rqTail 0 65#32) hoS) (fun t => ((t.ring 0).rqTail, t.host.dropped)) = some (64, 1) := by decide +kernel
theorem test_rs_head : after (exec (.rsHead 3 5#32) hoS) (fun t => (t.ring 3).rsHead) = some 5 := by decide +kernel
theorem test_msix : after (exec (.msixSend 0 100) hoS) (fun t => ((t.vec 0).asked, t.out.getLast?.map (·.vals))) = some (false, some [0, 0x1000, 7]) := by decide +kernel
theorem test_link : after (exec .linkLoss hoS) (fun t => (t.host.lanes, t.host.linkdowns, t.host.wasLost)) = some (0, 1, true) ∧ after (exec .perstN hoS) (fun t => t.host.lanes) = some 0
    ∧ after (exec (.linkUp 8 64000) mkS) (fun t => (t.host.lanes, t.recorder.queue.length)) = some (8, 1) ∧ after (exec (.linkUp 16 64000) mkS) (fun t => t.recorder.queue.length) = some 0
    ∧ after (exec (.d3hotEntry true) hoS) (fun t => t.host.d3hot) = some true ∧ after (exec .flr hoS) (fun t => t.host.evtstat) = some 32 := by decide +kernel
theorem test_mctp : hoS.mctpOn true = true ∧ after (exec (.mctpControl true (some 9)) hoS) (fun t => t.pins.eidPcie) = some 9 ∧ after (exec (.mctpControl true (some 7)) hoS) (fun t => t.pins.eidPcie) = some 0 := by decide +kernel


/-- Port PTP (BT_SOURCE 1 by default), time acquired and LOCKED (2) at bell 3,000,000. -/
def tmS : State := { opS with bell := { Bell.reset with count := 3000000, st := tsLocked, acquired := true, valid := true, last := 1000000 } }
theorem hyps_time : tmS.timeSource = 1 ∧ tmS.dev.st ≠ 0 ∧ (tmS.setVal 0x3001 1 1 3).ppsSource = true ∧ tsLocked = 2 := by decide +kernel
theorem test_ptp : after (exec (.ptpMeasurement 1 7 0#64) tmS) (fun t => (t.bell.offset, t.bell.last)) = some (7, 3000000) := by decide +kernel
/-- The first measurement moves the bell onto the source's time. -/
theorem test_ptp_first : after (exec (.ptpMeasurement 1 7 1000#64) opS) (fun t => (t.bell.count, t.bell.acquired, t.bell.st)) = some (1000, true, tsLocking)
    ∧ after (exec (.ptpMeasurement 1 7 1000#64) { opS with bell := { opS.bell with count := 2000 } }) (fun t => t.bell.count) = some 2000 := by decide +kernel
def ppS : State := tmS.setVal 0x3001 1 1 3
theorem test_pps : after (exec (.ppsEdge (some 500)) ppS) (fun t => (t.bell.ppsGood, t.bell.offset)) = some (1, 500) ∧ after (exec (.ppsEdge (some (-501))) ppS) (fun t => (t.bell.ppsReject, t.bell.ppsBad, t.bell.offset)) = some (1, 1, 0)
    ∧ after (exec (.ppsEdge none) { ppS with bell := { ppS.bell with ppsBad := 2 } }) (fun t => (t.bell.ppsBad, t.bell.ppsOff)) = some (3, true) := by decide +kernel
/-- BT_HOLD_MS is 2,000 ms; BT_FREERUN_S 10 s. -/
theorem test_source_loss : after (exec .sourceLoss tmS) (fun t => (t.bell.st, t.bell.valid)) = some (tsHoldover, false) ∧ after (exec .sourceLoss { tmS with bell := { tmS.bell with last := 1000001 } }) (fun t => t.bell.st) = some tsLocked
    ∧ after (exec .holdoverExpiry { tmS with bell := { tmS.bell with st := tsHoldover, count := 11000000 } }) (fun t => t.bell.st) = some tsFreerun := by decide +kernel
theorem hyps_step : Accepts tmS 0 0x3002 (tmS.authPlain 0) := by simp only [Accepts]; decide +kernel
/-- 2,500 ns: two bells. -/
theorem test_bt_step : after (exec (.btStep 0) { tmS with bell := { tmS.bell with offset := 2500 } }) (fun t => (t.bell.count, t.bell.steps)) = some (3000002, 1)
    ∧ status (exec (.btStep 0) { tmS with bell := { tmS.bell with offset := -1 } }) = some (some 0x0301) ∧ status (exec (.btStep 0) { tmS with bell := { tmS.bell with valid := false } }) = some (some 0x0402) := by decide +kernel

/-- A RECORD event of value 9 a bell ahead; a GPIO event of pin 3 (function 3). -/
def seS : State := staging 0x3010 [(1, 1, evRecord), (2, 8, 3000001), (3, 8, 9)] tmS
def sgS : State := staging 0x3010 [(1, 1, evGpio), (2, 8, 3000002), (3, 8, 3 + 8)] (tmS.setVal 0x1200 4 1 3)
theorem hyps_arm : Accepts seS 0 0x3010 (seS.authPlain 0) ∧ seS.freeSlot = some 0 ∧ seS.bellOut evRecord 3000001 = false ∧ seS.armRefusal evRecord 9 3000001 = 0 ∧ seS.bellOut evRecord 3000000 = true
    ∧ sgS.armRefusal evGpio 11 3000002 = 0 ∧ sgS.val 0x1200 4 0 = 3 := by simp only [Accepts]; decide +kernel
theorem test_arm : after (exec (.seArm 0) seS) (fun t => ((t.slot 0).kind, (t.slot 0).st, (t.slot 0).bell)) = some (evRecord, esArmed, 3000001) ∧ status (exec (.seArm 0) seS) = some (some 0x0501)
    ∧ after (exec (.seArm 0) sgS) (fun t => (t.slot 0).kind) = some evGpio := by decide +kernel
def armS (bell : Nat) : State := (tmS.setSlot 0 ⟨evRecord, esArmed, 0, 9, bell, 0⟩).setSlot 63 ⟨evGpio, esArmed, 0, 11, bell, 0⟩
theorem test_cancel_select : after (exec (.seCancel 0) (armS 3000001)) (fun t => ((t.slot 0).st, t.bell.cancelled)) = some (esCancelled, 1) ∧ (after (exec (.seSelect 0) (armS 3000001)) (fun t => (t.odRead 0 0x3010 6).2[0]?)) = some (some 0xC1#8) := by
  decide +kernel
/-- At the bell the pin is driven (value 1 in PARAM bit 3) and the record written; before it nothing happens. -/
theorem test_scheduled : after (exec (.scheduledEvent []) ((armS 3000000).setVal 0x1200 4 1 3)) (fun t => ((t.slot 0).st, (t.slot 63).st, Tab.get false t.pins.driven 3, t.recorder.queue.length)) = some (esPerformed, esPerformed, true, 1)
    ∧ after (exec (.scheduledEvent []) (armS 3000001)) (fun t => (t.slot 0).st) = some esArmed := by decide +kernel
theorem hyps_gpio : Accepts opS 0 0x1200 (opS.authPlain 0) ∧ opS.gpio 0 = 0 ∧ opS.gpioCount 4 0 = 0 ∧ opS.gpioCount 7 0 < 2 ∧ (List.range 8).all (fun i => decide (opS.gpio i ≠ 4)) = true := by simp only [Accepts]; decide +kernel
theorem test_gpio : after (exec (.gpFunc 0 0 7) opS) (fun t => t.gpio 0) = some 7 ∧ after (exec (.gpPeriod 0 2#32) opS) (fun t => t.val 0x1200 9 0) = some 2
    ∧ status (exec (.gpFunc 0 0 8) opS) = some (some 0x0301) ∧ after (exec (.gpFunc 0 0 7) opS) (fun t => status (exec (.gpFunc 0 0 4) t)) = some (some (some 0x0401)) := by decide +kernel
theorem test_trigger : after (exec (.triggerIn 2) (tmS.setVal 0x1200 3 1 7)) (fun t => (t.pins.triggers, after (exec (.triggerIn 2) t) (fun u => u.pins.triggers))) = some (1, some 1)
    ∧ after (exec (.bellOut 2) (tmS.setVal 0x1200 3 1 4)) (fun t => Tab.get false t.pins.driven 2) = some true
    ∧ (tmS.setVal 0x1200 3 1 7).pinsOff = false ∧ (tmS.setVal 0x1200 3 1 7).gpio 2 = 7 ∧ (tmS.setVal 0x1200 3 1 4).pinsOff = false ∧ State.reset.pinsOff = true := by decide +kernel
/-- FE80:: with the modified EUI-64 of a MAC of zeros: bit 57 and FF FE. -/
def nbS : State := { opS with pins := { opS.pins with mgLink := 1 } }
theorem test_neighbour : nbS.ownsAddr 18 (0xFE80 * 2 ^ 112 + 2 ^ 57 + 0xFFFE * 2 ^ 24) = true ∧ sent (exec (.neighborSolicitation 18 (0xFE80 * 2 ^ 112 + 2 ^ 57 + 0xFFFE * 2 ^ 24)) nbS) = some (some 136)
    ∧ after (exec (.neighborAdvertisement 0 (linkLocal 0) 5#48) (opS.setUnit ukPort 0 { UnitRec.blank with dstate := usReady })) (fun t => (t.port 0).hop) = some (some 5)
    ∧ sent (exec (.echoRequest 0 9 [1#8]) (opS.setUnit ukPort 0 { UnitRec.blank with dstate := usReady })) = some (some 129) := by decide +kernel


/-- A package at 1800 mV. -/
theorem test_power_sample : after (exec (.powerSample 1800 2000 0#32) tmS) (fun t => (t.power.cap, t.power.vinBad, t.power.samples)) = some (56, 0, [2000])
    ∧ after (exec (.powerSample 1800 1400 0#32) { tmS with power := { tmS.power with cap := 40 } }) (fun t => t.power.cap) = some 41
    ∧ after (exec (.powerSample 1709 100 0#32) { tmS with power := { tmS.power with vinBad := 1 } }) (fun t => t.dev.st) = some 5
    ∧ after (exec (.powerSample 1709 100 0#32) tmS) (fun t => (t.dev.st, t.power.vinBad)) = some (2, 1) := by decide +kernel
theorem test_overcurrent : after (exec (.clusterOvercurrent 0) tmS) (fun t => t.power.level) = some 2
    ∧ after (exec .level2Release { tmS with power := { tmS.power with level := 2, lastL2 := 2999900 } }) (fun t => t.power.level) = some 0
    ∧ after (exec .level2Release { tmS with power := { tmS.power with level := 2, lastL2 := 2999901 } }) (fun t => t.power.level) = some 2 := by decide +kernel
/-- Regulator 288 is the first of market group 0. -/
theorem test_regulator : after (exec (.regulatorFail 0) tmS) (fun t => (t.power.failed, t.siteLimit 0)) = some ([0], 38) ∧ after (exec (.regulatorFail 288) tmS) (fun t => Tab.get 0 t.power.mktFailed 0) = some 1
    ∧ after (exec (.regulatorFail 289) { tmS with power := { tmS.power with mktFailed := [(0, 13)] } }) (fun t => (t.dev.st, t.dev.safeCause)) = some (4, 2) := by decide +kernel
theorem hyps_regulator : tmS.power.failed.contains 0 = false ∧ Tab.get 0 tmS.power.mktFailed 0 = 0 ∧ Nat.testBit 0 0 = false ∧ Nat.testBit 13 1 = false ∧ 13 + 2 ^ 1 = 15 ∧ maskOnes 15 = 4 := by decide +kernel
theorem test_droop : after (exec (.droop 3 false 700) tmS) (fun t => (Tab.get 0 t.power.stretch 3, t.power.stretch1, Tab.get 0 t.power.drMin 3 / 2 ^ 48, after (exec (.droopRecover 3) t) (fun u => Tab.get 0 u.power.stretch 3))) = some (1, 1, 700, some 0)
    ∧ after (exec (.droop 3 true 700) tmS) (fun t => (Tab.get 0 t.power.stretch 3, t.power.stretch2)) = some (2, 1) := by decide +kernel
theorem hyps_dr : Accepts opS 0 0x2131 (opS.authPlain 0) ∧ Accepts opS 0 0x2101 (opS.authPlain 0) := by simp only [Accepts]; decide +kernel
theorem test_dr_clear : after (exec (.drClear 0) { opS with power := { opS.power with drMin := [(3, 1)] } }) (fun t => t.power.drMin) = some [] := by decide +kernel
/-- Frequency group 1, point 40, 200 bells ahead. -/
def fgS : State := staging 0x2101 [(2, 1, 40), (3, 8, 3000200)] (tmS.setVal 0x2101 1 1 1)
theorem test_fg : 40 ≤ fgS.pmax ∧ fgS.bellOut evFreq 3000200 = false ∧ fgS.group1 ≠ 0 ∧ fgS.evConflict evFreq (fgS.group1 * 256 + 40) 3000200 = false
    ∧ after (exec (.fgSchedule 0) fgS) (fun t => ((t.slot 0).kind, (t.slot 0).bell, (t.slot 0).param % 256)) = some (evFreq, 3000200, 40) := by decide +kernel
/-- No task ran: the point of phase 0 (default 48) is already in force. -/
theorem test_phase_eval : after (exec .phaseEval tmS) (fun t => (t.power.demand, (t.slot 0).st)) = some (48, esFree)
    ∧ after (exec .phaseEval (tmS.setVal 0x2110 1 1 40)) (fun t => (t.power.demand, (t.slot 0).kind, (t.slot 0).bell)) = some (40, evFreq, 3000200) := by decide +kernel
theorem test_ageing : after (exec (.ageingTrim 0#32) { tmS with recorder := { tmS.recorder with opsec := 1800000 } }) (fun t => t.power.agLast) = some 500 := by decide +kernel
theorem test_powerup_retry : after (exec (.powerupRetry []) tmS) (fun t => t.power.puAdmitted) = some 0 := by decide +kernel


/-- The sample's conditions; sensor 0 healthy. -/
theorem hyps_thermal : tmS.dev.st ≠ 0 ∧ tmS.dev.st ≠ 5 ∧ (tmS.sensor 0).failed = false := by decide +kernel
/-- 40 °C up and 40 °C down make one cycle. -/
theorem test_cycle : after (exec (.thermalCycleSample 160) tmS) (fun t => (t.thermal.armed, t.thermal.cyclePeak)) = some (true, 160)
    ∧ after (exec (.thermalCycleSample 0) { tmS with thermal := { tmS.thermal with armed := true, cyclePeak := 160 } }) (fun t => (t.thermal.cycles, t.thermal.swingMax, t.thermal.armed)) = some (1, 40, false)
    ∧ after (exec (.thermalCycleSample 1) { tmS with thermal := { tmS.thermal with armed := true, cyclePeak := 160 } }) (fun t => t.thermal.cycles) = some 0
    ∧ after (exec (.thermalCycleSample 0) { tmS with thermal := { tmS.thermal with armed := true, cyclePeak := 160, cycles := 39999 } }) (fun t => t.recorder.queue.length) = some 1 := by decide +kernel
/-- 115.0 °C is 460 quarters. -/
theorem test_trip : after (exec (.thermalTrip 0 460 460) tmS) (fun t => (t.dev.st, t.pins.thermtrip)) = some (5, true) ∧ after (exec (.thermalTrip 0 460 459) tmS) (fun t => t.dev.st) = some 2 := by decide +kernel
/-- Profile 1: sensor 0, 20 bells. -/
def tpS : State := staging 0x2341 [(1, 130, 1), (2, 4, 20)] tmS
theorem hyps_tp : Accepts tpS 0 0x2341 (tpS.authPlain 0) := by simp only [Accepts]; decide +kernel
theorem test_tp : after (exec (.tpEnable 0 1) tpS) (fun t => ((t.profile 1).on, (t.profile 1).period, after (exec (.tpDisable 0 1) t) (fun u => (u.profile 1).on))) = some (true, 20, some false)
    ∧ status (exec (.tpEnable 0 1) (staging 0x2341 [(2, 4, 30)] tpS)) = some (some 0x0401) := by decide +kernel
theorem test_period : after (exec (.telemetryPeriod 1) (tmS.setProfile 1 { Profile.blank with on := true, sensors := 1, period := 20 })) (fun t => ((t.profile 1).start, (t.profile 1).data.isEmpty)) = some (20, false) := by decide +kernel

/-! ## Security (chapter 19) -/

/-- Requester 5 has negotiated; the chain in flash is one byte. -/
def spS : State := { (opS.setVal 0x7000 4 1 7) with sec := { opS.sec with peers := [(5, ⟨true, true, true⟩)] } }
theorem hyps_spdm : spS.spdmOn = true ∧ (spS.spdmPeer 5).algs = true ∧ (spS.spdmPeer 6).algs = false ∧ (List.range 8).find? (fun n => !((spS.endLapsed).session n).used) = some 1 ∧ (spS.measure 1).isSome = true := by decide +kernel
theorem hyps_chain : 0 < spS.chain.length := by simp only [State.chain, List.length_append]; exact Nat.lt_of_lt_of_le (by decide +kernel : 0 < (spS.bytesOf 0x7000 4).length) (Nat.le_add_right _ _)
theorem test_spdm_order : sent (exec (.getVersion 6) spS) = some (some 4) ∧ sent (exec (.getCapabilities 6) spS) = some (some 0x7F) ∧ sent (exec (.getCapabilities 5) spS) = some (some 0x61)
    ∧ sent (exec (.negotiateAlgorithms 5 true) spS) = some (some 0x63) ∧ sent (exec (.negotiateAlgorithms 5 false) spS) = some (some 0x7F) ∧ sent (exec (.getDigests 5) spS) = some (some 1)
    ∧ sent (exec (.challenge 5 0) spS) = some (some 3) ∧ sent (exec (.challenge 5 1) spS) = some (some 0x7F) ∧ sent (exec (.getMeasurements 5 0) spS) = some (some 0x60)
    ∧ sent (exec (.getMeasurements 5 7) spS) = some (some 0x7F) ∧ sent (exec (.getDigests 6) spS) = some (some 0x7F) := by decide +kernel
theorem test_key_exchange : after (exec (.keyExchange 5 0) spS) (fun t => ((t.session 1).used, (t.session 1).finished)) = some (true, false) := by decide +kernel
/-- Session 1 waits for its FINISH; 0x99 is the tenant of partition 2. -/
def fiS : State := { spS with sec := { spS.sec with
  sessions := [(0, { Session.blank with used := true, finished := true, role := 1 }), (1, { Session.blank with used := true })], seals := [(2, ⟨1, 0x99, 1⟩)] } }
theorem test_finish : after (exec (.finish 1 0x99 0 true) fiS) (fun t => ((t.session 1).finished, (t.session 1).role, (t.session 1).part)) = some (true, 2, 2)
    ∧ after (exec (.finish 1 0x99 0 false) fiS) (fun t => ((t.session 1).used, t.sec.authFail)) = some (false, 1) := by decide +kernel
theorem hyps_session : (fiS.session 1).used = true ∧ (fiS.session 1).finished = false ∧ fiS.lapsed 1 = false ∧ (fiS.session 0).finished = true ∧ fiS.lapsed 0 = false := by decide +kernel
theorem test_in_session : after (exec (.heartbeat 0 true) { fiS with bell := { fiS.bell with count := 9 } }) (fun t => (t.session 0).bell) = some 9 ∧ after (exec (.keyUpdate 0 true) fiS) (fun t => (t.session 0).updates) = some 1
    ∧ after (exec (.endSession 0 true) fiS) (fun t => (t.session 0).used) = some false ∧ after (exec (.heartbeat 0 false) fiS) (fun t => (t.session 0).fails) = some 1
    ∧ after (exec (.heartbeat 0 true) { fiS with bell := { fiS.bell with count := 20000000 } }) (fun t => (t.session 0).used) = some false := by decide +kernel
theorem hyps_seal : Accepts opS 0 0x7010 (opS.authSeal 0) ∧ Accepts opS 0 0x7010 (opS.authPlain 0) ∧ opS.partEmpty 0 = true ∧ (opS.seal 0).st = 0 ∧ opS.serving = true ∧ opS.partResetting 0 = false := by simp only [Accepts]; decide +kernel
theorem test_seal : after (exec (.psSeal 0 0) opS) (fun t => ((t.seal 0).st, (t.seal 0).seals, (t.session 0).role, (t.session 0).part)) = some (1, 1, 2, 0)
    ∧ after (exec (.psUnseal 0 0) opS) (fun t => t.partResetting 0) = some true
    ∧ after (exec (.psUnseal 0 2) fiS) (fun t => (t.partResetting 2, (t.seal 2).st)) = some (true, 2) := by decide +kernel
/-- INSTALL of FABRIC key 9 of partition 0, its content 32 bytes of value 3; NEXT after key 1 in `skN`. -/
def skS : State := staging 0x7020 [(2, 2, 9), (3, 1, 1), (4, 32, 3)] opS
def skN : State := staging 0x7020 [(5, 2, 1)] { skS with sec := { skS.sec with keys := [(1, ⟨1, 0, 1, 5, 0, 0⟩)] } }
theorem hyps_sk : Accepts skS 0 0x7020 (skS.authTenant 0 0) ∧ skS.stagedLen 0 0x7020 4 = 32 ∧ (skS.key 9).st = 0 ∧ (skN.key 1).st = 1 := by simp only [Accepts]; decide +kernel
theorem test_sk : after (exec (.skInstall 0) skS) (fun t => (t.key 9, t.staged 0 0x7020 4 0)) = some (⟨1, 0, 1, 3, 0, 0⟩, 0) ∧ after (exec (.skInstall 0) skN) (fun t => ((t.key 9).st, (t.key 9).pred)) = some (2, 1)
    ∧ after (exec (.skDestroy 0) (staging 0x7020 [(2, 2, 1)] skN)) (fun t => (t.key 1).st) = some 0 ∧ after (exec (.skSelect 0) (staging 0x7020 [(2, 2, 1)] skN)) (fun t => t.odRead 0 0x7020 7) = some (0, [1#8]) := by decide +kernel
theorem hyps_admin : Accepts opS 0 0x7030 (decide (opS.role 0 = 1) && !opS.recovering) ∧ Accepts opS 0 0x7040 (decide (opS.role 0 = 1) && !opS.recovering) ∧ Accepts opS 0 0x7000 (opS.authRoots 0)
    ∧ Accepts opS 0 0x7000 (opS.authPlain 0) ∧ opS.sec.dbgWaits = false ∧ opS.sec.sealedSinceBoot = false ∧ (List.range 4).filter (fun p => decide ((opS.seal p).tenant ≠ 0)) = [] := by simp only [Accepts]; decide +kernel
/-- Every processor that runs is healthy; the running security image has SVN 3. -/
def arS : State := { opS with fw := { opS.fw with procs := [(0, { Proc.blank with st := 2, healthy := true }), (1, { Proc.blank with st := 2, healthy := true }), (2, { Proc.blank with st := 2, healthy := true })]
                                                  images := [(0, { Image.blank with present := true, svn := 3 })] } }
theorem test_ar_commit : arS.allHealthy = true ∧ after (exec (.arCommit 0 none) arS) (fun t => Tab.get 0 t.sec.ar 0) = some 3
    ∧ after (exec (.arCommit 0 (some (0, 2))) arS) (fun t => Tab.get 0 t.sec.ar 0) = some 2 ∧ status (exec (.arCommit 0 none) { arS with fw := { arS.fw with pcState := 4 } }) = some (some 0x0402) := by decide +kernel
theorem test_roots : after (exec (.secOpRoots 0 (List.replicate 48 1#8)) opS) (fun t => (t.opRoots, t.sec.opClosed)) = some (48, true) ∧ status (exec (.secOpRoots 0 (List.replicate 47 1#8)) opS) = some (some 0x0301)
    ∧ status (exec (.secOpRoots 0 []) opS) = some (some 0x0301) ∧ status (exec (.dbgToken 0 []) opS) = some (some 0x0302) := by decide +kernel

/-! ## Firmware (chapter 20) -/

/-- A loader message of transfer 5 for the device of SERIAL 0: type, image type, CODE, OFFSET, payload (Table 20-6). -/
def lmsg (type itype code off : Nat) (payload : List Byte) : List Byte :=
  let b := leBytes 28 (off * 2 ^ 128 + payload.length * 2 ^ 171 + itype * 2 ^ 184 + 5 * 2 ^ 192 + code * 2 ^ 208 + type * 2 ^ 216 + 2 ^ 220)
  b ++ leBytes 4 (crc32c b) ++ payload
/-- An OFFER of the four types' bytes, every VERSION 9. -/
def offerOf (l : List Nat) : List Byte := lmsg 2 255 0 0 (l.flatMap (fun n => leBytes 4 n ++ leBytes 4 9))
/-- The loader solicits as transfer 5 for a use; transfers a control-core image of 3 bytes. -/
def ldS (use : Nat) : State := { opS with bell := { opS.bell with count := 3000000 }, fw := { opS.fw with stgState := 1, loader := { Loader.reset with st := 1, use := use, xid := 5 } } }
def ldD : State := (ldS 2).onLoader (fun l => { l with st := 2, types := [3], offered := [(0, 0), (0, 0), (0, 0), (3, 9)], reads := [⟨3, 0, 1024, 0⟩], lastData := 1000000 })
theorem hyps_loader : (ldS 2).loaderFor 2 (offerOf [0, 0, 0, 3]) ≠ none ∧ (ldS 0).loaderFor 2 (offerOf [0, 1, 1, 1]) ≠ none ∧ ldD.loaderFor 4 (lmsg 4 3 0 0 [1#8, 2#8, 3#8]) ≠ none
    ∧ ldD.loaderFor 5 (lmsg 5 255 2 0 []) ≠ none ∧ ldD.loaderFor 5 (lmsg 4 255 2 0 []) = none ∧ ldD.fw.loader.complete = false ∧ (ldS 1).fw.loader.solicit + 1000000 ≤ (ldS 1).bell.count := by decide +kernel
theorem test_offer : after (exec (.offer (offerOf [0, 0, 0, 3])) (ldS 2)) (fun t => (t.fw.loader.st, t.fw.loader.types, t.fw.loader.reads)) = some (2, [3], [⟨3, 0, 1024, 3000000⟩])
    ∧ after (exec (.offer (offerOf [0, 1, 1, 1])) (ldS 0)) (fun t => (t.fw.refusal, t.fw.loader.st)) = some (7, 1) := by decide +kernel
theorem test_data : after (exec (.data (lmsg 4 3 0 0 [1#8, 2#8, 3#8])) ldD) (fun t => (t.fw.loader.complete, t.fw.loader.content 3)) = some (true, [1#8, 2#8, 3#8])
    ∧ after (exec (.data (lmsg 4 3 0 0 [1#8, 2#8])) ldD) (fun t => t.fw.loader.complete) = some false := by decide +kernel
theorem test_retries : after (exec .solicitRetry (ldS 2)) (fun t => (t.fw.loader.xid, sent (.next t))) = some (6, some (some 0x101)) ∧ sent (exec .readRetry ldD) = some (some 0x103)
    ∧ after (exec .loaderRestart ldD) (fun t => (t.fw.refusal, t.fw.loader.st)) = some (1, 1) ∧ sent (exec (.loaderError (lmsg 5 255 2 0 [])) ldD) = some (some 2) := by decide +kernel
def stgS : State := { opS with fw := { opS.fw with stgState := 0 } }
theorem hyps_stage : Accepts stgS 0 0x1F50 (stgS.authPlain 0) ∧ Accepts ldD 0 0x1F50 (ldD.authPlain 0) ∧ stgS.fw.loader.use ≠ 2 ∧ ldD.fw.loader.use = 2 ∧ stgS.fw.pcState = 0 := by simp only [Accepts]; decide +kernel
theorem test_stage : after (exec (.fwStage 0) stgS) (fun t => (t.fw.stgState, t.fw.loader.use, t.fw.loader.st)) = some (1, 2, 1) ∧ status (exec (.fwStage 0) ldD) = some (some 0x0401)
    ∧ after (exec (.fwDiscard 0) ldD) (fun t => (t.fw.stgState, t.fw.loader.st)) = some (0, 0) := by decide +kernel
/-- A transfer that is complete: of no image at all (nothing is refused), or of one byte that is no image (reason 2). -/
def fullS (types : List Nat) : State := (ldS 2).onLoader (fun l => { l with st := 2, types := types, offered := [(1, 0), (1, 0), (1, 0), (1, 0)] })
theorem hyps_complete : (fullS []).fw.loader.complete = true ∧ (fullS []).firstRefusal (fullS []).secVersion [] = none ∧ (fullS [3]).firstRefusal 0 [3] = some (3, 2) := by decide +kernel
theorem test_complete : after (exec .stageComplete (fullS [])) (fun t => t.fw.stgState) = some 2 ∧ after (exec .stageComplete (fullS [3])) (fun t => (t.fw.stgState, t.fw.refusal)) = some (3, 2) := by decide +kernel

/-- PC_CMD SCHEDULE of STAGED 1,000 bells ahead, the least lead. -/
def pcS : State := staging 0x1F51 [(1, 8, 3001000), (2, 1, 1)] { tmS with fw := { tmS.fw with stgState := 2 } }
theorem hyps_schedule : Accepts pcS 0 0x1F51 (pcS.authPlain 0) ∧ pcS.staged 0 0x1F51 1 0 = 3001000 ∧ pcS.staged 0 0x1F51 2 1 = 1 ∧ pcS.bellOut evActivate 3001000 = false ∧ pcS.bellOut evActivate 3000999 = true
    ∧ pcS.evConflict evActivate 1 3001000 = false ∧ pcS.bell.st ≠ tsUnset := by simp only [Accepts]; decide +kernel
/-- An activation whose event stands in slot 4: SCHEDULED (1), or DEFERRED (2). -/
def actS (pc st : Nat) : State := { (tmS.setSlot 4 ⟨evActivate, st, 2, 1, 3001000, 0⟩) with fw := { tmS.fw with pcState := pc, pcSlot := 1, pcBell := 3001000 } }
theorem hyps_cancel : (actS 1 esArmed).pcEvent = some 4 ∧ (actS 2 esDeferred).pcEvent = some 4 ∧ (actS 2 esDeferred).power.level < 2 := by decide +kernel
theorem test_schedule : after (exec (.pcSchedule 0) pcS) (fun t => (t.fw.pcState, t.fw.pcBell, (t.slot 0).kind, (t.slot 0).st)) = some (1, 3001000, evActivate, esArmed)
    ∧ after (exec (.pcCancel 0) (actS 1 esArmed)) (fun t => (t.fw.pcState, (t.slot 4).st, t.bell.cancelled)) = some (0, esCancelled, 1)
    ∧ after (exec .activationRearm (actS 2 esDeferred)) (fun t => (t.fw.pcState, (t.slot 4).st, (t.slot 4).bell)) = some (1, esArmed, 4000000) := by decide +kernel
/-- The scheduler's image is on trial since bell 0 and processor 2 has not said HEALTHY; the emergency level. -/
def triS (level : Nat) (types : List Nat) : State := { opS with
  bell := { opS.bell with count := 5000000 }, power := { opS.power with level := level }, fw := { opS.fw with pcState := 4, pcSlot := 1, pcSwitched := types } }
theorem hyps_health : (triS 0 [2]).trialHealthy = false ∧ ((triS 0 [2]).setProc 2 { (triS 0 [2]).proc 2 with healthy := true }).trialHealthy = true ∧ (triS 2 [1]).trialHealthy = false
    ∧ ((triS 2 [1]).proc 1).st = 2 ∧ (triS 2 [1]).fw.pcSwitched.contains 1 = true := by decide +kernel
theorem test_health : after (exec (.healthy 2) (triS 0 [2])) (fun t => (t.fw.pcState, t.fw.activations)) = some (0, 1)
    ∧ after (exec .healthDeadline (triS 0 [2])) (fun t => (t.fw.pcState, t.fw.rollbacks)) = some (0, 1) ∧ after (exec .healthDeadline (triS 2 [1])) (fun t => t.fw.pcState) = some 5 := by decide +kernel

def wdS (l : List Nat) (p : Nat) : State := opS.setProc p { Proc.blank with st := 2, restarts := l }
theorem hyps_watchdog : ((wdS [0] 1).proc 1).restarts.filter (fun b => decide ((wdS [0] 1).bell.count < b + 3600000000)) = [0] ∧ ((wdS [0, 0] 1).proc 1).restarts.length = 2 ∧ (wdS [] 40).dev.st ≠ 0 := by decide +kernel
theorem test_watchdog : after (exec (.watchdogExpiry 1 [7#8] false) (wdS [0] 1)) (fun t => ((t.proc 1).st, (t.proc 1).dump, t.power.guardHold)) = some (1, [7#8], true)
    ∧ after (exec (.watchdogExpiry 1 [] false) (wdS [0, 0] 1)) (fun t => ((t.proc 1).st, t.dev.st)) = some (3, 4)
    ∧ after (exec (.watchdogExpiry 2 [] true) opS) (fun t => ((t.proc 2).st, t.fw.loader.use, t.fw.loader.types)) = some (0, 3, [2])
    ∧ after (exec (.watchdogExpiry 0 [] false) opS) (fun t => (t.sessionOf 0).isSome) = some false := by decide +kernel
theorem test_watchdog_control : after (exec (.watchdogExpiry 40 [] false) { (wdS [] 40) with fw := { (wdS [] 40).fw with ctxsel := [(8, 5)] } }) (fun t => Tab.get 0 t.fw.ctxsel 8) = some 0
    ∧ sent (exec (.fwAccessFault 1 64 false) opS) = some (some 1) ∧ after (exec (.fwAccessFault 1 64 true) opS) (fun t => (t.proc 1).st) = some 3 := by decide +kernel

/-- A request of type 1 and SEQ 9 in slot 0 of a firmware ring. -/
def reqS (f : Nat) (payload : List Byte) : State :=
  let h := leBytes 12 (9 * 2 ^ 64 + 2 ^ 88)
  let b := h ++ leBytes 4 (crc32c h) ++ payload
  (opS.setRing f { opS.ring f with rqTail := 1, st := 0 }).onHost (fun x => { x with slots := Tab.setBytes 0#8 x.slots (requestSlot f 0) (leBytes 2 b.length ++ leBytes 2 0 ++ b) })
/-- WAIT from record 1 of class 0x80 for 7 ms; STATUS; DUMP of processor 1 from byte 0. -/
def waitReq : List Byte := leBytes 4 0 ++ leBytes 2 0x80 ++ leBytes 2 7
theorem hyps_ring : RingRequest (reqS 1 waitReq) 1 9 waitReq ∧ RingRequest (reqS 2 []) 2 9 [] ∧ RingRequest (reqS 3 (leBytes 2 1 ++ leBytes 4 0)) 3 9 (leBytes 2 1 ++ leBytes 4 0)
    ∧ (reqS 1 waitReq).host.waits = [] := by simp only [RingRequest]; decide +kernel
theorem hyps_dump : (reqS 3 []).dumpDenied 0 = true ∧ (reqS 3 []).dumpDenied 1 = false ∧ (reqS 3 []).dumpDenied 63 = false := by decide +kernel
/-- Byte `n` of the last response of a ring, behind its two bytes of length and two of zero. -/
def respByte (f n : Nat) (t : State) : Byte := Tab.get 0#8 t.host.slots (responseSlot f ((t.ring f).rsTail - 1) + 4 + n)
theorem test_fr_status : after (exec .frStatus (reqS 2 [])) (fun t => (respByte 2 8 t, respByte 2 10 t, respByte 2 11 t)) = some (9#8, 0#8, 0x81#8) ∧ after (exec .frStatus (reqS 2 [])) (fun t => (t.ring 2).rqHead) = some 1 := by decide +kernel
/-- The power core's dump may leave; the security core's not (2 DENIED); 3 MALFORMED for processor 3. -/
theorem test_fr_dump : after (exec .frDump (reqS 3 (leBytes 2 1 ++ leBytes 4 0))) (respByte 3 10) = some 0#8 ∧ after (exec .frDump (reqS 3 (leBytes 2 0 ++ leBytes 4 0))) (respByte 3 10) = some 2#8
    ∧ after (exec .frDump (reqS 3 (leBytes 2 3 ++ leBytes 4 0))) (respByte 3 10) = some 3#8 := by decide +kernel
/-- A record of the class exists: answered at once; none: it waits until bell 7,000. -/
theorem test_fr_wait : after (exec .frWait ((reqS 1 waitReq).event 0x80 5 1 0)) (fun t => (t.host.waits, respByte 1 8 t, respByte 1 10 t)) = some ([], 9#8, 0#8)
    ∧ after (exec .frWait (reqS 1 waitReq)) (fun t => t.host.waits) = some [(0x800009, 0, 7000)] := by decide +kernel
def waitS (bell : Nat) : State := { opS with host := { opS.host with waits := [(0x800009, 0, 7000)] }, bell := { opS.bell with count := bell } }
theorem hyps_wait : (waitS 7000).answerWait 0x800009 0 = none ∧ (((waitS 7000).event 0x80 5 1 0).answerWait 0x800009 0).isSome = true := by decide +kernel
theorem test_fr_timeout : after (exec .frWaitTimeout (waitS 7000)) (fun t => (t.host.waits, respByte 1 10 t)) = some ([], 1#8) ∧ after (exec .frWaitTimeout (waitS 6999)) (fun t => t.host.waits) = some [(0x800009, 0, 7000)]
    ∧ after (exec .frWait ((waitS 0).event 0x80 5 1 0)) (fun t => t.host.waits) = some [] := by decide +kernel

/-! ## Units, resets, boot, recorder (chapters 21 and 23) -/

/-- Every unit that opS names is in a state; US_KIND, US_INDEX and US_TEST staged. -/
def unS (st kind i test : Nat) : State := staging 0x6040 [(1, 1, kind), (2, 2, i), (3, 1, test)] (opS.setUnit kind i { UnitRec.blank with dstate := st, mstate := st, mismatch := true })
theorem hyps_fence : Accepts (unS usReady ukCluster 0 0) 0 0x6040 ((unS usReady ukCluster 0 0).authPlain 0) ∧ (unS usReady ukCluster 0 0).inService ukCluster 0 = true ∧ (unS usDegraded ukPort 0 0).inService ukPort 0 = true
    ∧ (unS usReady ukCore 0 0).inService ukCore 0 = true ∧ (unS usReady ukCore 0 0).moveOf 0 = none ∧ 0 < unitCount ukCluster := by simp only [Accepts]; decide +kernel
theorem hyps_unfence : (unS usFenced ukPort 17 0).unit ukPort 17 = usFenced ∧ (unS usFenced ukStack 15 1).unit ukStack 15 = usFenced ∧ (unS usFenced ukPort 17 0).serving = true ∧ 17 < unitCount ukPort ∧ 15 < unitCount ukStack
    ∧ (unS usReady ukCore 0 0).enclosed 0 false = false ∧ (unS usReady ukCluster 0 0).enclosed 0 true = false ∧ (unS usFenced ukRunner 3 0).enclosed 0 true = false := by decide +kernel
theorem test_us_fence : after (exec (.usFence 0) (unS usReady ukCore 0 0)) (fun t => (t.unit ukCore 0, t.dev.resets)) = some (usDraining, [⟨5, unitKey ukCore 0, false, false, usFenced⟩])
    ∧ after (exec (.usUnfence 0) (unS usFenced ukPort 17 0)) (fun t => t.unit ukPort 17) = some usTesting ∧ after (exec (.usUnfence 0) (unS usFenced ukStack 15 0)) (fun t => t.unit ukStack 15) = some usResetting := by decide +kernel
theorem test_us_reset : after (exec (.usReset 0) (unS usFenced ukRunner 3 0)) (fun t => t.unit ukRunner 3) = some usResetting ∧ after (exec (.usReset 0) (unS usReady ukCore 0 0)) (fun t => (t.unit ukCore 0, t.dev.resets.length)) = some (usDraining, 1)
    ∧ status (exec (.usReset 0) (unS usReady ukPort 0 0)) = some (some 0x0402) ∧ status (exec (.usReset 0) (unS usReady ukCluster 32 0)) = some (some 0x0301) := by decide +kernel
theorem test_us_retire : after (exec (.usRetire 0) (unS usReady ukCore 0 0)) (fun t => (t.dev.moves.map (·.reason), Tab.get false t.dev.siteBad 0)) = some ([6], true)
    ∧ after (exec (.usRetire 0) (unS usFenced ukStack 15 0)) (fun t => t.unit ukStack 15) = some usRetired ∧ after (exec (.usClearmm 0) (unS usReady ukStack 15 0)) (fun t => (t.unitRec ukStack 15).mismatch) = some false := by decide +kernel

def ptS (p m : Nat) : State := staging 0x6100 [(1, 1, p), (2, 1, m)] opS
theorem hyps_part : Accepts (ptS 0 3) 0 0x6100 ((ptS 0 3).authPlain 0) ∧ (ptS 0 3).partResetting 0 = false ∧ (ptS 0 3).moving 0 3 = [1] ∧ (0 :: [1].filterMap (ptS 0 3).quarterPart).eraseDups = [0]
    ∧ [0].any (fun o => decide (((ptS 0 3).seal o).st = 1)) = false ∧ (ptS 0 3).market.rsv.any (fun e => decide (e.2.kind ≠ 0 ∧ ((ptS 0 3).quarterPart e.2.quarter).isSome) && [1].contains e.2.quarter) = false := by
  simp only [Accepts]; decide +kernel
theorem test_part : after (exec (.ptReset 0) (ptS 0 0)) (fun t => (t.dev.resets, (t.seal 0).st)) = some ([⟨3, 0, false, false, 0⟩], 2) ∧ after (exec (.ptAssign 0) (ptS 0 3)) (fun t => t.dev.assign) = some [(0, 3)]
    ∧ status (exec (.ptReset 0) (ptS 4 0)) = some (some 0x0301) := by decide +kernel

/-- A run of a scope on an index; core 0, cluster 0 or the unit draining or RESETTING. -/
def rstS (scope index : Nat) (drained : Bool) (st : Nat) : State :=
  { (unS st ukCore 0 0) with dev := { (((unS st ukCore 0 0).setUnit ukCluster 0 { UnitRec.blank with dstate := st })).dev with resets := [⟨scope, index, drained, false, 0⟩] } }
theorem hyps_drain : (rstS 1 0 false usDraining).dev.resets.find? (fun r => decide (r.scope = 1 ∧ r.index = 0) && !r.drained) = some ⟨1, 0, false, false, 0⟩
    ∧ (rstS 2 0 true usResetting).dev.resets.find? (fun r => decide (r.scope = 2 ∧ r.index = 0) && r.drained) = some ⟨2, 0, true, false, 0⟩
    ∧ (rstS 3 0 true usResetting).dev.resets.find? (fun r => decide (r.scope = 3 ∧ r.index = 0) && r.drained) = some ⟨3, 0, true, false, 0⟩ := by decide +kernel
theorem test_drain_end : after (exec (.drainEnd 1 0) (rstS 1 0 false usDraining)) (fun t => (t.unit ukCore 0, (t.unitRec ukCore 0).incarn)) = some (usResetting, 1)
    ∧ after (exec (.drainEnd 2 0) (rstS 2 0 false usDraining)) (fun t => (t.unit ukCore 0, t.unit ukCluster 0)) = some (usResetting, usResetting)
    ∧ after (exec (.drainEnd 5 (unitKey ukCore 0)) { (rstS 5 (unitKey ukCore 0) false usDraining) with dev := { (rstS 5 0 false usDraining).dev with resets := [⟨5, unitKey ukCore 0, false, false, usFenced⟩] } }) (fun t => t.unit ukCore 0) = some usFenced := by
  decide +kernel
theorem test_reset_end : after (exec (.resetEnd 1 0 true) (rstS 1 0 true usResetting)) (fun t => t.unit ukCore 0) = some usReady
    ∧ after (exec (.resetEnd 2 0 true) (rstS 2 0 true usResetting)) (fun t => (t.unit ukCore 0, t.unit ukCluster 0)) = some (usReady, usDegraded) := by decide +kernel
theorem test_reset_part : after (exec (.resetEnd 3 0 true) { (rstS 3 0 true usResetting) with market := State.reset.market }) (fun t => (t.dev.ptResets, (t.seal 0).st, t.unit ukCore 0)) = some (1, 0, usReady) := by decide +kernel
/-- A unit whose two views have differed once before: FENCED is stricter than TESTING. -/
def twoS : State := { opS with dev := { opS.dev with units := [(unitKey ukStack 1, { UnitRec.blank with dstate := usTesting, mstate := usFenced, diffs := 1 })] } }
theorem hyps_views : twoS.dev.units = [(unitKey ukStack 1, { UnitRec.blank with dstate := usTesting, mstate := usFenced, diffs := 1 })] ∧ usTesting ≠ usFenced ∧ usTesting ≠ usReady ∧ usTesting ≠ usDegraded := by decide +kernel
theorem test_views : after (exec .fenceReconcile twoS) (fun t => (t.unit ukStack 1, (t.unitRec ukStack 1).mismatch, (t.unitRec ukStack 1).reason)) = some (usFenced, true, 10) := by decide +kernel

/-! ### Losses, moves, ports -/

/-- Core 0 moves to site 8: its drain has ended, the spare has power. -/
def moS (copied : Bool) : State := { (unS usFenced ukCore 0 0) with dev := { (unS usFenced ukCore 0 0).dev with moves := [⟨0, 0, 8, true, true, copied, 6⟩] } }
theorem hyps_loss : opS.siteOf 0 = some 0 ∧ opS.moveOf 0 = none ∧ (unS usReady ukCore 0 0).unit ukCore 0 ≠ usOff ∧ (moS true).moveOf 0 = some ⟨0, 0, 8, true, true, true, 6⟩
    ∧ (unS usReady ukCluster 31 0).unit ukCluster 31 ≠ usOff ∧ (unS usReady ukCluster 31 0).dev.resets.any (fun r => decide (r.scope = 8 ∧ r.index = 31)) = false := by decide +kernel
theorem test_loss : after (exec (.coreLoss 0 4) (unS usReady ukCore 0 0)) (fun t => (t.dev.moves.map (fun m => (m.core, m.oldSite, m.reason)), t.unit ukCore 0)) = some ([(0, 0, 4)], usDraining)
    ∧ after (exec (.stallCopyComplete 0) (moS false)) (fun t => t.dev.moves.map (·.copied)) = some [true] ∧ after (exec (.moveComplete 0 true) (moS true)) (fun t => (t.siteOf 0, t.unit ukCore 0)) = some (some 8, usReady)
    ∧ after (exec (.moveComplete 0 false) (moS true)) (fun t => t.unit ukCore 0) = some usRetired := by decide +kernel
theorem test_cluster_fail : after (exec (.clusterFail 31) (unS usReady ukCluster 31 0)) (fun t => (t.unit ukCluster 31, t.dev.resets.map (·.scope))) = some (usDraining, [8]) := by decide +kernel
/-- Errors of wire 33 of group 255 of unit 0: `n` of them within the present millisecond; the group has replaced `used` wires. -/
def boS (n used : Nat) : State := { (unS usReady ukCore 0 0) with dev := { (unS usReady ukCore 0 0).dev with bondErrors := [(255 * 64 + 33, 8 + n)], bondRepairs := [(255, used)] } }
theorem hyps_bond : Tab.get 0 (boS 3 0).dev.bondErrors (255 * 64 + 33) = 11 ∧ (boS 3 0).bell.count < 11 / 8 - 1 + 1000 ∧ (boS 3 2).coreAt 0 = some 0 := by decide +kernel
theorem test_bond : after (exec (.bondError 0 255 33) (boS 3 1)) (fun t => (Tab.get 0 t.dev.bondRepairs 255, t.thermal.bondSpares)) = some (2, 1) ∧ after (exec (.bondError 0 255 33) (boS 2 0)) (fun t => Tab.get 0 t.dev.bondRepairs 255) = some 0
    ∧ after (exec (.bondError 0 255 33) (boS 3 2)) (fun t => (t.thermal.bondLost, t.dev.moves.map (·.reason))) = some (1, [2]) := by decide +kernel
theorem hyps_port : (unS usReady ukPort 0 0).inService ukPort 0 = true ∧ (unS usFenced ukPort 17 0).unit ukPort 17 = usFenced ∧ (unS usTesting ukPort 17 0).unit ukPort 17 = usTesting
    ∧ Accepts (unS usReady ukPort 0 0) 0 0x5000 ((unS usReady ukPort 0 0).authPlain 0) := by simp only [Accepts]; decide +kernel
/-- Lanes 0 and 1, or 2 and 3, make a port of half the speed; lanes 1 and 2 none. -/
theorem test_port : after (exec (.portFailure 0) (unS usReady ukPort 0 0)) (fun t => t.unit ukPort 0) = some usTesting ∧ after (exec (.portRetryTrain 17) (unS usFenced ukPort 17 0)) (fun t => t.unit ukPort 17) = some usTesting
    ∧ after (exec (.portTrainingEnd 17 12) (unS usTesting ukPort 17 0)) (fun t => ((t.port 17).speed, t.unit ukPort 17)) = some (400, usDegraded)
    ∧ after (exec (.portTrainingEnd 17 6) (unS usTesting ukPort 17 0)) (fun t => t.unit ukPort 17) = some usFenced ∧ after (exec (.portTrainingEnd 17 15) (unS usTesting ukPort 17 0)) (fun t => t.unit ukPort 17) = some usReady := by decide +kernel

/-! ### Boot, recorder -/

def okO : BootOutcome := ⟨true, 5, [], [], [], [(0, 6400, 0)], [], [], [], [], [], [], false⟩
/-- BOOTING at a step, security and power firmware running. -/
def btS (n : Nat) : State := { opS with dev := { opS.dev with st := 1, bootStep := n } }
theorem hyps_boot : (btS 3).imagesStarted = true ∧ (btS 6).power.level < 2 ∧ (btS 7).coresEnabled ≠ 0 ∧ (btS 7).anyPort = true ∧ (btS 7).power.mktFailed.any (fun e => e.2 = 15) = false
    ∧ State.coresEnabled { (btS 7) with dev := { (btS 7).dev with coreSite := [] } } = 0 ∧ ((btS 7).setUnit ukPort 0 UnitRec.blank).anyPort = false := by decide +kernel
theorem test_boot : after (exec .coldBoot State.reset) (fun t => (t.dev.st, t.dev.bootStep, t.recorder.pcycles)) = some (1, 1, 1) ∧ after (exec (.bootStepEnd okO) (btS 2)) (fun t => (t.dev.bootStep, t.fw.loader.st, t.pins.mgLink)) = some (3, 1, 1)
    ∧ after (exec (.bootStepEnd okO) (btS 3)) (fun t => t.dev.bootStep) = some 4 ∧ after (exec (.bootStepEnd okO) (btS 4)) (fun t => (t.dev.bootStep, t.unit ukStack 0)) = some (5, usReady)
    ∧ after (exec (.bootStepEnd okO) (btS 7)) (fun t => t.dev.st) = some 3 := by decide +kernel
theorem test_boot_links : after (exec (.bootStepEnd okO) ((btS 5).setUnit ukPort 1 { UnitRec.blank with dstate := usTesting })) (fun t => (t.dev.bootStep, t.unit ukPort 1)) = some (6, usFenced) := by decide +kernel
/-- Without a usable core the boot ends in SAFE with cause 4, without a port with cause 1. -/
theorem test_boot_safe : after (exec (.bootStepEnd okO) { (btS 7) with dev := { (btS 7).dev with coreSite := [] } }) (fun t => (t.dev.st, t.dev.safeCause)) = some (4, 4)
    ∧ after (exec (.bootStepEnd okO) ((btS 7).setUnit ukPort 0 UnitRec.blank)) (fun t => (t.dev.st, t.dev.safeCause)) = some (4, 1) := by decide +kernel
/-- The spare of each cluster of nine usable sites is the highest one. -/
theorem test_number : after (.next ((btS 6).numberCluster 1)) (fun t => (t.siteOf 8, t.siteOf 15, t.unit ukStall 17)) = some (some 9, some 16, usFenced)
    ∧ after (.next (((btS 6).markSite 9).numberCluster 1)) (fun t => (t.siteOf 8, t.unit ukStall 9)) = some (some 10, usRetired) := by decide +kernel
theorem hyps_warm : Accepts opS 0 0x6000 (opS.authPlain 0) ∧ opS.dev.st = 2 ∧ opS.pins.thermtrip = false := by simp only [Accepts]; decide +kernel
theorem test_warm : after (exec (.devWarmReset 0) opS) (fun t => (t.dev.st, t.dev.bootStep)) = some (1, 0x11) ∧ after (exec (.bootStepEnd okO) (btS 0x12)) (fun t => t.dev.bootStep) = some 0x13
    ∧ status (exec (.devWarmReset 0) (btS 4)) = some (some 0x0402) := by decide +kernel
theorem test_power_off : after (exec .pwrgoodDeassert opS) (fun t => t.dev.st) = some 0 ∧ after (exec .brownout { opS with dev := { opS.dev with st := 5 }, pins := { opS.pins with thermtrip := true } }) (fun t => t.dev.st) = some 0
    ∧ after (exec .pwrgoodDeassert { opS with dev := { opS.dev with st := 5 }, pins := { opS.pins with thermtrip := true } }) (fun t => t.dev.st) = some 5 := by decide +kernel
/-- A record waits in the queue. -/
def erS : State := opS.event 0x40 1 2 3
theorem hyps_recorder : erS.recorder.state ≠ 2 ∧ erS.recorder.queue ≠ [] ∧ Accepts erS 0 0x9020 (erS.authPlain 0) ∧ erS.recorder.queue.length ≤ 510 := by simp only [Accepts]; decide +kernel
theorem test_recorder : after (exec (.recordFlashWrite 0) erS) (fun t => (t.recorder.queue.length, (t.recorder.find 0).map (·.p1))) = some (0, some 3) ∧ after (exec (.recordFlashWrite 1) erS) (fun t => t.recorder.state) = some 2
    ∧ after (exec (.recordFlashWrite 2) erS) (fun t => t.recorder.state) = some 1 ∧ after (exec (.erClear 0) erS) (fun t => (t.recorder.oldest, t.recorder.clears)) = some (1, 1)
    ∧ after (exec .optimePersist { opS with recorder := { opS.recorder with opsec := 77 } }) (fun t => t.recorder.opsecStored) = some 77 := by decide +kernel

/-! ## The object dictionary (chapter 22) -/

/-- The fields of a frame, apart from its type. -/
def frameFields (f : DictFrame) : List Nat × Bool × List Byte := ([f.op, f.tid, f.index, f.sub, f.status, f.seg, f.total, f.crc], f.part, f.data)
theorem readFrame_of (b : List Byte) (f : DictFrame) (h : (readFrame b).map frameFields = some (frameFields f)) : readFrame b = some f := by
  cases e : readFrame b with
  | none => simp [e] at h
  | some g => cases g; cases f; simp [e, frameFields] at h ⊢; simp [h]
/-- The frame with its CRC. -/
def DictFrameOf (op index sub seg total : Nat) (part : Bool) (data : List Byte) : DictFrame :=
  let f : DictFrame := ⟨op, 7, index, sub, 0, seg, total, part, data, 0⟩
  { f with crc := crc32c (f.head ++ f.data) }
/-- The example of the spec: WRITE, TID 0x17, index 0x5300, subindex 2, TOTAL 400, PART, 236 bytes (Table 22-11). -/
def exF : DictFrame := ⟨2, 0x17, 0x5300, 2, 0, 0, 400, true, List.replicate 236 0#8, 0⟩
theorem test_frame_head : exF.head = [0x00#8, 0x64#8, 0x87#8, 0x0C#8, 0x00#8, 0x00#8, 0x00#8, 0x02#8, 0x00#8, 0x53#8, 0x17#8, 0x12#8] := by decide +kernel
theorem hyps_dict_frame : FrameFields exF ∧ FrameFields ⟨9, 255, 65535, 255, 65535, 255, 8191, false, [], 0⟩ := by simp only [FrameFields]; decide +kernel
/-- A byte more than LEN says, or another version of the header, is no frame. -/
theorem test_frame_bad : (readFrame (DictFrameOf 1 0x6000 1 0 0 false []).bytes).isSome = true ∧ (readFrame ((DictFrameOf 1 0x6000 1 0 0 false []).bytes ++ [0#8])).isSome = false
    ∧ (readFrame (DictFrameOf 8 0x6000 1 0 0 false []).bytes).isSome = false := by decide +kernel

/-- The frames of the session of requester 0 that follow; an open transaction of TID 7. -/
def rdF : DictFrame := DictFrameOf 1 0x6000 1 0 0 false []
noncomputable def exec7 (s : State) (f : DictFrame) : Res :=
  match f.op with
  | 1 => exec (.odRead (.session 0 true) f.bytes) s
  | 2 => exec (.odWrite (.session 0 true) f.bytes ⟨false, none⟩) s
  | 3 => exec (.odSeg (.session 0 true) f.bytes) s
  | 4 => exec (.odNext (.session 0 true) f.bytes) s
  | _ => exec (.odAbort (.session 0 true) f.bytes) s
def trS (l : List Trans) : State := { opS with dict := { opS.dict with reqs := [(0, ⟨true, pathSession, 0, l, [], 0⟩)] } }
def wrT : Trans := ⟨7, true, 0x1F50, 2, 16, List.replicate 8 1#8, 1, 0⟩
def rdT : Trans := ⟨7, false, 0x1F50, 2, 240, List.replicate 240 5#8, 1, 0⟩
theorem hyps_arrives : Arrives opS (.session 0 true) rdF.bytes 0 rdF ((opS.setSession 0 { opS.session 0 with bell := opS.bell.count }).greet 0 pathSession 0) := by
  refine ⟨by decide +kernel, by decide +kernel, by decide +kernel, by decide +kernel, by decide +kernel, by decide +kernel, rfl, readFrame_of _ _ (by decide +kernel), _, rfl, by decide +kernel, rfl⟩
theorem hyps_fresh : Fresh opS 0 rdF ∧ opS.findTrans 0 7 = none ∧ (opS.requester 0).trans.length < 4 ∧ opS.earlyBoot = false ∧ (opS.odRead 0 0x6000 1).1 = 0 ∧ (opS.odRead 0 0x6000 200).1 = 0x0102
    ∧ (trS [wrT]).findTrans 0 7 = some wrT ∧ (trS [rdT]).findTrans 0 7 = some rdT := by simp only [Fresh]; decide +kernel
theorem hyps_write : opS.odWriteCheck 0 0x1F50 2 16 = 0 ∧ opS.odWriteCheck 0 0x1F50 2 15 = 0x0302 ∧ opS.odWriteCheck 0 0x6000 1 1 = 0x0201
    ∧ (opS.finishWrite 0 (DictFrameOf 2 0x1F50 2 0 16 false (List.replicate 16 1#8)) 0x1F50 2 (List.replicate 16 1#8) nothingFound).isSome = true := by decide +kernel
/-- Bits of the last message's frame. -/
def field (hi lo : Nat) (r : Res) : Option (Option Nat) := after r (fun t => t.out.getLast?.map (fun o => natBits hi lo (o.vals.getD 3 0)))
/-- READ of DEV_STATE: a RESPONSE (OP 8) of status 0 with one byte, 2; the same frame again is a repeat with the same answer. -/
theorem test_read : field 91 88 (exec7 opS rdF) = some (some 8) ∧ field 55 40 (exec7 opS rdF) = some (some 0) ∧ field 135 128 (exec7 opS rdF) = some (some 2)
    ∧ after (exec7 opS rdF) (fun t => (after (exec7 t rdF) (fun u => u.dict.repeats), field 135 128 (exec7 t rdF))) = some (some 1, some (some 2)) := by decide +kernel
theorem test_read_refused : field 55 40 (exec7 opS (DictFrameOf 1 0x6000 200 0 0 false [])) = some (some 0x0102) ∧ field 91 88 (exec7 (trS [rdT]) rdF) = some (some 9)
    ∧ field 55 40 (exec7 (trS [rdT]) rdF) = some (some 2) := by decide +kernel
/-- Four transactions are open: ABORT BUSY (1). -/
theorem test_read_busy : field 55 40 (exec7 (trS [{ rdT with tid := 1 }, { rdT with tid := 2 }, { rdT with tid := 3 }, { rdT with tid := 4 }]) rdF) = some (some 1) := by decide +kernel
/-- NEXT: segment 1 of 240 bytes holds 4. -/
theorem test_next : field 18 11 (exec7 (trS [rdT]) (DictFrameOf 4 0 0 1 0 false [])) = some (some 4) ∧ after (exec7 (trS [rdT]) (DictFrameOf 4 0 0 1 0 false [])) (fun t => (t.findTrans 0 7).isSome) = some false
    ∧ field 55 40 (exec7 (trS [rdT]) (DictFrameOf 4 0 0 2 0 false [])) = some (some 2) := by decide +kernel
theorem test_write : after (exec7 opS (DictFrameOf 2 0x1F50 2 0 16 false (List.replicate 16 1#8))) (fun t => t.val 0x1F50 2 0) = some (leNat (List.replicate 16 1#8))
    ∧ field 55 40 (exec7 opS (DictFrameOf 2 0x1F50 2 0 15 false (List.replicate 15 1#8))) = some (some 0x0302) := by decide +kernel
/-- The last segment performs the write; one of too few bytes is ABORT LENGTH (3). -/
theorem test_seg : after (exec7 (trS [wrT]) (DictFrameOf 3 0 0 1 0 false (List.replicate 8 1#8))) (fun t => (t.val 0x1F50 2 0, t.findTrans 0 7)) = some (leNat (List.replicate 16 1#8), none)
    ∧ field 55 40 (exec7 (trS [wrT]) (DictFrameOf 3 0 0 1 0 false (List.replicate 7 1#8))) = some (some 3) ∧ after (exec7 (trS [wrT]) (DictFrameOf 9 0 0 0 0 false [])) (fun t => t.findTrans 0 7) = some none := by decide +kernel

/-! ### Registers and time -/

theorem hyps_register : opS.served 0 = true ∧ (odRow 0x1F50 2).map (·.kind) = some .kept ∧ (odRow 0x1F51 1).map (·.kind) = some .staged ∧ opS.odWriteCheck 0 0x1F51 1 8 = 0 ∧ opS.writable 0x1F51 = true
    ∧ opS.plainRefusal 0x1F50 2 5 = 0 ∧ opS.plainRefusal 0x3001 1 255 = 0x0301 := by decide +kernel
theorem test_register_write : after (exec (.registerWrite (.sub 0 0x1F50 2) (leBytes 16 5)) opS) (fun t => t.val 0x1F50 2 0) = some 5 ∧ status (exec (.registerWrite (.sub 0 0x3001 1) [255#8]) opS) = some (some 0x0301)
    ∧ after (exec (.registerWrite (.sub 0 0x1F51 1) (leBytes 8 9)) opS) (fun t => t.staged 0 0x1F51 1 0) = some 9 ∧ status (exec (.registerWrite (.sub 1 0x1F51 1) (leBytes 8 9)) opS) = some (some 0x0203) := by decide +kernel
theorem test_ctxsel : after (exec (.registerWrite (.beat 1) [3#8, 4#8]) opS) (fun t => (t.proc 1).beat) = some 0x0403
    ∧ after (exec (.registerWrite (.ctxsel 31) (leBytes 8 (2 ^ 63 + 2 ^ 40 + 0xFFF))) opS) (fun t => Tab.get 0 t.fw.ctxsel 31) = some (2 ^ 63 + 0xFFF) := by decide +kernel
def sealS : State := { opS with sec := { opS.sec with seals := [(3, { Seal.blank with st := 1, tenant := 2 })] } }
theorem hyps_defaults : Accepts opS 0 0x1020 (opS.authPlain 0) ∧ Accepts sealS 0 0x1020 (sealS.authPlain 0) ∧ (sealS.seal 3).st = 1 ∧ (∀ p, p < 4 → (opS.seal p).st ≠ 1) := by simp only [Accepts]; decide +kernel
theorem test_defaults : after (exec (.odDefaults 0) opS) (fun t => t.dict.defaults) = some true ∧ status (exec (.odDefaults 0) sealS) = some (some 0x0402) := by decide +kernel
/-- The transaction of bell 0 ends at bell 2,000,000, the requester at 60,000,000. -/
theorem test_time : after (exec (.transactionTimeout 0 7) { (trS [wrT]) with bell := { opS.bell with count := 2000000 } }) (fun t => (t.findTrans 0 7, t.dict.aborts)) = some (none, 1)
    ∧ after (exec (.transactionTimeout 0 7) { (trS [wrT]) with bell := { opS.bell with count := 1999999 } }) (fun t => (t.findTrans 0 7).isSome) = some true
    ∧ after (exec (.requesterExpiry 0) { opS with bell := { opS.bell with count := 60000000 } }) (fun t => (t.requester 0).used) = some false
    ∧ after (exec (.requesterExpiry 0) { opS with bell := { opS.bell with count := 59999999 } }) (fun t => (t.requester 0).used) = some true := by decide +kernel
theorem test_persist : after (exec .persistRetry { opS with dict := { opS.dict with vals := [(dictKey 0x1F50 2, 6)], storeBad := [dictKey 0x1F50 2] } }) (fun t => (Tab.get 0 t.dict.store (dictKey 0x1F50 2), t.dict.storeBad)) = some (6, []) := by decide +kernel

end Sys2Proof.Tests
end

section
/-!
PROOFS. Tile moves (R186): the read of a clean bench, the elements of the tile registers after a load, and what TLD leaves.
-/

namespace Sys2Proof.Laws
open Sys2Proof Sys2Proof.Machine

/-! ## A core after a change of it -/

theorem core_onCore {s : State} (h : Tab.wf Core.blank s.cores = true) (c c' : Nat) (f : Core → Core) :
    (s.onCore c f).core c' = if c' = c then f (s.core c) else s.core c' :=
  tab_get_set h c c' _

/-! ## The empty mask -/

@[simp] theorem maskWhere_zero (p : Nat → Bool) : maskWhere 0#16 p = 0#16 := by
  simp [maskWhere]

@[simp] theorem liveMask_zero (s : State) : s.liveMask 0#16 = 0#16 := maskWhere_zero _

@[simp] theorem maskCancelled_zero (s : State) : s.maskCancelled 0#16 = false := by
  simp [State.maskCancelled]

/-- Work without a mask has no registers cut (R120). -/
@[simp] theorem cutTiles_zero (s : State) (c : Nat) (regs : List Nat) : s.cutTiles c 0#16 regs = s := by
  simp [State.cutTiles]

/-! ## Spans of bytes -/

@[simp] theorem tab_bytes_length (d : Byte) (t : Tab Byte) (a n : Nat) : (Tab.bytes d t a n).length = n := by
  induction n generalizing a with
  | zero => rfl
  | succ n ih => simp [Tab.bytes, ih]

theorem tab_bytes_eq_map (d : Byte) (t : Tab Byte) (a n : Nat) :
    Tab.bytes d t a n = (List.range n).map (fun i => Tab.get d t (a + i)) := by
  induction n generalizing a with
  | zero => rfl
  | succ n ih => simp [Tab.bytes, ih, List.range_succ_eq_map, Nat.add_assoc, Nat.add_comm 1]

/-- A span within a span of bytes. -/
theorem tab_bytes_drop_take (d : Byte) (t : Tab Byte) (a : Nat) {n i m : Nat} (h : i + m ≤ n) :
    ((Tab.bytes d t a n).drop i).take m = Tab.bytes d t (a + i) m := by
  apply List.ext_getElem
  · simp only [List.length_take, List.length_drop, tab_bytes_length]
    omega
  · intro j _ _
    simp [tab_bytes_eq_map, Nat.add_assoc]

/-! ## A clean bench -/

/-- No word of the bench has wrong check bits, no block is marked CANCEL or holds a draft's mask (R197, R397). -/
structure BenchClean (x : Core) : Prop where
  chk : x.benchChk = []
  cancel : x.blkCancel = []
  taint : x.blkTaint = []

theorem benchMarks_clean {x : Core} (h : BenchClean x) (off n : Nat) : x.benchMarks off n = List.replicate n false := by
  simp [Core.benchMarks, h.chk, h.cancel, Tab.get, Config.wordPoison]

theorem benchByte_clean {x : Core} (h : BenchClean x) (a : Nat) : x.benchByte a = Tab.get 0#8 x.bench a := by
  simp [Core.benchByte, h.chk, Tab.get]

/-- A read of a clean bench gives the stored bytes, without mask or poison, and changes nothing. -/
theorem benchRead_clean {s : State} {c : Nat} (h : BenchClean (s.core c)) (off n : Nat) :
    s.benchRead c off n = (s, Tab.bytes 0#8 (s.core c).bench off n, 0#16, false) := by
  have hbad : (s.core c).badWords off n = [] := by simp [Core.badWords, h.chk]
  have hmask : ∀ l : List Nat, l.foldl (fun m b => m ||| Tab.get 0#16 (s.core c).blkTaint b) 0#16 = 0#16 := by
    intro l
    simp [h.taint, Tab.get]
  simp only [State.benchRead, hbad, List.foldl_nil, List.any_nil, Bool.false_or, hmask, benchByte_clean h, tab_bytes_eq_map]
  simp [h.cancel, Tab.get]

/-! ## Tile registers -/

/-- The tables of the tile registers are canonical. -/
def TileTables (x : Core) : Prop := Tab.wf 0#32 x.tiles = true ∧ Tab.wf false x.tilePoison = true

/-- Element `k` of tile register `r`, and whether it is poisoned. -/
def tileElem (x : Core) (r k : Nat) : Word × Bool := (Tab.get 0#32 x.tiles (256 * r + k), Tab.get false x.tilePoison (256 * r + k))

theorem tileTables_setTile {x : Core} (h : TileTables x) (m : Half) (reg el : Nat) (w : Word) (b : Bool) :
    TileTables (x.setTile m reg el w b) :=
  ⟨tab_wf_set h.1 _ _, tab_wf_set h.2 _ _⟩

/-- A write of an element changes this element only: keys of different registers differ because a register has 256 elements. -/
theorem tileElem_setTile {x : Core} (h : TileTables x) (m : Half) {reg el r k : Nat} (w : Word) (b : Bool) (hel : el < 256) (hk : k < 256) :
    tileElem (x.setTile m reg el w b) r k = if r = reg ∧ k = el then (w, b) else tileElem x r k := by
  have hkey : 256 * r + k = 256 * reg + el ↔ r = reg ∧ k = el := by omega
  simp only [tileElem, Core.setTile, tab_get_set h.1, tab_get_set h.2, hkey]
  split <;> rfl

/-- The first `n` elements of register `reg` are written in ascending order. -/
def fillTile (m : Half) (reg : Nat) (v : Nat → Word × Bool) (n : Nat) (x : Core) : Core :=
  (List.range n).foldl (fun x i => x.setTile m reg i (v i).1 (v i).2) x

theorem fillTile_succ (m : Half) (reg : Nat) (v : Nat → Word × Bool) (n : Nat) (x : Core) :
    fillTile m reg v (n + 1) x = (fillTile m reg v n x).setTile m reg n (v n).1 (v n).2 := by
  simp [fillTile, List.range_succ]

theorem tileTables_fillTile {x : Core} (h : TileTables x) (m : Half) (reg : Nat) (v : Nat → Word × Bool) (n : Nat) :
    TileTables (fillTile m reg v n x) := by
  induction n with
  | zero => exact h
  | succ n ih => rw [fillTile_succ]; exact tileTables_setTile ih _ _ _ _ _

theorem tileElem_fillTile {x : Core} (h : TileTables x) (m : Half) (reg : Nat) (v : Nat → Word × Bool) {n r k : Nat} (hn : n ≤ 256) (hk : k < 256) :
    tileElem (fillTile m reg v n x) r k = if r = reg ∧ k < n then v k else tileElem x r k := by
  induction n with
  | zero => simp [fillTile]
  | succ n ih =>
    rw [fillTile_succ, tileElem_setTile (tileTables_fillTile h m reg v n) m _ _ hn hk, ih (by omega)]
    by_cases hkn : k = n
    · subst hkn; simp
    · have hlt : k < n + 1 ↔ k < n := by omega
      simp [hkn, hlt]

/-- The word and the poison of element `k` of a block of bytes with their marks. -/
def blockElem (bs : List Byte) (marks : List Bool) (k : Nat) : Word × Bool :=
  (BitVec.ofNat 32 (leNat ((bs.drop (4 * k)).take 4)), ((marks.drop (4 * k)).take 4).any id)

theorem loadTile_eq_fillTile (x : Core) (m : Half) (reg : Nat) (bs : List Byte) (marks : List Bool) :
    x.loadTile m reg bs marks = fillTile m reg (blockElem bs marks) 256 x := rfl

theorem tileTables_loadTile {x : Core} (h : TileTables x) (m : Half) (reg : Nat) (bs : List Byte) (marks : List Bool) :
    TileTables (x.loadTile m reg bs marks) := by
  rw [loadTile_eq_fillTile]
  exact tileTables_fillTile h _ _ _ _

/-- A loaded register holds the block; every other register keeps its elements. -/
theorem tileElem_loadTile {x : Core} (h : TileTables x) (m : Half) (reg : Nat) (bs : List Byte) (marks : List Bool) {r k : Nat} (hk : k < 256) :
    tileElem (x.loadTile m reg bs marks) r k = if r = reg then blockElem bs marks k else tileElem x r k := by
  rw [loadTile_eq_fillTile, tileElem_fillTile h _ _ _ (le_refl _) hk]
  simp [hk]

/-! ## Consecutive blocks into consecutive registers -/

/-- The `n` blocks of a span into the registers from `tr` upward, as TLD loads them. -/
def loadTiles (m : Half) (tr : Nat) (bs : List Byte) (marks : List Bool) (n : Nat) (x : Core) : Core :=
  (List.range n).foldl (fun x i => x.loadTile m (tr + i) ((bs.drop (1024 * i)).take 1024) ((marks.drop (1024 * i)).take 1024)) x

theorem loadTiles_succ (m : Half) (tr : Nat) (bs : List Byte) (marks : List Bool) (n : Nat) (x : Core) :
    loadTiles m tr bs marks (n + 1) x
      = (loadTiles m tr bs marks n x).loadTile m (tr + n) ((bs.drop (1024 * n)).take 1024) ((marks.drop (1024 * n)).take 1024) := by
  simp [loadTiles, List.range_succ]

theorem tileTables_loadTiles {x : Core} (h : TileTables x) (m : Half) (tr : Nat) (bs : List Byte) (marks : List Bool) (n : Nat) :
    TileTables (loadTiles m tr bs marks n x) := by
  induction n with
  | zero => exact h
  | succ n ih => rw [loadTiles_succ]; exact tileTables_loadTile ih _ _ _ _

/-- Register `tr + i` holds block `i` of the span, for each `i` below the count; every other register keeps its elements. -/
theorem tileElem_loadTiles {x : Core} (h : TileTables x) (m : Half) (tr : Nat) (bs : List Byte) (marks : List Bool) (n : Nat) {r k : Nat} (hk : k < 256) :
    tileElem (loadTiles m tr bs marks n x) r k
      = if tr ≤ r ∧ r < tr + n then blockElem ((bs.drop (1024 * (r - tr))).take 1024) ((marks.drop (1024 * (r - tr))).take 1024) k
        else tileElem x r k := by
  induction n with
  | zero => rw [if_neg (by omega)]; rfl
  | succ n ih =>
    rw [loadTiles_succ, tileElem_loadTile (tileTables_loadTiles h m tr bs marks n) _ _ _ _ hk, ih]
    by_cases hr : r = tr + n
    · subst hr
      rw [if_pos rfl, if_pos (by omega), Nat.add_sub_cancel_left]
    · have hlt : r < tr + (n + 1) ↔ r < tr + n := by omega
      simp only [if_neg hr, hlt]

/-- Element `k` of block `i` of a span of the bench without marks: the little-endian word at its place, not poisoned. -/
theorem blockElem_bytes (t : Tab Byte) (a : Nat) {n i k : Nat} (hi : i < n) (hk : k < 256) :
    blockElem (((Tab.bytes 0#8 t a (1024 * n)).drop (1024 * i)).take 1024) (((List.replicate (1024 * n) false).drop (1024 * i)).take 1024) k
      = (BitVec.ofNat 32 (Tab.le 0#8 t (a + 1024 * i + 4 * k) 4), false) := by
  rw [tab_bytes_drop_take _ _ _ (by omega), blockElem, tab_bytes_drop_take _ _ _ (by omega)]
  simp [Tab.le]

/-! ## TLD -/

/-- TLD of clean blocks by work without a mask: the bytes of the span go to the registers, and nothing else changes (R186). -/
theorem moveTld_clean {s : State} {c : Nat} {e : VecEntry} (hx : BenchClean (s.core c)) (he : e.taint = 0#16) :
    s.moveTld c e = .ran
      (s.onCore c (loadTiles 0#16 (moveTr e.payload)
        (Tab.bytes 0#8 (s.core c).bench (1024 * moveBlk e.payload) (1024 * moveCnt e.payload))
        (List.replicate (1024 * moveCnt e.payload) false) (moveCnt e.payload)))
      ⟨[], e.scen, e.sc, [], 0#16, e.index⟩ := by
  have hm : (0#16 ||| 0#16 : Half) = 0#16 := rfl
  simp only [State.moveTld, benchRead_clean hx, benchMarks_clean hx, he, hm, liveMask_zero, cutTiles_zero]
  rfl

theorem vecExec_tld {s : State} {c : Nat} {e : VecEntry} (hmove : e.move = true) (hbad : moveBad e.payload = false) (hop : moveOp e.payload = 0) :
    s.vecExec c e = s.moveTld c e := by
  simp [State.vecExec, hmove, hbad, hop]

/-- The elements after the registers from `tr` upward are loaded from `n` clean blocks of the bench from block `blk` on. -/
theorem tileElem_loadTiles_bench {x : Core} (h : TileTables x) (tr blk n : Nat) {r k : Nat} (hk : k < 256) :
    tileElem (loadTiles 0#16 tr (Tab.bytes 0#8 x.bench (1024 * blk) (1024 * n)) (List.replicate (1024 * n) false) n x) r k
      = if tr ≤ r ∧ r < tr + n then (BitVec.ofNat 32 (Tab.le 0#8 x.bench (1024 * (blk + (r - tr)) + 4 * k) 4), false)
        else tileElem x r k := by
  rw [tileElem_loadTiles h _ _ _ _ _ hk]
  split
  · rw [blockElem_bytes _ _ (by omega) hk, Nat.mul_add]
  · rfl

/-- Settles O8: TLD reads the clean span as it stands and fills one register per block. -/
theorem tileMoves : Obligations.TileMoves := by
  unfold Obligations.TileMoves
  rintro s c e x rfl hmove hbad hop htaint hchk hcancel hblk hcores htiles hpoison
  have hclean : BenchClean (s.core c) := ⟨hchk, hcancel, hblk⟩
  have helem := fun r k hk => tileElem_loadTiles_bench (x := s.core c) ⟨htiles, hpoison⟩
    (moveTr e.payload) (moveBlk e.payload) (moveCnt e.payload) (r := r) (k := k) hk
  refine ⟨_, _, (vecExec_tld hmove hbad hop).trans (moveTld_clean hclean htaint), rfl, rfl, ?_, ?_⟩
  · intro r k hk
    rw [core_onCore hcores, if_pos rfl]
    exact (congrArg Prod.fst (helem r k hk)).trans (apply_ite Prod.fst _ _ _)
  · intro r k hk
    rw [core_onCore hcores, if_pos rfl]
    exact (congrArg Prod.snd (helem r k hk)).trans (apply_ite Prod.snd _ _ _)

end Sys2Proof.Laws
end

section
/-!
PROOFS. Losses of cores and clusters and the ports' training (R21, R22, R418, R419, R608, R609): what a loss does to a unit that can be
lost, what an error at a bond wire does by its count, and where a port's training ends.
-/

namespace Sys2Proof.Laws
open Sys2Proof Sys2Proof.Machine

/-! ## Losses -/

/-- The runs of scope 1, 5 and 6 of a core: a loss of the core drops them. -/
def runOfCore (c : Nat) (r : ResetRun) : Bool :=
  decide (r.scope = 1 ∧ r.index = c ∨ (r.scope = 5 ∨ r.scope = 6) ∧ r.index = unitKey ukCore c)

/-- A core that has a site, does not move and is neither OFF nor RETIRED drains for its move to the cluster's spare, if any (R21, R608). -/
theorem loseCore_of_live {s : State} {c site : Nat} (hsite : s.siteOf c = some site) (hmove : s.moveOf c = none)
    (hoff : s.unit ukCore c ≠ usOff) (hret : s.unit ukCore c ≠ usRetired) (reason : Nat) {s1 : State} (hs1 : (s.markSite site).dropRun (runOfCore c) = s1) :
    s.loseCore c reason = (s1.onDev (fun d => { d with
      moves := d.moves ++ [⟨c, site, (s1.spareFor (c / 8)).getD 288, false, false, false, reason⟩] })).drainUnit ukCore c reason := by
  subst hs1
  have hlive : ¬ ((s.moveOf c).isSome ∨ s.unit ukCore c = usOff ∨ s.unit ukCore c = usRetired) := by simp [hmove, hoff, hret]
  simp only [State.loseCore, hsite, if_neg hlive]
  rfl

/-- A cluster that is neither RETIRED nor OFF and whose loss is not under way drains with its cores (R22). -/
theorem loseCluster_of_live {s : State} {k : Nat} (hret : s.unit ukCluster k ≠ usRetired) (hoff : s.unit ukCluster k ≠ usOff)
    (hrun : s.dev.resets.any (fun r => decide (r.scope = 8 ∧ r.index = k)) = false) :
    s.loseCluster k = (((s.dropRun (fun r => inCluster k r || decide (r.scope = 2 ∧ r.index = k)
      || decide ((r.scope = 5 ∨ r.scope = 6) ∧ r.index = unitKey ukCluster k))).addRun ⟨8, k, false, false, 0⟩).drainCluster k 7).settleUnits := by
  have hlive : ¬ (s.unit ukCluster k = usRetired ∨ s.unit ukCluster k = usOff
      ∨ s.dev.resets.any (fun r => decide (r.scope = 8 ∧ r.index = k)) = true) := by simp only [hret, hoff, hrun]; decide
  rw [State.loseCluster, if_neg hlive]

/-! ## Moves to the spare site -/

/-- The home stall's copy follows the drain: its queued fold-ins are applied first (R608). -/
theorem execStallCopyComplete_drained {s : State} {core : CoreIx} {m : MoveRun} (hm : s.moveOf core = some m) (hd : m.drained = true) :
    execStallCopyComplete core s = .next (((((Tab.get [] s.market.foldQ core).map (fun r => r.sector / 4)).eraseDups.foldl State.drainLine s).setMove
      { m with copied := true })) := by
  simp only [execStallCopyComplete, hm, hd]
  rfl

/-- A known-answer run that passes ends the move of a copied core (R608). -/
theorem execMoveComplete_pass {s : State} {core : CoreIx} {m : MoveRun} (hm : s.moveOf core = some m) (hd : m.drained = true)
    (hp : m.powered = true) (hc : m.copied = true) : execMoveComplete core true s = .next (s.moveDone m) := by
  simp [execMoveComplete, hm, hd, hp, hc]

/-- A known-answer run that fails fails the move, copied or not (R608). -/
theorem execMoveComplete_fail {s : State} {core : CoreIx} {m : MoveRun} (hm : s.moveOf core = some m) (hd : m.drained = true)
    (hp : m.powered = true) : execMoveComplete core false s = .next (s.moveFailed m 1) := by
  simp [execMoveComplete, hm, hd, hp]

/-! ## Errors at bond wires -/

section
variable {s : State} {unit : Fin 320} {group : Fin 256} {wire : Fin 34} {g w old : Nat}
  (hg : unit.val * 256 + group.val = g) (hw : g * 64 + wire.val = w) (hold : Tab.get 0 s.dev.bondErrors w = old)
include hg hw hold

/-- The first error of a wire starts its window of 1 ms: the count 1 stands with the bell of the error (R609). -/
theorem execBondError_first (h0 : old = 0) :
    execBondError unit group wire s = .next (s.onDev (fun d => { d with bondErrors := Tab.set 0 d.bondErrors w ((s.bell.count + 1) * 8 + 1) })) := by
  subst hg hw
  simp [execBondError, hold, h0]

section
variable (h0 : old ≠ 0) (hin : s.bell.count < old / 8 - 1 + 1000) (h3 : 3 ≤ old % 8)
include h0 hin h3

/-- The fourth error within the window replaces the wire while the group has a spare (R609). -/
theorem execBondError_repair (hused : Tab.get 0 s.dev.bondRepairs g < 2) {s1 : State}
    (hs1 : s.onDev (fun d => { d with bondErrors := Tab.set 0 d.bondErrors w 0 }) = s1) :
    execBondError unit group wire s = .next ((s1.onDev (fun d => { d with
      bondRepairs := Tab.set 0 d.bondRepairs g (Tab.get 0 s.dev.bondRepairs g + 1) })).onThermal (fun t => { t with bondSpares := t.bondSpares + 1 })) := by
  subst hg hw hs1
  simp [execBondError, hold, h0, hin, show ¬ old % 8 + 1 < 4 by omega, hused]

/-- The third replacement in a group of a site loses the core there (R609). -/
theorem execBondError_loses_core (hused : 2 ≤ Tab.get 0 s.dev.bondRepairs g) {t : State}
    (ht : (s.onDev (fun d => { d with bondErrors := Tab.set 0 d.bondErrors w 0 })).onThermal (fun t => { t with bondLost := t.bondLost + 1 }) = t)
    {c : Nat} (hsite : unit.val < 288) (hc : t.coreAt unit = some c) :
    execBondError unit group wire s = .next (t.loseCore c 2).settleUnits := by
  subst hg hw ht
  simp [execBondError, hold, h0, hin, show ¬ old % 8 + 1 < 4 by omega, hused.not_gt, hsite, hc]

/-- The third replacement in a group of a cluster loses the cluster (R22, R609). -/
theorem execBondError_loses_cluster (hused : 2 ≤ Tab.get 0 s.dev.bondRepairs g) {t : State}
    (ht : (s.onDev (fun d => { d with bondErrors := Tab.set 0 d.bondErrors w 0 })).onThermal (fun t => { t with bondLost := t.bondLost + 1 }) = t)
    (hcluster : 288 ≤ unit.val) :
    execBondError unit group wire s = .next (t.loseCluster (unit - 288)) := by
  subst hg hw ht
  simp [execBondError, hold, h0, hin, show ¬ old % 8 + 1 < 4 by omega, hused.not_gt, hcluster.not_gt]

end
end

/-! ## Ports -/

/-- The lanes a port uses of those that trained: all four, else the lower pair, else the upper pair, else none (R419). -/
def usableLanes (m : Nat) : Nat := if m = 15 then 15 else if m % 4 = 3 then 3 else if m / 4 = 3 then 12 else 0

/-- The state of a port that uses these lanes (R419). -/
def portState (use : Nat) : Nat := if use = 15 then usReady else if use ≠ 0 then usDegraded else usFenced

/-- Only a port with all its lanes is READY. -/
theorem portState_eq_ready_iff {use : Nat} : portState use = usReady ↔ use = 15 := by
  unfold portState
  split
  · simp_all
  · split <;> simp_all [usReady, usDegraded, usFenced]

/-- The port with its lanes, the speed they give and its state after the training. -/
def trainedPort (s : State) (i use st : Nat) : State :=
  (s.setPort i { s.port i with speed := if use = 15 then 800 else if use ≠ 0 then 400 else 0, lanes := use }).moveUnit ukPort i st 9

section
variable {s t : State} {i : Fin 18} {lanes : Fin 16} {use st : Nat} (h : s.unit ukPort i = usTesting)
  (huse : usableLanes lanes = use) (hst : portState use = st) (ht : trainedPort s i use st = t)
include h huse hst ht

/-- A port whose four lanes trained is READY, which needs no record (R419). -/
theorem execPortTrainingEnd_ready (hall : use = 15) : execPortTrainingEnd i lanes s = .next t.settleUnits := by
  subst huse hst ht
  rw [execPortTrainingEnd, if_neg (not_not_intro h)]
  exact congrArg Host.Outcome.next (if_pos (portState_eq_ready_iff.2 hall))

/-- A port that trained with fewer lanes is recorded with the state they decide (R419). -/
theorem execPortTrainingEnd_recorded (hfew : use ≠ 15) : execPortTrainingEnd i lanes s = .next (t.event 0x40 1 i st).settleUnits := by
  subst huse hst ht
  rw [execPortTrainingEnd, if_neg (not_not_intro h)]
  exact congrArg Host.Outcome.next (if_neg (mt portState_eq_ready_iff.1 hfew))

end

/-- Settles O54: each part is what its operation does on a unit that the part's hypotheses describe. -/
theorem lossesAndPorts : Obligations.LossesAndPorts := by
  unfold Obligations.LossesAndPorts
  refine ⟨?_, ?_, ?_, ?_, ?_⟩
  · intro s core reason site hsite hmove hoff hret s1 hs1
    rw [exec_coreLoss, execCoreLoss, loseCore_of_live hsite hmove hoff hret _ hs1]
  · intro s core m hm hd
    exact ⟨execStallCopyComplete_drained hm hd, execMoveComplete_pass hm hd, execMoveComplete_fail hm hd⟩
  · rintro s k hret hoff hrun s1 rfl
    rw [exec_clusterFail, execClusterFail, loseCluster_of_live hret hoff hrun]
  · rintro s s1 unit group wire g w old hg hw hold rfl
    refine ⟨execBondError_first hg hw hold, fun h0 hin h3 => ⟨fun hused => execBondError_repair hg hw hold h0 hin h3 hused rfl, ?_⟩⟩
    intro hused t ht
    exact ⟨fun c => execBondError_loses_core hg hw hold h0 hin h3 hused ht, execBondError_loses_cluster hg hw hold h0 hin h3 hused ht⟩
  · intro s i
    refine ⟨fun h => ?_, fun hfenced hserving => ?_, fun who hacc hlive => ?_, ?_⟩
    · rw [exec_portFailure, execPortFailure, if_pos h]
    · rw [exec_portRetryTrain, execPortRetryTrain, if_pos ⟨hfenced, hserving⟩]
    · rw [exec_fpRetrain, execFpRetrain, command_accepts hacc, if_pos hlive]
    · intro lanes use st htest huse hst t ht
      exact ⟨execPortTrainingEnd_ready htest huse hst ht, execPortTrainingEnd_recorded htest huse hst ht⟩

end Sys2Proof.Laws
end

section
/-!
PROOFS. Integer fold-ins (R50): they are sums modulo `2 ^ w`, which commute.
-/

namespace Sys2Proof.Laws
open Sys2Proof Sys2Proof.Machine

/-- An INT32 fold-in has the sum of R50 and no flag. -/
@[simp] theorem foldElem_int32 (anchor : Int) (old : Nat) (x : Int) :
    foldElem 0xD anchor old (.int x) = (foldInt 32 old x, FoldFlags.none) := rfl

/-- An INT64 fold-in has the sum of R50 and no flag. -/
@[simp] theorem foldElem_int64 (anchor : Int) (old : Nat) (x : Int) :
    foldElem 0xE anchor old (.int x) = (foldInt 64 old x, FoldFlags.none) := rfl

/-- The element after a fold-in is the sum modulo `2 ^ w`, which is not negative. -/
theorem coe_foldInt (w old : Nat) (x : Int) : (foldInt w old x : Int) = ((old : Int) + x) % 2 ^ w :=
  Int.toNat_of_nonneg (Int.emod_nonneg _ (by positivity))

/-- Two fold-ins commute: a remainder taken between two additions is lost in the remainder taken after them. -/
theorem foldInt_right_comm (w old : Nat) (x y : Int) : foldInt w (foldInt w old x) y = foldInt w (foldInt w old y) x := by
  have hcoe : (foldInt w (foldInt w old x) y : Int) = foldInt w (foldInt w old y) x := by
    simp only [coe_foldInt, Int.emod_add_emod]
    rw [add_right_comm]
  exact_mod_cast hcoe

/-- Any two orders of the same fold-ins leave the same element. -/
theorem foldl_foldInt_perm (w old : Nat) {l m : List Int} (h : l.Perm m) : l.foldl (foldInt w) old = m.foldl (foldInt w) old :=
  h.foldl_eq' (fun x _ y _ o => foldInt_right_comm w o x y) old

/-- Settles O5: the sum is that of `foldInt`, whose fold-ins commute. -/
theorem integerFoldIns : Obligations.IntegerFoldIns := by
  unfold Obligations.IntegerFoldIns
  refine ⟨fun anchor old x => ?_, fun fmt anchor old l m hfmt hperm => ?_⟩
  · simp only [foldElem_int32, foldElem_int64, coe_foldInt, and_self]
  · obtain rfl | rfl := hfmt
    · exact foldl_foldInt_perm 32 old hperm
    · exact foldl_foldInt_perm 64 old hperm

end Sys2Proof.Laws
end

section
/-!
PROOFS. The market, HBM, the error log and the pager leave the cores as they are (one `_cores` lemma per operation that a read by virtual
address goes through); what a read of a core's unit leaves of that core (R197, R247).
-/

namespace Sys2Proof.Laws
open Sys2Proof Sys2Proof.Machine

/-- Both outcomes of a test leave the cores as they are. -/
theorem fst_ite_cores {α : Type} {p : Prop} [Decidable p] {a b : State × α} {c : Tab Core} (ha : a.1.cores = c) (hb : b.1.cores = c) :
    (if p then a else b).1.cores = c := by
  split
  · exact ha
  · exact hb

/-- A fold of operations that leave the cores as they are does so. -/
theorem foldl_cores {α : Type} {g : State → α → State} (hg : ∀ s a, (g s a).cores = s.cores) (l : List α) (s : State) :
    (l.foldl g s).cores = s.cores :=
  l.foldlRecOn g (motive := fun t => t.cores = s.cores) rfl (fun t ht a _ => (hg t a).trans ht)

/-- A fold of operations that may find no place leaves the cores as they are where it succeeds. -/
theorem foldl_bind_cores {α : Type} {g : State → α → Option State} (hg : ∀ s a t, g s a = some t → t.cores = s.cores) (l : List α) {s t : State}
    (h : l.foldl (fun o a => o.bind (fun s => g s a)) (some s) = some t) : t.cores = s.cores := by
  refine l.foldlRecOn _ (motive := fun o => ∀ t, o = some t → t.cores = s.cores) ?_ ?_ t h
  · rintro _ ⟨⟩
    rfl
  · intro o ho a _ t ht
    obtain ⟨u, rfl, hu⟩ := Option.bind_eq_some_iff.1 ht
    exact (hg u a t hu).trans (ho u rfl)

section
variable (s : State)

/-! ## The error log -/

@[simp] theorem eccNote_cores (kind mem unit symbol addr : Nat) : (s.eccNote kind mem unit symbol addr).cores = s.cores := by
  unfold State.eccNote
  dsimp only
  split <;> rfl

@[simp] theorem eccCorrected_cores (mem unit symbol addr : Nat) : (s.eccCorrected mem unit symbol addr).cores = s.cores :=
  eccNote_cores _ _ _ _ _ _

@[simp] theorem eccFresh_cores (kind mem unit addr : Nat) : (s.eccFresh kind mem unit addr).cores = s.cores :=
  eccNote_cores _ _ _ _ _ _

@[simp] theorem eccPoisonRead_cores : s.eccPoisonRead.cores = s.cores := rfl
@[simp] theorem eccPoisonFold_cores (t : State) : (s.eccPoisonFold t).cores = t.cores := rfl
@[simp] theorem eccWroteBack_cores (mem unit symbol addr : Nat) : (s.eccWroteBack mem unit symbol addr).cores = s.cores := rfl

/-! ## HBM -/

@[simp] theorem setStack_cores (j : Nat) (k : Stack) : (s.setStack j k).cores = s.cores := rfl
@[simp] theorem setHbmSector_cores (n : Nat) (x : HbmSector) : (s.setHbmSector n x).cores = s.cores := rfl
@[simp] theorem hbmAccept_cores (acc : Acc) (addr kind : Nat) : (s.hbmAccept acc addr kind).cores = s.cores := rfl

@[simp] theorem hbmChecked_cores (n : Nat) : (s.hbmChecked n).1.cores = s.cores := by
  unfold State.hbmChecked
  dsimp only
  split
  · rfl
  · split
    case h_3 => split <;> simp
    all_goals simp

@[simp] theorem hbmReadNow_cores (acc : Acc) (n : Nat) : (s.hbmReadNow acc n).1.cores = s.cores := by
  simp [State.hbmReadNow]

@[simp] theorem hbmWriteNow_cores (acc : Acc) (n : Nat) (x : HbmSector) : (s.hbmWriteNow acc n x).cores = s.cores := by
  unfold State.hbmWriteNow
  dsimp only
  split <;> simp

@[simp] theorem mergeLost_cores (j : Nat) : (s.mergeLost j).cores = s.cores := rfl

@[simp] theorem mergeNow_cores (m : MergeReq) : (s.mergeNow m).cores = s.cores := by
  unfold State.mergeNow
  dsimp only
  split <;> simp

@[simp] theorem settleMerges_cores (n : Nat) : (s.settleMerges n).cores = s.cores := by
  unfold State.settleMerges
  dsimp only
  split
  · simp [foldl_cores mergeNow_cores]
  · rfl

@[simp] theorem settleRange_cores (lo n : Nat) : (s.settleRange lo n).cores = s.cores :=
  foldl_cores settleMerges_cores _ _

@[simp] theorem hbmRead_cores (acc : Acc) (n : Nat) : (s.hbmRead acc n).1.cores = s.cores := by
  simp [State.hbmRead]

@[simp] theorem hbmWrite_cores (acc : Acc) (n : Nat) (x : HbmSector) : (s.hbmWrite acc n x).cores = s.cores := by
  simp [State.hbmWrite]

@[simp] theorem hbmMerge_cores (acc : Acc) (n : Nat) (x : Sector) : (s.hbmMerge acc n x).cores = s.cores := by
  unfold State.hbmMerge
  dsimp only
  split <;> simp

/-! ## Lines and ways of the market -/

@[simp] theorem setSector_cores (n : Nat) (x : Sector) : (s.setSector n x).cores = s.cores := rfl
@[simp] theorem setLine_cores (l : Nat) (x : LineRec) : (s.setLine l x).cores = s.cores := rfl
@[simp] theorem setShWay_cores (l row1 : Nat) : (s.setShWay l row1).cores = s.cores := rfl
@[simp] theorem setFrame_cores (q f : Nat) (r : FrameRole) : (s.setFrame q f r).cores = s.cores := rfl

@[simp] theorem readOut_cores (n : Nat) (x : Sector) : (s.readOut n x).1.cores = s.cores := by
  unfold State.readOut
  dsimp only
  split <;> simp

@[simp] theorem writeBackSector_cores (acc : Acc) (n : Nat) : (s.writeBackSector acc n).cores = s.cores := by
  unfold State.writeBackSector
  dsimp only
  split
  case h_1 => split <;> simp
  all_goals simp

@[simp] theorem evictLine_cores (acc : Acc) (l : Nat) : (s.evictLine acc l).cores = s.cores :=
  foldl_cores (g := fun s n => s.writeBackSector acc n) (fun s n => writeBackSector_cores s acc n) _ _

@[simp] theorem touch_cores (l : Nat) : (s.touch l).cores = s.cores := by
  unfold State.touch
  dsimp only
  split <;> rfl

/-! ## Records for the starter -/

@[simp] theorem mirrorTo_cores (e : Nat) (r : MirRec) : (s.mirrorTo e r).cores = s.cores := rfl

@[simp] theorem mirror_cores (mir : Option (Nat × Nat)) (n kind fmt : Nat) (anchor : Int) (emask : Half) (body : List Byte) :
    (s.mirror mir n kind fmt anchor emask body).cores = s.cores := by
  unfold State.mirror
  split
  · rfl
  · split <;> simp

@[simp] theorem mirrorHeld_cores (mir : Option (Nat × Nat)) : (s.mirrorHeld mir).cores = s.cores := by
  unfold State.mirrorHeld
  split <;> rfl

/-! ## Views of a sector -/

@[simp] theorem staleRead_cores : s.staleRead.cores = s.cores := rfl

@[simp] theorem backing_cores (acc : Acc) (n : Nat) : (s.backing acc n).1.cores = s.cores := by
  unfold State.backing
  split <;> simp

@[simp] theorem checkSector_cores (acc : Acc) (n : Nat) : (s.checkSector acc n).1.cores = s.cores := by
  unfold State.checkSector
  dsimp only
  split
  case h_3 => split <;> simp
  case h_4 => split <;> simp
  all_goals simp

@[simp] theorem baseView_cores (acc : Acc) (n : Nat) : (s.baseView acc n).1.cores = s.cores := by
  unfold State.baseView
  dsimp only
  split
  case h_3 => split <;> simp
  case h_4 => split <;> simp
  all_goals simp

@[simp] theorem draftView_cores (acc : Acc) (n : Nat) : (s.draftView acc n).1.cores = s.cores := by
  unfold State.draftView
  dsimp only
  split
  case h_1 => split <;> simp
  all_goals simp

@[simp] theorem dropSector_cores (n : Nat) : (s.dropSector n).cores = s.cores := by
  unfold State.dropSector
  dsimp only
  split <;> simp

@[simp] theorem lastUse_cores (n : Nat) : (s.lastUse n).cores = s.cores := by
  simp [State.lastUse]

/-! ## Fold-ins -/

@[simp] theorem foldCount_cores (e : FoldEnd) : (s.foldCount e).cores = s.cores := rfl

@[simp] theorem foldBase_cores (acc : Acc) (n fmt : Nat) (elems : List (Nat × FoldOperand)) : (s.foldBase acc n fmt elems).1.cores = s.cores := by
  unfold State.foldBase
  dsimp only
  split
  case h_1 => split <;> simp
  case h_4 =>
    split
    · simp
    · split <;> simp
  all_goals simp

@[simp] theorem foldDraft_cores (acc : Acc) (n fmt : Nat) (elems : List (Nat × FoldOperand)) : (s.foldDraft acc n fmt elems).1.cores = s.cores := by
  unfold State.foldDraft
  dsimp only
  split
  case h_1 => simp
  case h_3 =>
    split
    · rfl
    · split <;> simp
  all_goals split <;> simp

end

section
variable {s t : State} {acc : Acc}

theorem takeWay_cores {stall set r : Nat} (h : s.takeWay acc stall set = some (t, r)) : t.cores = s.cores := by
  unfold State.takeWay at h
  dsimp only at h
  split at h
  · cases h; rfl
  · split at h
    · cases h; simp
    · cases h

theorem ensureLine_cores {l : Nat} (h : s.ensureLine acc l = some t) : t.cores = s.cores := by
  unfold State.ensureLine at h
  split at h
  · cases h; rfl
  split at h
  · cases h; simp
  split at h
  · cases h
  split at h
  · cases h
  · rename_i hway
    cases h
    simp [takeWay_cores hway]

theorem ensureShadow_cores {l : Nat} {m : Half} (h : s.ensureShadow acc l m = some t) : t.cores = s.cores := by
  unfold State.ensureShadow at h
  dsimp only at h
  split at h
  · cases h; rfl
  split at h
  · cases h
  split at h
  · cases h
  split at h
  · cases h
  · rename_i hway
    cases h
    simp [takeWay_cores hway]

end

section
variable (s : State)

@[simp] theorem foldApply_cores (acc : Acc) (n fmt : Nat) (elems : List (Nat × FoldOperand)) : (s.foldApply acc n fmt elems).1.cores = s.cores := by
  unfold State.foldApply
  dsimp only
  split
  · rfl
  split
  · rfl
  split
  · rfl
  split
  · simp
  split
  · rfl
  · rename_i s1 hs1
    have h1 : s1.cores = s.cores := by
      split at hs1
      · exact ensureLine_cores hs1
      · exact ensureShadow_cores hs1
    rw [foldCount_cores]
    split <;> simp [h1]

theorem drainOne_cores (p : State × List FoldReq) (r : FoldReq) : (drainOne p r).1.cores = p.1.cores := by
  unfold drainOne
  split
  · rfl
  · dsimp only
    split <;> simp

@[simp] theorem drainLine_cores (l : Nat) : (s.drainLine l).cores = s.cores := by
  unfold State.drainLine
  split
  · rfl
  · dsimp only
    split
    · exact List.foldlRecOn (b := (s, [])) _ drainOne (motive := fun p => p.1.cores = s.cores) rfl
        (fun p hp r _ => (drainOne_cores p r).trans hp)
    · rfl

@[simp] theorem readSector_cores (acc : Acc) (n : Nat) : (s.readSector acc n).1.cores = s.cores := by
  unfold State.readSector
  dsimp only
  split
  · rfl
  split
  · rfl
  split
  · rfl
  split
  · rfl
  rename_i s1 hline
  have hs1 : s1.cores = s.cores := (ensureLine_cores hline).trans (drainLine_cores s _)
  have hview (p : Prop) [Decidable p] : (if p then s1.draftView acc n else s1.baseView acc n).1.cores = s.cores :=
    fst_ite_cores ((draftView_cores s1 acc n).trans hs1) ((baseView_cores s1 acc n).trans hs1)
  split
  · split
    · rfl
    · rename_i s2 hshadow
      exact (ensureShadow_cores hshadow).trans (hview _)
  · refine fst_ite_cores (fst_ite_cores ?_ (fst_ite_cores ?_ ?_)) (hview _)
    · exact (lastUse_cores _ _).trans (hview _)
    · exact (setSector_cores _ _ _).trans (hview _)
    · exact hview _

/-! ## The pager -/

@[simp] theorem setCtx_cores (c : Nat) (x : Ctx) : (s.setCtx c x).cores = s.cores := rfl
@[simp] theorem setPage_cores (k : Nat) (p : Page) : (s.setPage k p).cores = s.cores := rfl
@[simp] theorem forgetSectors_cores (lo n : Nat) : (s.forgetSectors lo n).cores = s.cores := rfl

@[simp] theorem zeroHbm_cores (lo n : Nat) : (s.zeroHbm lo n).cores = s.cores :=
  settleRange_cores s lo n

@[simp] theorem trFault_cores (w : Who) (ctx va cause : Nat) : (s.trFault w ctx va cause).cores = s.cores := rfl

end

theorem getD_cores {o : Option State} {d : State} {c : Tab Core} (ho : ∀ t, o = some t → t.cores = c) (hd : d.cores = c) : (o.getD d).cores = c := by
  cases o with
  | none => exact hd
  | some t => exact ho t rfl

theorem vacateFrame_cores {s t : State} {q f : Nat} (h : s.vacateFrame q f = some t) : t.cores = s.cores := by
  unfold State.vacateFrame at h
  dsimp only at h
  split at h
  · cases h
  obtain ⟨s3, hmoved, rfl⟩ := Option.map_eq_some_iff.1 h
  rw [setFrame_cores, foldl_bind_cores ?_ _ hmoved, setFrame_cores]
  · exact foldl_cores (g := fun s l => (s.drainLine l).evictLine Acc.plain l) (fun s l => by simp) _ _
  · intro s1 l s2 hway
    split at hway
    · cases hway
    · obtain ⟨⟨s3, r⟩, hr, rfl⟩ := Option.map_eq_some_iff.1 hway
      exact (setShWay_cores _ _ _).trans (takeWay_cores hr)

theorem takeFrames_cores {r : FrameRole} {q : Nat} : ∀ {n f : Nat} {s t : State}, State.takeFrames r q n f s = some t → t.cores = s.cores
  | 0, f, s, t, h => by cases h; rfl
  | n + 1, f, s, t, h => by
    unfold State.takeFrames at h
    split at h
    · exact takeFrames_cores h
    · split at h
      · cases h
      · rename_i s1 hs1
        exact (takeFrames_cores h).trans ((setFrame_cores _ _ _ _).trans (vacateFrame_cores hs1))

section
variable (s : State)

@[simp] theorem allocPage_cores (ctx va : Nat) (attr : Word) (t : TierStart) (place : Bool) :
    (s.allocPage ctx va attr t place).1.cores = s.cores := by
  unfold State.allocPage
  dsimp only
  split
  · rfl
  split
  · rfl
  refine getD_cores (fun t ht => ?_) (zeroHbm_cores s _ _)
  split at ht
  · split at ht
    · cases ht
    · obtain ⟨u, hu, rfl⟩ := Option.map_eq_some_iff.1 ht
      exact (takeFrames_cores hu).trans (zeroHbm_cores s _ _)
  · cases ht

@[simp] theorem translate_cores (w : Who) (ctx va : Nat) (write : Bool) : (s.translate w ctx va write).1.cores = s.cores := by
  unfold State.translate
  split
  · rfl
  split
  · rfl
  dsimp only
  generalize ha : (if (s.page _).v then (s, none) else _ : State × Option Nat) = a
  have hpage : a.1.cores = s.cores := by
    subst ha
    split
    · rfl
    · split <;> simp
  split
  · rfl
  · exact hpage

end

/-! ## What a read leaves of its own core -/

/-- A key holds what it was set to, in any table, unless it was set to what an unlisted key reads as. -/
theorem tab_get_set_self {α : Type} [DecidableEq α] {d : α} (t : Tab α) (k : Nat) {v : α} (hv : v ≠ d) : Tab.get d (Tab.set d t k v) k = v := by
  induction t with
  | nil => simp [Tab.set, Tab.get, hv]
  | cons e r ih =>
    obtain ⟨k', v'⟩ := e
    simp only [Tab.set, hv, if_false]
    split
    · simp [Tab.get]
    · split
      · simp [Tab.get]
      · simp [Tab.get, *]

theorem core_of_cores {s t : State} (h : t.cores = s.cores) (c : Nat) : t.core c = s.core c := by
  simp only [State.core, h]

/-- A core whose array has work holds what it was set to: it is not the blank core. -/
theorem core_setCore_self (s : State) (c : Nat) {x : Core} (hx : x.arrQ ≠ []) : (s.setCore c x).core c = x :=
  tab_get_set_self _ _ (fun h => hx (by rw [h]; rfl))

section
variable {c : Nat} {q : List PassEntry} (hq : q ≠ [])
include hq

theorem checkBenchWord_arrQ {s : State} (h : (s.core c).arrQ = q) (w : Nat × Byte) : ((State.checkBenchWord c s w).core c).arrQ = q := by
  unfold State.checkBenchWord
  dsimp only
  split
  · exact h
  split
  · split
    · rw [core_of_cores (eccWroteBack_cores _ _ _ _ _), core_setCore_self _ _ (by simpa [h] using hq)]
      exact h
    · rw [core_of_cores (eccCorrected_cores _ _ _ _ _), h]
  · rw [core_setCore_self _ _ (by simpa [h] using hq)]
    exact h

theorem benchRead_arrQ {s : State} (h : (s.core c).arrQ = q) (off n : Nat) : ((s.benchRead c off n).1.core c).arrQ = q :=
  List.foldlRecOn _ (State.checkBenchWord c) (motive := fun t => (t.core c).arrQ = q) h (fun _ ht w _ => checkBenchWord_arrQ hq ht w)

theorem staleBy_arrQ {s : State} (h : (s.core c).arrQ = q) (stale : Bool) : ((s.staleBy c stale).core c).arrQ = q := by
  unfold State.staleBy
  split
  · rw [State.onCore, core_setCore_self _ _ (by simpa [h] using hq)]
    exact h
  · exact h

theorem readPiece_arrQ {e : Env} (he : e.core = c) (acc : Acc) {r : RdAcc} (h : (r.s.core c).arrQ = q) (p : Nat × Nat) :
    ((readPiece e acc r p).s.core c).arrQ = q := by
  have hread : ((r.s.readSector acc (p.1 / 32)).1.core c).arrQ = q := by rw [core_of_cores (readSector_cores _ _ _), h]
  unfold readPiece
  split
  · split
    · exact h
    · dsimp only
      split
      · rw [he]
        exact staleBy_arrQ hq hread _
      all_goals exact h
  · exact h

theorem readLine_arrQ {e : Env} (he : e.core = c) (write : Bool) {r : RdAcc} (h : (r.s.core c).arrQ = q) (p : Nat × Nat) :
    ((readLine e write r p).s.core c).arrQ = q := by
  have htr : ((r.s.translate (r.s.coreWho e.core) e.ctx p.1 (write || e.ldl)).1.core c).arrQ = q := by
    rw [core_of_cores (translate_cores _ _ _ _ _), h]
  unfold readLine
  split
  · dsimp only
    split
    · exact htr
    · exact List.foldlRecOn _ _ (motive := fun r : RdAcc => (r.s.core c).arrQ = q) htr (fun _ hr p _ => readPiece_arrQ hq he _ hr p)
  · exact h

/-- A read of a unit leaves the queue of its core's array as it is. -/
theorem unitRead_arrQ {s : State} {e : Env} (he : e.core = c) (h : (s.core c).arrQ = q) (va : Bool) (a n : Nat) :
    ((s.unitRead e va a n).s.core c).arrQ = q := by
  unfold State.unitRead
  split
  · refine List.foldlRecOn _ (readLine e false) (motive := fun r => (r.s.core c).arrQ = q) ?_ ?_
    · exact h
    · intro _ hr p _
      exact readLine_arrQ hq he false hr p
  · split
    · exact h
    · rw [he]
      exact benchRead_arrQ hq h a n

theorem rowsStep_arrQ {e : Env} (he : e.core = c) (va : Bool) (n : Nat) {r : RowsAcc} (h : (r.s.core c).arrQ = q) (a : Nat) :
    ((rowsStep e va n r a).s.core c).arrQ = q := by
  unfold rowsStep
  split
  · split
    · exact h
    · exact unitRead_arrQ hq he h va a n
  · exact h

/-- A read of rows leaves the queue of its core's array as it is. -/
theorem readRows_arrQ {s : State} {e : Env} (he : e.core = c) (h : (s.core c).arrQ = q) (va : Bool) (a stride rows n : Nat) :
    ((readRows s e va a stride rows n).s.core c).arrQ = q :=
  List.foldlRecOn _ (rowsStep e va n) (motive := fun r => (r.s.core c).arrQ = q) h (fun _ hr a _ => rowsStep_arrQ hq he va n hr a)

end
end Sys2Proof.Laws
end

section
/-!
PROOFS. The commands of the matrix array (R67, R78, R80, R82, R84): what each does in a state that the hypotheses of its lemma describe.
-/

namespace Sys2Proof.Laws
open Sys2Proof Sys2Proof.Machine

/-- The queue entry of a pass: the fields of its payload, copies of its operand registers and the work it belongs to (R67, R80, R181). -/
def issuedPass (x : Core) (p : BitVec 92) : PassEntry :=
  { m := payM p, n := payN p, k := payK p, dflow := payDflow p, arith := payArith p
    opA := Tab.get OpReg.blank x.ors (bits 78 75 p), opB := Tab.get OpReg.blank x.ors (bits 74 71 p)
    scen := bitAt p 70, sc := bits 69 67 p, ctx := x.task.ctx, taint := x.workTaint, index := x.task.index
    scanned := false, anchor := 0, done := false, refused := false, failed := false
    failAddr := 0, failPoison := false, ownSat := false, ownNan := false }

/-- A pass that finds room and is not malformed joins the queue and raises its completion counter (R67, R80, R181). -/
theorem execPass_queued {s : State} {c : CoreIx} {p : BitVec 92} {crc : Word} (h : DescriptorRuns s c 1 p crc) (hroom : (s.core c).arrQ.length < 5)
    (hok : passMalformed p (Tab.get OpReg.blank (s.core c).ors (bits 78 75 p)) (Tab.get OpReg.blank (s.core c).ors (bits 74 71 p)) = false) :
    execPass c p crc s = .next (((s.onCore c (fun z =>
      ({ z.taken with arrQ := z.arrQ ++ [issuedPass (s.core c) p] }).scAdd (bitAt p 70) (bits 69 67 p))).clearQfull c 11).pump c) := by
  simp only [execPass, decodeDesc_runs h, if_neg hroom.not_ge, hok]
  rfl

/-- The descriptor waits for its anchor scan (R80). -/
def awaitsScan (e : PassEntry) : Bool := arAmode e.arith && !e.scanned && !e.done

/-- The scales of one operand of a pass; an operand of a format without scales has none (R44). -/
def passScales (c : Nat) (x : Core) (e : PassEntry) (s : State) (r : OpReg) (fmt rows : Nat) : RowsAcc :=
  if fmtIsMx fmt then readRows s (e.env x c) r.sspace r.saddr r.sstride rows (e.k / 32) else ⟨s, .ok, [], 0#16, false⟩

/-- The descriptor `e` once it has the anchor that the scales read for `e0` give (R44). -/
def withAnchor (ra rb : RowsAcc) (e0 e : PassEntry) : PassEntry :=
  { e with
    scanned := true
    anchor := autoAnchor (arFmtA e0.arith) (arFmtB e0.arith) e0.k (arHead e0.arith) ra.rows.flatten rb.rows.flatten }

/-- Only the first entry that `p` allows counts for a change of it. -/
theorem setFirst_congr {p : PassEntry → Bool} {f g : PassEntry → PassEntry} {l : List PassEntry} {e : PassEntry} (he : l.find? p = some e)
    (hfg : f e = g e) : setFirst p f l = setFirst p g l := by
  induction l with
  | nil => rfl
  | cons a l ih =>
    by_cases ha : p a
    · obtain rfl : a = e := by simpa [ha] using he
      simp [setFirst, ha, hfg]
    · simp [setFirst, ha, ih (by simpa [ha] using he)]

/-- A change of a core depends only on what it makes of that core. -/
theorem onCore_congr {s : State} {c : Nat} {f g : Core → Core} (h : f (s.core c) = g (s.core c)) : s.onCore c f = s.onCore c g :=
  congrArg (s.setCore c) h

theorem passScales_arrQ {c : Nat} {q : List PassEntry} (hq : q ≠ []) (x : Core) (e : PassEntry) {s : State} (h : (s.core c).arrQ = q) (r : OpReg)
    (fmt rows : Nat) : ((passScales c x e s r fmt rows).s.core c).arrQ = q := by
  unfold passScales
  split
  · exact readRows_arrQ hq rfl h _ _ _ _ _
  · exact h

/-- The scan reads the scales of both operands and gives the first waiting descriptor its anchor (R44, R80). The reads leave the queue as it
is, so the descriptor that takes the anchor is the one whose scales were read. -/
theorem execAnchorScan_scanned {s : State} {c : CoreIx} {e : PassEntry} {ra rb : RowsAcc} (he : (s.core c).arrQ.find? awaitsScan = some e)
    (ha : passScales c (s.core c) e s e.opA (arFmtA e.arith) e.m = ra) (hb : passScales c (s.core c) e ra.s e.opB (arFmtB e.arith) e.n = rb) :
    execAnchorScan c s = .next ((rb.s.onCore c (fun x => { x with
      arrQ := setFirst awaitsScan (fun e => withAnchor ra rb e e) x.arrQ })).pump c) := by
  have hmodel : execAnchorScan c s = .next ((rb.s.onCore c (fun x => { x with arrQ := setFirst awaitsScan (withAnchor ra rb e) x.arrQ })).pump c) := by
    have hfind : (s.core c).arrQ.find? (fun e => arAmode e.arith && !e.scanned && !e.done) = some e := he
    subst ha hb
    simp only [execAnchorScan, hfind]
    rfl
  have hne : (s.core c).arrQ ≠ [] := fun h => by simp [h] at he
  have hqueue : (rb.s.core c).arrQ = (s.core c).arrQ := by
    rw [← hb, ← ha]
    exact passScales_arrQ hne _ _ (passScales_arrQ hne _ _ rfl _ _ _) _ _ _
  have hset := setFirst_congr (f := withAnchor ra rb e) (g := fun e => withAnchor ra rb e e) (hqueue ▸ he) rfl
  rw [hmodel]
  exact congrArg (fun t => Host.Outcome.next (State.pump t c)) (onCore_congr (by rw [hset]))

/-- A finished descriptor leaves the queue, lowers its counter and raises the traps that it asks for (R42, R78). -/
theorem execPassComplete_done {s : State} {c : CoreIx} {e : PassEntry} {rest : List PassEntry} (hq : (s.core c).arrQ = e :: rest) (hdone : e.done = true)
    {s1 s2 s3 : State} (h1 : s.onCore c (fun x => ({ x with arrQ := rest }).scSub e.scen e.sc) = s1)
    (h2 : (if arTrapSat e.arith && e.ownSat then s1.trap c 0x10 unitArray false (e.taint ≠ 0#16) e.index 0 else s1) = s2)
    (h3 : (if arTrapNan e.arith && e.ownNan then s2.trap c 0x11 unitArray false (e.taint ≠ 0#16) e.index 0 else s2) = s3) :
    execPassComplete c s = .next ((s3.pump c).recheck c) := by
  subst h1 h2 h3
  simp only [execPassComplete, hq, hdone, if_true]

/-- The bank of an aborted pass: the NaN tag in every element and in the status word, and the mask of its work (R82). -/
def nanPass (x : Core) (e : PassEntry) : Core :=
  { x with
    banks := nanBank x.banks (arBank e.arith)
    bstat := Tab.modify 0#32 x.bstat (arBank e.arith) (fun w => w ||| 8#32)
    btaint := Tab.modify 0#16 x.btaint (arBank e.arith) (fun m => m ||| e.taint) }

/-- A descriptor whose operand failed ends with its bank NaN, trap 0x12 and the queue behind it discarded (R82). -/
theorem execArrayAbort_failed {s : State} {c : CoreIx} {e : PassEntry} (hat : (s.core c).atArray = some e) (hfail : e.failed = true) :
    execArrayAbort c s = .next (((((s.onCore c (nanPass · e)).trap c 0x12 unitArray e.failPoison (e.taint ≠ 0#16) e.index
      e.failAddr).onCore c Core.discardBehind).pump c).recheck c) := by
  simp only [execArrayAbort, hat, hfail, if_true, nanPass]

/-- An array without a row to issue becomes idle (R84, R85): it has no descriptor, or one that waits for its anchor. -/
theorem execRampDown_idle {s : State} {c : CoreIx} (h : ∀ e, (s.core c).atArray = some e → arAmode e.arith = true ∧ e.scanned = false) :
    execRampDown c s = .next (s.onCore c (fun x => { x with arrState := 0 })) := by
  cases hat : (s.core c).atArray with
  | none => simp [execRampDown, hat]
  | some e =>
    obtain ⟨hauto, hscan⟩ := h e hat
    simp [execRampDown, hat, hauto, hscan]

/-- Settles O6: each command of the array is its lemma above. -/
theorem arrayDescriptors : Obligations.ArrayDescriptors := by
  unfold Obligations.ArrayDescriptors
  refine ⟨?_, ?_, ?_, ?_, ?_⟩
  · rintro s c p crc x h rfl hroom hok
    exact execPass_queued h hroom hok
  · intro s c e ra rb waiting scales he ha hb
    exact execAnchorScan_scanned he ha hb
  · intro s t c e rest hq hdone ht
    exact execPassComplete_done hq hdone ht rfl rfl
  · intro s c e hat hfail
    exact execArrayAbort_failed hat hfail
  · intro s c h
    exact execRampDown_idle h

end Sys2Proof.Laws
end

section
/-!
PROOFS. The start of a task and the fetch of its descriptors (R176, R177, R180).
-/

namespace Sys2Proof.Laws
open Sys2Proof Sys2Proof.Machine

/-- An idle sequencer that may take new work begins its first local task, whatever is dispatched to it (R176, R205). -/
theorem execTaskStart_local {s : State} {c : CoreIx} (hidle : (s.core c).seqState = 0) (hcomp : (s.core c).heldComp = [])
    {w : QWord} {ws : List QWord} {m : Half} {ms : List Half} (hq : (s.core c).localQ = w :: ws) (ht : (s.core c).localTaint = m :: ms)
    (hnew : s.noNewWork = false) (hproc : (Tab.get Proc.blank s.fw.procs (32 + coreCluster c)).st ≠ 1) :
    execTaskStart c s = .next ((s.onCore c (fun x => ({ x with localQ := ws, localTaint := ms }).begin (s.localTask w m))).holdPhase 0) := by
  simp [execTaskStart, hidle, hcomp, hq, ht, hnew, hproc]

/-- An idle sequencer without a local task begins the task dispatched to it (R176). -/
theorem execTaskStart_dispatched {s : State} {c : CoreIx} (hidle : (s.core c).seqState = 0) (hcomp : (s.core c).heldComp = [])
    {t : Task} (hq : (s.core c).localQ = []) (hd : (s.core c).dispatched = some t) :
    execTaskStart c s = .next ((s.onCore c (fun x => ({ x with dispatched := none }).begin t)).holdPhase 0) := by
  simp [execTaskStart, hidle, hcomp, hq, hd]

/-- A block that reads without poison adds its descriptors, with the mask read, and moves the stream on (R177, R197). -/
theorem execDescriptorFetch_ok {s : State} {c : CoreIx} {x : Core} (hx : s.core c = x) {n : Nat} (hn : blockBytes x.task.addr = n)
    (hruns : 1 ≤ x.seqState) (hlive : x.seqState < 3) (hroom : x.fetched.length + n / 16 ≤ 32) (halign : x.task.addr % 16 = 0)
    {r : RdAcc} (hr : s.unitRead (x.env c x.task.taint 0) x.task.space x.task.addr n = r) (hok : r.st = .ok) (hclean : r.poison = false) :
    execDescriptorFetch c s = .next (r.s.onCore c (fun y => { y with
      fetched := y.fetched ++ descriptorsOf r.taint (n / 16) r.bytes, task := { y.task with addr := x.task.addr + n } })) := by
  subst hx hn
  have hfetches : ¬ ((s.core c).seqState = 0 ∨ (s.core c).seqState ≥ 3
      ∨ (s.core c).fetched.length + blockBytes (s.core c).task.addr / 16 > 32) := by omega
  simp only [execDescriptorFetch, if_neg hfetches, halign, hr, hok, hclean]
  rfl

/-- Settles O12: `Core.begin` is the fresh sequencer, and a block ends at the next multiple of 64. -/
theorem tasksAndFetch : Obligations.TasksAndFetch := by
  unfold Obligations.TasksAndFetch
  refine ⟨?_, ?_⟩
  · rintro s c x rfl hidle hcomp fresh
    refine ⟨fun w ws m ms hq ht hnew hproc => ?_, fun t hq hd => ?_⟩
    · exact execTaskStart_local hidle hcomp hq ht hnew hproc
    · exact execTaskStart_dispatched hidle hcomp hq hd
  · intro s c x n r hx hn hruns hlive hroom halign hr hok hclean
    exact execDescriptorFetch_ok hx hn hruns hlive hroom halign hr hok hclean

end Sys2Proof.Laws
end

section
/-!
PROOFS. The lane words of a tray (R131, R169): an instruction that writes D in every active lane from what that lane alone holds ends with
the words of the state it started in, whatever the order of the lanes.
-/

namespace Sys2Proof.Laws
open Sys2Proof Sys2Proof.Machine

/-- Two trays hold the same registers and predicates in lane `l`. -/
structure SameLane (z y : Tray) (l : Nat) : Prop where
  reg : ∀ k, k < 64 → z.reg l k = y.reg l k
  pred : ∀ q, z.pred l q = y.pred l q

theorem sameLane_refl (y : Tray) (l : Nat) : SameLane y y l := ⟨fun _ _ => rfl, fun _ => rfl⟩

/-- A write of one lane leaves the others as they are. -/
theorem sameLane_setReg {z y : Tray} (hz : TrayTables z) {l m d : Nat} (hd : d < 64) (hne : m ≠ l) (w : Word) (b : Bool) (h : SameLane z y m) :
    SameLane (z.setReg l d w b) y m where
  reg k hk := by rw [reg_setReg hz.1 hd hk, if_neg fun e => hne e.1, h.reg k hk]
  pred := h.pred

theorem srcB_of_sameLane {z y : Tray} {l : Nat} {p : BitVec 54} (hB : iB p < 64) (h : SameLane z y l) : z.srcB l p = y.srcB l p := by
  simp only [Tray.srcB, h.reg _ hB]

/-- Register `d` of each lane of `ls` takes the lane's word, without poison. -/
def writeLanes (d : Nat) (v : Nat → Word) (ls : List Nat) (t : Tray) : Tray := ls.foldl (fun z l => z.setReg l d (v l) false) t

/-- Only registers and poison bits change. -/
theorem writeLanes_eq (d : Nat) (v : Nat → Word) (ls : List Nat) (t : Tray) :
    writeLanes d v ls t = { t with regs := (writeLanes d v ls t).regs, poison := (writeLanes d v ls t).poison } := by
  induction ls generalizing t with
  | nil => rfl
  | cons l ls ih => exact ih (t.setReg l d (v l) false)

/-- A read that one write of lane `lane`, register `d`, makes `w` is `w` once that lane has been written. -/
theorem read_writeLanes {α : Type} {read : Tray → α} {w : α} {d k lane : Nat} {v : Nat → Word}
    (hread : ∀ t, TrayTables t → ∀ l, read (t.setReg l d (v l) false) = if lane = l ∧ k = d then w else read t) {t : Tray} (ht : TrayTables t)
    (ls : List Nat) : read (writeLanes d v ls t) = if lane ∈ ls ∧ k = d then w else read t := by
  induction ls generalizing t with
  | nil => simp [writeLanes]
  | cons l ls ih =>
    change read (writeLanes d v ls (t.setReg l d (v l) false)) = _
    rw [ih (tables_setReg ht _ _ _ _), hread t ht]
    by_cases hlane : lane = l <;> by_cases hkd : k = d <;> simp [hlane, hkd]

theorem reg_writeLanes {t : Tray} (ht : TrayTables t) {d k : Nat} (hd : d < 64) (hk : k < 64) (v : Nat → Word) (ls : List Nat) (lane : Nat) :
    (writeLanes d v ls t).reg lane k = if lane ∈ ls ∧ k = d then v lane else t.reg lane k :=
  read_writeLanes (read := fun t => t.reg lane k) (fun _ ht _ => by
    rw [reg_setReg ht.1 hd hk]
    exact ite_congr rfl (fun e => by rw [e.1]) fun _ => rfl) ht ls

theorem poisoned_writeLanes {t : Tray} (ht : TrayTables t) {d k : Nat} (hd : d < 64) (hk : k < 64) (v : Nat → Word) (ls : List Nat) (lane : Nat) :
    (writeLanes d v ls t).poisoned lane k = if lane ∈ ls ∧ k = d then false else t.poisoned lane k :=
  read_writeLanes (read := fun t => t.poisoned lane k) (fun _ ht _ => poisoned_setReg ht.2.1 hd hk _ _) ht ls

theorem tray_of_runs {s u : State} {y : Tray} {c slot : Nat} (h : Runs s c slot u y) : (u.core c).tray slot = y := h.2.2

theorem lanes_nodup (t : Tray) : t.lanes.Nodup := List.Nodup.filter _ List.nodup_range

theorem iD_lt (p : BitVec 54) : iD p < 64 := Nat.mod_lt _ (by decide)
theorem iA_lt (p : BitVec 54) : iA p < 64 := Nat.mod_lt _ (by decide)
theorem iB_lt (p : BitVec 54) : iB p < 64 := Nat.mod_lt _ (by decide)
theorem iC_lt (p : BitVec 54) : iC p < 64 := Nat.mod_lt _ (by decide)

section
variable {y : Tray} {d : Nat} {f : Tray → Nat → Tray × Nat} {v : Nat → Word} {fl : Nat → Nat}
  (hf : ∀ z l, SameLane z y l → f z l = (z.setReg l d (v l) false, fl l))
include hf

/-- A lane that has not run yet still holds what it held in `y`, so the step's word and status bits are those of `y`. -/
theorem foldl_laneStep (hd : d < 64) {ls : List Nat} (hls : ls.Nodup) {z : Tray} (hz : TrayTables z) (hsame : ∀ l ∈ ls, SameLane z y l) (m : Nat) :
    ls.foldl (laneStep f) (z, m) = (writeLanes d v ls z, ls.foldl (fun m l => m ||| fl l) m) := by
  induction ls generalizing z m with
  | nil => rfl
  | cons l ls ih =>
    obtain ⟨hnot, hrest⟩ := List.nodup_cons.mp hls
    have hstep : laneStep f (z, m) l = (z.setReg l d (v l) false, m ||| fl l) := by
      simp only [laneStep, hf z l (hsame l List.mem_cons_self)]
    have hlater : ∀ n ∈ ls, SameLane (z.setReg l d (v l) false) y n := fun n hn =>
      sameLane_setReg hz hd (ne_of_mem_of_not_mem hn hnot) _ _ (hsame n (List.mem_cons_of_mem _ hn))
    rw [List.foldl_cons, hstep, ih hrest (tables_setReg hz _ _ _ _) hlater]
    rfl

theorem eachLane_words (hd : d < 64) (hy : TrayTables y) :
    y.eachLane f = (writeLanes d v y.lanes y, y.lanes.foldl (fun m l => m ||| fl l) 0) :=
  foldl_laneStep hf hd (lanes_nodup y) hy (fun l _ => sameLane_refl y l) 0

/-- An instruction that ends with `f` in every active lane has the lane words of `f`. -/
theorem laneWords_eachLane (hd : d < 64) (hy : TrayTables y) (u : State) (c slot : Nat) :
    LaneWords u y c slot d v (y.lanes.foldl (fun m l => m ||| fl l) 0)
      (.next ((u.setTray c slot (y.eachLane f).1.next).tflags c (y.eachLane f).2)) := by
  rw [eachLane_words hf hd hy]
  refine ⟨(writeLanes d v y.lanes y).next, rfl, ?_, fun lane k hk => ?_, fun lane k hk => ?_⟩
  · rw [writeLanes_eq]
    rfl
  · exact reg_writeLanes hy hd hk v _ lane
  · exact poisoned_writeLanes hy hd hk v _ lane

end

/-- A legal instruction of format A that writes D from its own lane. -/
theorem laneWords_formatA {s u : State} {y : Tray} {c slot : Nat} {p : BitVec 54} {a : ASpec} (hr : Runs s c slot u y) (hy : TrayTables y)
    (hl : LegalA a y p) {f : Tray → Nat → Tray × Nat} {v : Nat → Word} {fl : Nat → Nat}
    (hf : ∀ z l, SameLane z y l → f z l = (z.setReg l (iD p) (v l) false, fl l)) :
    LaneWords u y c slot (iD p) v (y.lanes.foldl (fun m l => m ||| fl l) 0) (.next (s.formatA c slot p a f)) := by
  rw [formatA_legal hr hl]
  exact laneWords_eachLane hf (iD_lt p) hy u c slot

end Sys2Proof.Laws
end

section
/-!
PROOFS. The FP32 instructions, conversions and special values of a tray (R98, R131, R170, R174, Table 5-3).
-/

namespace Sys2Proof.Laws
open Sys2Proof Sys2Proof.Machine

/-- What an FP32 operation leaves: its values in D of the active lanes and its status bits in TSTAT (R131). -/
def FpWords (u : State) (y : Tray) (c slot : Nat) (p : BitVec 54) (g : Nat → FpRes) (r : Res) : Prop :=
  LaneWords u y c slot (iD p) (fun l => (g l).val) (y.lanes.foldl (fun m l => m ||| (g l).tflags) 0) r

section
variable {s u : State} {y : Tray} {c slot : Nat} {p : BitVec 54} (hr : Runs s c slot u y) (hy : TrayTables y)
include hr hy

theorem fp1_words (hl : LegalA ⟨false, 1, false, true⟩ y p) (g : Word → FpRes) :
    FpWords u y c slot p (fun l => g (y.reg l (iA p))) (.next (s.fp1 c slot p g)) :=
  laneWords_formatA hr hy hl fun z l h => by simp only [h.reg _ (iA_lt p)]

theorem fp2_words (hl : LegalA ⟨false, 2, false, true⟩ y p) (g : Word → Word → FpRes) :
    FpWords u y c slot p (fun l => g (y.reg l (iA p)) (y.srcB l p)) (.next (s.fp2 c slot p g)) :=
  laneWords_formatA hr hy hl fun z l h => by simp only [h.reg _ (iA_lt p), srcB_of_sameLane (iB_lt p) h]

/-- A conversion whose format code is one of R170's list and whose word is legal (R128, R169). -/
theorem convert_words (himm : iImm p = false) (hzero : bits 21 0 p = 0) (hfmt : convFmtOk (iFmt p) = true) (hD : regBad y false (iD p) = false)
    (hA : regBad y false (iA p) = false) (hpoison : y.anyPoison [iA p] = false) (g : Nat → Word → FpRes) :
    FpWords u y c slot p (fun l => g (iFmt p) (y.reg l (iA p))) (.next (s.convert c slot p g)) := by
  simp only [State.convert, trayDo_runs hr, tray_of_runs hr, himm, hzero, hfmt, hD, hA, hpoison]
  exact laneWords_eachLane (fun z l h => by simp only [h.reg _ (iA_lt p)]) (iD_lt p) hy u c slot

end

theorem execTFfma_words {s u : State} {y : Tray} {c : CoreIx} {slot : Fin 16} {p : BitVec 54} (hr : Runs s c slot u y) (hy : TrayTables y)
    (hl : LegalA ⟨false, 3, false, false⟩ y p) :
    FpWords u y c slot p (fun l => fpFma (y.reg l (iA p)) (y.reg l (iB p)) (y.reg l (iC p))) (execTFfma c slot p s) :=
  laneWords_formatA hr hy hl fun z l h => by simp only [h.reg _ (iA_lt p), h.reg _ (iB_lt p), h.reg _ (iC_lt p)]

/-! ## Special values -/

section
variable {s u : State} {y : Tray} {c : CoreIx} {slot : Fin 16} {p : BitVec 54} {l : Launch} (hr : Runs s c slot u y)
  (hlaunch : (u.core c).launchOf y = some l) (himm : iImm p = false) (hzero : bits 21 0 p = 0) (hD : regBad y false (iD p) = false)
include hr hlaunch himm hzero hD

/-- MOVS of a value that the tray, its launch or the bell holds (Table 5-3). -/
theorem execTMovs_value (hmax : iA p ≤ 15) (hsel : iA p < 6 ∨ 13 < iA p) :
    execTMovs c slot p s = .next (u.setTray c slot
      (y.lanes.foldl (fun z lane => z.setReg lane (iD p) (specialValue u c y l [] lane (iA p)) false) y).next) := by
  have hlegal : ¬ iA p > 15 := by omega
  have hnoArg : ¬ (6 ≤ iA p ∧ iA p ≤ 13) := by omega
  simp [execTMovs, trayDo_runs hr, tray_of_runs hr, hlaunch, himm, hzero, hD, hlegal, if_neg hnoArg]

/-- MOVS of an argument: the word of the bench, its poison and the mask of the bytes read (R128, R174, R197). -/
theorem execTMovs_argument (hlo : 6 ≤ iA p) (hhi : iA p ≤ 13) {r : State × List Byte × Half × Bool}
    (hread : u.benchRead c (l.args + 4 * (iA p - 6)) 4 = r) {t : State}
    (ht : (if r.2.2.2 then r.1.tflags c tPoison else r.1).trayTaint c slot r.2.2.1 = t) {z : Tray} (hz : (t.core c).tray slot = z) :
    execTMovs c slot p s = .next (t.setTray c slot
      (z.lanes.foldl (fun q lane => q.setReg lane (iD p) (BitVec.ofNat 32 (leNat r.2.1)) r.2.2.2) z).next) := by
  have hlegal : ¬ iA p > 15 := by omega
  simp [execTMovs, trayDo_runs hr, tray_of_runs hr, hlaunch, himm, hzero, hD, hlegal, hlo, hhi, hread, ht, hz]

end

/-- Settles O17: every FP32 instruction is its function on the words of the lane, and MOVS is the two lemmas above. -/
theorem trayFloatResults : Obligations.TrayFloatResults := by
  unfold Obligations.TrayFloatResults
  refine ⟨?_, ?_⟩
  · intro s u y c slot p hr a b gives hy
    refine ⟨fun hl => ?_, fun hl => ?_, execTFfma_words hr hy, fun himm hzero hfmt hD hA hpoison => ?_⟩
    · have two := fp2_words hr hy hl
      exact ⟨two fpAdd, two fpSub, two fpMul, two fun a b => .plain (fpMin a b), two fun a b => .plain (fpMax a b)⟩
    · have one := fp1_words hr hy hl
      exact ⟨one fun a => .plain (fpAbs a), one fun a => .plain (fpNeg a), one fpRcp, one fpSqrt, one fpRsqrt, one fpExp2, one fpLog2,
        one fpTanh, one fpLogistic, one fun a => .plain (fpRint a)⟩
    · have conv := convert_words hr hy himm hzero hfmt hD hA hpoison
      exact ⟨conv f2x, conv x2f⟩
  · intro s u y c slot p l hr hlaunch himm hzero hD
    refine ⟨?_, fun hlo hhi r t z hread ht hz => ?_⟩
    · intro sel hA hmax hsel
      rw [exec_tMovs, execTMovs_value hr hlaunch himm hzero hD (hA ▸ hmax) (hA ▸ hsel), hA]
      obtain hlow | hhigh := hsel
      · interval_cases sel <;> rfl
      · interval_cases sel <;> rfl
    · exact execTMovs_argument hr hlaunch himm hzero hD hlo hhi hread ht hz

end Sys2Proof.Laws
end

section
/-!
PROOFS. The commands that fill and drain the vector engine (R101, R104, R115, R121, R184, R186).
-/

namespace Sys2Proof.Laws
open Sys2Proof Sys2Proof.Machine

/-- The queue entry of a run or tile move: its payload, copies of the binding registers and arguments, the work it belongs to (R121, R180). -/
def issuedVec (x : Core) (move : Bool) (p : BitVec 92) (scen : Bool) (sc : Nat) : VecEntry :=
  let e : VecEntry :=
    { move := move, payload := p, vbs := x.vbs, x0 := x.x0, x1 := x.x1, indexBase := x.indexBase, draw := x.draw, stream := x.stream
      banks := [], scen := scen, sc := sc, ctx := x.task.ctx, taint := x.workTaint, index := x.task.index }
  { e with banks := e.readsBanks }

/-- The descriptor has joined the queue and raised its counter, and what can run has run (R121, R180, R181). -/
def vecQueued (s : State) (c : Nat) (move : Bool) (p : BitVec 92) (scen : Bool) (sc : Nat) : State :=
  ((s.onCore c (fun x => ({ x.taken with vecQ := x.vecQ ++ [issuedVec (s.core c) move p scen sc] }).scAdd scen sc)).clearQfull c 10).pump c

section
variable {s : State} {c : CoreIx} {p : BitVec 92} {crc : Word} (hroom : (s.core c).vecQ.length < 2)
include hroom

theorem issueVec_queued (move scen : Bool) (sc : Nat) : s.issueVec c move p scen sc = vecQueued s c move p scen sc := by
  simp only [State.issueVec, if_neg hroom.not_ge]
  rfl

theorem issueRun_queued (h : DescriptorRuns s c 4 p crc) : s.issueRun c p crc = vecQueued s c false p (bitAt p 7) (bits 6 4 p) := by
  rw [State.issueRun, decodeDesc_runs h, issueVec_queued hroom]

theorem issueMove_queued (h : DescriptorRuns s c 8 p crc) : s.issueMove c p crc = vecQueued s c true p (bitAt p 65) (bits 64 62 p) := by
  rw [State.issueMove, decodeDesc_runs h, issueVec_queued hroom]

end

/-- The held records enter a queue with room, raise its event, and the run ends (R115). -/
theorem execSummaryDeliver_fits {s : State} {c : CoreIx} {h : HeldRun} {rest : List HeldRun} (hheld : (s.core c).heldRun = h :: rest) {k : Cluster}
    (hk : s.cluster (coreCluster c) = k) (hroom : k.sumQ.length + h.records.length ≤ 256) :
    execSummaryDeliver c s = .next (((((s.setCluster (coreCluster c) ({ k with sumQ := k.sumQ ++ h.records }.raise 0)).onCore c
      (fun x => { x with heldRun := rest })).vecDone c h).pump c).recheck c) := by
  subst hk
  simp only [execSummaryDeliver, hheld, if_neg hroom.not_gt]

/-- Settles O7: RUN and EXPORT_RUN are `State.issueRun`, the tile moves `State.issueMove`. -/
theorem vectorDescriptors : Obligations.VectorDescriptors := by
  unfold Obligations.VectorDescriptors
  refine ⟨?_, ?_⟩
  · rintro s c p crc x rfl hroom queued
    refine ⟨fun h => ?_, fun h => ?_⟩
    · have run := congrArg (Host.Outcome.next : State → Res) (issueRun_queued hroom h)
      exact ⟨run, run⟩
    · have move := congrArg (Host.Outcome.next : State → Res) (issueMove_queued hroom h)
      exact ⟨move, move, move⟩
  · intro s c h rest k hheld hk hroom
    exact execSummaryDeliver_fits hheld hk hroom

end Sys2Proof.Laws
end

section
/-!
PROOFS. The integer and predicate instructions of a tray (R128, R131, R169, R170, R173): each active lane reads and writes itself alone, so the
lanes may be taken one after another, and what a lane ends with is what its own step wrote.
-/

namespace Sys2Proof.Laws
open Sys2Proof Sys2Proof.Machine

/-! ## Register pairs and predicates after a write -/

theorem reg_setPair {t : Tray} (h : TrayTables t) {l lane d k : Nat} (heven : d % 2 = 0) (hd : d < 64) (hk : k < 64) (w : DWord) (b : Bool) :
    (t.setPair l d w b).reg lane k = if lane = l ∧ k / 2 = d / 2 then w.extractLsb' (32 * (k % 2)) 32 else t.reg lane k := by
  have hd' : d + 1 < 64 := by omega
  simp only [Tray.setPair, reg_setReg (tables_setReg h _ _ _ _).1 hd' hk, reg_setReg h.1 hd hk]
  by_cases hlane : lane = l
  · obtain hlow | hhigh | hout : k = d ∨ k = d + 1 ∨ k / 2 ≠ d / 2 := by omega
    · simp [hlane, hlow, heven]
    · have hodd : (d + 1) % 2 = 1 := by omega
      have hhalf : (d + 1) / 2 = d / 2 := by omega
      simp [hlane, hhigh, hodd, hhalf]
    · have hlow : k ≠ d := by omega
      have hhigh : k ≠ d + 1 := by omega
      simp [hlow, hhigh, hout]
  · simp [hlane]

theorem poisoned_setPair {t : Tray} (h : TrayTables t) {l lane d k : Nat} (heven : d % 2 = 0) (hd : d < 64) (hk : k < 64) (w : DWord) (b : Bool) :
    (t.setPair l d w b).poisoned lane k = if lane = l ∧ k / 2 = d / 2 then b else t.poisoned lane k := by
  have hd' : d + 1 < 64 := by omega
  have hhalf : k / 2 = d / 2 ↔ k = d + 1 ∨ k = d := by omega
  simp only [Tray.setPair, poisoned_setReg (tables_setReg h _ _ _ _).2.1 hd' hk, poisoned_setReg h.2.1 hd hk, hhalf]
  by_cases hlane : lane = l <;> by_cases hlow : k = d <;> simp [hlane, hlow]

theorem pair_eq_of_reg {t : Tray} {lane d : Nat} {w : DWord} (hlow : t.reg lane d = w.extractLsb' 0 32)
    (hhigh : t.reg lane (d + 1) = w.extractLsb' 32 32) : t.pair lane d = w := by
  rw [Tray.pair, hlow, hhigh]
  exact (BitVec.extractLsb'_append_extractLsb'_eq_extractLsb' rfl).trans BitVec.extractLsb'_eq_self

theorem pred_setPred {t : Tray} (h : TrayTables t) {l lane q k : Nat} (hk : k < 8) (b : Bool) :
    (t.setPred l q b).pred lane k = if lane = l ∧ k = q then b else t.pred lane k := by
  have hbit : (BitVec.ofNat 8 (2 ^ q)).getLsbD k = decide (k = q) := by
    simp only [BitVec.getLsbD_ofNat, hk, decide_true, Bool.true_and, Nat.testBit_two_pow, eq_comm]
  simp only [Tray.pred, Tray.setPred, tab_get_set h.2.2]
  by_cases hlane : lane = l
  · rw [if_pos hlane, hlane]
    cases b with
    | false =>
      simp only [Bool.false_eq_true, if_false, BitVec.getLsbD_and, BitVec.getLsbD_not, hbit, hk]
      by_cases hq : k = q <;> simp [hq]
    | true =>
      simp only [if_true, BitVec.getLsbD_or, hbit]
      by_cases hq : k = q <;> simp [hq]
  · simp [hlane]

/-! ## A step of one lane leaves the others -/

/-- `w` writes registers and predicates of lane `l` only. -/
structure WritesOwnLane (w : Tray → Nat → Tray) : Prop where
  tables : ∀ {t : Tray} (l : Nat), TrayTables t → TrayTables (w t l)
  others : ∀ {t y : Tray} {l m : Nat}, TrayTables t → m ≠ l → SameLane t y m → SameLane (w t l) y m

/-- A pair of a lane takes the lane's value, without poison. -/
def pairLane (d : Nat) (v : Nat → DWord) (t : Tray) (l : Nat) : Tray := t.setPair l d (v l) false

/-- A predicate of a lane takes the lane's truth value. -/
def predLane (q : Nat) (v : Nat → Bool) (t : Tray) (l : Nat) : Tray := t.setPred l q (v l)

theorem writesOwnLane_pair {d : Nat} (heven : d % 2 = 0) (hd : d < 64) (v : Nat → DWord) : WritesOwnLane (pairLane d v) where
  tables _ h := tables_setReg (tables_setReg h _ _ _ _) _ _ _ _
  others h hne hsame :=
    sameLane_setReg (tables_setReg h _ _ _ _) (by omega) hne _ _ (sameLane_setReg h hd hne _ _ hsame)

theorem writesOwnLane_pred (q : Nat) (v : Nat → Bool) : WritesOwnLane (predLane q v) where
  tables l h := tables_setPred h l q (v l)
  others h hne hsame :=
    { reg := hsame.reg
      pred := fun k => by
        rw [← hsame.pred k]
        simp only [Tray.pred, predLane, Tray.setPred, tab_get_set h.2.2, if_neg hne] }

theorem foldl_pairLane_frame (d : Nat) (v : Nat → DWord) (ls : List Nat) (t : Tray) :
    ls.foldl (pairLane d v) t = { t with regs := (ls.foldl (pairLane d v) t).regs, poison := (ls.foldl (pairLane d v) t).poison } := by
  induction ls generalizing t with
  | nil => rfl
  | cons l ls ih => exact ih (pairLane d v t l)

theorem foldl_predLane_frame (q : Nat) (v : Nat → Bool) (ls : List Nat) (t : Tray) :
    ls.foldl (predLane q v) t = { t with preds := (ls.foldl (predLane q v) t).preds } := by
  induction ls generalizing t with
  | nil => rfl
  | cons l ls ih => exact ih (predLane q v t l)

section
variable {w : Tray → Nat → Tray} (hw : WritesOwnLane w)
include hw

/-- A lane that has not run yet still holds what it held in `y`. -/
theorem foldl_laneStep_own {y : Tray} {f : Tray → Nat → Tray × Nat} (hf : ∀ z l, SameLane z y l → f z l = (w z l, 0)) {ls : List Nat}
    (hls : ls.Nodup) {z : Tray} (hz : TrayTables z) (hsame : ∀ l ∈ ls, SameLane z y l) :
    ls.foldl (laneStep f) (z, 0) = (ls.foldl w z, 0) := by
  induction ls generalizing z with
  | nil => rfl
  | cons l ls ih =>
    obtain ⟨hnot, hrest⟩ := List.nodup_cons.mp hls
    have hstep : laneStep f (z, 0) l = (w z l, 0) := by simp only [laneStep, hf z l (hsame l List.mem_cons_self), Nat.or_zero]
    have hlater : ∀ n ∈ ls, SameLane (w z l) y n := fun n hn =>
      hw.others hz (ne_of_mem_of_not_mem hn hnot) (hsame n (List.mem_cons_of_mem _ hn))
    rw [List.foldl_cons, List.foldl_cons, hstep, ih hrest (hw.tables l hz) hlater]

/-- A read that a write of lane `lane` makes `v` is `v` once that lane has been written. -/
theorem read_foldl_own {α : Type} {read : Tray → α} {v : α} {lane : Nat} {hit : Prop} [Decidable hit]
    (hread : ∀ t, TrayTables t → ∀ l, read (w t l) = if lane = l ∧ hit then v else read t) {t : Tray} (ht : TrayTables t) (ls : List Nat) :
    read (ls.foldl w t) = if lane ∈ ls ∧ hit then v else read t := by
  induction ls generalizing t with
  | nil => simp
  | cons l ls ih =>
    rw [List.foldl_cons, ih (hw.tables l ht), hread t ht]
    by_cases hlane : lane = l <;> by_cases hh : hit <;> simp [hlane, hh]

/-- A legal instruction of format A whose step writes its own lane and raises no status bit. -/
theorem formatA_own {s u : State} {y : Tray} {c slot : Nat} {p : BitVec 54} {a : ASpec} (hr : Runs s c slot u y) (hy : TrayTables y)
    (hl : LegalA a y p) {f : Tray → Nat → Tray × Nat} (hf : ∀ z l, SameLane z y l → f z l = (w z l, 0)) :
    s.formatA c slot p a f = (u.setTray c slot (y.lanes.foldl w y).next).tflags c 0 := by
  rw [formatA_legal hr hl, Tray.eachLane, foldl_laneStep_own hw hf (lanes_nodup y) hy fun l _ => sameLane_refl y l]

end

section
variable {d : Nat} (heven : d % 2 = 0) (hd : d < 64) {y : Tray} (hy : TrayTables y) (v : Nat → DWord)
include heven hd hy

theorem reg_foldl_pairLane (ls : List Nat) (lane : Nat) {k : Nat} (hk : k < 64) : (ls.foldl (pairLane d v) y).reg lane k
    = if lane ∈ ls ∧ k / 2 = d / 2 then (v lane).extractLsb' (32 * (k % 2)) 32 else y.reg lane k :=
  read_foldl_own (writesOwnLane_pair heven hd v) (read := fun t => t.reg lane k) (fun t ht l => by
    rw [pairLane, reg_setPair ht heven hd hk]
    exact ite_congr rfl (fun e => by rw [e.1]) fun _ => rfl) hy ls

theorem poisoned_foldl_pairLane (ls : List Nat) (lane : Nat) {k : Nat} (hk : k < 64) : (ls.foldl (pairLane d v) y).poisoned lane k
    = if lane ∈ ls ∧ k / 2 = d / 2 then false else y.poisoned lane k :=
  read_foldl_own (writesOwnLane_pair heven hd v) (read := fun t => t.poisoned lane k) (fun _ ht _ => poisoned_setPair ht heven hd hk _ _) hy ls

theorem pair_foldl_pairLane {ls : List Nat} {lane : Nat} (hlane : lane ∈ ls) : (ls.foldl (pairLane d v) y).pair lane d = v lane := by
  have hodd : (d + 1) % 2 = 1 := by omega
  have hhalf : (d + 1) / 2 = d / 2 := by omega
  refine pair_eq_of_reg ?_ ?_
  · rw [reg_foldl_pairLane heven hd hy v ls lane hd, if_pos ⟨hlane, rfl⟩, heven]
  · rw [reg_foldl_pairLane heven hd hy v ls lane (by omega), if_pos ⟨hlane, hhalf⟩, hodd]

end

/-! ## What legal words name -/

theorem even_of_regBad {t : Tray} {r : Nat} (h : regBad t true r = false) : r % 2 = 0 := by
  simp only [regBad, Bool.or_eq_false_iff, Bool.true_and, decide_eq_false_iff_not, not_not] at h
  exact h.2

section
variable {y : Tray} {p : BitVec 54} {toPred : Bool} (hl : LegalA ⟨true, 2, toPred, true⟩ y p)
include hl

/-- A legal 64-bit operation names even registers (R169). -/
theorem even_of_legal : iA p % 2 = 0 ∧ (iImm p = false → iB p % 2 = 0) ∧ (toPred = false → iD p % 2 = 0) := by
  have h := hl.1
  simp only [ASpec.bad, Bool.or_eq_false_iff] at h
  obtain ⟨⟨⟨⟨-, hD⟩, hA⟩, hB⟩, -⟩ := h
  exact ⟨even_of_regBad (by simpa using hA), fun himm => even_of_regBad (by simpa [himm] using hB),
    fun hpred => even_of_regBad (by simpa [hpred] using hD)⟩

/-- The sources of a legal 64-bit operation, both halves, lie in the lane. -/
theorem pair_of_sameLane {z : Tray} {l : Nat} (h : SameLane z y l) : z.pair l (iA p) = y.pair l (iA p) := by
  obtain ⟨hA, -⟩ := even_of_legal hl
  have hlt := iA_lt p
  simp only [Tray.pair, h.reg _ hlt, h.reg (iA p + 1) (by omega)]

theorem srcB64_of_sameLane {z : Tray} {l : Nat} (h : SameLane z y l) : z.srcB64 l p = y.srcB64 l p := by
  cases himm : iImm p with
  | true => simp [Tray.srcB64, himm]
  | false =>
    obtain ⟨-, hB, -⟩ := even_of_legal hl
    have heven := hB himm
    have hlt := iB_lt p
    simp [Tray.srcB64, himm, Tray.pair, h.reg _ hlt, h.reg (iB p + 1) (by omega)]

end

/-! ## Results in registers, pairs and predicates -/

section
variable {s u : State} {y : Tray} {c slot : Nat} {p : BitVec 54} (hr : Runs s c slot u y) (hy : TrayTables y)
include hr hy

/-- A format A word that raises no status bit. -/
theorem laneWords_plain {a : ASpec} (hl : LegalA a y p) {f : Tray → Nat → Tray × Nat} {v : Nat → Word}
    (hf : ∀ z l, SameLane z y l → f z l = (z.setReg l (iD p) (v l) false, 0)) :
    LaneWords u y c slot (iD p) v 0 (.next (s.formatA c slot p a f)) := by
  have h := laneWords_formatA hr hy hl (fl := fun _ => 0) hf
  rwa [List.foldl_fixed' fun _ => rfl] at h

theorem op32_words (hl : LegalA ⟨false, 2, false, true⟩ y p) (g : Word → Word → Word) :
    LaneWords u y c slot (iD p) (fun l => g (y.reg l (iA p)) (y.srcB l p)) 0 (.next (s.op32 c slot p g)) :=
  laneWords_plain hr hy hl fun z l h => by rw [h.reg _ (iA_lt p), srcB_of_sameLane (iB_lt p) h]

theorem op32_words_of_eq (hl : LegalA ⟨false, 2, false, true⟩ y p) {g h : Word → Word → Word} (e : ∀ a b, g a b = h a b) :
    LaneWords u y c slot (iD p) (fun l => h (y.reg l (iA p)) (y.srcB l p)) 0 (.next (s.op32 c slot p g)) := by
  rw [funext₂ e]
  exact op32_words hr hy hl h

/-- A legal operation on pairs leaves its value in the pair D of every active lane (R169, R173). -/
theorem op64_pairs (hl : LegalA ⟨true, 2, false, true⟩ y p) (g : DWord → DWord → DWord) :
    LanePairs u y c slot (iD p) (fun l => g (y.pair l (iA p)) (y.srcB64 l p)) (.next (s.op64 c slot p g)) := by
  obtain ⟨-, -, hD⟩ := even_of_legal hl
  have heven := hD rfl
  have hd := iD_lt p
  rw [State.op64, formatA_own (writesOwnLane_pair heven hd _) hr hy hl fun z l h => by
    rw [pair_of_sameLane hl h, srcB64_of_sameLane hl h]; rfl]
  refine ⟨_, rfl, ?_, fun lane hlane => ?_, fun lane k hk hout => ?_, fun lane k hk => ?_⟩
  · exact congrArg Tray.next (foldl_pairLane_frame _ _ _ y)
  · exact pair_foldl_pairLane heven hd hy _ hlane
  · exact (reg_foldl_pairLane heven hd hy _ _ lane hk).trans (if_neg fun h => hout.elim (fun e => e h.1) fun e => e h.2)
  · exact poisoned_foldl_pairLane heven hd hy _ _ lane hk

theorem op64_pairs_of_eq (hl : LegalA ⟨true, 2, false, true⟩ y p) {g h : DWord → DWord → DWord} (e : ∀ a b, g a b = h a b) :
    LanePairs u y c slot (iD p) (fun l => h (y.pair l (iA p)) (y.srcB64 l p)) (.next (s.op64 c slot p g)) := by
  rw [funext₂ e]
  exact op64_pairs hr hy hl h

/-- A legal word of format A that writes predicate Q of its own lane. -/
theorem laneBits_formatA {a : ASpec} (hl : LegalA a y p) {f : Tray → Nat → Tray × Nat} {v : Nat → Bool}
    (hf : ∀ z l, SameLane z y l → f z l = (z.setPred l (iQ p) (v l), 0)) :
    LaneBits u y c slot (iQ p) v (.next (s.formatA c slot p a f)) := by
  have hw := writesOwnLane_pred (iQ p) v
  rw [formatA_own hw hr hy hl hf]
  refine ⟨_, rfl, ?_, fun lane k hk => ?_⟩
  · exact congrArg Tray.next (foldl_predLane_frame _ _ _ y)
  · exact read_foldl_own hw (read := fun t => t.pred lane k) (fun t ht l => by
      rw [predLane, pred_setPred ht hk]
      exact ite_congr rfl (fun e => by rw [e.1]) fun _ => rfl) hy _

theorem cmp32_bits (hl : LegalA ⟨false, 2, true, true⟩ y p) (g : Word → Word → Bool) :
    LaneBits u y c slot (iQ p) (fun l => g (y.reg l (iA p)) (y.srcB l p)) (.next (s.cmp32 c slot p g)) :=
  laneBits_formatA hr hy hl fun z l h => by rw [h.reg _ (iA_lt p), srcB_of_sameLane (iB_lt p) h]

theorem cmp64_bits (hl : LegalA ⟨true, 2, true, true⟩ y p) (g : DWord → DWord → Bool) :
    LaneBits u y c slot (iQ p) (fun l => g (y.pair l (iA p)) (y.srcB64 l p)) (.next (s.cmp64 c slot p g)) :=
  laneBits_formatA hr hy hl fun z l h => by rw [pair_of_sameLane hl h, srcB64_of_sameLane hl h]

theorem opPred_bits (hl : LegalA ⟨false, 0, true, true⟩ y p) (g : Bool → Bool → Bool) :
    LaneBits u y c slot (iQ p) (fun l => g (y.pred l (iA p % 8)) (if iImm p then (iImm32 p).getLsbD 0 else y.pred l (iB p % 8)))
      (.next (s.opPred c slot p g)) :=
  laneBits_formatA hr hy hl fun z l h => by rw [h.pred, h.pred]

end

section
variable {s u : State} {y : Tray} {c : CoreIx} {slot : Fin 16} {p : BitVec 54} (hr : Runs s c slot u y) (hy : TrayTables y)
include hr hy

theorem execTMov_words (hl : LegalA ⟨false, 1, false, true⟩ y p) :
    LaneWords u y c slot (iD p) (fun l => y.reg l (iA p)) 0 (execTMov c slot p s) :=
  laneWords_plain hr hy hl fun z l h => by rw [h.reg _ (iA_lt p)]

theorem execTSel_words (hl : LegalA ⟨false, 2, false, true⟩ y p) :
    LaneWords u y c slot (iD p) (fun l => if y.pred l (iQ p) then y.reg l (iA p) else y.srcB l p) 0 (execTSel c slot p s) :=
  laneWords_plain hr hy hl fun z l h => by rw [h.reg _ (iA_lt p), h.pred, srcB_of_sameLane (iB_lt p) h]

end

/-! ## Smaller and larger of two -/

section
variable {α β : Type} [LinearOrder β]

theorem ite_gt_eq_ite_le (f : α → β) (a b : α) : (if f b < f a then b else a) = if f a ≤ f b then a else b := by
  simp only [← not_le, ite_not]

theorem ite_lt_eq_ite_le {f : α → β} (hf : Function.Injective f) (a b : α) : (if f a < f b then b else a) = if f a ≤ f b then b else a := by
  obtain hlt | heq | hgt := lt_trichotomy (f a) (f b)
  · rw [if_pos hlt, if_pos hlt.le]
  · rw [hf heq, ite_self, ite_self]
  · rw [if_neg hgt.not_gt, if_neg hgt.not_ge]

end

theorem toInt_injective {n : Nat} : Function.Injective (BitVec.toInt (n := n)) := fun _ _ => BitVec.eq_of_toInt_eq

/-- Settles O15: every integer instruction is its function on the words, or pairs, of the lane. -/
theorem trayIntegerResults : Obligations.TrayIntegerResults := by
  unfold Obligations.TrayIntegerResults
  refine ⟨?_, ?_⟩
  · intro s u y c slot p hr a b d hy
    refine ⟨fun hl => ?_, execTMov_words hr hy⟩
    have two := op32_words hr hy hl
    have order := fun {g h} => op32_words_of_eq hr hy hl (g := g) (h := h)
    exact ⟨two (· + ·), two (· - ·), two (· * ·), order (g := wordMin) (ite_gt_eq_ite_le BitVec.toInt),
      order (g := wordMax) (ite_lt_eq_ite_le toInt_injective), order (ite_gt_eq_ite_le BitVec.toNat), order (ite_lt_eq_ite_le BitVec.toNat_injective),
      two (· &&& ·), two (· ||| ·), two (· ^^^ ·), two fun a b => a <<< (b.toNat % 32), two fun a b => a >>> (b.toNat % 32),
      two fun a b => a.sshiftRight (b.toNat % 32), execTSel_words hr hy hl⟩
  · intro s u y c slot p hr a b d hy hl
    have two := op64_pairs hr hy hl
    have order := fun {g h} => op64_pairs_of_eq hr hy hl (g := g) (h := h)
    exact ⟨two (· + ·), two (· - ·), order (ite_gt_eq_ite_le BitVec.toInt), order (ite_lt_eq_ite_le toInt_injective)⟩

/-- Settles O16: every compare is its truth value on the words, or pairs, of the lane. -/
theorem trayPredicateResults : Obligations.TrayPredicateResults := by
  unfold Obligations.TrayPredicateResults
  intro s u y c slot p hr a b pb q hy
  refine ⟨fun hl => ?_, fun hl => ?_, fun hl => ?_⟩
  · have cmp := cmp32_bits hr hy hl
    exact ⟨cmp fun a b => decide (a.toInt < b.toInt), cmp fun a b => decide (a.toInt ≤ b.toInt), cmp fun a b => decide (a = b),
      cmp fun a b => decide (a.toNat < b.toNat), cmp fun a b => decide (a.toNat ≤ b.toNat), cmp fpLt, cmp fpLe, cmp fpEq⟩
  · have cmp := cmp64_bits hr hy hl
    exact ⟨cmp fun a b => decide (a.toInt < b.toInt), cmp fun a b => decide (a = b)⟩
  · have op := opPred_bits hr hy hl
    exact ⟨op fun a b => a && b, op fun a b => a || b, op fun a _ => !a⟩

end Sys2Proof.Laws
end

section
/-!
PROOFS. Jumps, divergence and the mask stack of a tray (R133 to R136, R154, R172).
-/

namespace Sys2Proof.Laws
open Sys2Proof Sys2Proof.Machine

/-! ## A tray after a write of it -/

/-- A write of a key below every listed one puts it in front. -/
theorem tab_set_low {α : Type} [DecidableEq α] {d : α} {k : Nat} {t : Tab α} (h : Tab.wfFrom d (some k) t = true) (v : α) :
    Tab.set d t k v = if v = d then t else (k, v) :: t := by
  cases t with
  | nil => rfl
  | cons e r =>
    simp only [Tab.wfFrom, Bool.and_eq_true, decide_eq_true_eq] at h
    simp only [Tab.set, if_pos h.1.1]

/-- Of two writes of one key the later decides. -/
theorem tab_setFrom_set {α : Type} [DecidableEq α] {d : α} {lo : Option Nat} {t : Tab α} (h : Tab.wfFrom d lo t = true) (k : Nat) (v w : α) :
    Tab.set d (Tab.set d t k v) k w = Tab.set d t k w := by
  induction t generalizing lo with
  | nil => by_cases hv : v = d <;> simp [Tab.set, hv]
  | cons e r ih =>
    obtain ⟨j, x⟩ := e
    simp only [Tab.wfFrom, Bool.and_eq_true, decide_eq_true_eq] at h
    obtain ⟨-, hr⟩ := h
    obtain hlt | heq | hgt := lt_trichotomy k j
    · by_cases hv : v = d <;> simp [Tab.set, hlt, hv]
    · subst heq
      by_cases hv : v = d <;> simp [Tab.set, hv, tab_set_low hr]
    · simp [Tab.set, hgt.not_gt, hgt.ne', ih hr]

theorem tab_set_set {α : Type} [DecidableEq α] {d : α} {t : Tab α} (h : Tab.wf d t = true) (k : Nat) (v w : α) :
    Tab.set d (Tab.set d t k v) k w = Tab.set d t k w :=
  tab_setFrom_set h k v w

/-- A write of what the key holds changes nothing. -/
theorem tab_setFrom_get {α : Type} [DecidableEq α] {d : α} {lo : Option Nat} {t : Tab α} (h : Tab.wfFrom d lo t = true) (k : Nat) :
    Tab.set d t k (Tab.get d t k) = t := by
  induction t generalizing lo with
  | nil => simp [Tab.set, Tab.get]
  | cons e r ih =>
    obtain ⟨j, x⟩ := e
    simp only [Tab.wfFrom, Bool.and_eq_true, decide_eq_true_eq] at h
    obtain ⟨⟨-, hx⟩, hr⟩ := h
    obtain hlt | heq | hgt := lt_trichotomy k j
    · simp [Tab.set, Tab.get, hlt, hlt.ne]
    · simp [Tab.set, Tab.get, heq, hx]
    · simp [Tab.set, Tab.get, hgt.not_gt, hgt.ne', ih hr]

theorem tab_set_get {α : Type} [DecidableEq α] {d : α} {t : Tab α} (h : Tab.wf d t = true) (k : Nat) : Tab.set d t k (Tab.get d t k) = t :=
  tab_setFrom_get h k

/-- The cores of the state, and the trays of core `c`, are in canonical form. -/
structure TraysCanonical (s : State) (c : Nat) : Prop where
  cores : Tab.wf Core.blank s.cores = true
  trays : Tab.wf Tray.blank (s.core c).trays = true

section
variable {s : State} {c : Nat} (h : TraysCanonical s c) (slot : Nat)
include h

theorem core_setTray (t : Tray) (d : Nat) : (s.setTray c slot t).core d
    = if d = c then { s.core c with trays := Tab.set Tray.blank (s.core c).trays slot t } else s.core d :=
  core_onCore h.cores c d _

theorem tray_setTray (t : Tray) : ((s.setTray c slot t).core c).tray slot = t := by
  rw [core_setTray h slot t c, if_pos rfl, Core.tray, tab_get_set h.trays, if_pos rfl]

theorem traysCanonical_setTray (t : Tray) : TraysCanonical (s.setTray c slot t) c where
  cores := tab_wf_set h.cores _ _
  trays := by
    rw [core_setTray h slot t c, if_pos rfl]
    exact tab_wf_set h.trays _ _

theorem setTray_setTray (t t' : Tray) : (s.setTray c slot t).setTray c slot t' = s.setTray c slot t' := by
  have hcore := core_setTray h slot t c
  rw [if_pos rfl] at hcore
  simp only [State.setTray, State.onCore, State.setCore] at hcore ⊢
  rw [hcore]
  simp only [tab_set_set h.cores, tab_set_set h.trays]

theorem setTray_self : s.setTray c slot ((s.core c).tray slot) = s := by
  simp only [State.setTray, State.onCore, State.setCore, Core.tray, tab_set_get h.trays]
  rw [show Tab.set Core.blank s.cores c (s.core c) = s.cores from tab_set_get h.cores c]

end

/-! ## The stack without spilled entries -/

section
variable {u : State} {c slot : Nat} {l : Launch} (h : TraysCanonical u c) {y : Tray} (hy : (u.core c).tray slot = y)
include hy

/-- Every lane has exited and no entry is left: the tray ends (R134). -/
theorem popContinue_ends (hstack : y.stack = []) (hexited : y.exited = allLanes y.width) (fuel : Nat) :
    State.popContinue c slot l (fuel + 1) u = some (u.setTray c slot { y with ending := true, active := 0#64 }) := by
  simp only [State.popContinue, State.maskPop, hy, hstack, hexited, if_true]

variable {e : MaskEntry} {rest : List MaskEntry} (hstack : y.stack = e :: rest) (hspilled : y.spilled = 0)
include hstack hspilled

theorem maskPop_cons : u.maskPop c slot l = some (u.setTray c slot { y with stack := rest }, e) := by
  simp only [State.maskPop, hy, hstack, hspilled, if_true]

include h

/-- The tray goes on with the live lanes of the entry on top (R134). -/
theorem popContinue_live (hlive : e.mask &&& ~~~y.exited ≠ 0#64) (fuel : Nat) : State.popContinue c slot l (fuel + 1) u
    = some (u.setTray c slot { y with stack := rest, active := e.mask &&& ~~~y.exited, pc := e.pc }) := by
  simp only [State.popContinue, maskPop_cons hy hstack hspilled, tray_setTray h, if_neg hlive, setTray_setTray h]

/-- An entry all of whose lanes have exited is dropped (R134). -/
theorem popContinue_dead (hdead : e.mask &&& ~~~y.exited = 0#64) (fuel : Nat) : State.popContinue c slot l (fuel + 1) u
    = State.popContinue c slot l fuel (u.setTray c slot { y with stack := rest }) := by
  simp only [State.popContinue, maskPop_cons hy hstack hspilled, tray_setTray h, hdead, if_true]

end

/-- Any number of dead entries on top is dropped. -/
theorem popContinue_drops {u : State} {c slot : Nat} {l : Launch} (h : TraysCanonical u c) {y : Tray} (hy : (u.core c).tray slot = y)
    (hspilled : y.spilled = 0) {dead rest : List MaskEntry} (hdead : ∀ x ∈ dead, x.mask &&& ~~~y.exited = 0#64) (hstack : y.stack = dead ++ rest)
    (fuel : Nat) : State.popContinue c slot l (fuel + dead.length) u = State.popContinue c slot l fuel (u.setTray c slot { y with stack := rest }) := by
  induction dead generalizing u y with
  | nil =>
    have hkeep : { y with stack := rest } = (u.core c).tray slot := by rw [hy, ← List.nil_append rest, ← hstack]
    rw [hkeep, setTray_self h]
    rfl
  | cons x xs ih =>
    obtain ⟨hx, hxs⟩ := List.forall_mem_cons.mp hdead
    have htop : y.stack = x :: (xs ++ rest) := hstack
    have hmore := ih (traysCanonical_setTray h slot { y with stack := xs ++ rest }) (tray_setTray h slot _) hspilled hxs rfl
    rw [List.length_cons, ← Nat.add_assoc, popContinue_dead h hy htop hspilled hx, hmore, setTray_setTray h]

/-! ## Control instructions -/

/-- A legal control instruction leaves what its step answers (R134, R169). -/
theorem control_runs {s u t : State} {y : Tray} {c slot code : Nat} {p : BitVec 54} {l : Launch} (hr : Runs s c slot u y)
    (hlaunch : (u.core c).launchOf y = some l) (hlegal : formatCBad p = false) {k : Launch → Tray → State → Option State}
    (hk : k l y u = some t) : s.control c slot p code k = t := by
  simp only [State.control, trayDo_runs hr, tray_of_runs hr, hlaunch, hlegal, hk]
  rfl

/-- JMPI whose active lanes agree on the target (R135). -/
theorem execTJmpi_agree {s u : State} {y : Tray} {c : CoreIx} {slot : Fin 16} {p : BitVec 54} (hr : Runs s c slot u y)
    (hlegal : formatCBad p = false) {lane : Nat} {rest : List Nat} (hlanes : y.lanes = lane :: rest) (hA : regBad y false (iA p) = false)
    (hpoison : y.anyPoison [iA p] = false) (hagree : ∀ m ∈ rest, y.reg m (iA p) = y.reg lane (iA p)) :
    execTJmpi c slot p s = .next (u.setTray c slot { y with pc := (y.reg lane (iA p)).toNat }) := by
  have hsame : rest.any (fun m => y.reg m (iA p) ≠ y.reg lane (iA p)) = false := by simpa using hagree
  simp only [execTJmpi, trayDo_runs hr, tray_of_runs hr, hlegal, hA, hpoison, hlanes, hsame]
  rfl

/-- Settles O18: each control instruction is its step, and `pop_and_continue` drops the dead entries one by one. -/
theorem trayControlFlow : Obligations.TrayControlFlow := by
  unfold Obligations.TrayControlFlow
  refine ⟨?_, ?_⟩
  · intro s u y c slot p l hr taken hlaunch hlegal
    have run {t : State} {code : Nat} {k : Launch → Tray → State → Option State} (hk : k l y u = some t) :
        (.next (s.control c slot p code k) : Res) = .next t := congrArg _ (control_runs hr hlaunch hlegal hk)
    refine ⟨run rfl, run rfl, fun _ _ => execTJmpi_agree hr hlegal, fun t hpush => ?_, fun hall => ?_, fun hsome hnone => ?_,
      fun t hsome hnone hpush => ?_, fun hleft => ?_, fun t hleft hpop => ?_, fun t hpop => run hpop, fun t hpop => run hpop⟩
    · exact run (by rw [hpush, Option.map_some])
    · exact run (if_pos hall)
    · exact run ((if_neg hsome).trans (if_pos hnone))
    · exact run ((if_neg hsome).trans ((if_neg hnone).trans (by rw [hpush, Option.map_some])))
    · exact run (if_neg hleft)
    · exact run ((if_pos hleft).trans (by rw [hleft]; exact hpop))
  · intro u c slot fuel l dead rest e hcores htrays y hspilled hfuel hdead
    have h : TraysCanonical u c := ⟨hcores, htrays⟩
    obtain ⟨n, rfl⟩ : ∃ n, fuel = n + 1 + dead.length := ⟨fuel - dead.length - 1, by omega⟩
    refine ⟨fun hstack hlive => ?_, fun hstack hexited => ?_⟩
    · rw [popContinue_drops h rfl hspilled hdead hstack]
      have hgo := popContinue_live (l := l) (traysCanonical_setTray h slot { y with stack := e :: rest }) (tray_setTray h slot _) rfl hspilled hlive n
      rw [hgo, setTray_setTray h]
    · rw [popContinue_drops h rfl hspilled hdead (hstack.trans (List.append_nil dead).symm)]
      have hgo := popContinue_ends (l := l) (tray_setTray h slot { y with stack := [] }) rfl hexited n
      rw [hgo, setTray_setTray h]

end Sys2Proof.Laws
end

section
/-!
PROOFS. A store to the bench (R137, R138, R161): the requests by sector leave the same bytes as the lanes' stores one after another.
-/

namespace Sys2Proof.Laws
open Sys2Proof Sys2Proof.Machine

/-! ## Bytes stored one after another -/

/-- The bytes of a list, address and byte, stored in order. -/
def storeAll (b : Tab Byte) (l : List (Nat × Byte)) : Tab Byte := l.foldl (fun b x => Tab.set 0#8 b x.1 x.2) b

theorem tab_wf_storeAll {b : Tab Byte} (h : Tab.wf 0#8 b = true) (l : List (Nat × Byte)) : Tab.wf 0#8 (storeAll b l) = true :=
  List.foldlRecOn l _ (motive := fun b => Tab.wf 0#8 b = true) h fun _ hb x _ => tab_wf_set hb x.1 x.2

/-- What the last store at address `a` leaves there. -/
def lastByte (l : List (Nat × Byte)) (a : Nat) : Option Byte := (l.reverse.find? (fun x => x.1 = a)).map Prod.snd

theorem tab_get_storeAll {b : Tab Byte} (h : Tab.wf 0#8 b = true) (l : List (Nat × Byte)) (a : Nat) :
    Tab.get 0#8 (storeAll b l) a = (lastByte l a).getD (Tab.get 0#8 b a) := by
  induction l using List.reverseRecOn with
  | nil => rfl
  | append_singleton l x ih =>
    have hlast : storeAll b (l ++ [x]) = Tab.set 0#8 (storeAll b l) x.1 x.2 := by simp [storeAll]
    rw [hlast, tab_get_set (tab_wf_storeAll h l), ih]
    by_cases hx : x.1 = a
    · simp [lastByte, hx]
    · simp [lastByte, hx, Ne.symm hx]

/-- The bytes of one sector. -/
def inSector (l : List (Nat × Byte)) (a : Nat) : List (Nat × Byte) := l.filter (fun x => x.1 / 32 * 32 = a)

theorem lastByte_inSector (l : List (Nat × Byte)) (a x : Nat) : lastByte (inSector l a) x = if x / 32 * 32 = a then lastByte l x else none := by
  simp only [lastByte, inSector, ← List.filter_reverse, List.find?_filter]
  split
  next hx =>
    congr 2
    funext b
    by_cases hb : b.1 = x <;> simp [hb, hx]
  next hx =>
    rw [Option.map_eq_none_iff, List.find?_eq_none]
    rintro b - hb
    simp only [decide_eq_true_eq] at hb
    exact hx (hb.2 ▸ hb.1)

/-- The sectors of a list of stores, one after another. -/
def storeSectors (l : List (Nat × Byte)) (b : Tab Byte) (secs : List Nat) : Tab Byte := secs.foldl (fun b a => storeAll b (inSector l a)) b

theorem tab_get_storeSectors (l : List (Nat × Byte)) {b : Tab Byte} (h : Tab.wf 0#8 b = true) (secs : List Nat) (x : Nat) :
    Tab.get 0#8 (storeSectors l b secs) x = if x / 32 * 32 ∈ secs then (lastByte l x).getD (Tab.get 0#8 b x) else Tab.get 0#8 b x := by
  induction secs generalizing b with
  | nil => rfl
  | cons a secs ih =>
    have hstep : Tab.get 0#8 (storeAll b (inSector l a)) x = if x / 32 * 32 = a then (lastByte l x).getD (Tab.get 0#8 b x) else Tab.get 0#8 b x := by
      rw [tab_get_storeAll h, lastByte_inSector]
      split <;> rfl
    rw [storeSectors, List.foldl_cons, ← storeSectors, ih (tab_wf_storeAll h _), hstep]
    by_cases ha : x / 32 * 32 = a
    · have htwice : (lastByte l x).getD ((lastByte l x).getD (Tab.get 0#8 b x)) = (lastByte l x).getD (Tab.get 0#8 b x) := by
        cases lastByte l x <;> rfl
      simp only [ha, if_true, List.mem_cons, true_or, htwice, ite_self]
    · simp only [ha, if_false, List.mem_cons, false_or]

theorem mem_sectorsOf {l : List Nat} {x : Nat} : x ∈ sectorsOf l ↔ ∃ a ∈ l, a / 32 * 32 = x := by
  induction l with
  | nil => simp [sectorsOf]
  | cons a l ih =>
    simp only [sectorsOf, List.exists_mem_cons_iff, ← ih]
    by_cases hx : a / 32 * 32 = x
    · split <;> simp [hx]
    · split <;> simp [hx, Ne.symm hx]

/-- Every sector named, each with its bytes: what storing all bytes in order leaves. -/
theorem tab_get_storeSectors_all (l : List (Nat × Byte)) {b : Tab Byte} (h : Tab.wf 0#8 b = true) (x : Nat) :
    Tab.get 0#8 (storeSectors l b (sectorsOf (l.map Prod.fst))) x = (lastByte l x).getD (Tab.get 0#8 b x) := by
  rw [tab_get_storeSectors l h]
  split
  next => rfl
  next hout =>
    have hnone : lastByte l x = none := by
      rw [lastByte, Option.map_eq_none_iff, List.find?_eq_none]
      intro y hy hyx
      refine hout (mem_sectorsOf.mpr ⟨y.1, List.mem_map_of_mem (List.mem_reverse.mp hy), ?_⟩)
      rw [of_decide_eq_true hyx]
    rw [hnone]
    rfl

/-! ## The bench of one core -/

/-- Of `u` only core `c` has changed; it keeps its trays, and its bench is `b`. -/
structure BenchIs (u : State) (c : Nat) (b : Tab Byte) (t : State) : Prop where
  frame : t = { u with cores := t.cores }
  cores : Tab.wf Core.blank t.cores = true
  others : ∀ d, d ≠ c → t.core d = u.core d
  trays : (t.core c).trays = (u.core c).trays
  bench : (t.core c).bench = b

section
variable {u t : State} {c : Nat} {b : Tab Byte}

theorem benchIs_refl (h : Tab.wf Core.blank u.cores = true) : BenchIs u c (u.core c).bench u := ⟨rfl, h, fun _ _ => rfl, rfl, rfl⟩

theorem benchIs_onCore (h : BenchIs u c b t) {f : Core → Core} {b' : Tab Byte} (htrays : (f (t.core c)).trays = (t.core c).trays)
    (hbench : (f (t.core c)).bench = b') : BenchIs u c b' (t.onCore c f) where
  frame := congrArg (fun s : State => { s with cores := (t.onCore c f).cores }) h.frame
  cores := tab_wf_set h.cores _ _
  others d hd := by rw [core_onCore h.cores, if_neg hd, h.others d hd]
  trays := by rw [core_onCore h.cores, if_pos rfl, htrays, h.trays]
  bench := by rw [core_onCore h.cores, if_pos rfl, hbench]

/-- One byte written (R138, R197). -/
theorem benchIs_benchWrite (h : BenchIs u c b t) (a : Nat) (v : Byte) (m : Half) (poison : Bool) :
    BenchIs u c (Tab.set 0#8 b a v) (t.benchWrite c a [v] m poison) := by
  unfold State.benchWrite
  refine benchIs_onCore h ?_ ?_
  · rfl
  · rw [← h.bench]
    rfl

/-- One store request: its bytes in the order of the list (R138). -/
theorem benchIs_unitPatch {e : Env} (he : e.core = c) {a : Nat} (ha : a + 32 ≤ benchSize) (l : List (Nat × Byte)) (h : BenchIs u c b t) :
    (t.unitPatch e false a ((inSector l a).map (fun x => (x.1 % 32, x.2)))).2 = .ok
      ∧ BenchIs u c (storeAll b (inSector l a)) (t.unitPatch e false a ((inSector l a).map (fun x => (x.1 % 32, x.2)))).1 := by
  have hsector : ∀ x ∈ inSector l a, a + x.1 % 32 = x.1 := fun x hx => by
    have hx' : x.1 / 32 * 32 = a := of_decide_eq_true (List.mem_filter.mp hx).2
    omega
  generalize inSector l a = l' at hsector
  simp only [State.unitPatch, if_neg ha.not_gt, List.foldl_map, he, Bool.false_eq_true, if_false, true_and]
  induction l' generalizing b t with
  | nil => exact h
  | cons x l' ih =>
    obtain ⟨hx, hrest⟩ := List.forall_mem_cons.mp hsector
    rw [List.foldl_cons, hx]
    exact ih (benchIs_benchWrite h _ _ _ _) hrest

/-- Requests that each succeed and store their part. -/
theorem benchIs_requests {f : State × AccSt → Nat → State × AccSt} {g : Tab Byte → Nat → Tab Byte} {secs : List Nat}
    (hstep : ∀ a ∈ secs, ∀ t b, BenchIs u c b t → (f (t, .ok) a).2 = .ok ∧ BenchIs u c (g b a) (f (t, .ok) a).1)
    (h : BenchIs u c b t) : (secs.foldl f (t, .ok)).2 = .ok ∧ BenchIs u c (secs.foldl g b) (secs.foldl f (t, .ok)).1 := by
  induction secs generalizing b t with
  | nil => exact ⟨rfl, h⟩
  | cons a secs ih =>
    obtain ⟨hfirst, hrest⟩ := List.forall_mem_cons.mp hstep
    obtain ⟨hok, hthen⟩ := hfirst t b h
    have hpair : f (t, .ok) a = ((f (t, .ok) a).1, .ok) := Prod.ext rfl hok
    rw [List.foldl_cons, List.foldl_cons, hpair]
    exact ih hrest hthen

end

/-! ## The bytes of a store -/

theorem mem_storeBytes {y : Tray} {p : BitVec 54} {x : Nat × Byte} (h : x ∈ y.storeBytes p) : ∃ l ∈ y.lanes, ∃ i < mBytes p, x.1 = y.ea l p + i := by
  simp only [Tray.storeBytes, List.mem_flatMap, List.mem_map] at h
  obtain ⟨l, hl, b, hb, rfl⟩ := h
  have hi := (List.mem_zipIdx hb).2.1
  rw [leBytes_length] at hi
  exact ⟨l, hl, b.2, by omega, rfl⟩

/-- Bench addresses that pass the check and name no register end inside the bench (R194). -/
theorem storeBytes_in_bench {y : Tray} {p : BitVec 54} (hsp : mSp p = false) (hfault : y.benchFault p (mBytes p) true = none)
    (hblock : ∀ l ∈ y.lanes, inRegBlock (y.ea l p) = false) {x : Nat × Byte} (hx : x ∈ y.storeBytes p) : x.1 < benchSize := by
  obtain ⟨l, hl, i, hi, he⟩ := mem_storeBytes hx
  simp only [Tray.benchFault, hsp, Bool.false_eq_true, if_false, List.find?_eq_none, List.forall_mem_map] at hfault
  have hfit := hfault l hl
  simp only [hblock l hl, Bool.and_false, Bool.false_and, Bool.not_false, Bool.and_true, decide_eq_true_eq] at hfit
  omega

/-- A store that names no register does nothing to the register block. -/
theorem storeBlock_none {y : Tray} {p : BitVec 54} (hblock : ∀ l ∈ y.lanes, inRegBlock (y.ea l p) = false) (x : Core) : x.storeBlock y p = x := by
  refine List.foldlRecOn _ _ (motive := fun z => z = x) rfl fun z hz l hl => ?_
  rw [hblock l (List.mem_filter.mp hl).1, Bool.and_false, if_neg Bool.false_ne_true, hz]

/-- The requests of a store to the bench. -/
theorem benchIs_storeRun {u : State} {y : Tray} {c slot : Nat} {p : BitVec 54} (hy : (u.core c).tray slot = y) (hsp : mSp p = false)
    (hfault : y.benchFault p (mBytes p) true = none) (hblock : ∀ l ∈ y.lanes, inRegBlock (y.ea l p) = false)
    (hcores : Tab.wf Core.blank u.cores = true) : (u.storeRun c slot p).2 = .ok
      ∧ BenchIs u c (storeSectors (y.storeBytes p) (u.core c).bench (sectorsOf ((y.storeBytes p).map Prod.fst))) (u.storeRun c slot p).1 := by
  have hin := fun x hx => storeBytes_in_bench (x := x) hsp hfault hblock hx
  have hall : (y.storeBytes p).filter (fun b => mSp p || !inRegBlock b.1) = y.storeBytes p := List.filter_eq_self.mpr fun x hx => by
    have hlt := hin x hx
    simp only [benchSize] at hlt
    have hout : inRegBlock x.1 = false := decide_eq_false (by simp only [regBlockBase]; omega)
    rw [hout, Bool.not_false, Bool.or_true]
  simp only [State.storeRun, hy, hall]
  refine benchIs_requests (fun a ha t b h => ?_) (benchIs_refl hcores)
  obtain ⟨_, hnamed, rfl⟩ := mem_sectorsOf.mp ha
  obtain ⟨x, hx, rfl⟩ := List.mem_map.mp hnamed
  have hlt := hin x hx
  rw [hsp]
  refine benchIs_unitPatch rfl ?_ (y.storeBytes p) h
  simp only [benchSize] at hlt ⊢
  omega

/-- A legal store whose requests all succeed (R138, R154). -/
theorem execTSt_done {s u w : State} {y : Tray} {c : CoreIx} {slot : Fin 16} {p : BitVec 54} (hr : Runs s c slot u y)
    (hl : LegalM y p (mBytes p) (fun t => mAddrBad t p || regBad t (mPair p) (iD p)) (mAddrRegs p ++ pairRegs (mPair p) (iD p)) true)
    (hrun : u.storeRun c slot p = (w, .ok)) {b : State} (hb : w.onCore c (fun x => x.storeBlock y p) = b) :
    execTSt c slot p s = .next (b.setTray c slot ((b.core c).tray slot).next.cleared) := by
  simp only [execTSt, memDo_legal hr hl, hrun, hb]

/-- Settles O20: the requests by sector store the bytes of the lanes in order, and nothing is left for the register block. -/
theorem trayBenchStores : Obligations.TrayBenchStores := by
  unfold Obligations.TrayBenchStores
  intro s u y c slot p hr hl hsp hblock hcores hbench htrays
  have ⟨_, _, _, hfault⟩ := hl
  obtain ⟨hok, hw⟩ := benchIs_storeRun (tray_of_runs hr) hsp hfault hblock hcores
  have hrun : u.storeRun c slot p = ((u.storeRun c slot p).1, .ok) := Prod.ext rfl hok
  generalize (u.storeRun c slot p).1 = w at hrun hw
  have hblk := storeBlock_none hblock (w.core c)
  have hb := benchIs_onCore hw (f := fun x => x.storeBlock y p) (congrArg Core.trays hblk) ((congrArg Core.bench hblk).trans hw.bench)
  rw [exec_tSt, execTSt_done hr hl hrun rfl]
  generalize w.onCore c (fun x => x.storeBlock y p) = b at hb
  have htabs : TraysCanonical b c := ⟨hb.cores, hb.trays ▸ htrays⟩
  have htray : (b.core c).tray slot = y := (congrArg (Tab.get Tray.blank · slot) hb.trays).trans (tray_of_runs hr)
  refine ⟨_, rfl, ?_, fun d hd => ?_, ?_, fun a => ?_⟩
  · exact congrArg (fun v : State => { v with cores := (b.setTray c slot ((b.core c).tray slot).next.cleared).cores }) hb.frame
  · rw [core_setTray htabs, if_neg hd, hb.others d hd]
  · rw [tray_setTray htabs, htray]
    rfl
  · have hbench' : ((b.setTray c slot ((b.core c).tray slot).next.cleared).core c).bench = (b.core c).bench := by rw [core_setTray htabs, if_pos rfl]
    rw [hbench', hb.bench, tab_get_storeSectors_all _ hbench, lastByte]
    cases (y.storeBytes p).reverse.find? (fun x => x.1 = a) <;> rfl

end Sys2Proof.Laws
end

section
/-!
PROOFS. Loads, stores and fold-ins of a tray whose requests all succeed (R137 to R139, R154, R171, R245, R253).
-/

namespace Sys2Proof.Laws
open Sys2Proof Sys2Proof.Machine

section
variable {s u : State} {y : Tray} {c slot : Nat} {p : BitVec 54} (hr : Runs s c slot u y)
include hr

/-- A load gives D of every active lane what its requests found, and shows poison and staleness in TSTAT (R128, R138, R245). -/
theorem load_done {ldl : Bool} {r : SecRead} (hrun : u.loadRun c slot p ldl = r) {t : State} (ht : r.s.trayTaint c slot r.taint = t)
    (hl : LegalM y p (mBytes p) (fun t => mAddrBad t p || regBad t (mPair p) (iD p)) (mAddrRegs p) true) (hok : r.st = .ok) :
    s.load c slot p ldl = (t.setTray c slot (y.lanes.foldl (fun z l => z.loadReg l p (r.value (t.core c) p (y.ea l p)).1
        (r.value (t.core c) p (y.ea l p)).2) ((t.core c).tray slot)).next).tflags c
      ((if y.lanes.any (fun l => (r.value (t.core c) p (y.ea l p)).2) then tPoison else 0) + (if r.stale then tStale else 0)) := by
  simp only [State.load, memDo_legal hr hl, hrun, hok, ht]

end

section
variable {s u : State} {y : Tray} {c : CoreIx} {slot : Fin 16} {p : BitVec 54} (hr : Runs s c slot u y)
include hr

/-- Fold-in requests that all succeed: TSTAT takes the bits they raised (R251, R253). -/
theorem execTFold_done {f : State} {fl : Nat} (hrun : u.foldRun c slot p = (f, .ok, fl))
    (hl : LegalM y p (fmtBits (iFmt p) / 8) (fun t => mAddrBad t p || !foldPairOk (iFmt p) (mSize p) || regBad t (mPair p) (iD p))
      (mAddrRegs p ++ pairRegs (mPair p) (iD p)) false) (hsp : mSp p = true) :
    execTFold c slot p s = .next ((f.setTray c slot ((f.core c).tray slot).next.cleared).tflags c fl) := by
  simp only [execTFold, memDo_legal hr hl, hsp, hrun]
  rfl

theorem execTrayFence_legal (hscope : mScope p ≠ 3) : execTrayFence c slot p s = .next (u.setTray c slot { y with pc := y.pc + 8 }) := by
  simp only [execTrayFence, trayDo_runs hr, tray_of_runs hr, if_neg hscope]
  rfl

end

/-- Settles O19: each access is its lemma above. -/
theorem trayMemoryAccesses : Obligations.TrayMemoryAccesses := by
  unfold Obligations.TrayMemoryAccesses
  refine ⟨?_, ?_⟩
  · intro s u t y c slot p ldl r hr hrun ht v hl hok
    have hload := congrArg (Host.Outcome.next : State → Res) (load_done hr hrun ht hl hok)
    cases ldl with
    | false => exact hload
    | true => exact hload
  · intro s u y c slot p hr
    refine ⟨fun w b hrun hb hl => ?_, fun f fl hrun hl hsp => ?_, fun hscope => ?_⟩
    · exact execTSt_done hr hl hrun hb
    · exact execTFold_done hr hrun hl hsp
    · exact execTrayFence_legal hr hscope

end Sys2Proof.Laws
end

section
/-!
PROOFS. Atomics and locks of a tray (R141 to R151).
-/

namespace Sys2Proof.Laws
open Sys2Proof Sys2Proof.Machine

/-! ## Atomics -/

/-- An ATOM whose requests all succeed (R142, R154). -/
theorem atom_done {s u : State} {y : Tray} {c slot : Nat} {p : BitVec 54} (hr : Runs s c slot u y) {fpOnly cas : Bool}
    {step : Tray → Nat → Nat → Nat} (hl : LegalM y p (mBytes p) (atomBad p fpOnly cas) (atomSources p cas) false) {q : AtomAcc} {t : State}
    (hrun : u.atomRun c slot p step = q) (hok : q.st = .ok) (ht : q.s.trayTaint c slot q.taint = t) :
    s.atom c slot p fpOnly cas step = (t.setTray c slot (((t.core c).tray slot).atomResults p q.rets).next.cleared).tflags c
      (if q.rets.any (fun x => x.2.2) then tPoison else 0) := by
  simp only [State.atom, memDo_legal hr hl, hrun, hok, ht]

/-- The signed smaller of the word and the operand, in the width of the access (Table 5-9). -/
theorem intStep_signedMin (p : BitVec 54) : intStep p (fun v b => if signedLess p b v then b else v) = fun t l v =>
    (if sext (8 * mBytes p) (t.atomB p l) < sext (8 * mBytes p) v then t.atomB p l else v) % 2 ^ (8 * mBytes p) := by
  funext t l v
  simp only [intStep, signedLess, decide_eq_true_eq]

theorem intStep_signedMax (p : BitVec 54) : intStep p (fun v b => if signedLess p v b then b else v) = fun t l v =>
    (if sext (8 * mBytes p) v < sext (8 * mBytes p) (t.atomB p l) then t.atomB p l else v) % 2 ^ (8 * mBytes p) := by
  funext t l v
  simp only [intStep, signedLess, decide_eq_true_eq]

/-! ## Locks -/

/-- A LOCK or UNLOCK by virtual address whose accesses all succeed: the statuses in D (R147, R154). -/
theorem lockOp_done {s u : State} {y z : Tray} {c slot : Nat} {p : BitVec 54} {lock : Bool} {r : LockAcc} (hr : Runs s c slot u y)
    (hrun : u.lockRun c slot p lock = r)
    (hz : r.rets.foldl (fun u x => u.setReg x.1 (iD p) (BitVec.ofNat 32 x.2.1) x.2.2) ((r.s.core c).tray slot) = z)
    (hl : LegalM y p 8 (fun t => decide (mSize p ≠ 3) || mAddrBad t p || regBad t false (iD p)) (mAddrRegs p) false) (hsp : mSp p = true)
    (hok : r.st = .ok) :
    s.lockOp c slot p lock = (r.s.setTray c slot (if r.got lock then z.next.cleared else z.next)).tflags c (r.tflags lock) := by
  simp only [State.lockOp, memDo_legal hr hl, hsp, hrun, hok, hz]
  rfl

section
variable {w core slot lane incarn : Nat} (hres : lkReserved w = 0)
include hres

theorem lockStatus_free (hfree : lkHeld w = false) : lockStatus w core slot lane incarn = 0 := by
  simp [lockStatus, hres, hfree]

variable (hheld : lkHeld w = true) (hlive : lkIncarn w = incarn)
include hheld hlive

/-- The holder is a lane of the same tray (Table 5-11a). -/
theorem lockStatus_own (hcore : lkCore w = core) (hslot : lkSlot w = slot) :
    lockStatus w core slot lane incarn = if lkLane w = lane then 3 else 2 := by
  simp [lockStatus, hres, hheld, hlive, hcore, hslot]

theorem lockStatus_other (hother : ¬ (lkCore w = core ∧ lkSlot w = slot)) : lockStatus w core slot lane incarn = 1 := by
  simp [lockStatus, hres, hheld, hlive, if_neg hother]

end

section
variable {s : State} {c slot lane w : Nat}

/-- A status that is no acquisition leaves the word (R147). -/
theorem lockStep_of_status {st : Nat} (hst : lockStatus w c slot lane (s.incarnOf (lkCore w)) = st) (hno : st ≠ 0) (hno' : st ≠ 7) :
    s.lockStep c slot lane w = (w, st) := by
  simp only [State.lockStep, hst, hno, hno', or_self, if_false]

theorem lockStep_free (hst : lockStatus w c slot lane (s.incarnOf (lkCore w)) = 0) (hroom : (s.core c).locks.length < 64) :
    s.lockStep c slot lane w = (lockWord (s.incarnOf c) c slot lane (lkCount w + 1), 0) := by
  simp only [State.lockStep, hst, true_or, if_true, if_neg hroom.not_ge]

theorem lockStep_full (hst : lockStatus w c slot lane (s.incarnOf (lkCore w)) = 0) (hfull : 64 ≤ (s.core c).locks.length) :
    s.lockStep c slot lane w = (w, 5) := by
  simp only [State.lockStep, hst, true_or, if_true, if_pos hfull.ge]

variable (hres : lkReserved w = 0)
include hres

theorem unlockStep_holder (hheld : lkHeld w = true) (hcore : lkCore w = c) (hslot : lkSlot w = slot) (hlane : lkLane w = lane)
    (hlive : lkIncarn w = s.incarnOf c) : s.unlockStep c slot lane w = (lkCount w, 0) := by
  simp [State.unlockStep, lockMine, hres, hheld, hcore, hslot, hlane, hlive]

theorem unlockStep_other
    (hother : ¬ (lkHeld w = true ∧ lkCore w = c ∧ lkSlot w = slot ∧ lkLane w = lane ∧ lkIncarn w = s.incarnOf c)) :
    s.unlockStep c slot lane w = (w, 1) := by
  have hmine : (lockMine w c slot lane && decide (lkIncarn w = s.incarnOf c)) = false := by
    simpa [lockMine, and_assoc] using hother
  simp only [State.unlockStep, hres, hmine]
  rfl

end

/-- Settles O21: every atomic is its step under `atom_done`, and a lock word goes by its status. -/
theorem trayAtomicsAndLocks : Obligations.TrayAtomicsAndLocks := by
  unfold Obligations.TrayAtomicsAndLocks
  refine ⟨?_, ?_, ?_⟩
  · intro s u y c slot p hr gives
    have done (fpOnly cas : Bool) (step : Tray → Nat → Nat → Nat) : gives fpOnly cas step (.next (s.atom c slot p fpOnly cas step)) :=
      fun hl _ _ hrun hok ht => congrArg _ (atom_done hr hl hrun hok ht)
    have int (f : Nat → Nat → Nat) := done false false (intStep p f)
    have fp (f : Word → Word → Word) := done true false (fpStep p f)
    exact ⟨int (· + ·), intStep_signedMin p ▸ int fun v b => if signedLess p b v then b else v,
      intStep_signedMax p ▸ int fun v b => if signedLess p v b then b else v, int fun v b => if b < v then b else v,
      int fun v b => if v < b then b else v, int (· &&& ·), int (· ||| ·), int (· ^^^ ·), int fun _ b => b,
      done false true fun t l v => if v = t.atomC p l then t.atomB p l else v, fp fpMin, fp fpMax, fp fadd32⟩
  · intro s u y z c slot p lock r hr hrun hz hl hsp hok
    have hlock := congrArg (Host.Outcome.next : State → Res) (lockOp_done hr hrun hz hl hsp hok)
    cases lock with
    | false => exact hlock
    | true => exact hlock
  · intro s c slot lane w hres
    refine ⟨fun hfree hroom => ?_, fun hfree hfull => ?_, fun hheld hlive hcore hslot => ?_, fun hheld hlive hother => ?_,
      fun hheld hcore hslot hlane hlive => ?_, fun hother => ?_⟩
    · exact lockStep_free (lockStatus_free hres hfree) hroom
    · exact lockStep_full (lockStatus_free hres hfree) hfull
    · exact lockStep_of_status (lockStatus_own hres hheld hlive hcore hslot) (by split <;> decide) (by split <;> decide)
    · exact lockStep_of_status (lockStatus_other hres hheld hlive hother) (by decide) (by decide)
    · exact unlockStep_holder hres hheld hcore hslot hlane hlive
    · exact unlockStep_other hres hother

end Sys2Proof.Laws
end

section
/-!
PROOFS. Asynchronous copies of a tray, its split and its re-pack (R156 to R158, R165 to R167, R172, R174).
-/

namespace Sys2Proof.Laws
open Sys2Proof Sys2Proof.Machine

/-! ## Copies -/

section
variable {s u : State} {y : Tray} {c : CoreIx} {slot : Fin 16} {p : BitVec 54} (hr : Runs s c slot u y)
include hr

/-- An ACP that passes its checks: the copy is recorded with the tray and its counter rises (R156, R157). -/
theorem execAcp_recorded {lane : Nat} {rest : List Nat} (hlanes : y.lanes = lane :: rest)
    (hregs : (formatYBad p || regBad y (ySsp p) (iD p) || regBad y (yTsp p) (iA p) || regBad y false (iB p)) = false)
    (hclean : (pairRegs (ySsp p) (iD p) ++ pairRegs (yTsp p) (iA p) ++ [iB p]).any (fun r => y.poisoned lane r) = false)
    {src dst n : Nat} (hsrc : y.addrIn lane (iD p) (ySsp p) = src) (hdst : y.addrIn lane (iA p) (yTsp p) = dst) (hn : (y.reg lane (iB p)).toNat = n)
    (hshape : ((ySsp p && yTsp p) || decide (n % 32 ≠ 0 ∨ n < 32 ∨ n > 65536 ∨ src % 32 ≠ 0 ∨ dst % 32 ≠ 0) || decide (yCtr p ≥ y.nctr)) = false)
    (hsrcFits : (!ySsp p && decide (src + n > benchSize)) = false) (hdstFits : (!yTsp p && decide (dst + n > benchSize)) = false) :
    execAcp c slot p s = .next ((u.onCore c (fun x => { x with acpId := x.acpId + 1 })).setTray c slot
      { y with
        pc := y.pc + 8, progress := 0, ctrs := Tab.modify 0 y.ctrs (yCtr p) (· + 1)
        copies := y.copies ++ [⟨(u.core c).acpId, yCtr p, src, dst, ySsp p, yTsp p, n⟩] }) := by
  simp only [execAcp, trayDo_runs hr, tray_of_runs hr, hlanes, hregs, hclean, hsrc, hdst, hn, hshape, hsrcFits, hdstFits]
  rfl

/-- A legal WAITA records what it waits for and goes on where its counter is low enough (R157). -/
theorem execWaita_legal (hlegal : formatYBad p = false) (hctr : yCtr p < y.nctr) :
    execWaita c slot p s = .next (u.setTray c slot { y with wait := some (yCtr p, yM p) }.wake) := by
  simp only [execWaita, trayDo_runs hr, tray_of_runs hr, hlegal, decide_eq_false hctr.not_ge]
  rfl

end

/-- A tray whose counter is low enough goes on past its WAITA (R157). -/
theorem wake_of_le {y : Tray} {n m : Nat} (h : Tab.get 0 y.ctrs n ≤ m) :
    ({ y with wait := some (n, m) } : Tray).wake = { y with pc := y.pc + 8, progress := 0, wait := none } :=
  if_pos h

theorem wake_of_gt {y : Tray} {n m : Nat} (h : m < Tab.get 0 y.ctrs n) : ({ y with wait := some (n, m) } : Tray).wake = { y with wait := some (n, m) } :=
  if_neg h.not_ge

/-- A copy whose units all succeed (R157, R158). -/
theorem execAcpComplete_done {s q t : State} {y z : Tray} {c : CoreIx} {slot : Fin 16} {id : Nat} {r : AcpRec} {m : Half} {poison : Bool}
    (hy : (s.core c).tray slot = y) (hrec : y.copies.find? (fun r => r.id = id) = some r)
    (hunits : (List.range (r.bytes / 32)).foldl (acpUnit { s.trayEnv c slot with strict := false } r) (s, .ok, y.taint, false) = (q, .ok, m, poison))
    (ht : (q.trayTaint c slot (m &&& ~~~y.taint)).tflags c (if poison then tPoison else 0) = t) (hz : (t.core c).tray slot = z) :
    execAcpComplete c slot id s = .next (t.setTray c slot
      ({ z with copies := z.copies.filter (fun k => k.id ≠ id), ctrs := Tab.modify 0 z.ctrs r.ctr (fun v => v - 1) } : Tray).wake) := by
  simp only [execAcpComplete, hy, hrec, hunits, ht, hz]

/-! ## TSPLIT and TPACK -/

/-- The tray of the slot can split where a slot is free (R166). -/
def splitFits (x : Core) (y : Tray) (slot : Nat) : Bool :=
  decide (y.width ≥ 32) && y.stack.isEmpty && y.copies.isEmpty && !x.locks.any (fun r => r.slot = slot)
    && decide (x.regUsed + y.width / 2 * y.nreg * 4 ≤ regFileBytes)

theorem splitFits_iff {x : Core} {y : Tray} {slot : Nat} : splitFits x y slot = true ↔ 32 ≤ y.width ∧ y.stack = [] ∧ y.copies = []
    ∧ (∀ r ∈ x.locks, r.slot ≠ slot) ∧ x.regUsed + y.width / 2 * y.nreg * 4 ≤ regFileBytes := by
  simp [splitFits, and_assoc]

/-- Every named tray stands at the TPACK of the tray at `pc` (R167). -/
def allAtPack (x : Core) (m pc : Nat) : Bool :=
  (maskSlots m).all (fun i => decide ((x.tray i).present ∧ (x.tray i).pack = some m ∧ (x.tray i).pc = pc))

/-- The named trays are one, in the lowest slot (R167). -/
def gathered (v : State) (c d m : Nat) : State :=
  (maskSlots m).foldl (fun t i => if i = (maskSlots m).headD 0 then t else t.setTray c i Tray.blank)
    (v.setTray c ((maskSlots m).headD 0) ((v.core c).packed (maskSlots m) d))

/-- The named trays stay apart, with 1 in D (R167). -/
def keptApart (v : State) (c d m : Nat) : State :=
  (maskSlots m).foldl (fun t i => t.setTray c i { (((t.core c).tray i).result d 1#32).next with pack := none }) v

section
variable {s u : State} {y : Tray} {c : CoreIx} {slot : Fin 16} {p : BitVec 54} {l : Launch} (hr : Runs s c slot u y)
  (hlaunch : (u.core c).launchOf y = some l) (hservice : u.serviceOk c l = true) (hlegal : formatSBad p = false) (hD : regBad y false (iD p) = false)
include hr hlaunch hservice hlegal hD

theorem execTsplit_splits (hA : iA p = 0) (hfits : splitFits (u.core c) y slot = true) {n : Nat} (hfree : (u.core c).freeSlot = some n) :
    execTsplit c slot p s
      = .next ((u.setTray c slot (y.next.halves.1.result (iD p) 0#32)).setTray c n (y.next.halves.2.result (iD p) 0#32)) := by
  unfold splitFits at hfits
  simp only [execTsplit, trayDo_runs hr, tray_of_runs hr, hlaunch, hservice, hlegal, hD, hA, hfits, hfree]
  rfl

theorem execTsplit_refuses (hA : iA p = 0) (hno : splitFits (u.core c) y slot = false ∨ (u.core c).freeSlot = none) :
    execTsplit c slot p s = .next (u.setTray c slot (y.result (iD p) 1#32).next) := by
  have hnone : (if splitFits (u.core c) y slot then (u.core c).freeSlot else none) = none := by
    obtain hfits | hfree := hno
    · rw [hfits, if_neg Bool.false_ne_true]
    · rw [hfree, ite_self]
  unfold splitFits at hnone
  simp only [execTsplit, trayDo_runs hr, tray_of_runs hr, hlaunch, hservice, hlegal, hD, hA, hnone]
  rfl

/-- A legal TPACK that names the slots of `m` (R167). -/
theorem execTpack_legal {lane : Nat} {rest : List Nat} (hlanes : y.lanes = lane :: rest) (hA : regBad y false (iA p) = false)
    (hclean : y.poisoned lane (iA p) = false) {m : Nat} (hm : (y.reg lane (iA p)).toNat % 65536 = m) {v : State}
    (hv : u.setTray c slot { y with pack := some m } = v) : execTpack c slot p s = .next (
      if !m.testBit slot then u.setTray c slot (y.result (iD p) 1#32).next
      else if allAtPack (v.core c) m y.pc then
        if (v.core c).packOk (maskSlots m) then gathered v c (iD p) m else keptApart v c (iD p) m
      else v) := by
  simp only [execTpack, trayDo_runs hr, tray_of_runs hr, hlaunch, hservice, hlegal, hD, hlanes, hA, hclean, hm, hv]
  rfl

end

/-- Settles O22: each instruction under its hypotheses is its lemma above. -/
theorem trayCopiesAndSplits : Obligations.TrayCopiesAndSplits := by
  unfold Obligations.TrayCopiesAndSplits
  refine ⟨⟨?_, ?_⟩, ?_⟩
  · intro s u y c slot p hr hlegal hctr
    refine ⟨?_, fun hle => ?_, fun hgt => ?_⟩
    · intro lane rest hlanes src dst n hD hA hB hclean hva hn hmin hmax hsrc hdst hsrcFits hdstFits
      refine execAcp_recorded hr hlanes ?_ ?_ rfl rfl rfl ?_ ?_ ?_
      · rw [hlegal, hD, hA, hB]
        rfl
      · exact List.any_eq_false.mpr fun k hk => by rw [hclean k hk]; exact Bool.false_ne_true
      · have hspaces : (ySsp p && yTsp p) = false := by simpa using hva
        rw [hspaces, decide_eq_false hctr.not_ge, decide_eq_false (by omega)]
        rfl
      · simpa using hsrcFits
      · simpa using hdstFits
    · rw [exec_waita, execWaita_legal hr hlegal hctr, wake_of_le hle]
    · rw [exec_waita, execWaita_legal hr hlegal hctr, wake_of_gt hgt]
  · intro s q t y z c slot id r m poison hy hrec hunits ht hz
    exact execAcpComplete_done hy hrec hunits ht hz
  · rintro s u _ y c slot p l hr rfl hlaunch hservice hlegal hD
    refine ⟨?_, ?_⟩
    · intro hA fits
      refine ⟨fun n hfits hfree => ?_, fun hno => ?_⟩
      · exact execTsplit_splits hr hlaunch hservice hlegal hD hA (splitFits_iff.mpr hfits) hfree
      · exact execTsplit_refuses hr hlaunch hservice hlegal hD hA (hno.imp_left fun h => Bool.eq_false_iff.mpr fun e => h (splitFits_iff.mp e))
    · intro lane rest hlanes hA hclean m v all
      rw [exec_tpack, execTpack_legal hr hlaunch hservice hlegal hD hlanes hA hclean rfl rfl]
      refine ⟨fun hself => ?_, fun hself hall => ?_, fun hself hall hok => ?_, fun hself hall hok => ?_⟩
      · rw [hself]
        rfl
      · rw [hself, show allAtPack (v.core c) m y.pc = false from hall]
        rfl
      · rw [hself, show allAtPack (v.core c) m y.pc = true from hall, hok]
        rfl
      · rw [hself, show allAtPack (v.core c) m y.pc = true from hall, hok]
        rfl

end Sys2Proof.Laws
end

section
/-!
PROOFS. The life of a tray: launch, start, end, livelock (R124 to R127, R153 to R155, R159).
-/

namespace Sys2Proof.Laws
open Sys2Proof Sys2Proof.Machine

/-- A legal LAUNCH joins the launches where fewer than five still have trays to start (R124, R181). -/
theorem execLaunch_joins {s : State} {c : CoreIx} {p : BitVec 92} {crc : Word} (h : DescriptorRuns s c 9 p crc)
    (hroom : ((s.core c).launches.filter (fun l => l.started < l.ntrays)).length < 5) (hlegal : s.launchBad c p = false) :
    execLaunch c p crc s = .next ((s.onCore c (fun x => ({ x.taken with
      launches := x.launches ++ [({
        id := x.launchId, width := laWidth p, nreg := 8 * (bits 89 87 p + 1), nctr := bits 86 83 p, ntrays := bits 82 67 p + 1
        code := 8 * bits 66 51 p, args := laArgs p, dmax := laDmax p, spill := laSpill p, strict := bitAt p 10
        service := bitAt p 9, scen := bitAt p 8, sc := bits 7 5 p, ctx := (s.core c).task.ctx, taint := (s.core c).workTaint
        started := 0, ended := 0 } : Launch)]
      launchId := x.launchId + 1 }).scAdd (bitAt p 8) (bits 7 5 p))).clearQfull c 9) := by
  simp only [execLaunch, decodeDesc_runs h, if_neg hroom.not_ge, hlegal]
  rfl

/-- The next tray of the oldest launch that still has one starts in a free slot with room (R125, R127). -/
theorem execTrayStart_starts {s : State} {c : CoreIx} {slot : Fin 16} {l : Launch}
    (hlaunch : (s.core c).launches.find? (fun l => l.started < l.ntrays) = some l) (hfree : ((s.core c).tray slot).present = false)
    (hregs : (s.core c).regUsed + l.width * l.nreg * 4 ≤ regFileBytes) (hctrs : (s.core c).ctrUsed + l.nctr ≤ 64) :
    execTrayStart c slot s = .next ((s.setTray c slot { Tray.blank with
      present := true, launch := l.id, width := l.width, nreg := l.nreg, nctr := l.nctr, trayix := l.started
      pc := l.code, active := allLanes l.width }).onCore c (fun x =>
        { x with launches := setLaunch l.id (fun l => { l with started := l.started + 1 }) x.launches })) := by
  simp only [execTrayStart, hlaunch, hfree, Bool.false_eq_true, false_or, if_neg (not_or.mpr ⟨hregs.not_gt, hctrs.not_gt⟩)]

/-- A tray that ends, without copies outstanding, once its locks are released (R153, R159). -/
theorem execTrayEnd_ended {s t : State} {c : CoreIx} {slot : Fin 16} {y : Tray} (hy : (s.core c).tray slot = y) (hpresent : y.present = true)
    (hending : y.ending = true) (hcopies : y.copies = []) (hlocks : s.releaseLocks c (fun r => r.slot = slot) = some t) {t1 : State}
    (ht1 : t.tflags c ((if (s.core c).locks.any (fun r => r.slot = slot) then tLockleak else 0) + (if y.cancelled then tCancelled else 0)) = t1) :
    execTrayEnd c slot s = .next ((((if y.cancelled then t1.lastSlot c slot else t1).setTray c slot Tray.blank).onCore c (fun x =>
      { x with launches := setLaunch y.launch (fun l => { l with ended := l.ended + 1 }) x.launches })).launchDone c y.launch) := by
  simp only [execTrayEnd, hy, hpresent, hending, hcopies, hlocks, ht1]
  rfl

/-- A running tray whose progress counter is full traps at its instruction boundary (R154, R155). -/
theorem execLivelock_traps {s : State} {c : CoreIx} {slot : Fin 16} {y : Tray} (hy : (s.core c).tray slot = y) (hpresent : y.present = true)
    (htrap : y.trap = 0) (hending : y.ending = false) :
    execLivelock c slot s = .next (((s.setTray c slot { y with progress := 2 ^ 20 }).trayTrap c slot 0x26 false 0).tflags c tLivelock) := by
  simp only [execLivelock, hy, hpresent, htrap, hending]
  rfl

/-- Settles O23: each command under its hypotheses is its lemma above. -/
theorem trayLaunchAndEnd : Obligations.TrayLaunchAndEnd := by
  unfold Obligations.TrayLaunchAndEnd
  refine ⟨?_, ?_, ?_, ?_⟩
  · intro s c p crc h x hroom hlegal
    exact execLaunch_joins h hroom hlegal
  · intro s c slot l x hlaunch hfree hregs hctrs
    exact execTrayStart_starts hlaunch hfree hregs hctrs
  · intro s t c slot y hpresent hending hcopies hlocks t1 t2
    exact execTrayEnd_ended rfl hpresent hending hcopies hlocks rfl
  · intro s c slot y hpresent htrap hending
    exact execLivelock_traps rfl hpresent htrap hending

end Sys2Proof.Laws
end

section
/-!
PROOFS. Requests at the market that its sectors answer (R141, R142, R219, R220, R249, R252).
-/

namespace Sys2Proof.Laws
open Sys2Proof Sys2Proof.Machine

section
variable {s : State} {acc : Acc} {addr : Nat} (hentry : s.heldAtEntry acc addr = false)
include hentry

theorem execMarketRead_answers {n : Nat} {core : Option CoreIx} {r : URead}
    (hrun : (piecesOf 32 addr n).foldl (agentPiece false acc) ⟨s, .ok, [], [], 0#16, 0, false⟩ = r) (hok : r.st = .ok) :
    execMarketRead acc addr n core s
      = .next ((r.s.staleOf core (decide (r.stale ≠ 0))).replyData r.bytes r.poison (decide (r.stale ≠ 0)) r.taint) := by
  simp only [execMarketRead, hentry, hrun, hok]
  rfl

theorem execMarketWrite_answers {bytes : List Byte} {poison : Bool} {r : WrAcc}
    (hrun : (piecesOf 32 addr bytes.length).foldl (agentWritePiece acc poison) ⟨s, .ok, bytes⟩ = r) (hok : r.st = .ok) :
    execMarketWrite acc addr bytes poison s = .next (r.s.emit .sender 2 []) := by
  simp only [execMarketWrite, hentry, hrun, hok]
  rfl

/-- The word is updated once; each lane gets what its step found, or the poisoned word (R142, R404). -/
theorem execStallAtomic_answers {t : State} {op : AtomOp} {wide : Bool} {n : Nat} {lanes : List (Nat × Nat)} {v : View}
    (hn : (if wide then 8 else 4) = n)
    (hrun : s.modifySector acc (addr / 32) true (sectorUpdate (addr % 32) n (fun w => atomEnd op n w lanes)) = (t, .ok, v)) :
    execStallAtomic acc op wide addr lanes s = .next (t.emit .sender 2 ((if v.poison then 1 else 0) :: v.taint.toNat ::
      (if v.poison then lanes.map (fun _ => leNat (sliceSector (addr % 32) n v.data)) else atomChain op n (leNat (sliceSector (addr % 32) n v.data)) lanes))) := by
  simp only [execStallAtomic, hentry, hn, hrun]
  rfl

end

/-- A fold-in joins its stall's queue where the line and the stall have room (R252). -/
theorem execFoldInArrive_joins {s : State} {acc : Acc} {sector fmt : Nat} {elems : List (Nat × FoldOperand)} {source st set : Nat}
    (haddr : s.addrOk (32 * sector) = true) (hlive : s.maskCancelled acc.taint = false) (hhome : s.lineHome (sector / 4) = some (st, set))
    (hstall : (Tab.get [] s.market.foldQ st).length < 256)
    (hline : ((Tab.get [] s.market.foldQ st).filter (fun r => r.sector / 4 = sector / 4)).length < 64) :
    execFoldInArrive acc sector fmt elems source s = .next { s with market := { s.market with
      foldQ := Tab.set [] s.market.foldQ st (Tab.get [] s.market.foldQ st ++ [⟨sector, fmt, elems, acc.taint, acc.pageU, acc.anchor, acc.mir, source⟩]) } } := by
  simp only [execFoldInArrive, haddr, hlive, hhome, if_neg (not_or.mpr ⟨hstall.not_ge, hline.not_ge⟩)]
  rfl

/-- The oldest fold-in of the stall leaves its queue with the flags it raised (R252). -/
theorem execFoldUnitApply_applies {s t : State} {stall : StallIx} {r : FoldReq} {rest : List FoldReq} {e : FoldEnd}
    (hq : Tab.get [] s.market.foldQ stall = r :: rest) (hrun : s.foldApply r.acc r.sector r.fmt r.elems = (t, .ok, e)) :
    execFoldUnitApply stall s = .next (({ t with market := { t.market with foldQ := Tab.set [] t.market.foldQ stall rest } }).emit .sender 5
      [r.source, if e.refused then 1 else 0, if e.flags.sat then 1 else 0, if e.flags.lostlow then 1 else 0, if e.flags.nan then 1 else 0]) := by
  simp only [execFoldUnitApply, hq, hrun]

/-- A sector that is absent takes what HBM holds (R219). -/
theorem execCacheFill_fills {s t u : State} {acc : Acc} {n : Nat} {h : HbmSector} (hhbm : isHbmAddr (32 * n) = true) (haddr : s.addrOk (32 * n) = true)
    (hopen : s.lineClosed (n / 4) = false) (habsent : (s.sector n).base = .absent) (hline : s.ensureLine acc (n / 4) = some t)
    (hread : t.hbmRead acc n = (u, h)) : execCacheFill acc n s = .next (u.setSector n { u.sector n with
      base := .valid, data := h.data, chk := h.chk, dirty := false, pageU := acc.pageU, anchor := acc.anchor, mir := acc.mirAt n }) := by
  simp only [execCacheFill, hhbm, haddr, hopen, habsent, hline, hread]
  rfl

/-- Settles O26: each request under its hypotheses is its lemma above; staleness is reported as a bit. -/
theorem marketRequests : Obligations.MarketRequests := by
  unfold Obligations.MarketRequests
  refine ⟨?_, ?_, ?_, ?_, ?_, ?_⟩
  · intro s acc addr n core r hentry hrun hok
    rw [exec_marketRead, execMarketRead_answers hentry hrun hok]
    simp only [State.replyData, decide_eq_true_eq, ite_not]
  · intro s acc addr bytes poison r hentry hrun hok
    exact execMarketWrite_answers hentry hrun hok
  · intro s t acc op wide addr n lanes v hentry hn hrun
    exact execStallAtomic_answers hentry hn hrun
  · intro s acc sector fmt elems source st set haddr hlive hhome hstall hline
    exact execFoldInArrive_joins haddr hlive hhome hstall hline
  · intro s t stall r rest e hq hrun
    exact execFoldUnitApply_applies hq hrun
  · intro s t u acc n h hhbm haddr hopen habsent hline hread
    exact execCacheFill_fills hhbm haddr hopen habsent hline hread

end Sys2Proof.Laws
end

section
/-!
PROOFS. The sequencer's own descriptors (R183, R185, R186, R189, R192, R193, R198): each that is well formed is taken from the stream and acts
on what is left; and the conditions under which a held sequencer goes on.
-/

namespace Sys2Proof.Laws
open Sys2Proof Sys2Proof.Machine

/-- The outcome of a sequencer descriptor that is not malformed. -/
theorem seqDesc_next {s : State} {c cls : Nat} {p : BitVec 92} {crc : Word} (h : DescriptorRuns s c cls p crc) {bad : Bool} (hb : bad = false)
    (f : State → State) : (Host.Outcome.next (s.seqDesc c cls p crc bad f) : Res) = .next (f (s.onCore c Core.taken)) :=
  congrArg _ (seqDesc_runs h hb f)

/-! ## Operand registers, bindings, arguments -/

/-- Core `c` once the descriptor is taken and `f` has changed its registers. -/
def takenThen (s : State) (c : Nat) (f : Core → Core) : State := (s.onCore c Core.taken).onCore c f

section
variable {s : State} {c : CoreIx} {p : BitVec 92} {crc : Word}

theorem execOpd_writes (h : DescriptorRuns s c 2 p crc) (hzero : bits 85 80 p = 0) (hbench : bitAt p 87 = false → bits 55 19 p = 0) :
    execOpd c p crc s = .next (takenThen s c (fun x => { x with ors := Tab.modify OpReg.blank x.ors (bits 91 88 p) (fun r =>
      { r with space := bitAt p 87, trans := bitAt p 86, stride8 := bits 79 56 p, addr := bits 55 0 p }) })) :=
  seqDesc_next h (by simpa [hzero] using hbench) _

theorem execOps_writes (h : DescriptorRuns s c 3 p crc) (hzero : bits 86 76 p = 0) (hbench : bitAt p 87 = false → bits 55 19 p = 0)
    (halign : bits 55 0 p % 32 = 0) :
    execOps c p crc s = .next (takenThen s c (fun x => { x with ors := Tab.modify OpReg.blank x.ors (bits 91 88 p) (fun r =>
      { r with sspace := bitAt p 87, sstride := bits 75 56 p, saddr := bits 55 0 p }) })) :=
  seqDesc_next h (by simpa [hzero, halign] using hbench) _

/-- The kinds of Table 6-9 are 0 to 6 and 8; a reducing output (8) names its mode and destination within their ranges. -/
theorem bindCheck_passes {b : Bind} (hkind : b.kind ≤ 6 ∨ (b.kind = 8 ∧ b.mode ≤ 14 ∧ b.dest ≤ 4)) :
    (!([0, 1, 2, 3, 4, 5, 6, 8].contains b.kind) || (decide (b.kind = 8) && decide (b.mode > 14 ∨ b.dest > 4))) = false := by
  obtain hplain | ⟨hreduce, hmode, hdest⟩ := hkind
  · interval_cases b.kind <;> rfl
  · simp [hreduce, hmode, hdest]

theorem execBind_writes (h : DescriptorRuns s c 5 p crc)
    (hkind : (bindOf p).kind ≤ 6 ∨ ((bindOf p).kind = 8 ∧ (bindOf p).mode ≤ 14 ∧ (bindOf p).dest ≤ 4)) :
    execBind c p crc s = .next (takenThen s c (fun x => { x with vbs := Tab.set Bind.blank x.vbs (bits 91 89 p) (bindOf p) })) :=
  seqDesc_next h (bindCheck_passes hkind) _

theorem execBindx_writes (h : DescriptorRuns s c 6 p crc) (hzero : bits 88 80 p = 0) (halign : bits 55 0 p % 32 = 0) :
    execBindx c p crc s = .next (takenThen s c (fun x => { x with vbs := Tab.modify Bind.blank x.vbs (bits 91 89 p) (fun b =>
      { b with ext := true, ostride := bits 79 56 p, saddr := bits 55 0 p }) })) :=
  seqDesc_next h (by simp [hzero, halign]) _

/-- Every form of VARG writes what its selector names (R186). -/
theorem varg_writes (h : DescriptorRuns s c 7 p crc) (hzero : bits 87 64 p = 0) (hsel : bits 91 88 p ≤ 2) :
    (.next (s.seqDesc c 7 p crc (vargBad p) (fun s => s.onCore c (fun x => x.varg p))) : Res) = .next (takenThen s c (fun x => x.varg p)) :=
  seqDesc_next h (by simp [vargBad, hzero, hsel]) _

theorem varg_x (hsel : bits 91 88 p = 0) (x : Core) :
    x.varg p = { x with x1 := BitVec.ofNat 32 (bits 63 32 p), x0 := BitVec.ofNat 32 (bits 31 0 p) } := by
  simp only [Core.varg, hsel]

theorem varg_stream (hsel : bits 91 88 p = 1) (x : Core) :
    x.varg p = { x with stream := BitVec.ofNat 32 (bits 63 32 p) ++ BitVec.ofNat 32 (bits 31 0 p) } := by
  simp only [Core.varg, hsel]

theorem varg_draw (hsel : bits 91 88 p = 2) (x : Core) :
    x.varg p = { x with draw := BitVec.ofNat 32 (bits 63 32 p), indexBase := BitVec.ofNat 32 (bits 31 0 p) } := by
  simp only [Core.varg, hsel]

theorem execNopDesc_taken (h : DescriptorRuns s c 0xF p crc) (hop : bits 91 88 p = 2) (hzero : bits 87 0 p = 0) :
    execNopDesc c p crc s = .next (s.onCore c Core.taken) :=
  seqDesc_next h (by simp [hop, hzero]) _

end

/-- Settles O9: each descriptor is its lemma above; the three forms of VARG write by their selector. -/
theorem operandDescriptors : Obligations.OperandDescriptors := by
  unfold Obligations.OperandDescriptors
  intro s c p crc taken
  refine ⟨?_, ?_, ?_, ?_, ?_, ?_⟩
  · exact execOpd_writes
  · exact execOps_writes
  · exact execBind_writes
  · exact execBindx_writes
  · intro h hzero
    refine ⟨fun hsel => ?_, fun hsel => ?_, fun hsel => ?_⟩
    · exact (varg_writes h hzero (by omega)).trans (by simp only [varg_x hsel]; rfl)
    · exact (varg_writes h hzero (by omega)).trans (by simp only [varg_stream hsel]; rfl)
    · exact (varg_writes h hzero (by omega)).trans (by simp only [varg_draw hsel]; rfl)
  · exact execNopDesc_taken

/-! ## Control descriptors -/

section
variable {s : State} {c : CoreIx} {p : BitVec 92} {crc : Word}

theorem execWaitDesc_counter (h : DescriptorRuns s c 0xB p crc) (hzero : bits 71 0 p = 0) (hone : bitAt p 88 = false) :
    execWaitDesc c p crc s = .next ((s.onCore c Core.taken).hold c (.counter (bits 91 89 p) (bits 87 72 p))) :=
  (seqDesc_next h (by simp [hzero, hone]) _).trans (by rw [hone]; rfl)

theorem execWaitDesc_all (h : DescriptorRuns s c 0xB p crc) (hzero : bits 71 0 p = 0) (hall : bitAt p 88 = true) (hctr : bits 91 89 p = 0)
    (hbound : bits 87 72 p = 0) : execWaitDesc c p crc s = .next ((s.onCore c Core.taken).hold c .all) :=
  (seqDesc_next h (by simp [hzero, hctr, hbound]) _).trans (by rw [hall]; rfl)

theorem execPhaseDesc_writes (h : DescriptorRuns s c 0xC p crc) (hzero : bits 87 0 p = 0) :
    execPhaseDesc c p crc s = .next ((takenThen s c (fun x => { x with phase := bits 91 88 p })).holdPhase (bits 91 88 p)) :=
  seqDesc_next h (by simp [hzero]) _

theorem execFenceDesc_holds (h : DescriptorRuns s c 0xD p crc) (hscope : bits 91 90 p ≠ 3) (hzero : bits 89 0 p = 0) :
    execFenceDesc c p crc s = .next ((s.onCore c Core.taken).hold c .fence) :=
  seqDesc_next h (by simp [hscope, hzero]) _

theorem execBclr_holds (h : DescriptorRuns s c 0xE p crc) (hzero : bits 73 0 p = 0) (hfits : bits 91 83 p + (bits 82 74 p + 1) ≤ 512) :
    execBclr c p crc s = .next ((s.onCore c Core.taken).hold c (.clear (bits 91 83 p) (bits 82 74 p + 1))) :=
  seqDesc_next h (by simpa [hzero] using hfits) _

theorem execEndTask_holds (h : DescriptorRuns s c 0xF p crc) (hzero : bits 91 0 p = 0) :
    execEndTask c p crc s = .next ((s.onCore c Core.taken).hold c .finish) :=
  seqDesc_next h (by simp [hzero]) _

/-- JUMP drops what is fetched ahead (R189). -/
theorem execJumpDesc_jumps (h : DescriptorRuns s c 0xF p crc) (hop : bits 91 88 p = 1) (hzero : bits 86 56 p = 0) (halign : bits 55 0 p % 16 = 0) :
    execJumpDesc c p crc s = .next (takenThen s c (fun x => { x with
      fetched := [], task := { x.task with space := bitAt p 87, addr := bits 55 0 p } })) :=
  seqDesc_next h (by simp [hop, hzero, halign]) _

end

/-! ## A held sequencer -/

/-- Core `c` issues again. -/
def issues (s : State) (c : Nat) : State := s.onCore c (fun x => { x with seqState := 1, seqWait := .none })

section
variable {t : State} {c : Nat} (hheld : (t.core c).seqState = 2)
include hheld

theorem recheck_counter {i b : Nat} (hw : (t.core c).seqWait = .counter i b) :
    t.recheck c = if Tab.get 0 (t.core c).sc i ≤ b then issues t c else t := by
  simp [State.recheck, hheld, hw, issues]

theorem recheck_all (hw : (t.core c).seqWait = .all) : t.recheck c = if (t.core c).idleUnits then issues t c else t := by
  simp [State.recheck, hheld, hw, issues]

theorem recheck_fence (hw : (t.core c).seqWait = .fence) : t.recheck c = if (t.core c).idleUnitsButTrays then issues t c else t := by
  simp [State.recheck, hheld, hw, issues]

theorem recheck_clear {b n : Nat} (hw : (t.core c).seqWait = .clear b n) :
    t.recheck c = if (t.core c).idleUnits then issues (t.clearBlocks c b n) c else t := by
  simp [State.recheck, hheld, hw, issues]

theorem recheck_finish (hw : (t.core c).seqWait = .finish) :
    t.recheck c = if (t.core c).idleUnits then t.endTask c (t.core c).task.endStatus else t := by
  simp [State.recheck, hheld, hw]

end

/-- Settles O10: each descriptor is its lemma above, and a hold is the re-check of the sequencer held. -/
theorem controlDescriptors : Obligations.ControlDescriptors := by
  unfold Obligations.ControlDescriptors
  refine ⟨?_, ?_⟩
  · rintro s t c p crc rfl
    refine ⟨fun h hzero => ⟨?_, ?_⟩, ?_, ?_, ?_, ?_, ?_⟩
    · exact execWaitDesc_counter h hzero
    · exact execWaitDesc_all h hzero
    · exact execPhaseDesc_writes
    · exact execFenceDesc_holds
    · exact execBclr_holds
    · exact execEndTask_holds
    · exact execJumpDesc_jumps
  · rintro s t c w x ht rfl hheld hw go
    have hhold : s.hold c w = t.recheck c := congrArg (fun v => v.recheck c) ht
    rw [hhold]
    refine ⟨?_, ?_, ?_, ?_, ?_⟩
    · rintro i b rfl
      exact recheck_counter hheld hw
    · rintro rfl
      exact recheck_all hheld hw
    · rintro rfl
      exact recheck_fence hheld hw
    · rintro b n rfl
      exact recheck_clear hheld hw
    · rintro rfl
      exact recheck_finish hheld hw

end Sys2Proof.Laws
end

section
/-!
PROOFS. The copy engine's queue (R188, R236 to R239).
-/

namespace Sys2Proof.Laws
open Sys2Proof Sys2Proof.Machine

/-- The queue entry of a copy: the fields of its payload, copies of its operand registers and the work it belongs to (R181, R188). -/
def issuedCopy (x : Core) (p : BitVec 92) : CopyEntry :=
  { mode := cpMode p, bytes := cpBytes p, src := Tab.get OpReg.blank x.ors (bits 91 88 p), dst := Tab.get OpReg.blank x.ors (bits 87 84 p)
    scen := bitAt p 55, sc := bits 54 52 p, ctx := x.task.ctx, taint := x.workTaint, index := x.task.index }

/-- A copy that finds room and is not malformed joins the queue and raises its completion counter (R181, R188). -/
theorem issueCopy_queued {s : State} {c : CoreIx} {p : BitVec 92} {crc : Word} (h : DescriptorRuns s c 0xA p crc)
    (hroom : (s.core c).copyQ.length < 4) (hzero : bits 51 0 p = 0) {e : CopyEntry} (he : issuedCopy (s.core c) p = e) (hok : copyBad e = false) :
    s.issueCopy c p crc = (s.onCore c (fun x => ({ x.taken with copyQ := x.copyQ ++ [e] }).scAdd e.scen e.sc)).clearQfull c 8 := by
  subst he
  unfold issuedCopy at hok
  simp only [State.issueCopy, decodeDesc_runs h, if_neg hroom.not_ge, hzero, hok]
  rfl

/-- A copy that meets neither poison nor a fault leaves the queue with its bytes moved, lowers its counter, and the turn passes on (R237, R239). -/
theorem execCopyComplete_done {s : State} {c : CoreIx} {e : CopyEntry} {rest : List CopyEntry} (hq : (s.core c).copyQ = e :: rest)
    (hruns : (s.core c).copyHalted = false) {q : CopyRun}
    (hrun : s.copyRun ⟨c, e.ctx, e.taint, (s.core c).task.cls, (s.core c).task.deadline, false, 0, false⟩ e = q) (hok : q.st = .ok)
    (hclean : q.halted = false) :
    execCopyComplete c s = .next (((q.s.setCluster (coreCluster c) { q.s.cluster (coreCluster c) with copyTurn := (c.val + 1) % 8 }).onCore c
      (fun x => ({ x with copyQ := rest, copyHalted := false }).scSub e.scen e.sc)).recheck c) := by
  simp only [execCopyComplete, hq, hruns, hrun, hok, hclean]
  rfl

/-- Settles O11: a copy of any mode is issued alike, and completes as the lemma above says. -/
theorem copyDescriptors : Obligations.CopyDescriptors := by
  unfold Obligations.CopyDescriptors
  refine ⟨?_, ?_⟩
  · rintro s c p crc x e h rfl hroom hzero hok he t
    have queued := congrArg (Host.Outcome.next : State → Res) (issueCopy_queued h hroom hzero he hok)
    exact ⟨queued, queued, queued, queued, queued, queued⟩
  · rintro s c e rest x q rfl hq hruns hrun hok hclean
    exact execCopyComplete_done hq hruns hrun hok hclean

end Sys2Proof.Laws
end

section
/-!
PROOFS. Replies to traps (R201, R202): what a reply does by the unit of the oldest record that names its slot.
-/

namespace Sys2Proof.Laws
open Sys2Proof Sys2Proof.Machine

section
variable {s t : State} {c slot unit code : Nat} {rest : List (Nat × Nat × Nat)}
  (hrec : takeRecord slot (s.core c).outTraps = some ((unit, slot, code), rest)) (ht : s.onCore c (fun x => { x with outTraps := rest }) = t)
  (tray : Nat → Tray → Tray) (other : Nat → State → State)
include hrec ht

/-- A tray's record: the tray acts and its trap is cleared (R202). -/
theorem reply_tray (hunit : unit = 3) (hcode : code ≠ 5) :
    s.reply c slot tray other = t.setTray c slot { tray code ((t.core c).tray slot) with trap := 0, trapAddr := 0 } := by
  simp only [State.reply, hrec, ht, hunit, unitTray, hcode, if_true, if_false]

/-- The record of a launch's failure stands for no tray: the reply only removes it. -/
theorem reply_launch (hunit : unit = 3) (hcode : code = 5) : s.reply c slot tray other = t := by
  simp only [State.reply, hrec, ht, hunit, unitTray, hcode, if_true]

/-- A record of another unit: its copies go on, the sequencer acts and restarts once no record is left (R201). -/
theorem reply_unit (hunit : unit ≠ 3) {v : State} (hv : (if unit = 4 then t.onCore c (fun x => { x with copyHalted := false }) else t) = v) :
    s.reply c slot tray other = (other code v).restart c := by
  simp only [State.reply, hrec, ht, unitTray, unitCopy, hunit, hv, if_false]

end

/-- Settles O13: each reply is `State.reply` with what it does to a tray and to the sequencer. -/
theorem trapReplies : Obligations.TrapReplies := by
  unfold Obligations.TrapReplies
  rintro s t c slot unit code rest y hrec ht rfl
  refine ⟨fun hunit hcode => ?_, fun hunit hcode => ?_, fun v hunit hv => ?_⟩
  · have reply := fun tray other => reply_tray hrec ht tray other hunit hcode
    refine ⟨?_, ?_, ?_⟩
    · rw [exec_trapResume, execTrapResume, reply]
      by_cases hlive : code = 0x26 <;> simp only [hlive, if_true, if_false]
    · rw [exec_trapSkip, execTrapSkip, reply]
      rfl
    · rw [exec_trapAbort, execTrapAbort, reply]
  · have reply := fun tray other => reply_launch hrec ht tray other hunit hcode
    exact ⟨congrArg _ (reply _ _), congrArg _ (reply _ _), congrArg (fun v : State => Host.Outcome.next (v.recheck c)) (reply _ _)⟩
  · have reply := fun tray other => reply_unit hrec ht tray other hunit hv
    exact ⟨congrArg _ (reply _ _), congrArg _ (reply _ _), congrArg (fun v : State => Host.Outcome.next (v.recheck c)) (reply _ _)⟩

end Sys2Proof.Laws
end

section
/-!
PROOFS. The queues of the cluster window (R200, R203, R205 to R207).
-/

namespace Sys2Proof.Laws
open Sys2Proof Sys2Proof.Machine

/-- The cluster with a completion record more in its queue, and the event of its arrival (R203, R206). -/
def withCompletion (k : Cluster) (r : DWord) : Cluster := { k with compQ := k.compQ ++ [r] }.raise 2

section
variable {s : State} {g : ClusterIx}

/-- The head record joins its mask to that of the control core's data (R203, R207). -/
theorem execSumheadRead_head {r : QWord} {rs : List QWord} (hq : (s.cluster g).sumQ = r :: rs) : execSumheadRead g s
    = .next ((s.setCluster g { s.cluster g with dtaint := (s.cluster g).dtaint ||| recordTaint r }).emit .core 0 [g.val, r.toNat]) := by
  simp only [execSumheadRead, hq]

theorem execSumheadRead_empty (hq : (s.cluster g).sumQ = []) : execSumheadRead g s = .next (s.emit .core 0 [g.val, 0]) := by
  simp only [execSumheadRead, hq]

/-- A removal of more records than the queue holds is ignored (R203). -/
theorem execSumack_removes (n : Nat) : execSumack g n s
    = .next (if n ≤ (s.cluster g).sumQ.length then s.setCluster g { s.cluster g with sumQ := (s.cluster g).sumQ.drop n } else s) := by
  simp only [execSumack, ← not_le, ite_not]

theorem execTrapack_removes (n : Nat) : execTrapack g n s = .next (if n ≤ (s.cluster g).trapQ.length
    then (s.setCluster g { s.cluster g with trapQ := (s.cluster g).trapQ.drop n }).refillTraps g else s) := by
  simp only [execTrapack, ← not_le, ite_not]

theorem execCompack_removes (n : Nat) : execCompack g n s
    = .next (if n ≤ (s.cluster g).compQ.length then s.setCluster g { s.cluster g with compQ := (s.cluster g).compQ.drop n } else s) := by
  simp only [execCompack, ← not_le, ite_not]

section
variable {rank : Fin 8} {w : QWord} {c : Nat} (hc : 8 * g.val + rank.val = c)
include hc

/-- A word that finds no room is discarded, whatever its CRC: that room is checked first is the model's choice (log entry 45). -/
theorem execTaskport_full (hfull : 4 ≤ (s.core c).localQ.length ∨ (s.core c).heldReject ≠ none) :
    execTaskport g rank w s = .next (s.onCore c (fun x => { x with overrun := true })) := by
  subst hc
  exact if_pos hfull

variable (hroom : (s.core c).localQ.length < 4) (hfree : (s.core c).heldReject = none)
include hroom hfree

/-- A word with the right CRC joins the local queue with the mask of the control core's data (R205, R207). -/
theorem execTaskport_joins (hcrc : crc32c (leBytes 12 w.toNat) = bits 127 96 w) : execTaskport g rank w s
    = .next (s.onCore c (fun x => { x with localQ := x.localQ ++ [w], localTaint := x.localTaint ++ [(s.cluster g).dtaint] })) := by
  subst hc
  simp only [execTaskport, hroom.not_ge, hfree, hcrc, ne_eq, not_true_eq_false, or_self, if_false]

/-- A word with a wrong CRC completes as rejected (R206). -/
theorem execTaskport_rejected (hcrc : crc32c (leBytes 12 w.toNat) ≠ bits 127 96 w) (hcomp : (s.cluster g).compQ.length < 64) :
    execTaskport g rank w s
      = .next (s.setCluster g (withCompletion (s.cluster g) (compRecord c 4 (s.cluster g).dtaint (bits 71 56 w)))) := by
  subst hc
  simp only [execTaskport, withCompletion, hroom.not_ge, hfree, ne_eq, hcrc, hcomp.not_ge, not_true_eq_false, not_false_eq_true, or_self, if_true, if_false]

end
end

section
variable {s : State} {c : CoreIx} {r : DWord} (hroom : (s.cluster (coreCluster c)).compQ.length < 64)
include hroom

theorem execCompletionRecordEnter_completion {rs : List DWord} (hheld : (s.core c).heldComp = r :: rs) : execCompletionRecordEnter c s
    = .next ((s.setCluster (coreCluster c) (withCompletion (s.cluster (coreCluster c)) r)).onCore c (fun x => { x with heldComp := rs })) := by
  simp only [execCompletionRecordEnter, if_neg hroom.not_ge, hheld, withCompletion]

theorem execCompletionRecordEnter_rejection (hnone : (s.core c).heldComp = []) (hheld : (s.core c).heldReject = some r) :
    execCompletionRecordEnter c s
      = .next ((s.setCluster (coreCluster c) (withCompletion (s.cluster (coreCluster c)) r)).onCore c (fun x => { x with heldReject := none })) := by
  simp only [execCompletionRecordEnter, if_neg hroom.not_ge, hnone, hheld, withCompletion]

end

/-- Settles O14: each access of the window, and each record that enters, is its lemma above. -/
theorem clusterWindow : Obligations.ClusterWindow := by
  unfold Obligations.ClusterWindow
  refine ⟨?_, ?_⟩
  · rintro s g k rfl
    refine ⟨fun r rs => ?_, ?_, ?_, ?_, ?_, ?_⟩
    · exact execSumheadRead_head
    · exact execSumheadRead_empty
    · exact execSumack_removes
    · exact execTrapack_removes
    · exact execCompack_removes
    · rintro rank w c x hc rfl
      refine ⟨?_, ?_, ?_⟩
      · exact execTaskport_full hc
      · exact execTaskport_joins hc
      · exact execTaskport_rejected hc
  · rintro s c k r rfl hroom
    refine ⟨fun rs => ?_, ?_⟩
    · exact execCompletionRecordEnter_completion hroom
    · exact execCompletionRecordEnter_rejection hroom

end Sys2Proof.Laws
end

section
/-!
PROOFS. A sector reads as it was written (R219, R220, R397, R404): what making room for a line leaves of the market, the write of a whole
sector, and the read that finds it.
-/

namespace Sys2Proof.Laws
open Sys2Proof Sys2Proof.Machine

/-! ## Where an access is served -/

/-- What decides where an access is served and whether its line is free to serve it: the units and stalls, the frames' roles, the queued
fold-ins and the closed ways. -/
def siting (s : State) : Device × Tab FrameRole × Tab (List FoldReq) × List ClosedWay :=
  (s.dev, s.market.frames, s.market.foldQ, s.market.closed)

section
variable {s t : State} (h : siting t = siting s)
include h

theorem dev_of_siting : t.dev = s.dev := congrArg Prod.fst h
theorem frames_of_siting : t.market.frames = s.market.frames := congrArg (fun p => p.2.1) h
theorem foldQ_of_siting : t.market.foldQ = s.market.foldQ := congrArg (fun p => p.2.2.1) h
theorem closed_of_siting : t.market.closed = s.market.closed := congrArg (fun p => p.2.2.2) h

theorem stallPresent_of_siting (n : Nat) : t.stallPresent n = s.stallPresent n := by
  rw [State.stallPresent, State.stallPresent, dev_of_siting h]

theorem unit_of_siting (kind i : Nat) : t.unit kind i = s.unit kind i := by
  simp only [State.unit, State.unitRec, dev_of_siting h]

theorem lineHome_of_siting (l : Nat) : t.lineHome l = s.lineHome l := by
  simp only [State.lineHome, State.cacheStall, stallPresent_of_siting h]

theorem addrOk_of_siting (a : Nat) : t.addrOk a = s.addrOk a := by
  simp only [State.addrOk, State.hbmInstalled, State.frameRole, unit_of_siting h, stallPresent_of_siting h, frames_of_siting h]

theorem foldQueued_of_siting (l : Nat) : t.foldQueued l = s.foldQueued l := by
  simp only [State.foldQueued, lineHome_of_siting h, foldQ_of_siting h]

theorem lineClosed_of_siting (l : Nat) : t.lineClosed l = s.lineClosed l := by
  simp only [State.lineClosed, closed_of_siting h]

end

/-- A fold of operations that leave the siting as it is does so. -/
theorem foldl_siting {α : Type} {g : State → α → State} (hg : ∀ s a, siting (g s a) = siting s) (l : List α) (s : State) :
    siting (l.foldl g s) = siting s :=
  l.foldlRecOn g (motive := fun t => siting t = siting s) rfl (fun t ht a _ => (hg t a).trans ht)

section
variable (s : State)

@[simp] theorem eccNote_siting (kind mem unit symbol addr : Nat) : siting (s.eccNote kind mem unit symbol addr) = siting s := by
  unfold State.eccNote
  dsimp only
  split <;> rfl

@[simp] theorem eccCorrected_siting (mem unit symbol addr : Nat) : siting (s.eccCorrected mem unit symbol addr) = siting s :=
  eccNote_siting _ _ _ _ _ _

@[simp] theorem eccFresh_siting (kind mem unit addr : Nat) : siting (s.eccFresh kind mem unit addr) = siting s :=
  eccNote_siting _ _ _ _ _ _

@[simp] theorem eccPoisonRead_siting : siting s.eccPoisonRead = siting s := rfl
@[simp] theorem eccWroteBack_siting (mem unit symbol addr : Nat) : siting (s.eccWroteBack mem unit symbol addr) = siting s := rfl
@[simp] theorem setStack_siting (j : Nat) (k : Stack) : siting (s.setStack j k) = siting s := rfl
@[simp] theorem setHbmSector_siting (n : Nat) (x : HbmSector) : siting (s.setHbmSector n x) = siting s := rfl
@[simp] theorem hbmAccept_siting (acc : Acc) (addr kind : Nat) : siting (s.hbmAccept acc addr kind) = siting s := rfl
@[simp] theorem setSector_siting (n : Nat) (x : Sector) : siting (s.setSector n x) = siting s := rfl
@[simp] theorem setLine_siting (l : Nat) (x : LineRec) : siting (s.setLine l x) = siting s := rfl

@[simp] theorem hbmChecked_siting (n : Nat) : siting (s.hbmChecked n).1 = siting s := by
  unfold State.hbmChecked
  dsimp only
  split
  · rfl
  · split
    case h_3 => split <;> simp
    all_goals simp

@[simp] theorem hbmReadNow_siting (acc : Acc) (n : Nat) : siting (s.hbmReadNow acc n).1 = siting s := by
  simp [State.hbmReadNow]

@[simp] theorem hbmWriteNow_siting (acc : Acc) (n : Nat) (x : HbmSector) : siting (s.hbmWriteNow acc n x) = siting s := by
  unfold State.hbmWriteNow
  dsimp only
  split <;> simp

@[simp] theorem mergeLost_siting (j : Nat) : siting (s.mergeLost j) = siting s := rfl

@[simp] theorem mergeNow_siting (m : MergeReq) : siting (s.mergeNow m) = siting s := by
  unfold State.mergeNow
  dsimp only
  split
  · simp
  · generalize hwritten : State.hbmWriteNow _ _ _ _ = t
    have ht : siting t = siting s := by rw [← hwritten, hbmWriteNow_siting, hbmReadNow_siting]
    exact ht

@[simp] theorem settleMerges_siting (n : Nat) : siting (s.settleMerges n) = siting s := by
  unfold State.settleMerges
  dsimp only
  split
  · simp [foldl_siting mergeNow_siting]
  · rfl

@[simp] theorem hbmWrite_siting (acc : Acc) (n : Nat) (x : HbmSector) : siting (s.hbmWrite acc n x) = siting s := by
  simp [State.hbmWrite]

@[simp] theorem hbmMerge_siting (acc : Acc) (n : Nat) (x : Sector) : siting (s.hbmMerge acc n x) = siting s := by
  unfold State.hbmMerge
  dsimp only
  split
  · simp
  · rfl

@[simp] theorem readOut_siting (n : Nat) (x : Sector) : siting (s.readOut n x).1 = siting s := by
  unfold State.readOut
  dsimp only
  split <;> simp

@[simp] theorem writeBackSector_siting (acc : Acc) (n : Nat) : siting (s.writeBackSector acc n) = siting s := by
  unfold State.writeBackSector
  dsimp only
  split
  case h_1 => split <;> simp
  all_goals simp

@[simp] theorem evictLine_siting (acc : Acc) (l : Nat) : siting (s.evictLine acc l) = siting s := by
  rw [State.evictLine, setLine_siting, foldl_siting (fun s n => writeBackSector_siting s acc n)]

@[simp] theorem touch_siting (l : Nat) : siting (s.touch l) = siting s := by
  unfold State.touch
  dsimp only
  split <;> rfl

end

section
variable {s t : State} {acc : Acc}

theorem takeWay_siting {stall set r : Nat} (h : s.takeWay acc stall set = some (t, r)) : siting t = siting s := by
  unfold State.takeWay at h
  dsimp only at h
  split at h
  · cases h; rfl
  · split at h
    · cases h; simp
    · cases h

theorem ensureLine_siting {l : Nat} (h : s.ensureLine acc l = some t) : siting t = siting s := by
  unfold State.ensureLine at h
  split at h
  · cases h; rfl
  split at h
  · cases h; simp
  split at h
  · cases h
  split at h
  · cases h
  · rename_i hway
    cases h
    simp [takeWay_siting hway]

end

/-! ## A line in its way -/

/-- The line needs no way or holds one (R218). -/
def Seated (s : State) (l : Nat) : Prop := isHbmAddr (128 * l) = true → (s.line l).row1 ≠ 0

theorem Seated.setSector {s : State} {l : Nat} (h : Seated s l) (n : Nat) (x : Sector) : Seated (s.setSector n x) l := h

theorem line_setLine_self (s : State) (l : Nat) {x : LineRec} (hx : x.row1 ≠ 0) : (s.setLine l x).line l = x :=
  tab_get_set_self _ _ (fun hblank => hx (by rw [hblank]; rfl))

theorem touch_row1 {s : State} {l : Nat} (h : (s.line l).row1 ≠ 0) : ((s.touch l).line l).row1 = (s.line l).row1 := by
  simp only [State.touch, h, if_false]
  rw [line_setLine_self]
  exact h

@[simp] theorem touch_sectors (s : State) (l : Nat) : (s.touch l).market.sectors = s.market.sectors := by
  unfold State.touch
  dsimp only
  split <;> rfl

/-- A line for which room was made is in its way. -/
theorem seated_of_ensureLine {s t : State} {acc : Acc} {l : Nat} (h : s.ensureLine acc l = some t) : Seated t l := by
  intro hhbm
  unfold State.ensureLine at h
  rw [if_neg (not_not_intro hhbm)] at h
  split at h
  · rename_i hrow
    cases h
    rwa [touch_row1 hrow]
  split at h
  · cases h
  split at h
  · cases h
  · rename_i s1 r _
    cases h
    have hrow : ((s1.setLine l ⟨r + 1, 0⟩).line l).row1 ≠ 0 := by
      rw [line_setLine_self s1 l (Nat.succ_ne_zero r)]
      exact Nat.succ_ne_zero r
    rwa [touch_row1 hrow]

/-- Making room for a line that is in its way leaves every sector as it is. -/
theorem ensureLine_seated {s : State} {l : Nat} (h : Seated s l) (acc : Acc) :
    ∃ t, s.ensureLine acc l = some t ∧ t.market.sectors = s.market.sectors := by
  by_cases hhbm : isHbmAddr (128 * l) = true
  · exact ⟨s.touch l, by simp [State.ensureLine, hhbm, h hhbm], touch_sectors s l⟩
  · exact ⟨s, if_pos hhbm, rfl⟩

/-! ## The stored sector -/

/-- The check bits of a sector written clean or as poison (R397, R404). -/
def storedChk (poison : Bool) : Half := if poison then Config.poison else 0#16

theorem sectorDecide_storedChk (d : BitVec 256) (poison : Bool) : sectorDecide d (storedChk poison) = if poison then .poison else .clean := by
  cases poison
  · rfl
  · exact (if_neg (by decide)).trans (if_pos rfl)

/-- A VALID sector stored clean or as poison shows its data, not stale. -/
theorem baseView_stored {s : State} {n : Nat} {d : BitVec 256} {poison : Bool} (hbase : (s.sector n).base = .valid) (hdata : (s.sector n).data = d)
    (hchk : (s.sector n).chk = storedChk poison) (acc : Acc) : (s.baseView acc n).2 = ⟨d, poison, false, 0#16⟩ := by
  have hstate : (s.sector n).state n = .valid := by simp [Sector.state, hbase]
  simp only [State.baseView, hstate, State.checkSector, hdata, hchk, sectorDecide_storedChk]
  cases poison <;> rfl

theorem sector_setSector_self (s : State) (n : Nat) {x : Sector} (hx : x.base ≠ .absent) : (s.setSector n x).sector n = x :=
  tab_get_set_self _ _ (fun hblank => hx (by rw [hblank]; rfl))

/-! ## The write and the read -/

/-- No fold-in is queued for the line: there is nothing to drain. -/
theorem drainLine_unqueued {s : State} {l : Nat} (h : s.foldQueued l = false) : s.drainLine l = s := by
  unfold State.foldQueued at h
  unfold State.drainLine
  cases hhome : s.lineHome l with
  | none => rfl
  | some home =>
    rw [hhome] at h
    simp only [h, Bool.false_eq_true, if_false]

/-- The sector that a whole-sector write of an untainted request leaves (R219, R249, R404). -/
def overwritten (acc : Acc) (n : Nat) (d : BitVec 256) (poison : Bool) (x : Sector) : Sector :=
  { x with
    base := .valid, data := d, chk := storedChk poison, dirty := true, used := 0, elems := 0#16
    pageU := acc.pageU, anchor := acc.anchor, mir := acc.mirAt n }

section
variable {s : State} {acc : Acc} {n : Nat} (htaint : acc.taint = 0#16) (hunqueued : s.foldQueued (n / 4) = false)
include htaint hunqueued

/-- An untainted whole-sector write that is performed made room for the line and overwrote the sector. -/
theorem writeSector_ok (hmir : acc.mir = none) {t : State} {d : BitVec 256} {poison : Bool} (h : s.writeSector acc n d poison = (t, .ok)) :
    s.addrOk (32 * n) = true ∧ s.lineClosed (n / 4) = false ∧
      ∃ s1, s.ensureLine acc (n / 4) = some s1 ∧ t = s1.setSector n (overwritten acc n d poison (s1.sector n)) := by
  have hmirAt : acc.mirAt n = none := by simp [Acc.mirAt, hmir]
  simp only [State.writeSector, htaint, maskCancelled_zero, drainLine_unqueued hunqueued, liveMask_zero, hmirAt, State.mirrorFull, State.mirror,
    Bool.and_false, Bool.false_eq_true, if_true, if_false] at h
  split at h
  · cases h
  rename_i haddr
  split at h
  · cases h
  rename_i hopen
  split at h
  · cases h
  rename_i s1 hline
  cases h
  refine ⟨by simpa using haddr, by simpa using hopen, s1, hline, ?_⟩
  simp only [overwritten, hmirAt, storedChk]

/-- An untainted read that is neither a last use nor counted delivers the base view (R220, R245). -/
theorem readSector_plain (hldl : acc.ldl = false) (hpageU : acc.pageU = 0) (haddr : s.addrOk (32 * n) = true) (hopen : s.lineClosed (n / 4) = false)
    {s1 : State} (hline : s.ensureLine acc (n / 4) = some s1) :
    s.readSector acc n = ((s1.baseView acc n).1, .ok, (s1.baseView acc n).2) := by
  simp [State.readSector, htaint, hldl, hpageU, haddr, hopen, hline, drainLine_unqueued hunqueued]

end

/-- Settles O27: the write leaves the line in its way with the sector as stored, and nothing that the read asks first has changed. -/
theorem readAfterWrite : Obligations.ReadAfterWrite := by
  unfold Obligations.ReadAfterWrite
  intro s t acc n d poison htaint hldl hpageU hmir hunqueued hwrite
  obtain ⟨haddr, hopen, s1, hline, rfl⟩ := writeSector_ok htaint hunqueued hmir hwrite
  set x := overwritten acc n d poison (s1.sector n) with hx
  have hsite : siting (s1.setSector n x) = siting s := (setSector_siting s1 n x).trans (ensureLine_siting hline)
  obtain ⟨u, hroom, hkept⟩ := ensureLine_seated ((seated_of_ensureLine hline).setSector n x) acc
  have hsector : u.sector n = x := by
    have hself : (s1.setSector n x).sector n = x := sector_setSector_self s1 n (by simp [hx, overwritten])
    simpa only [State.sector, hkept] using hself
  have hview : (u.baseView acc n).2 = ⟨d, poison, false, 0#16⟩ := by
    refine baseView_stored ?_ ?_ ?_ acc <;> rw [hsector, hx] <;> rfl
  refine ⟨(u.baseView acc n).1, ?_⟩
  rw [readSector_plain htaint ((foldQueued_of_siting hsite _).trans hunqueued) hldl hpageU ((addrOk_of_siting hsite _).trans haddr)
    ((lineClosed_of_siting hsite _).trans hopen) hroom, hview]

end Sys2Proof.Laws
end

section
/-!
PROOFS. Evictions, write-backs and reservations (R219, R222, R225, R226, R257): what each does in a state that the hypotheses of its lemma describe.
-/

namespace Sys2Proof.Laws
open Sys2Proof Sys2Proof.Machine

/-! ## Closed ways -/

/-- The line's sectors lose their base and keep their shadows, and the line leaves its way (R219). -/
def emptyLine (s : State) (line : Nat) : State :=
  ((lineSectors line).foldl (fun s n => s.setSector n { Sector.blank with sh := (s.sector n).sh }) s).setLine line LineRec.blank

/-- A cached line without fold-ins that must wait is emptied; where a sector is written back, its way closes with the sectors as read out
(R219, R257). -/
theorem execEviction_empties {s s0 s1 : State} {line st set : Nat} {secs : List Sector} (hdrained : s.drainLine line = s1)
    (hhome : s.lineHome line = some (st, set)) (hcached : (s.line line).row1 ≠ 0) (hopen : s.lineClosed line = false)
    (hqueue : s1.foldQueued line = false) (hread : (lineSectors line).foldl State.closeSector (s1, []) = (s0, secs)) {s2 : State}
    (hempty : emptyLine s0 line = s2) :
    execEviction line s = .next (if secs.any (fun x => (x.base = .valid && x.dirty) || x.base = .partl) then
      { s2 with market := { s2.market with
        closed := s2.market.closed ++ [⟨line, st, set, (s1.line line).row1 - 1, secs.map (fun x => { x with sh := Shadow.none })⟩] } } else s2) := by
  subst hempty
  simp only [execEviction, hdrained, hhome, hcached, hopen, hqueue, hread, Bool.false_eq_true, or_self, if_false]
  rfl

/-- A closed way whose controller has room for a write and a merge per sector goes to HBM (R257). -/
theorem execWritebackAccept_accepts {s : State} {line : Nat} {c : ClosedWay} (hclosed : s.market.closed.find? (fun c => c.line = line) = some c)
    (hwrites : (s.stack (stackOf (128 * line))).writeQ.length + 4 ≤ 256) (hmerges : (s.stack (stackOf (128 * line))).mergeQ.length + 4 ≤ 64) {t : State}
    (ht : c.secs.zipIdx.foldl (fun s x => s.acceptSector (4 * line + x.2) x.1) s = t) :
    execWritebackAccept line s = .next { t with market := { t.market with closed := t.market.closed.filter (· ≠ c) } } := by
  simp only [execWritebackAccept, hclosed, hwrites.not_gt, hmerges.not_gt, false_and, or_self, if_false, ht]

/-! ## Reservations -/

section
variable {s : State} {who entry : Fin 16} (haccepts : Accepts s who (rsvIndex entry) (s.authPlain who))
include haccepts

theorem execRsvApply_accepted (kind : Nat) : execRsvApply who entry kind s = .next (s.rsvApply who entry kind) :=
  congrArg Host.Outcome.next (command_accepts haccepts _)

theorem execRsvRelease_accepted : execRsvRelease who entry s = .next (s.rsvRelease entry) :=
  congrArg Host.Outcome.next (command_accepts haccepts _)

end

section
variable {s : State} {who n kind part q row0 rows : Nat} (hpart : s.staged who (rsvIndex n) 2 0 = part) (hq : s.staged who (rsvIndex n) 3 0 = q)
  (hrow0 : s.staged who (rsvIndex n) 4 0 = row0) (hrows : s.staged who (rsvIndex n) 5 0 = rows)
include hpart hq hrow0 hrows

/-- Staged values that meet no row of Table 7-3 come into force once the frames have left the cache role (R222, R226). -/
theorem rsvApply_lands (hmeets : s.rsvRefusal n kind part q row0 rows = 0) {t : State} (hset : s.rsvSet n kind part q row0 rows = some t) :
    s.rsvApply who n kind = ((t.rsvKeep n kind part q row0 rows).remapBar4 kind).answer 0 := by
  simp only [State.rsvApply, hpart, hq, hrow0, hrows, hmeets, hset]

/-- The first row of Table 7-3 that the staged values meet decides the answer (R225). -/
theorem rsvApply_refused {e : Nat} (he : e ≠ 0) (hmeets : s.rsvRefusal n kind part q row0 rows = e) : s.rsvApply who n kind = s.answer e := by
  cases e with
  | zero => exact absurd rfl he
  | succ e => simp only [State.rsvApply, hpart, hq, hrow0, hrows, hmeets]

end

section
variable {s : State} {n : Nat}

theorem rsvRelease_in_use (huse : s.rsvInUse n = true) : s.rsvRelease n = s.answer 0x0401 := by
  simp only [State.rsvRelease, huse, if_true]

variable (hfree : s.rsvInUse n = false)
include hfree

/-- A reservation in force that nothing uses gives its frames back (R225, R226). -/
theorem rsvRelease_frees (hkind : (s.rsv n).kind ≠ 0) {t : State}
    (ht : s.releaseFrames (s.rsv n).quarter (64 * (s.rsv n).row0) (64 * (s.rsv n).rows) = t) :
    s.rsvRelease n = ((({ t with market := { t.market with rsv := Tab.set Rsv.blank t.market.rsv n Rsv.blank } }).keepVal (rsvIndex n) 1 1 0)
      |>.remapBar4 (s.rsv n).kind).answer 0 := by
  simp only [State.rsvRelease, hfree, hkind, ht, Bool.false_eq_true, if_false]

theorem rsvRelease_none (hkind : (s.rsv n).kind = 0) : s.rsvRelease n = (s.keepVal (rsvIndex n) 1 1 0).answer 0 := by
  simp only [State.rsvRelease, hfree, hkind, Bool.false_eq_true, if_true, if_false]

end

/-- Settles O28: each command under its hypotheses is its lemma above. -/
theorem evictionAndReservations : Obligations.EvictionAndReservations := by
  unfold Obligations.EvictionAndReservations
  refine ⟨?_, ?_, ?_⟩
  · intro s s0 s1 s2 line st set secs hdrained hhome hcached hopen hqueue hread hempty
    exact execEviction_empties hdrained hhome hcached hopen hqueue hread hempty
  · intro s t line c hclosed hwrites hmerges ht
    exact execWritebackAccept_accepts hclosed hwrites hmerges ht
  · rintro s who entry kind i part q row0 rows rfl haccepts hpart hq hrow0 hrows
    simp only [exec_rsvApply, exec_rsvRelease, execRsvApply_accepted haccepts, execRsvRelease_accepted haccepts]
    refine ⟨fun t hmeets hset => ?_, fun e he hmeets => ?_, fun t hfree hkind ht => ?_, fun hfree hkind => ?_, fun huse => ?_⟩
    · rw [rsvApply_lands hpart hq hrow0 hrows hmeets hset]
    · rw [rsvApply_refused hpart hq hrow0 hrows he hmeets]
    · rw [rsvRelease_frees hfree hkind ht]
      rfl
    · rw [rsvRelease_none hfree hkind]
      rfl
    · rw [rsvRelease_in_use huse]

end Sys2Proof.Laws
end

section
/-!
PROOFS. Draft epochs (R259, R260, R265 to R267): what the epochs of a mask become, and each command of the epoch block in a state that the
hypotheses of its lemma describe.
-/

namespace Sys2Proof.Laws
open Sys2Proof Sys2Proof.Machine

/-! ## A change to the epochs of a mask -/

/-- The keys of a list that satisfy `p`, each with what it holds changed by `f`. -/
def modifyWhere {α : Type} [DecidableEq α] (d : α) (p : Nat → Bool) (f : α → α) (ks : List Nat) (t : Tab α) : Tab α :=
  ks.foldl (fun t k => if p k then Tab.modify d t k f else t) t

/-- A key that is listed once is changed once. -/
theorem tab_get_modifyWhere {α : Type} [DecidableEq α] {d : α} (p : Nat → Bool) (f : α → α) {ks : List Nat} (hks : ks.Nodup) {t : Tab α}
    (h : Tab.wf d t = true) (k : Nat) :
    Tab.get d (modifyWhere d p f ks t) k = if k ∈ ks ∧ p k = true then f (Tab.get d t k) else Tab.get d t k := by
  induction ks generalizing t with
  | nil => simp [modifyWhere]
  | cons a ks ih =>
    obtain ⟨hnot, hrest⟩ := List.nodup_cons.mp hks
    rw [modifyWhere, List.foldl_cons, ← modifyWhere]
    split
    next ha =>
      rw [ih hrest (tab_wf_modify h a f), tab_get_modify h]
      by_cases hk : k = a <;> simp [hk, hnot, ha]
    next ha =>
      rw [ih hrest h]
      by_cases hk : k = a <;> simp [hk, hnot, ha]

/-- Setting the epochs of a mask one after another changes nothing but the epochs. -/
theorem foldl_setEpoch (m : Half) (f : Epoch → Epoch) (es : List Nat) (s : State) :
    es.foldl (fun s e => if m.getLsbD e then s.setEpoch e (f (s.epoch e)) else s) s
      = { s with market := { s.market with epochs := modifyWhere Epoch.blank m.getLsbD f es s.market.epochs } } := by
  induction es generalizing s with
  | nil => rfl
  | cons e es ih =>
    rw [List.foldl_cons, ih, modifyWhere, modifyWhere, List.foldl_cons]
    split <;> rfl

/-- An epoch that becomes CLOSING keeps its partition, and takes the cause of a cancellation (R259, R265, R266). -/
def closingEpoch (cancel : Bool) (cause : Nat) (x : Epoch) : Epoch := ⟨2, x.part, if cancel then cause else x.cause, cancel⟩

theorem closeEpochs_eq (s : State) (m : Half) (cancel : Bool) (cause who : Nat) :
    s.closeEpochs m cancel cause who = { s with market := { s.market with
      epochs := modifyWhere Epoch.blank m.getLsbD (closingEpoch cancel cause) (List.range 16) s.market.epochs
      closings := s.market.closings ++ [⟨m, cancel, who⟩] } } :=
  congrArg (fun t : State => { t with market := { t.market with closings := t.market.closings ++ [(⟨m, cancel, who⟩ : Closing)] } })
    (foldl_setEpoch m (closingEpoch cancel cause) (List.range 16) s)

/-- Settles O25: a closing changes the epochs and the closings only, and each epoch of the mask once. -/
theorem epochsClose : Obligations.EpochsClose := by
  unfold Obligations.EpochsClose
  intro s m cancel cause who e hcanonical he
  rw [closeEpochs_eq]
  refine ⟨?_, rfl, rfl, rfl⟩
  simp only [State.epoch, tab_get_modifyWhere _ _ List.nodup_range hcanonical, List.mem_range, he, true_and]
  rfl

/-! ## OPEN -/

section
variable {s : State} {who : Fin 34} {w : BitVec 28} (hreserved : epReserved w = false)
include hreserved

theorem execOpenEpoch_no_partition (hpart : s.epPart who w = none) : execOpenEpoch who w s = .next (s.setEpres who epNotOwner 0) := by
  simp only [execOpenEpoch, hreserved, hpart, Bool.false_eq_true, if_false]

variable {p : Nat} (hpart : s.epPart who w = some p)
include hpart

/-- The lowest FREE epoch becomes OPEN and keeps the cause of its last cancellation (R260, Table 8-6). -/
theorem execOpenEpoch_opens {e : Nat} (hlowest : (List.range 16).find? (fun e => (s.epoch e).st = 0) = some e) :
    execOpenEpoch who w s = .next ((s.setEpoch e ⟨1, p, (s.epoch e).cause, false⟩).setEpres who epDone e) := by
  simp only [execOpenEpoch, hreserved, hpart, hlowest, Bool.false_eq_true, if_false]

theorem execOpenEpoch_none_free (hused : ∀ e, e < 16 → (s.epoch e).st ≠ 0) : execOpenEpoch who w s = .next (s.setEpres who epNoFree 0) := by
  have hnone : (List.range 16).find? (fun e => (s.epoch e).st = 0) = none := by simpa using hused
  simp only [execOpenEpoch, hreserved, hpart, hnone, Bool.false_eq_true, if_false]

end

/-! ## JOIN, COMMIT and CANCEL of OPEN epochs -/

section
variable {s : State} {who : Fin 34} {w : BitVec 28} (hopen : EpochsOpen s who w)
include hopen

/-- Only a control core holds a DTAINT to join (R260). -/
theorem execJoin_open (hcore : who.val < 32) : execJoin who w s
    = .next ((s.setCluster who { s.cluster who with dtaint := (s.cluster who).dtaint ||| epMask w }).setEpres who epDone 0) :=
  congrArg Host.Outcome.next (epCmd_open hopen (fun _ => hcore) _)

theorem execCommit_open : execCommit who w s = .next ((s.commitEpochs (epMask w) who).setEpres who epPending 0) :=
  congrArg Host.Outcome.next (epCmd_open hopen (fun h => absurd h Bool.false_ne_true) _)

theorem execCancel_open : execCancel who w s = .next ((s.cancelEpochs (epMask w) 0 who).setEpres who epPending 0) :=
  congrArg Host.Outcome.next (epCmd_open hopen (fun h => absurd h Bool.false_ne_true) _)

end

/-! ## The end of a closing, and a full set -/

/-- A closing that nothing carries any more frees its epochs, and tells a requester whose last closing it was (R265, R266). -/
theorem freeEpochs_closing {s t u : State} {m : Half} {cancel : Bool} {k : Closing}
    (hclosing : s.market.closings.find? (fun k => k.mask = m ∧ k.cancel = cancel) = some k) (hidle : s.inFlight m = false)
    (ht : (List.range 16).foldl (fun s e => if m.getLsbD e then s.setEpoch e ⟨0, 0, (s.epoch e).cause, false⟩ else s) s = t)
    (hu : { t with market := { t.market with closings := t.market.closings.filter (· ≠ k) } } = u) :
    s.freeEpochs m cancel = if (s.market.closings.filter (fun y => y.who = k.who)).getLast? = some k ∧ u.epresStatus k.who = epPending
      then u.setEpres k.who epDone 0 else u := by
  subst hu ht
  simp only [State.freeEpochs, hclosing, hidle, Bool.false_eq_true, if_false]

theorem exec_closingComplete (s : State) (m : Half) (cancel : Bool) :
    exec (if cancel then .cancelComplete m else .commitComplete m) s = .next (s.freeEpochs m cancel) := by
  cases cancel
  · exact exec_commitComplete s m
  · exact exec_cancelComplete s m

/-- A draft access that cannot have a shadow way loses the OPEN epochs of its mask (R267). -/
theorem execDraftFull_cancels {s : State} {sector : Nat} {taint m : Half} (hm : maskWhere taint (fun e => (s.epoch e).st = 1) = m) (hne : m ≠ 0#16)
    (hblocked : s.shadowBlocked (sector / 4) m = true) : execDraftFull sector taint s
      = .next (((s.cancelEpochs m 1 whoSelf).mktCount (fun k => { k with full := k.full + maskCount m })).event 0x32 2 m.toNat (s.maskPart m)) := by
  simp only [execDraftFull, hm, hne, hblocked, Bool.not_true, decide_false, Bool.or_false, Bool.false_eq_true, if_false]

/-- Settles O24: each command under its hypotheses is its lemma above. -/
theorem epochCommands : Obligations.EpochCommands := by
  unfold Obligations.EpochCommands
  refine ⟨?_, ?_, ?_⟩
  · intro s who w
    simp only [exec_openEpoch, exec_join, exec_commit, exec_cancel]
    refine ⟨fun hreserved p hpart => ⟨fun e hlowest => ?_, fun hused => ?_⟩, fun hreserved hpart => ?_, fun hopen => ⟨fun hcore => ?_, ?_, ?_⟩⟩
    · exact execOpenEpoch_opens hreserved hpart hlowest
    · exact execOpenEpoch_none_free hreserved hpart hused
    · exact execOpenEpoch_no_partition hreserved hpart
    · exact execJoin_open hopen hcore
    · exact execCommit_open hopen
    · exact execCancel_open hopen
  · intro s t m cancel k hclosing hidle ht u hu
    rw [exec_closingComplete, freeEpochs_closing hclosing hidle ht hu]
    rfl
  · intro s sector taint m hm hne hblocked
    rw [exec_draftFull, execDraftFull_cancels hm hne hblocked]
    rfl

end Sys2Proof.Laws
end

section
/-!
PROOFS. Channels (R274, R276, R298): BIND, UNBIND and a report of TAIL, which the runners and the engines share.
-/

namespace Sys2Proof.Laws
open Sys2Proof Sys2Proof.Machine

/-- The last answer decides whether the staged values are the last applied (R629). -/
theorem appliedIf_of_last {t : State} (h : t.out.getLast? = some ⟨.dict, 0, []⟩) (who i : Nat) (l : List (Nat × Nat × Nat)) :
    t.appliedIf who i l = t.applied who i l :=
  if_pos h

/-- What a BIND asks of a ready unit: its values in range, the channel free, the context active and of the unit's partition, the ring placed
and under no window of a sealed partition (R274, Tables 9-9, 14-11 and 19-5). -/
structure BindPasses (s : State) (unit ch ctx ring ent maxCh : Nat) (part : Option Nat) : Prop where
  ch_le : ch ≤ maxCh
  ctx_le : ctx ≤ 4095
  le_ent : 4 ≤ ent
  ent_le : ent ≤ 16
  aligned : ring % 128 = 0
  fits : ring + ringBytes ent ≤ 2 ^ 56
  free : (s.chan unit ch).bound = false
  active : (s.ctx ctx).active = true
  ofPart : part.any (fun p => decide ((s.ctx ctx).part ≠ p)) = false
  placed : s.allPlaced ctx ring (ringBytes ent) = true
  uncovered : (s.sealed (s.ctx ctx).part && s.windowCovers ctx ring (ringBytes ent)) = false

/-- A BIND that passes binds the channel, IDLE, with what its header holds, and answers 0. -/
theorem bindChan_passes {s s1 : State} {unit ch ctx ring ent maxCh : Nat} {part : Option Nat} {r : URead}
    (h : BindPasses s unit ch ctx ring ent maxCh part)
    (hs1 : s.setChan unit ch { Chan.blank with bound := true, ctx := ctx, ring := ring, ent := ent, st := 1 } = s1)
    (hr : s1.agentRead (s1.chanAgent unit ch 0#16) ring 24 = r) :
    s.bindChan unit ch ctx ring ent maxCh true true part = ((r.s.onChan unit ch (fun y => { y with
      done := leNat ((r.bytes.drop 16).take 8)
      ann := if later (leNat ((r.bytes.drop 16).take 8)) (leNat (r.bytes.take 8)) then [(leNat (r.bytes.take 8), 0#16)] else [] })).writeHeader
        unit ch).answer 0 := by
  subst hs1 hr
  simp only [State.bindChan, h.ch_le.not_gt, h.ctx_le.not_gt, h.le_ent.not_gt, h.ent_le.not_gt, h.aligned, h.fits.not_gt, h.free, h.active, h.ofPart,
    h.placed, h.uncovered, ne_eq, not_true_eq_false, Bool.not_true, Bool.false_eq_true, or_self, if_false]

/-- An UNBIND of a bound channel without a job shows FREE in its header, clears it and answers 0 (R274). -/
theorem unbindChan_unbinds {s : State} {unit ch maxCh : Nat} (hch : ch ≤ maxCh) (hbound : (s.chan unit ch).bound = true) (hrun : (s.chan unit ch).st ≠ 2)
    (hdraft : (s.chan unit ch).st ≠ 4) : s.unbindChan unit ch maxCh true = ((s.chanState unit ch 0).setChan unit ch Chan.blank).answer 0 := by
  simp only [State.unbindChan, hch.not_gt, hbound, hrun, hdraft, Bool.not_true, Bool.false_eq_true, or_self, if_false]

/-- A report to a bound channel joins those that wait, with the bell, and the channel settles (R276, R298). -/
theorem tailReport_bound {s : State} {unit ch : Nat} (hbound : (s.chan unit ch).bound = true) (tail : Nat) (m : Half) :
    s.tailReport unit ch tail m = (s.setChan unit ch { s.chan unit ch with
      waiting := (s.chan unit ch).waiting ++ [(tail % 2 ^ 64, m)]
      reps := (s.chan unit ch).reps ++ [(tail % 2 ^ 64, s.bell.count)] }).chanSettle unit ch := by
  simp only [State.tailReport, hbound, Bool.not_true, Bool.false_eq_true, if_false]

/-! ## Commands on the channels of the runners (0x4100) -/

section
variable {s : State} {who : Fin 16} (haccepts : Accepts s who 0x4100 (s.authPlain who))
include haccepts

theorem execRbBind_accepted : execRbBind who s = .next (s.rbBind who) :=
  congrArg Host.Outcome.next (command_accepts haccepts _)

theorem execRbUnbind_accepted : execRbUnbind who s = .next (s.rbUnbind who) :=
  congrArg Host.Outcome.next (command_accepts haccepts _)

end

section
variable {s : State} {who unit ch : Nat} (hunit : s.staged who 0x4100 1 0 = unit) (hch : s.staged who 0x4100 2 0 = ch) (hle : unit ≤ 15)
include hunit hch hle

/-- A runner that takes part in service serves the contexts of the partition of its quarter (R273, R303). -/
theorem rbBind_eq {ctx ring ent : Nat} (hctx : s.staged who 0x4100 3 0 = ctx) (hring : s.staged who 0x4100 4 0 = ring)
    (hent : s.staged who 0x4100 5 4 = ent) (hok : s.runnerOk unit = true) : s.rbBind who
      = (s.bindChan unit ch ctx ring ent 63 true true (some ((s.quarterPart (unit / 4)).getD 4))).appliedIf who 0x4100 rbSubs := by
  simp only [State.rbBind, hunit, hch, hctx, hring, hent, hok, Nat.lt_succ_of_le hle, decide_true]

theorem rbUnbind_eq : s.rbUnbind who = (s.unbindChan unit ch 63 true).appliedIf who 0x4100 rbSubs := by
  simp only [State.rbUnbind, hunit, hch, Nat.lt_succ_of_le hle, decide_true]

end

/-- Settles O29: each command under its hypotheses is its lemma above. That BIND announces the jobs below a TAIL ahead of DONE, with an empty mask,
is the model's choice (log 67). -/
theorem runnerRings : Obligations.RunnerRings := by
  unfold Obligations.RunnerRings
  refine ⟨?_, ?_, ?_⟩
  · intro s s1 who unit ch ctx ring ent r haccepts hunit hch hctx hring hent hunit_le hch_le hctx_le hle_ent hent_le haligned hfits hfree hok hactive hpart
      hplaced huncovered hs1 hr
    have hpasses : BindPasses s unit ch ctx ring ent 63 (some ((s.quarterPart (unit / 4)).getD 4)) :=
      ⟨hch_le, hctx_le, hle_ent, hent_le, haligned, hfits, hfree, hactive, by simp [hpart], hplaced, huncovered⟩
    rw [exec_rbBind, execRbBind_accepted haccepts, rbBind_eq hunit hch hunit_le hctx hring hent hok, bindChan_passes hpasses hs1 hr, appliedIf_answer]
  · intro s who unit ch haccepts hunit hch hunit_le hch_le hbound hrun hdraft
    rw [exec_rbUnbind, execRbUnbind_accepted haccepts, rbUnbind_eq hunit hch hunit_le, unbindChan_unbinds hch_le hbound hrun hdraft, appliedIf_answer]
  · rintro s unit ch tail m x rfl hbound
    exact congrArg Host.Outcome.next (tailReport_bound hbound tail.toNat m)

end Sys2Proof.Laws
end

section
/-!
PROOFS. The jobs of the runners (R275 to R280, R295, R299): how a job is found, started and carried on, how it ends and how it halts.
-/

namespace Sys2Proof.Laws
open Sys2Proof Sys2Proof.Machine

/-! ## A job under way -/

/-- A job whose requests need not wait keeps where it stands, and the runner counts what it met. -/
theorem carryOn_of_run {s : State} {unit ch : Nat} {j : RunJob} (hwait : (s.runJob unit ch j).wait = false) :
    s.carryOn unit ch j = ((s.runJob unit ch j).s.jobCounts unit j (s.runJob unit ch j).j).onChan unit ch (fun x =>
      { x with run := some (s.runJob unit ch j).j, st := if x.st = 4 then 4 else 2 }) := by
  simp only [State.carryOn, hwait, Bool.false_eq_true, if_false]

section
variable {s : State} {unit ch : Nat} {x : Chan} (hx : s.chan unit ch = x) (hbound : x.bound = true) (hst : x.st ≠ 3)
include hx hbound hst

/-- The job that stands at the channel is carried on by the row of its operation. -/
theorem runnerJob_stands {j : RunJob} (hrun : x.run = some j) (hended : j.ended = false) :
    s.runnerJob unit ch (rdOp j.desc) = s.carryOn unit ch j := by
  simp only [State.runnerJob, hx, hbound, hst, hrun, hended, Bool.not_true, Bool.false_eq_true, ne_eq, not_true_eq_false, or_self, if_false]

/-- A channel without a job takes the next of its ring, once its descriptor is sound, and the row of its operation starts it (R275 to R280). -/
theorem runnerJob_starts {num : Nat} {m : Half} {r : URead} {d : BitVec 512} (hnone : x.run = none) (hok : s.runnerOk unit = true)
    (hnext : x.next = .job num m) (hactive : s.activeJobs unit < 8) (hwork : s.noNewWork = false)
    (hr : s.agentRead (s.chanAgent unit ch m) (x.slot num) 64 = r) (hread : r.st = .ok) (hclean : r.poison = false)
    (hd : BitVec.ofNat 512 (leNat r.bytes) = d) (hcrc : jobCrcOk d = true) (hbad : jobBad d = false) {j : RunJob}
    (hj : ⟨num, d, m ||| r.taint, decide (m ≠ 0#16), 0, 0, 0, 0, 0, 0, 0, false, false, []⟩ = j) :
    s.runnerJob unit ch (rdOp d)
      = ((r.s.chanState unit ch (if x.st = 4 then 4 else 2)).onChan unit ch (fun x => { x with run := some j })).carryOn unit ch j := by
  subst hj
  simp only [State.runnerJob, hx, hbound, hst, hnone, hok, hnext, hactive.not_ge, hwork, hr, hread, hclean, hd, hcrc, hbad, Bool.not_true,
    Bool.false_eq_true, ne_eq, not_true_eq_false, or_self, if_false]

end

/-! ## The rows of the operations -/

/-- The row of an operation (Table 9-3). -/
def runnerRow (runner : StackIx) (ch : Fin 64) (op : Nat) : Instr :=
  if op = 0 then .pool runner ch else if op = 1 then .spmv runner ch else if op = 2 then .spmtv runner ch else .prefetchJob runner ch

theorem exec_runnerRow (runner : StackIx) (ch : Fin 64) (s : State) {op : Nat} (h : op < 4) :
    exec (runnerRow runner ch op) s = .next (s.runnerJob runner ch op) := by
  match op, h with
  | 0, _ => exact exec_pool s runner ch
  | 1, _ => exact exec_spmv s runner ch
  | 2, _ => exact exec_spmtv s runner ch
  | 3, _ => exact exec_prefetchJob s runner ch

/-! ## The end of a base job -/

section
variable {s : State} {runner : StackIx} {ch : Fin 64} {j : RunJob} (hrun : (s.chan runner ch).run = some j) (hended : j.ended = true)
  (hmask : j.mask = 0#16)
include hrun hended hmask

/-- A job that ended OK or REJECTED writes its record, and DONE moves past it (R278, R299). -/
theorem execRunnerJobDone_completes (hstatus : j.status = 0 ∨ j.status = 6) :
    execRunnerJobDone runner ch s = .next ((s.putRecord runner ch j j.status).chanDone runner ch (j.num + 1)) := by
  have hgoes : ¬(j.status ≠ 0 ∧ j.status ≠ 6) := by tauto
  simp only [execRunnerJobDone, hrun, hended, hmask, hgoes, Bool.not_true, Bool.false_eq_true, ne_eq, not_true_eq_false, or_self, if_false]

/-- A job that failed counts as a halt, writes its record and shows HALTED (R299). -/
theorem execRunnerHalt_halts (hfailed : j.status ≠ 0) (hsound : j.status ≠ 6) (hst : (s.chan runner ch).st ≠ 3) :
    execRunnerHalt runner ch s = .next ((({ s with fabric := { s.fabric with
      runners := Tab.modify Runner.blank s.fabric.runners runner (fun y => { y with halts := y.halts + 1 }) } }).putRecord runner ch j
        j.status).chanState runner ch 3) := by
  simp only [execRunnerHalt, hrun, hended, hmask, hfailed, hsound, hst, Bool.not_true, Bool.false_eq_true, ne_eq, not_true_eq_false, or_self, if_false]

end

/-- Settles O30: the row of an operation is `State.runnerJob`, and each case of it its lemma above. -/
theorem runnerJobs : Obligations.RunnerJobs := by
  unfold Obligations.RunnerJobs
  refine ⟨?_, ?_⟩
  · intro s runner ch x hx hbound hst row op hop
    have hrow : exec (row op) s = .next (s.runnerJob runner ch op) := exec_runnerRow runner ch s hop
    rw [hrow]
    refine ⟨?_, ?_⟩
    · rintro j hrun hended rfl hwait
      rw [runnerJob_stands hx hbound hst hrun hended, carryOn_of_run hwait]
    · rintro num m r d hnone hok hnext hactive hwork hr hread hclean hd hcrc hbad rfl
      rw [runnerJob_starts hx hbound hst hnone hok hnext hactive hwork hr hread hclean hd hcrc hbad rfl]
  · intro s runner ch j hrun hended hmask
    refine ⟨fun hstatus => ?_, fun hfailed hsound hst => ?_⟩
    · exact execRunnerJobDone_completes hrun hended hmask hstatus
    · exact execRunnerHalt_halts hrun hended hmask hfailed hsound hst

end Sys2Proof.Laws
end

section
/-!
PROOFS. The jobs of the send channels (R276, R300, R428 to R432, R442, R445, R497): frames, the job of a channel, its completion, and what CTRL
asks of a halted channel.
-/

namespace Sys2Proof.Laws
open Sys2Proof Sys2Proof.Machine

/-! ## The next frame of a message -/

section
variable {s s0 t : State} {e ch : Nat} {j : RunJob} {m : Msg}

/-- A GET asks for all its sectors in one frame, which carries none (R429). -/
theorem sendFrame_getreq (hkind : m.kind = tGetreq)
    (hsend : s.sendData e { m.header s.bell.count m.sectors m.sectors with last := true } (some (s.ctx (s.chan (16 + e) ch).ctx).part) 0#128 [] = some t) :
    s.sendFrame s0 e ch j m = (t.sentOne e m.num false).countFrame e ch := by
  simp only [State.sendFrame, hkind, hsend, if_true]

/-- The sectors of a frame are read at the local address and go with their poison (R429, R430). -/
theorem sendFrame_payload (hkind : m.kind ≠ tGetreq) {n pm : Nat} {u : State} {bytes : List Byte}
    (hn : min (m.sectors - s.mtu / 32 * m.sent) (s.mtu / 32) = n)
    (hread : State.readSectors (s.chanAgent (16 + e) ch 0#16) n (m.laddr + 32 * (s.mtu / 32) * m.sent) 0 s = (u, .ok, bytes, pm))
    (hsend : u.sendData e (m.header s.bell.count (s.mtu / 32) n) (some (s.ctx (s.chan (16 + e) ch).ctx).part) (BitVec.ofNat 128 pm) bytes = some t) :
    s.sendFrame s0 e ch j m = (t.sentOne e m.num (decide (BitVec.ofNat 128 pm ≠ 0#128))).countFrame e ch := by
  have hif : (if m.sectors - s.mtu / 32 * m.sent < s.mtu / 32 then m.sectors - s.mtu / 32 * m.sent else s.mtu / 32) = n := by
    rw [← hn]
    split <;> omega
  simp only [State.sendFrame, hkind, hif, hread, hsend, if_false]

end

/-! ## The next step of a job -/

/-- What a job of an operation of Table 14-4 does next: a plain message of its type, or a collective. -/
def sendStep (e ch : Nat) : Nat → State → RunJob → State
  | 0 => State.plainSend tPut e ch
  | 1 => State.plainSend tGetreq e ch
  | 2 => State.plainSend tFold e ch
  | _ => State.collStep e ch

section
variable {s : State} {e ch : Nat} {j : RunJob}

theorem plainSend_sending {m : Msg} (hm : s.sending e ch = some m) (kind : Nat) : State.plainSend kind e ch s j = s.sendFrame s e ch j m := by
  simp only [State.plainSend, hm]

/-- A collective that has not ended goes on with the message under way (R442). -/
theorem collStep_sending {m : Msg} (hm : s.sending e ch = some m) {c : Coll} (hc : s.coll e ch = some c) (hstatus : c.status = 0) :
    State.collStep e ch s j = s.sendFrame s e ch j m := by
  simp only [State.collStep, hc, hm, hstatus, Option.isNone_some, Bool.false_eq_true, ne_eq, not_true_eq_false, if_false]

/-- A message with frames left sends the next, whatever the operation. -/
theorem sendStep_sending {m : Msg} (hm : s.sending e ch = some m) {op : Nat}
    (hcoll : 3 ≤ op → ∃ c, s.coll e ch = some c ∧ c.status = 0) : sendStep e ch op s j = s.sendFrame s e ch j m := by
  match op with
  | 0 | 1 | 2 => exact plainSend_sending hm _
  | n + 3 =>
    obtain ⟨c, hc, hstatus⟩ := hcoll (Nat.le_add_left 3 n)
    exact collStep_sending hm hc hstatus

/-- A plain job without a message opens one from POS on; only a PUT carries a doorbell (R429). -/
theorem plainSend_opens (hnone : s.sending e ch = none) (hmsgs : s.chanMsgs e ch = []) (kind : Nat) :
    State.plainSend kind e ch s j = s.openAndSend e ch j { s.jobMsg e ch j kind (sdDst j.desc) j.pos (sdSectors j.desc - j.pos) with
      db := if kind = tPut ∧ sdDb j.desc then 2 ^ 52 + sdDbq j.desc * 2 ^ 32 + sdDbtail j.desc else 0 } := by
  simp only [State.plainSend, hnone, hmsgs, List.isEmpty_nil, if_true]

end

/-! ## The rows of the operations -/

/-- The row of each operation of Table 14-4. -/
def sendRows (e : Fin 2) (ch : Fin 256) : List (Instr × Nat) :=
  [(.sendPut e ch, 0), (.sendGet e ch, 1), (.sendFold e ch, 2), (.allreduce e ch, 3), (.reducescatter e ch, 4), (.allgather e ch, 5)]

theorem exec_sendRow {s : State} {e : Fin 2} {ch : Fin 256} {i : Instr} {op : Nat} (h : (i, op) ∈ sendRows e ch) :
    exec i s = .next (s.sendJob e ch op (sendStep e ch op)) := by
  simp only [sendRows, List.mem_cons, Prod.mk.injEq, List.not_mem_nil, or_false] at h
  obtain ⟨rfl, rfl⟩ | ⟨rfl, rfl⟩ | ⟨rfl, rfl⟩ | ⟨rfl, rfl⟩ | ⟨rfl, rfl⟩ | ⟨rfl, rfl⟩ := h
  · exact exec_sendPut s e ch
  · exact exec_sendGet s e ch
  · exact exec_sendFold s e ch
  · exact exec_allreduce s e ch
  · exact exec_reducescatter s e ch
  · exact exec_allgather s e ch

/-! ## The job of a channel -/

section
variable {s : State} {e ch op : Nat} {x : Chan} {go : State → RunJob → State} (hx : s.chan (16 + e) ch = x) (hbound : x.bound = true) (hst : x.st ≠ 3)
include hx hbound hst

/-- The job that stands at the channel, unmasked and past its start bell, takes its next step (R431, R497). -/
theorem sendJob_stands {j : RunJob} (hrun : x.run = some j) (hended : j.ended = false) (hop : sdOp j.desc = op) (hmask : j.mask = 0#16)
    (hstart : s.fabric.waits.any (fun w => decide (w.engine = e ∧ w.chan = ch)) = false) : s.sendJob e ch op go = go s j := by
  simp only [State.sendJob, State.sendGo, hx, hbound, hst, hrun, hended, hop, hmask, hstart, Bool.not_true, Bool.false_eq_true, ne_eq, not_true_eq_false,
    or_self, if_false]

variable {num : Nat} {m : Half} {r : URead} (hnone : x.run = none) (hnext : x.next = .job num m) (hactive : s.activeJobs (16 + e) < 64)
  (hwork : s.noNewWork = false) (hr : s.agentRead (s.chanAgent (16 + e) ch m) (x.slot num) 64 = r) (hread : r.st = .ok)
include hnone hnext hactive hwork hr hread

/-- A poisoned descriptor ends the job HALTED, as if its fields were 0 (Table 14-5). -/
theorem sendJob_poisoned (hpoison : r.poison = true) : s.sendJob e ch op go = r.s.onChan (16 + e) ch (fun y => { y with
    run := some ⟨num, 0#512, m ||| r.taint, decide (m ≠ 0#16), 0, 0, 0, 0, 0, 0, 1, true, false, []⟩, st := if y.st = 4 then 4 else 2 }) := by
  simp only [State.sendJob, hx, hbound, hst, hnone, hnext, hactive.not_ge, hwork, hr, hread, hpoison, Bool.not_true, Bool.false_eq_true, or_self, if_true,
    if_false]

/-- A descriptor that breaks its CRC or its rules ends the job REJECTED (R429, Table 14-5). -/
theorem sendJob_malformed (hclean : r.poison = false) {d : BitVec 512} (hd : BitVec.ofNat 512 (leNat r.bytes) = d)
    (hbad : jobCrcOk d = false ∨ s.sendBad d = true) : s.sendJob e ch op go = r.s.onChan (16 + e) ch (fun y => { y with
      run := some ⟨num, d, m ||| r.taint, decide (m ≠ 0#16), 0, 0, 0, 0, 0, 0, 8, true, false, []⟩, st := if y.st = 4 then 4 else 2 }) := by
  simp only [State.sendJob, hx, hbound, hst, hnone, hnext, hactive.not_ge, hwork, hr, hread, hclean, hd, Bool.not_eq_true', hbad, Bool.not_true,
    Bool.false_eq_true, or_self, if_true, if_false]

end

/-- A job that has completed writes its record; HALTED and FAULT halt the channel, any other moves DONE (R432, Table 14-5). -/
theorem execSendComplete_completes {s t : State} {e : Fin 2} {ch : Fin 256} {j : RunJob} (hrun : (s.chan (16 + e) ch).run = some j)
    (hst : (s.chan (16 + e) ch).st ≠ 3) {status detail : Nat} (hend : s.sendEnd e ch j = some (status, detail)) (hmask : j.mask = 0#16)
    (ht : s.putSendRecord e ch j status detail = t) : execSendComplete e ch s
      = .next (if status = 1 ∨ status = 2 then t.chanState (16 + e) ch 3 else (t.dropSends e ch).chanDone (16 + e) ch (j.num + 1)) := by
  simp only [execSendComplete, hrun, hst, hend, hmask, ht, ne_eq, not_true_eq_false, if_false]

/-! ## CTRL of a halted channel -/

/-- CTRL with an empty mask acts on a HALTED channel (R300). -/
theorem ctrl_halted {s : State} {unit ch : Nat} (hbound : (s.chan unit ch).bound = true) (hst : (s.chan unit ch).st = 3) (k : Chan → State) :
    s.ctrl unit ch 0#16 k = k (s.chan unit ch) := by
  simp only [State.ctrl, hbound, hst, Bool.not_true, Bool.false_eq_true, ne_eq, not_true_eq_false, or_self, if_false]

section
variable {s : State} {u : Fin 18} {ch : Fin 256} (hbound : (s.chan u ch).bound = true) (hst : (s.chan u ch).st = 3)
include hbound hst

/-- RESUME starts the halted job again at POS; a GET begins a new message there (R300, R430). -/
theorem execRingResume_halted {j : RunJob} (hrun : (s.chan u ch).run = some j) {t : State}
    (ht : (if 16 ≤ u.val ∧ sdOp j.desc = 1 then s.dropSends (u.val - 16) ch else s) = t) :
    execRingResume u ch 0#16 s = .next ((t.onChan u ch (fun y => { y with run := j.resume, st := 1 })).chanSettle u ch) := by
  subst ht
  simp only [execRingResume, ctrl_halted hbound hst, hrun, ge_iff_le]

/-- SKIP moves DONE past the halted job (R300). -/
theorem execRingSkip_halted {j : RunJob} (hrun : (s.chan u ch).run = some j) {t : State}
    (ht : (if 16 ≤ u.val then s.dropSends (u.val - 16) ch else s) = t) : execRingSkip u ch 0#16 s = .next (t.chanDone u ch (j.num + 1)) := by
  subst ht
  simp only [execRingSkip, ctrl_halted hbound hst, hrun, ge_iff_le]

/-- ABORT writes ABORTED for every job of the ring up to TAIL, and moves DONE there (R300). -/
theorem execRingAbort_halted {t : State}
    (ht : (List.range (min (((s.chan u ch).known + 2 ^ 64 - (s.chan u ch).done) % 2 ^ 64) (2 ^ (s.chan u ch).ent))).foldl (fun v i =>
      if 16 ≤ u.val then (v.abortRecord u ch (((s.chan u ch).done + i) % 2 ^ 64)).dropSends (u.val - 16) ch
      else v.abortRecord u ch (((s.chan u ch).done + i) % 2 ^ 64)) s = t) :
    execRingAbort u ch 0#16 s = .next ((t.onChan u ch (fun y => { y with ovr := false })).chanDone u ch (s.chan u ch).known) := by
  have hmin : ∀ a b : Nat, (if a > b then b else a) = min a b := fun a b => by split <;> omega
  subst ht
  simp only [execRingAbort, ctrl_halted hbound hst, hmin, ge_iff_le]

end

/-- Settles O41: the row of an operation is `State.sendJob` with the step of the operation, and each case its lemma above. That the
record of an unread descriptor has zeros in its fields (log 73), and that each row sends one frame (log 107), are the model's choices. -/
theorem sendJobs : Obligations.SendJobs := by
  unfold Obligations.SendJobs
  refine ⟨?_, fun s e ch => exec_sendStart s e ch, ?_⟩
  · rintro s e ch x rfl hbound hst
    refine ⟨?_, ?_, ?_⟩
    · intro j hrun hended hmask hstart
      have hstands : ∀ {op : Nat} {go : State → RunJob → State}, sdOp j.desc = op → s.sendJob e ch op go = go s j :=
        fun hop => sendJob_stands rfl hbound hst hrun hended hop hmask hstart
      refine ⟨?_, ?_⟩
      · intro i m hm hrow hcoll
        have hframe : exec i s = .next (s.sendFrame s e ch j m) := by
          rw [exec_sendRow hrow, hstands rfl, sendStep_sending hm hcoll]
        rw [hframe]
        refine ⟨fun t hkind hsend => ?_, fun n u bytes pm t hkind hn hread hsend => ?_⟩
        · rw [sendFrame_getreq hkind hsend]
        · rw [sendFrame_payload hkind hn hread hsend]
      · intro m hnone hmsgs
        refine ⟨?_, ?_, ?_⟩ <;> rintro hop rfl
        · rw [exec_sendPut, execSendPut, hstands hop, plainSend_opens hnone hmsgs]
          simp only [true_and]
        · rw [exec_sendGet, execSendGet, hstands hop, plainSend_opens hnone hmsgs]
          rfl
        · rw [exec_sendFold, execSendFold, hstands hop, plainSend_opens hnone hmsgs]
          rfl
    · intro num m r i hnone hnext hactive hwork hr hread hi
      obtain ⟨⟨row, op⟩, hrow, rfl⟩ : ∃ row ∈ sendRows e ch, row.1 = i := List.mem_map.mp hi
      rw [exec_sendRow hrow]
      refine ⟨fun hpoison => ?_, fun d hclean hd hbad => ?_⟩
      · rw [sendJob_poisoned rfl hbound hst hnone hnext hactive hwork hr hread hpoison]
      · rw [sendJob_malformed rfl hbound hst hnone hnext hactive hwork hr hread hclean hd hbad]
    · intro j status detail t hrun hend hmask ht
      exact execSendComplete_completes hrun hst hend hmask ht
  · rintro s t u ch x j rfl hbound hst
    refine ⟨fun hrun => ⟨fun ht => ?_, fun ht => ?_⟩, fun ht => ?_⟩
    · exact execRingResume_halted hbound hst hrun ht
    · exact execRingSkip_halted hbound hst hrun ht
    · exact execRingAbort_halted hbound hst ht

end Sys2Proof.Laws
end

section
/-!
PROOFS. What is commanded of the fabric (R274, R422, R428, R442, R457, R458, R629): each command on the values that its lemma describes.
-/

namespace Sys2Proof.Laws
open Sys2Proof Sys2Proof.Machine

/-! ## Accepted commands run -/

section
variable {s : State} {who : Fin 16}

section
variable (haccepts : Accepts s who 0x5200 (s.authPlain who))
include haccepts

theorem execScBind_accepted : execScBind who s = .next (s.scBind who) :=
  congrArg Host.Outcome.next (command_accepts haccepts _)

theorem execScUnbind_accepted : execScUnbind who s = .next (s.scUnbind who) :=
  congrArg Host.Outcome.next (command_accepts haccepts _)

end

section
variable (haccepts : Accepts s who 0x5100 (s.authPlain who))
include haccepts

theorem execWnCreate_accepted : execWnCreate who s = .next (s.wnCreate who) :=
  congrArg Host.Outcome.next (command_accepts haccepts _)

theorem execWnDestroy_accepted : execWnDestroy who s = .next (s.wnDestroy who) :=
  congrArg Host.Outcome.next (command_accepts haccepts _)

theorem execWnSelect_accepted : execWnSelect who s = .next (s.wnSelect who) :=
  congrArg Host.Outcome.next (command_accepts haccepts _)

end

section
variable (haccepts : Accepts s who 0x5300 (s.authPlain who))
include haccepts

theorem execGrDefine_accepted : execGrDefine who s = .next (s.grDefine who) :=
  congrArg Host.Outcome.next (command_accepts haccepts _)

theorem execGrDelete_accepted : execGrDelete who s = .next (s.grDelete who) :=
  congrArg Host.Outcome.next (command_accepts haccepts _)

theorem execGrSelect_accepted : execGrSelect who s = .next (s.grSelect who) :=
  congrArg Host.Outcome.next (command_accepts haccepts _)

end

section
variable (haccepts : Accepts s who 0x5440 (s.authPlain who))
include haccepts

theorem execRdSet_accepted : execRdSet who s = .next (s.rdSet who) :=
  congrArg Host.Outcome.next (command_accepts haccepts _)

theorem execRdClear_accepted : execRdClear who s = .next (s.rdClear who) :=
  congrArg Host.Outcome.next (command_accepts haccepts _)

theorem execRdSelect_accepted : execRdSelect who s = .next (s.rdSelect who) :=
  congrArg Host.Outcome.next (command_accepts haccepts _)

end

end

/-! ## Send channels (0x5200) -/

section
variable {s : State} {who e c : Nat} (he : s.staged who 0x5200 1 0 = e) (hc : s.staged who 0x5200 2 0 = c) (hlt : e < 2)
include he hc hlt

/-- An engine serves the contexts of every partition (R428). -/
theorem scBind_eq {ctx ring ent : Nat} (hctx : s.staged who 0x5200 3 0 = ctx) (hring : s.staged who 0x5200 4 0 = ring)
    (hent : s.staged who 0x5200 5 4 = ent) :
    s.scBind who = (s.bindChan (16 + e) c ctx ring ent 255 true true none).appliedIf who 0x5200 scSubs := by
  simp only [State.scBind, he, hc, hctx, hring, hent, hlt, decide_true]

/-- UNBIND of a bound channel without a job also forgets its messages. -/
theorem scUnbind_unbinds (hle : c ≤ 255) (hbound : (s.chan (16 + e) c).bound = true) (hrun : (s.chan (16 + e) c).st ≠ 2)
    (hdraft : (s.chan (16 + e) c).st ≠ 4) :
    s.scUnbind who = ((((s.chanState (16 + e) c 0).setChan (16 + e) c Chan.blank).answer 0).dropSends e c).applied who 0x5200 scSubs := by
  rw [← appliedIf_of_last List.getLast?_concat]
  simp only [State.scUnbind, he, hc, hlt, decide_true, unbindChan_unbinds hle hbound hrun hdraft, hle, hbound, hrun, hdraft, ne_eq, not_false_eq_true,
    and_self, if_true]

end

/-! ## Windows (0x5100) -/

section
variable {s : State} {who id : Nat} (hid : s.staged who 0x5100 1 0 = id) {w : Window}
include hid

/-- A window that meets no refusal comes into force, and the starter is told (R422). -/
theorem wnCreate_creates (hw : s.wnArgs who = w) (hpass : s.wnRefusal id w = 0) :
    s.wnCreate who = (((s.setWindow id w).firmRecord w.part 8 0 id w.body).answer 0).applied who 0x5100 wnSubs := by
  simp only [State.wnCreate, hid, hw, hpass, appliedIf_answer]

variable (hw : s.window' id = w) (hle : id ≤ 4095)
include hw hle

theorem wnDestroy_destroys (henabled : w.enabled = true) (hidle : s.windowBusy id = false) : s.wnDestroy who
    = (((s.setWindow id Window.blank).firmRecord w.part 8 0 id { w with enabled := false }.body).answer 0).applied who 0x5100 wnSubs := by
  simp only [State.wnDestroy, hid, hw, hle.not_gt, henabled, hidle, appliedIf_answer, Bool.not_true, Bool.false_eq_true, if_false]

/-- A window that an admitted frame waits for closes, and the command waits (R422). -/
theorem wnDestroy_closes (henabled : w.enabled = true) (hbusy : s.windowBusy id = true) :
    s.wnDestroy who = (s.setWindow id { w with closing := true }).waits := by
  simp only [State.wnDestroy, hid, hw, hle.not_gt, henabled, hbusy, Bool.not_true, Bool.false_eq_true, if_true, if_false]

theorem wnSelect_selects : s.wnSelect who = ((((((((s.select who 0x5100 2 1 w.kind).select who 0x5100 3 1 w.part).select who 0x5100 4 2 w.ctx).select
    who 0x5100 5 8 w.base).select who 0x5100 6 8 w.bytes).select who 0x5100 7 1 w.perm).select who 0x5100 8 8 w.src).select who 0x5100 9 2
    w.keyid).answer 0 := by
  simp only [State.wnSelect, hid, hw, hle.not_gt, if_false, List.foldl_cons, List.foldl_nil]

end

/-! ## Groups (0x5300) -/

section
variable {s : State} {who g : Nat} (hg : s.staged who 0x5300 1 0 = g) (hle : g ≤ 255)
include hg hle

/-- A free group takes 2 to 256 members, and its instances count from 0 (R442). -/
theorem grDefine_defines {n v : Nat} (hbytes : s.stagedBytes who 0x5300 2 = (n, v)) (hmin : 4 ≤ n) (hmax : n ≤ 512) (heven : n % 2 = 0)
    (hfree : s.group g = []) (hidle : s.groupRuns g = false) : s.grDefine who = (({ s with fabric := { s.fabric with
      groups := Tab.set [] s.fabric.groups g (halves (n / 2) v), inst := Tab.set 0 s.fabric.inst g 0 } }).answer 0).applied who 0x5300 [(1, 1, 0)] := by
  simp only [State.grDefine, hg, hbytes, hle.not_gt, hmin.not_gt, hmax.not_gt, heven, hfree, hidle, appliedIf_answer, ne_eq, not_true_eq_false,
    Bool.false_eq_true, or_self, if_false]

theorem grDelete_deletes (hused : s.group g ≠ []) (hidle : s.groupRuns g = false) : s.grDelete who = (({ s with fabric := { s.fabric with
    groups := Tab.set [] s.fabric.groups g [], inst := Tab.set 0 s.fabric.inst g 0 } }).answer 0).applied who 0x5300 [(1, 1, 0)] := by
  simp only [State.grDelete, hg, hle.not_gt, hused, hidle, appliedIf_answer, Bool.false_eq_true, if_false]

theorem grSelect_selects : s.grSelect who
    = (s.select who 0x5300 2 (2 * (s.group g).length) ((s.group g).foldr (fun x a => x % 65536 + 65536 * a) 0)).answer 0 := by
  simp only [State.grSelect, hg, hle.not_gt, if_false]

end

/-! ## Redirects (0x5440) -/

section
variable {s : State} {who old : Nat} (hold : s.staged who 0x5440 1 0xFFFF = old) {r : Redirect} (hr : Tab.get Redirect.blank s.fabric.redirects old = r)
include hold hr

/-- A redirect replaces that of its device, or takes one of the 64 (R457). -/
theorem rdSet_redirects {new : Nat} (hnew : s.staged who 0x5440 2 0xFFFF = new) (hroom : r.new1 ≠ 0 ∨ s.fabric.redirects.length < 64) :
    s.rdSet who = ((s.redirect old new).answer 0).applied who 0x5440 rdSubs := by
  have hfits : ¬(r.new1 = 0 ∧ s.fabric.redirects.length ≥ 64) := by omega
  simp only [State.rdSet, hold, hnew, hr, hfits, appliedIf_answer, if_false]

/-- The device that was redirected is unknown again (R458). -/
theorem rdClear_clears (hset : r.new1 ≠ 0) {t : State}
    (ht : { s with fabric := { s.fabric with redirects := Tab.set Redirect.blank s.fabric.redirects old Redirect.blank } } = t) :
    s.rdClear who = ((t.setPeer old { t.peer old with st := 0 }).answer 0).applied who 0x5440 rdSubs := by
  subst ht
  simp only [State.rdClear, hold, hr, hset, appliedIf_answer, if_false]

theorem rdSelect_selects : s.rdSelect who = ((s.select who 0x5440 2 2 (r.new1 - 1)).select who 0x5440 4 8 r.bell).answer 0 := by
  simp only [State.rdSelect, hold, hr]

end

/-- Settles O42: each command under its hypotheses is its lemma above. What BIND announces (log 67), and that a window which admitted
frames wait for closes to later ones only (log 123), are the model's choices. -/
theorem fabricCommands : Obligations.FabricCommands := by
  unfold Obligations.FabricCommands
  refine ⟨?_, ?_, ?_, ?_⟩
  · rintro s who e c x he hc haccepts hlt hle rfl
    rw [exec_scBind, exec_scUnbind, execScBind_accepted haccepts, execScUnbind_accepted haccepts]
    refine ⟨?_, fun hbound hrun hdraft => ?_⟩
    · intro ctx ring ent s1 r hctx hring hent hfree hctx_le hle_ent hent_le haligned hfits hactive hplaced huncovered hs1 hr
      have hpasses : BindPasses s (16 + e) c ctx ring ent 255 none :=
        ⟨hle, hctx_le, hle_ent, hent_le, haligned, hfits, hfree, hactive, rfl, hplaced, huncovered⟩
      rw [scBind_eq he hc hlt hctx hring hent, bindChan_passes hpasses hs1 hr, appliedIf_answer]
    · rw [scUnbind_unbinds he hc hlt hle hbound hrun hdraft]
  · intro s who id w hid haccepts
    rw [exec_wnCreate, exec_wnDestroy, exec_wnSelect, execWnCreate_accepted haccepts, execWnDestroy_accepted haccepts, execWnSelect_accepted haccepts]
    refine ⟨fun hw hpass => ?_, fun hw hle => ⟨fun henabled hidle => ?_, fun henabled hbusy => ?_, ?_⟩⟩
    · rw [wnCreate_creates hid hw hpass]
    · rw [wnDestroy_destroys hid hw hle henabled hidle]
    · rw [wnDestroy_closes hid hw hle henabled hbusy]
    · rw [wnSelect_selects hid hw hle]
  · intro s who g hg haccepts hle
    rw [exec_grSelect, execGrSelect_accepted haccepts]
    simp only [exec_grDefine, exec_grDelete, execGrDefine_accepted haccepts, execGrDelete_accepted haccepts]
    refine ⟨fun n v hbytes hmin hmax heven hfree hidle => ?_, fun hused hidle => ?_, ?_⟩
    · rw [grDefine_defines hg hle hbytes hmin hmax heven hfree hidle]
    · rw [grDelete_deletes hg hle hused hidle]
    · rw [grSelect_selects hg hle]
  · intro s who old new r hold hnew hr haccepts
    rw [exec_rdSet, exec_rdSelect, execRdSet_accepted haccepts, execRdSelect_accepted haccepts]
    simp only [exec_rdClear, execRdClear_accepted haccepts]
    refine ⟨fun hroom => ?_, fun t hset ht => ?_, ?_⟩
    · rw [rdSet_redirects hold hr hnew hroom]
    · rw [rdClear_clears hold hr hset ht]
    · rw [rdSelect_selects hold hr]

end Sys2Proof.Laws
end

section
/-!
PROOFS. The ranges of a context stay apart (R309, R310): what a command of the dictionary leaves of the pager around its own rules, and the one
range that MAP or ALIAS adds.
-/

namespace Sys2Proof.Laws
open Sys2Proof Sys2Proof.Machine

/-! ## Answers and records leave the pager as it is -/

section
variable (s : State)

@[simp] theorem answer_pager (status : Nat) : (s.answer status).pager = s.pager := by
  unfold State.answer
  dsimp only
  split <;> rfl

@[simp] theorem applied_pager (who index : Nat) (subs : List (Nat × Nat × Nat)) : (s.applied who index subs).pager = s.pager :=
  subs.foldlRecOn _ (motive := fun t : State => t.pager = s.pager) rfl (fun _ ht _ _ => ht)

@[simp] theorem appliedIf_pager (who index : Nat) (subs : List (Nat × Nat × Nat)) : (s.appliedIf who index subs).pager = s.pager := by
  unfold State.appliedIf
  split
  · exact applied_pager s who index subs
  · rfl

@[simp] theorem firmRecord_pager (p kind ctx keyv : Nat) (body : List Byte) : (s.firmRecord p kind ctx keyv body).pager = s.pager := by
  unfold State.firmRecord
  dsimp only
  split <;> rfl

/-- A command that is refused or that waits leaves the pager as it is; any other runs (R552, R595, R631). -/
theorem command_pager_or (who index : Nat) (auth : Bool) (k : State → State) :
    (s.command who index auth k).pager = s.pager ∨ s.command who index auth k = k s := by
  unfold State.command State.admitWrite
  dsimp only
  split_ifs
  · exact .inl rfl
  · exact .inl (answer_pager _ _)
  · exact .inl (answer_pager _ _)
  · exact .inl (answer_pager _ _)
  · exact .inl (waits_pager s)
  · exact .inr rfl

end

/-! ## One range more -/

/-- `t` holds the ranges of `s` and at most one more, which meets none of them. -/
def AddsApart (s t : State) : Prop :=
  t.pager.ranges = s.pager.ranges ∨ ∃ r : Range, s.rangeMeets r.ctx r.va r.bytes = false ∧ t.pager.ranges = s.pager.ranges ++ [r]

section
variable {s t : State}

theorem addsApart_of_pager (h : t.pager = s.pager) : AddsApart s t := .inl (congrArg Pager.ranges h)

theorem rangeMeets_eq_false_iff {ctx va n : Nat} :
    s.rangeMeets ctx va n = false ↔ ∀ x ∈ s.pager.ranges, x.ctx = ctx → x.va + x.bytes ≤ va ∨ va + n ≤ x.va := by
  simp only [State.rangeMeets, List.any_eq_false, decide_eq_true_eq]
  refine forall₂_congr fun x _ => ?_
  omega

theorem addsApart_keeps_rangesApart (h : AddsApart s t) (hs : RangesApart s.pager.ranges) : RangesApart t.pager.ranges := by
  obtain heq | ⟨r, hmeets, heq⟩ := h
  · rwa [heq]
  · rw [heq]
    refine List.pairwise_append.2 ⟨hs, List.pairwise_singleton _ r, fun x hx y hy => ?_⟩
    obtain rfl := List.mem_singleton.1 hy
    exact rangeMeets_eq_false_iff.1 hmeets x hx

/-- A range that meets none of its context's is added. -/
theorem addsApart_addRange {r : Range} (hmeets : ¬s.rangeMeets r.ctx r.va r.bytes = true) (ht : t.pager = (s.addRange r).pager) : AddsApart s t :=
  .inr ⟨r, Bool.eq_false_iff.2 hmeets, congrArg Pager.ranges ht⟩

/-- A refusal adds nothing. -/
theorem addsApart_unless {p : Prop} [Decidable p] {status : Nat} (ht : ¬p → AddsApart s t) : AddsApart s (if p then s.answer status else t) := by
  split
  · exact addsApart_of_pager (answer_pager s status)
  · next hp => exact ht hp

variable (s) (who : Nat)

/-- MAP that is not refused adds its range, which has passed the test of R309. -/
theorem rgMap_addsApart : AddsApart s (s.rgMap who) := by
  unfold State.rgMap
  refine addsApart_unless fun _ => addsApart_unless fun _ => addsApart_unless fun hmeets => addsApart_unless fun _ => ?_
  split
  · exact addsApart_addRange hmeets ((answer_pager _ 0).trans (firmRecord_pager ..))
  · exact addsApart_addRange hmeets (answer_pager _ 0)

/-- ALIAS that is not refused adds its range, which has passed the test of R309. -/
theorem rgAlias_addsApart : AddsApart s (s.rgAlias who) := by
  unfold State.rgAlias
  refine addsApart_unless fun _ => addsApart_unless fun _ => ?_
  split
  · exact addsApart_of_pager (answer_pager s _)
  · exact addsApart_unless fun hmeets => addsApart_unless fun _ => addsApart_addRange hmeets (answer_pager _ 0)

/-- What a range command adds, it adds as a command of the dictionary. -/
theorem rgCommand_addsApart {k : State → State} (hk : AddsApart s (k s)) : AddsApart s (s.rgCommand who k) := by
  obtain hpager | hruns := command_pager_or s who 0x4210 (s.authPlain who) (fun s => (k s).appliedIf who 0x4210 rgSubs)
  · exact addsApart_of_pager hpager
  · rw [State.rgCommand, hruns, AddsApart, appliedIf_pager]
    exact hk

end

/-- Settles O33: a range that is added has passed the test of R309, and nothing else of MAP or ALIAS changes the ranges. -/
theorem rangesDisjoint : Obligations.RangesDisjoint := by
  unfold Obligations.RangesDisjoint
  rintro s t who hs (hmap | halias)
  · obtain rfl := Host.Outcome.next.inj hmap
    exact addsApart_keeps_rangesApart (rgCommand_addsApart s who (rgMap_addsApart s who)) hs
  · obtain rfl := Host.Outcome.next.inj halias
    exact addsApart_keeps_rangesApart (rgCommand_addsApart s who (rgAlias_addsApart s who)) hs

end Sys2Proof.Laws
end

section
/-!
PROOFS. The dictionary's commands on contexts and ranges (R305 to R312, R318, R629): each on the values that its lemma describes.
-/

namespace Sys2Proof.Laws
open Sys2Proof Sys2Proof.Machine

/-- A command that is accepted and done leaves its staged values the last applied (R629). -/
theorem command_done {s t : State} {who index : Nat} {auth : Bool} {subs : List (Nat × Nat × Nat)} {k : State → State} (h : Accepts s who index auth)
    (hk : k s = t.answer 0) : s.command who index auth (fun s => (k s).appliedIf who index subs) = (t.answer 0).applied who index subs := by
  rw [command_accepts h, hk, appliedIf_answer]

/-! ## Contexts -/

section
variable {s : State} {who : Nat} {a : CxArgs} (ha : s.cxArgs who = a)
include ha

theorem staged_id_of_cxArgs : s.staged who 0x4200 1 0 = a.id := congrArg CxArgs.id ha

variable (hid : a.id ≤ 4095)
include hid

/-- CREATE of a free context in a half that its partition reaches, with room for its minimum (R306, R307). -/
theorem cxCreate_creates (hpart : a.part ≤ 3) (hhalf : a.half ≤ 1) (hquota : a.pmin ≤ a.pmax) (hfree : (s.ctx a.id).active = false)
    (hreached : (s.partQuarters a.part).all (fun q => quarterHalf q ≠ a.half) = false)
    (hroom : 16 * (s.placeMins a.part a.id + a.pmin) ≤ s.placeCap a.part) :
    s.cxCreate who = (s.setCtx a.id ⟨true, a.part, a.half, a.hbm, a.pmax, a.pmin, 0#64, (s.ctx a.id).faults⟩).answer 0 := by
  simp only [State.cxCreate, ha, hid.not_gt, hpart.not_gt, hhalf.not_gt, hquota.not_gt, hfree, hreached, hroom.not_gt, Bool.false_eq_true, or_self,
    if_false]

variable (hactive : (s.ctx a.id).active = true)
include hactive

theorem cxSet_sets (hquota : a.pmin ≤ a.pmax) (hroom : 16 * (s.placeMins (s.ctx a.id).part a.id + a.pmin) ≤ s.placeCap (s.ctx a.id).part) :
    s.cxSet who = (s.setCtx a.id { s.ctx a.id with hbmQuota := a.hbm, placeMax := a.pmax, placeMin := a.pmin }).answer 0 := by
  simp only [State.cxSet, ha, hid.not_gt, hquota.not_gt, hactive, hroom.not_gt, Bool.not_true, Bool.false_eq_true, or_self, if_false]

/-- DESTROY of a context that no queue, channel, task, foreign ALIAS or shadow holds drops its ranges (R306). -/
theorem cxDestroy_destroys (hqueues : s.sched.queues.any (fun e => decide (e.2.st ≠ qFree ∧ e.2.ctx = a.id)) = false)
    (hchans : s.fabric.chans.any (fun e => e.2.bound && decide (e.2.ctx = a.id)) = false) (htasks : s.ctxTasks a.id = false)
    (hranges : (s.pager.ranges.filter (fun r => r.ctx = a.id)).any (fun r => s.rangeAliased r (fun x => decide (x ≠ a.id)) || s.rangeShadowed r) = false) :
    s.cxDestroy who = (((s.pager.ranges.filter (fun r => r.ctx = a.id)).foldl State.dropRange s).setCtx a.id
      { Ctx.blank with faults := (s.ctx a.id).faults }).answer 0 := by
  rw [State.cxDestroy, staged_id_of_cxArgs ha]
  simp only [hid.not_gt, hactive, hqueues, hchans, htasks, hranges, Bool.or_self, Bool.not_true, Bool.false_eq_true, if_false]

theorem cxSelect_selects : s.cxSelect who = ((((s.select who 0x4200 9 1 1).select who 0x4200 10 4 (s.ctxUsed a.id)).select who 0x4200 11 4
    (s.ctxPlaced a.id)).select who 0x4200 12 8 (s.ctx a.id).faults).answer 0 := by
  simp only [State.cxSelect, staged_id_of_cxArgs ha, hid.not_gt, hactive, Bool.not_true, Bool.false_eq_true, if_false]

end

/-- SETKEY takes the staged key, which is not kept (R306, R629). -/
theorem cxSetkey_sets {s : State} {who id : Nat} (hstaged : s.staged who 0x4200 1 0 = id) (hid : id ≤ 4095) (hactive : (s.ctx id).active = true) :
    s.cxSetkey who
      = ((s.setCtx id { s.ctx id with key := BitVec.ofNat 64 (s.staged who 0x4200 7 0) }).unstage who 0x4200 7).answer 0 := by
  simp only [State.cxSetkey, hstaged, hid.not_gt, hactive, Bool.not_true, Bool.false_eq_true, if_false]

/-! ## Ranges -/

section
variable {s : State} {who : Nat} {a : RgArgs} (ha : s.rgArgs who = a) (hactive : (s.ctx a.ctx).active = true)
include ha hactive

/-- MAP of a free, well-formed span within the table pool; a mirrored one is recorded (R309, R310, R452). -/
theorem rgMap_maps {r : Range} (hr : ⟨a.ctx, a.va, a.bytes, a.attr, false, 0, 0, false⟩ = r) (hfits : spanMisfit (attrPS a.attr) a.va a.bytes = false)
    (hattr : attrBad a.attr = false) (hapart : s.rangeMeets a.ctx a.va a.bytes = false)
    (hpool : s.tablesOf (s.pager.ranges ++ [r]) (s.ctx a.ctx).part ≤ s.pager.policy.tablePool (s.ctx a.ctx).part * 2 ^ 20) :
    s.rgMap who = (if attrMIR a.attr then (s.addRange r).firmRecord (s.ctx a.ctx).part 3 a.ctx a.va
      (leBytes 8 a.bytes ++ leBytes 4 a.attr.toNat ++ leBytes 20 0) else s.addRange r).answer 0 := by
  simp only [State.rgMap, ha, hr, hfits, hattr, hactive, hapart, hpool.not_gt, Bool.or_self, Bool.not_true, Bool.false_eq_true, if_false]

/-- ALIAS of a span that resolves, in a free span of a context of the same partition (R310). -/
theorem rgAlias_aliases {o r : Range} {ova : Nat} {w : Bool} (hsrc : s.resolveSpan a.src a.srcVa a.bytes = some (o, ova, w))
    (hfits : spanMisfit (attrPS o.attr) a.va a.bytes = false) (hsrcFits : spanMisfit (attrPS o.attr) a.srcVa a.bytes = false)
    (hattr : attrBad a.attr = false) (hsrcActive : (s.ctx a.src).active = true) (hpart : (s.ctx a.ctx).part = (s.ctx a.src).part)
    (hapart : s.rangeMeets a.ctx a.va a.bytes = false)
    (hr : ⟨a.ctx, a.va, a.bytes, if w && attrW a.attr then o.attr else o.attr &&& 0x7FFFFFFF#32, true, o.ctx, ova, false⟩ = r)
    (hpool : s.tablesOf (s.pager.ranges ++ [r]) (s.ctx a.ctx).part ≤ s.pager.policy.tablePool (s.ctx a.ctx).part * 2 ^ 20) :
    s.rgAlias who = (s.addRange r).answer 0 := by
  have hsame : ¬((!(s.ctx a.ctx).active) = true ∨ (!(s.ctx a.src).active) = true ∨ (s.ctx a.ctx).part ≠ (s.ctx a.src).part) := by
    simp [hactive, hsrcActive, hpart]
  simp only [State.rgAlias, ha, hsrc, hfits, hsrcFits, hattr, hsame, hapart, hr, hpool.not_gt, Bool.or_self, Bool.false_eq_true, if_false]

/-- FREE drops a range that no ALIAS, shadow or ring holds, and waits for the shootdown (R310 to R312, R318). -/
theorem rgFree_frees {r : Range} (hr : s.pager.ranges.find? (fun r => r.ctx = a.ctx ∧ r.va = a.va) = some r)
    (halias : r.isAlias = false → s.rangeAliased r (fun _ => true) = false) (hshadow : s.rangeShadowed r = false)
    (hring : s.ringHolds r.ctx r.va r.bytes = false)
    (haliasRing : r.isAlias = false → s.pager.ranges.any (fun x => x.isAlias && decide (x.srcCtx = r.ctx ∧ r.va ≤ x.srcVa ∧ x.srcVa < r.va + r.bytes)
      && s.ringHolds x.ctx x.va x.bytes) = false) {t : State} (ht : s.dropRange r = t) :
    s.rgFree who = ({ t with pager := { t.pager with shootWait := t.pager.shootWait ++ [who] } }).applied who 0x4210 rgSubs := by
  subst ht
  simp only [State.rgFree, ha, hactive, hr, hshadow, hring, Bool.not_true, Bool.false_eq_true, if_false]
  cases hkind : r.isAlias with
  | true => simp only [Bool.not_true, Bool.false_and, Bool.or_self, Bool.false_eq_true, false_and, if_false]
  | false => simp only [halias hkind, haliasRing hkind, Bool.not_false, Bool.true_and, Bool.or_self, Bool.false_eq_true, and_false, if_false]

end

/-- The quotas that PIN of the pages `vas` of context `c`, under the word `attr` of Table 10-3, has to keep (R311, R315). -/
structure PinPasses (s : State) (c : Nat) (attr : Word) (vas : List Nat) : Prop where
  pinned_le : 100 * (s.partPlacedPinned (s.ctx c).part
      + (vas.filter (fun va => !(s.page (pageKey c va)).v || !s.pinned (s.page (pageKey c va)))).length * pageFrames (attrPS attr))
    ≤ s.pager.policy.pinPct * s.placeCap (s.ctx c).part
  placed_le : s.ctxPlaced c + (vas.filter (fun va => (s.page (pageKey c va)).loc ≠ 1)).length * pageKiB (attrPS attr) ≤ (s.ctx c).placeMax * 1024
  mayPlace : attrPLACE attr ≠ 1
  used_le : s.ctxUsed c + (vas.filter (fun va => !(s.page (pageKey c va)).v)).length * pageKiB (attrPS attr) ≤ (s.ctx c).hbmQuota * 1024
  homes : State.homesFor c attr vas s = true

section
variable {s : State} {who : Nat} {a : RgArgs} (ha : s.rgArgs who = a) (hactive : (s.ctx a.ctx).active = true)
  {r : Range} (hr : s.rangeAt a.ctx a.va = some r)
include ha hactive hr

/-- PIN within the quotas pins every page; it is answered at once where all are placed, else with the last (R310). -/
theorem rgPin_pins {x : List Nat × Nat × Word} (hx : s.rangePages r = x) (h : PinPasses s x.2.1 x.2.2 x.1) {t : State}
    (ht : x.1.foldl (State.pinPage x.2.1 x.2.2) s = t) :
    s.rgPin who = if t.pinDone a.ctx a.va then (t.answer 0).applied who 0x4210 rgSubs
      else ({ t with pager := { t.pager with pinWait := t.pager.pinWait ++ [(who, a.ctx, a.va)] } }).applied who 0x4210 rgSubs := by
  simp only [State.rgPin, ha, hactive, hr, hx, ht, List.filter_map, List.length_map, Function.comp_def, h.pinned_le.not_gt, h.placed_le.not_gt, h.mayPlace,
    h.used_le.not_gt, h.homes, Bool.not_true, Bool.false_eq_true, or_self, if_false]

theorem rgOn_range (k : Range → State) : s.rgOn who k = k r := by
  simp only [State.rgOn, ha, hactive, hr, Bool.not_true, Bool.false_eq_true, if_false]

theorem rgUnpin_unpins {x : List Nat × Nat × Word} (hx : s.rangePages r = x) :
    s.rgUnpin who = (x.1.foldl (fun s va => if (s.page (pageKey x.2.1 va)).v then
      s.setPage (pageKey x.2.1 va) { s.page (pageKey x.2.1 va) with pin := false } else s) s).answer 0 := by
  subst hx
  exact rgOn_range ha hactive hr _

theorem rgSelect_selects : s.rgSelect who = (s.select who 0x4210 8 16 (s.leafEntry (s.page (pageKey (r.owner a.va).1
    (pageStart (attrPS (s.ownerAttr r a.va)) (r.owner a.va).2))))).answer 0 := by
  subst ha
  exact rgOn_range rfl hactive hr _

end

/-- Settles O31: each command under its hypotheses is its lemma above. The model's choices are that CREATE and DESTROY keep the fault counter (log 77),
that the size of the owning range's pages aligns an ALIAS (log 79), and that a FREE or a PIN that waits applies its staged values when it is accepted
(log 80). DESTROY is answered here at once, where log 80 names SHOOTDOWN_COMPLETE for it too. -/
theorem pagerCommands : Obligations.PagerCommands := by
  unfold Obligations.PagerCommands
  refine ⟨?_, ?_, ?_⟩
  · intro s who a ha haccepts hid
    refine ⟨fun hpart hhalf hquota hfree hreached hroom => ?_, fun hactive => ⟨fun hquota hroom => ?_, fun hqueues hchans htasks hranges => ?_, ?_⟩⟩
    · exact congrArg Host.Outcome.next (command_done haccepts (cxCreate_creates ha hid hpart hhalf hquota hfree hreached hroom))
    · exact congrArg Host.Outcome.next (command_done haccepts (cxSet_sets ha hid hactive hquota hroom))
    · exact congrArg Host.Outcome.next (command_done haccepts (cxDestroy_destroys ha hid hactive hqueues hchans htasks hranges))
    · exact congrArg Host.Outcome.next (command_done haccepts (cxSelect_selects ha hid hactive))
  · rintro s who id rfl haccepts hid hactive
    exact congrArg Host.Outcome.next (command_done haccepts (cxSetkey_sets rfl hid hactive))
  · intro s who a ha haccepts hactive
    refine ⟨?_, ?_, fun r x hr hx => ⟨?_, ?_, ?_⟩, ?_⟩
    · rintro r t hr hfits hattr hapart hpool rfl
      exact congrArg Host.Outcome.next (command_done haccepts (rgMap_maps ha hactive hr hfits hattr hapart hpool))
    · intro o r ova w hsrc hfits hsrcFits hattr hsrcActive hpart hapart hr hpool
      exact congrArg Host.Outcome.next
        (command_done haccepts (rgAlias_aliases ha hactive hsrc hfits hsrcFits hattr hsrcActive hpart hapart hr hpool))
    · rintro _ _ _ t rfl rfl rfl hpinned hplaced hmay hused hhomes ht
      have hpasses : PinPasses s x.2.1 x.2.2 x.1 := ⟨hpinned, hplaced, hmay, hused, hhomes⟩
      exact congrArg Host.Outcome.next ((command_accepts haccepts _).trans (rgPin_pins ha hactive hr hx hpasses ht))
    · exact congrArg Host.Outcome.next (command_done haccepts (rgUnpin_unpins ha hactive hr hx))
    · exact congrArg Host.Outcome.next (command_done haccepts (rgSelect_selects ha hactive hr))
    · intro r t hr halias hshadow hring haliasRing ht
      exact congrArg Host.Outcome.next
        ((command_accepts haccepts _).trans (rgFree_frees ha hactive hr halias hshadow hring haliasRing ht))

end Sys2Proof.Laws
end

section
/-!
PROOFS. Walks, demand allocation, shootdowns, heat, the interval and the moves of pages (R317 to R320, R325, R327, R328).
-/

namespace Sys2Proof.Laws
open Sys2Proof Sys2Proof.Machine

/-! ## Walks and demand allocation -/

section
variable {s : State} {core : Option CoreIx} {cluster : ClusterIx} {ctx : Fin 4096} {va : Nat} {write : Bool} {w : Who}
  (hw : s.walkWho core cluster = w)
include hw

/-- A walk that faults records it and answers 2 with the cause (R321, R322). -/
theorem execWalk_faults {t : State} (ht : s.pagerCount (fun c => { c with walks := c.walks + 1 }) = t) {cause : Nat}
    (hcause : s.trCause w ctx va write = some cause) :
    execWalk core cluster ctx va write s = .next ((t.trFault w ctx va cause).emit .core 2 [cause]) := by
  simp only [execWalk, hw, hcause, ht]

/-- A walk that is permitted answers the address under a valid leaf, or that the entry is DEM (R317, R319). -/
theorem execWalk_finds {t : State} (ht : s.pagerCount (fun c => { c with walks := c.walks + 1 }) = t) (hpermitted : s.trCause w ctx va write = none)
    {r : Range} (hr : s.rangeAt ctx va = some r) :
    let start := pageStart (attrPS (s.ownerAttr r va)) (r.owner va).2
    let p := s.page (pageKey (r.owner va).1 start)
    execWalk core cluster ctx va write s = .next (if p.v then t.emit .core 0 [p.phys ((r.owner va).2 - start)] else t.emit .core 1 []) := by
  simp only [execWalk, hw, hpermitted, hr, ht]

theorem execDemandAlloc_grants {phys : Nat} {attr : Word} {own : Nat × Nat} (h : (s.translate w ctx va write).2 = .ok phys attr own) :
    execDemandAlloc core cluster ctx va write s = .next ((s.translate w ctx va write).1.emit .core 0 [phys]) := by
  simp only [execDemandAlloc, hw, h]

theorem execDemandAlloc_faults {cause : Nat} (h : (s.translate w ctx va write).2 = .fault cause) :
    execDemandAlloc core cluster ctx va write s = .next ((s.translate w ctx va write).1.emit .core 2 [cause]) := by
  simp only [execDemandAlloc, hw, h]

end

/-! ## Shootdowns, heat, the interval, moves -/

section
variable {s : State}

/-- The oldest FREE that waits is answered (R318). -/
theorem execShootdownComplete_waiting {who : Nat} {rest : List Nat} (h : s.pager.shootWait = who :: rest) : execShootdownComplete s
    = .next ((({ s with pager := { s.pager with shootWait := rest } }).pagerCount (fun c => { c with shootdowns := c.shootdowns + 1 })).answerLate
      (freeTag who) 0) := by
  simp only [execShootdownComplete, h]

/-- A count that a cache has gathered for a page is flushed to it (R325). -/
theorem execHeatFlush_gathered {cache : Fin 288} {ctx : Fin 4096} {va key : Nat} {r : Range} (hr : s.rangeAt ctx va = some r)
    (hkey : pageKey (r.owner va).1 (pageStart (attrPS (s.ownerAttr r va)) (r.owner va).2) * 512 + cache.val = key)
    (hcount : Tab.get 0 s.pager.gathered key ≠ 0) : execHeatFlush cache ctx va s = .next (s.flush (key, Tab.get 0 s.pager.gathered key)) := by
  simp only [execHeatFlush, hr, hkey, hcount, if_false]

/-- At a multiple of PG_INTERVAL the policy is loaded, every cache flushed and each partition's procedure run (R327). -/
theorem execPagerInterval_due {t : State} (hdue : s.bell.count % s.policyNow.interval = 0)
    (ht : { s with pager := { s.pager with policy := s.policyNow } } = t) :
    execPagerInterval s = .next ((List.range 4).foldl State.interval (t.pager.gathered.foldl State.flush t)).retryPins := by
  subst ht
  simp only [execPagerInterval, hdue, ne_eq, not_true_eq_false, if_false]

variable {ctx : Fin 4096} {va : Nat} {p : Page} (hp : s.page (pageKey ctx va) = p)
include hp

theorem execPromote_promotes (hmay : attrPLACE p.attr ≠ 1) : execPromote ctx va s = .next (s.tryPromote (pageKey ctx va)).settlePins := by
  simp only [execPromote, hp, hmay, if_false]

/-- A placed page that neither a PIN, a ring nor a shadow holds is demoted (R312, R328). -/
theorem execDemote_demotes (hvalid : p.v = true) (hplaced : p.loc = 1) (hpinned : s.pinned p = false) (hshadowed : s.pageShadowed p = false) :
    execDemote ctx va s = .next (s.demotePage (pageKey ctx va)) := by
  simp only [execDemote, hp, hvalid, hplaced, hpinned, hshadowed, ne_eq, not_true_eq_false, Bool.not_true, Bool.false_eq_true, or_self, if_false]

end

/-- Settles O32: each operation under its hypotheses is its lemma above. That a move takes one step is the model's choice (log 76). -/
theorem pagerOperations : Obligations.PagerOperations := by
  unfold Obligations.PagerOperations
  refine ⟨?_, ?_, ?_, ?_, ?_⟩
  · intro s t core cluster ctx va write w hw ht
    refine ⟨fun cause hcause => execWalk_faults hw ht hcause, ?_, fun phys attr own h => execDemandAlloc_grants hw h,
      fun cause h => execDemandAlloc_faults hw h⟩
    rintro r _ _ _ hpermitted hr rfl rfl rfl
    exact execWalk_finds hw ht hpermitted hr
  · exact fun s who rest h => execShootdownComplete_waiting h
  · exact fun s cache ctx va key r hr hkey hcount => execHeatFlush_gathered hr hkey hcount
  · exact fun s t hdue ht => execPagerInterval_due hdue ht
  · exact fun s ctx va p hp => ⟨execPromote_promotes hp, execDemote_demotes hp⟩

end Sys2Proof.Laws
end

section
/-!
PROOFS. Doorbells, the check of the head entry and barriers (R337, R338, R340, R341, R348, R473).
-/

namespace Sys2Proof.Laws
open Sys2Proof Sys2Proof.Machine

/-! ## Doorbells -/

section
variable {s : State} {path : Fin 3} {who : Fin 34} {q : Fin 1048576} {tail : DWord} {whole : Bool}

/-- A host doorbell is lost while the link is down (log 131). -/
theorem execDoorbell_link_down (hhost : path.val = prodHost) (hdown : s.host.lanes = 0) : execDoorbell path who q tail whole s = .next s := by
  rw [execDoorbell, if_pos ⟨hhost, hdown⟩]

/-- A host doorbell in D3hot is an unsupported request (log 131). -/
theorem execDoorbell_d3hot (hhost : path.val = prodHost) (hup : s.host.lanes ≠ 0) (hd3 : s.host.d3hot = true) :
    execDoorbell path who q tail whole s = .next { s with host := { s.host with ur := s.host.ur + 1 } } := by
  rw [execDoorbell, if_neg (fun h => hup h.2), if_pos ⟨hhost, hd3⟩]

variable {lcl : Bool} (hlcl : decide (path.val = prodLocal ∧ who.val < 32) = lcl)
  (hreaches : path.val = prodHost → s.host.lanes ≠ 0 ∧ s.host.d3hot = false)
include hlcl hreaches

/-- A doorbell that reaches the device is ignored or rings its queue (R340, R341). -/
theorem execDoorbell_reaches : execDoorbell path who q tail whole s
    = if !whole || (lcl && decide (s.clusterPart who ≠ some (s.queuePart q))) || s.partResetting (s.queuePart q) then .next (s.ignoreBell q)
      else .next (s.ringQueue q path tail.toNat (if lcl then (s.cluster who).dtaint else 0#16)) := by
  have hup : ¬(path.val = prodHost ∧ s.host.lanes = 0) := fun h => (hreaches h.1).1 h.2
  have hawake : ¬(path.val = prodHost ∧ s.host.d3hot = true) := fun h => Bool.eq_false_iff.1 (hreaches h.1).2 h.2
  simp only [execDoorbell, hlcl, if_neg hup, if_neg hawake]

/-- A doorbell that is not whole, of a foreign control core (log 89), or for a partition being reset is ignored. -/
theorem execDoorbell_ignored
    (hrefused : whole = false ∨ (lcl = true ∧ s.clusterPart who ≠ some (s.queuePart q)) ∨ s.partResetting (s.queuePart q) = true) :
    execDoorbell path who q tail whole s = .next (s.ignoreBell q) := by
  rw [execDoorbell_reaches hlcl hreaches, if_pos]
  simpa only [Bool.or_eq_true, Bool.and_eq_true, Bool.not_eq_true', decide_eq_true_eq, or_assoc] using hrefused

theorem execDoorbell_rings (hwhole : whole = true) (hown : lcl = true → s.clusterPart who = some (s.queuePart q))
    (hstands : s.partResetting (s.queuePart q) = false) :
    execDoorbell path who q tail whole s = .next (s.ringQueue q path tail.toNat (if lcl then (s.cluster who).dtaint else 0#16)) := by
  have hadmits : (lcl && decide (s.clusterPart who ≠ some (s.queuePart q))) = false := by
    simpa only [Bool.and_eq_false_imp, decide_eq_false_iff_not, not_not] using hown
  simp only [execDoorbell_reaches hlcl hreaches, hwhole, hadmits, hstands, Bool.not_true, Bool.or_self, Bool.false_eq_true, if_false]

end

/-! ## The check of the head entry -/

/-- The unchecked head `e` of an ENABLED queue `x`, whose slot is read as `r`: the entry's word is `w`. -/
structure HeadRead (s : State) (q : Nat) (x : Queue) (e : QEntry) (r : State × MemSt × View × View) (w : BitVec 512) : Prop where
  queue : s.queue q = x
  head : x.head = some e
  enabled : x.st = qEnabled
  unchecked : e.st = 0
  slot : s.readSlot q e.num e.mask = r
  word : entryWord r.2.2.1 r.2.2.2 = w

/-- A head entry that is read, unpoisoned and well formed, whose seal record can be read; `c` is the verdict on that record. -/
structure HeadSound (s : State) (q : Nat) (tagOk : Bool) (x : Queue) (e : QEntry) (r : State × MemSt × View × View) (w : BitVec 512)
    (c : State × MemSt × Bool) : Prop extends HeadRead s q x e r w where
  readable : r.2.1 = .ok
  low_clean : r.2.2.1.poison = false
  high_clean : r.2.2.2.poison = false
  good : entryBad w e.num = false
  verdict : r.1.checkSeal q e.num e.mask tagOk = c
  verdict_readable : c.2.1 = .ok

section
variable {s : State} {q : Fin 1048576} {tagOk : Bool} {x : Queue} {e : QEntry} {r : State × MemSt × View × View} {w : BitVec 512}

/-- An entry that cannot be read, is poisoned (log 84) or is malformed is REJECTED (R337). -/
theorem execEntryCheck_rejects_bad (h : HeadRead s q x e r w) (t : State) (hread : r.2.1 = .ok ∨ r.2.1 = .fault)
    (hbad : r.2.1 = .fault ∨ r.2.2.1.poison = true ∨ r.2.2.2.poison = true ∨ entryBad w e.num = true) (ht : r.1.endHead q e w 4 = t) :
    execEntryCheck q tagOk s = .next { t with sched := { t.sched with rejected := t.sched.rejected + 1 } } := by
  obtain ⟨hx, hhead, henabled, hunchecked, hr, hw⟩ := h
  subst ht
  obtain hok | hfault := hread
  · have hrejected : (r.2.2.1.poison || r.2.2.2.poison || entryBad w e.num) = true := by
      simpa only [hok, reduceCtorEq, false_or, Bool.or_eq_true, or_assoc] using hbad
    simp [execEntryCheck, hx, hhead, henabled, hunchecked, hr, hok, hw, hrejected]
  · simp [execEntryCheck, hx, hhead, henabled, hunchecked, hr, hfault, hw]

variable {c : State × MemSt × Bool} (h : HeadSound s q tagOk x e r w c)
include h

/-- An entry whose seal record does not hold is REJECTED and counted against its queue (R473). -/
theorem execEntryCheck_rejects_unsealed (t : State) (hseal : c.2.2 = false)
    (ht : (c.1.authFailed (2 ^ 32 + q) (c.1.queuePart q)).endHead q e w 4 = t) :
    execEntryCheck q tagOk s = .next { t with sched := { t.sched with rejected := t.sched.rejected + 1 } } := by
  obtain ⟨⟨hx, hhead, henabled, hunchecked, hr, hw⟩, hok, hlow, hhigh, hgood, hc, hcok⟩ := h
  subst ht
  simp [execEntryCheck, hx, hhead, henabled, hunchecked, hr, hok, hw, hlow, hhigh, hgood, hc, hcok, hseal]

/-- What becomes of an entry that is authentic goes by its kind and its deadline (R338, R348). -/
theorem execEntryCheck_authentic (hseal : c.2.2 = true) : execEntryCheck q tagOk s
    = if weKind w = 1 then .next (c.1.endHead q e w 0)
      else if x.cls ≤ 5 ∧ x.latedrop = true ∧ weKind w = 0 ∧ weDeadline w ≠ 0 ∧ s.bell.count > e.arrB + weDeadline w then
        .next { c.1.endHead q e w 5 with sched := { (c.1.endHead q e w 5).sched with expired := (c.1.endHead q e w 5).sched.expired + 1 } }
      else .next (c.1.setQueue q ((c.1.queue q).setHead (fun z => { z with word := w, st := 1 }))) := by
  obtain ⟨⟨hx, hhead, henabled, hunchecked, hr, hw⟩, hok, hlow, hhigh, hgood, hc, hcok⟩ := h
  simp only [execEntryCheck, hx, hhead, henabled, hunchecked, hr, hok, hw, hlow, hhigh, hgood, hc, hcok, hseal, ne_eq, not_true_eq_false,
    decide_false, Bool.or_self, Bool.false_eq_true, or_self, Bool.not_true, reduceCtorEq, if_false]

theorem execEntryCheck_nop (hseal : c.2.2 = true) (hnop : weKind w = 1) : execEntryCheck q tagOk s = .next (c.1.endHead q e w 0) := by
  rw [execEntryCheck_authentic h hseal, if_pos hnop]

/-- LATEDROP ends a task of a latency class whose deadline has passed (R348). -/
theorem execEntryCheck_expires (t : State) (hseal : c.2.2 = true) (htask : weKind w = 0) (hcls : x.cls ≤ 5) (hdrop : x.latedrop = true)
    (hdeadline : weDeadline w ≠ 0) (hlate : s.bell.count > e.arrB + weDeadline w) (ht : c.1.endHead q e w 5 = t) :
    execEntryCheck q tagOk s = .next { t with sched := { t.sched with expired := t.sched.expired + 1 } } := by
  subst ht
  rw [execEntryCheck_authentic h hseal, if_neg (by omega), if_pos ⟨hcls, hdrop, htask, hdeadline, hlate⟩]

/-- Any other entry waits, checked, at the head. -/
theorem execEntryCheck_checks (hseal : c.2.2 = true) (hnop : weKind w ≠ 1)
    (hintime : weKind w = 2 ∨ x.cls > 5 ∨ x.latedrop = false ∨ weDeadline w = 0 ∨ s.bell.count ≤ e.arrB + weDeadline w) :
    execEntryCheck q tagOk s = .next (c.1.setQueue q ((c.1.queue q).setHead (fun z => { z with word := w, st := 1 }))) := by
  rw [execEntryCheck_authentic h hseal, if_neg hnop, if_neg]
  rintro ⟨hcls, hdrop, htask, hdeadline, hlate⟩
  obtain hbarrier | hbulk | hkeeps | hnone | hbefore := hintime
  · omega
  · exact hcls.not_gt hbulk
  · exact Bool.eq_false_iff.1 hkeeps hdrop
  · exact hdeadline hnone
  · exact hbefore.not_gt hlate

end

/-! ## Barriers -/

section
variable {s : State} {q : Fin 1048576} {x : Queue} {e : QEntry} (hx : s.queue q = x) (hhead : x.head = some e) (henabled : x.st = qEnabled)
  (hchecked : e.st = 1) (hbarrier : weKind e.word = 2)
include hx hhead henabled hchecked hbarrier

theorem execBarrierComplete_ends (hidle : x.infl = 0) (huncut : x.entries.any (fun z => decide (z.st = 4)) = false) :
    execBarrierComplete q s = .next (s.endHead q e e.word 0) := by
  simp only [execBarrierComplete, hx, hhead, henabled, hchecked, hbarrier, hidle, huncut, ne_eq, not_true_eq_false, Bool.false_eq_true, or_self,
    if_false]

theorem execBarrierComplete_waits (hbusy : x.infl ≠ 0) : execBarrierComplete q s = .next s.waits := by
  simp only [execBarrierComplete, hx, hhead, henabled, hchecked, hbarrier, hbusy, ne_eq, not_true_eq_false, not_false_eq_true, or_self, true_or,
    if_false, if_true]

end

/-- Settles O34: each doorbell, each verdict on a head entry and a barrier is its lemma above. The model's choices are that ENTRY_CHECK acts on ENABLED
queues only and rejects what is poisoned (log 84), that a foreign control core's doorbell is ignored (log 89), and what becomes of the host's while
its link is down or in D3hot (log 131). -/
theorem doorbellsAndChecks : Obligations.DoorbellsAndChecks := by
  unfold Obligations.DoorbellsAndChecks
  refine ⟨?_, ?_, ?_⟩
  · intro s path who q tail whole lcl hlcl
    exact ⟨execDoorbell_link_down, execDoorbell_d3hot, fun hreaches => ⟨execDoorbell_ignored hlcl hreaches, execDoorbell_rings hlcl hreaches⟩⟩
  · intro s q tagOk x e r w hx hhead henabled hunchecked hr hw
    have hread : HeadRead s q x e r w := ⟨hx, hhead, henabled, hunchecked, hr, hw⟩
    refine ⟨execEntryCheck_rejects_bad hread, fun c hok hlow hhigh hgood hc hcok => ?_⟩
    have hsound : HeadSound s q tagOk x e r w c := ⟨hread, hok, hlow, hhigh, hgood, hc, hcok⟩
    exact ⟨execEntryCheck_rejects_unsealed hsound, execEntryCheck_nop hsound, execEntryCheck_expires hsound, execEntryCheck_checks hsound⟩
  · exact fun s q x e hx hhead henabled hchecked hbarrier =>
      ⟨execBarrierComplete_ends hx hhead henabled hchecked hbarrier, execBarrierComplete_waits hx hhead henabled hchecked hbarrier⟩

end Sys2Proof.Laws
end

section
/-!
PROOFS. Selection, completions and the mirror of the work queues (R339, R343, R345, R350, R351, R353, R360).
-/

namespace Sys2Proof.Laws
open Sys2Proof Sys2Proof.Machine

/-- SELECTION dispatches the entry chosen to the core chosen; a latency entry earns credit, at most 400 hundredths, and may raise the greatest
dispatch time, a BULK entry spends it or advances its queue's account (R350, R351, R353). -/
theorem execSelection_dispatches {s s0 s1 : State} {ns : Nat} {c : Cand} {branch core p cr : Nat} {x : Queue} (hwork : s.noNewWork = false)
    (hs0 : s.joinBulk s.candidates = s0) (hchoose : s0.choose s0.candidates = some (c, branch))
    (hcore : chooseCore (s0.coresFor c.q) c.e.word = some core) (hp : s0.part c = p) (hx : s0.queue c.q = x)
    (hcr : Tab.get 0 s0.sched.credit p = cr)
    (hs1 : { s0 with sched := { s0.sched with
      credit := Tab.set 0 s0.sched.credit p (if branch = 1 then cr - 100 else if branch = 0 then min (cr + s0.val 0x6810 (8 + p) 10) 400 else cr)
      lastIdle := if branch = 3 then c.q else s0.sched.lastIdle
      dispMax := if branch = 0 then max ns s0.sched.dispMax else s0.sched.dispMax } } = s1) :
    execSelection ns s = .next ((if x.cls = 6 then s1.setQueue c.q { x with v := x.v + 65536 / x.weight } else s1).dispatch c core) := by
  have hcapped : (if cr + s0.val 0x6810 (8 + p) 10 > 400 then 400 else cr + s0.val 0x6810 (8 + p) 10) = min (cr + s0.val 0x6810 (8 + p) 10) 400 :=
    (min_def_lt _ _).symm.trans (min_comm _ _)
  have hgreatest : (if branch = 0 ∧ ns > s0.sched.dispMax then ns else s0.sched.dispMax)
      = if branch = 0 then max ns s0.sched.dispMax else s0.sched.dispMax := by
    rw [ite_and, max_comm, max_def_lt]
  subst hs1
  simp only [execSelection, hwork, hs0, hchoose, hcore, hp, hx, hcr, hcapped, hgreatest, Bool.false_eq_true, if_false]

/-- The next completion is written and counted, its entry dropped, and a HOST queue asks for its vector (R343, R345). -/
theorem execCompletionWrite_completes {s s1 t : State} {q : Fin 1048576} {x y : Queue} {e : QEntry} {w z : State × AccSt} (hx : s.queue q = x)
    (he : x.completes = some e)
    (hw : s.agentWrite s.schedAgent (x.cq + 32 * (x.completed % 2 ^ x.logsz)) (completionEntry e x.completed s.bell.count) false = w)
    (hwok : w.2 = .ok) (hz : w.1.sealCompletion q x.completed = z) (hzok : z.2 = .ok) (hy : z.1.queue q = y)
    (hs1 : z.1.setQueue q { y with completed := x.completed + 1, entries := y.entries.filter (fun d => decide (d.num ≠ e.num ∨ d.st ≠ 3)) } = s1)
    (ht : { s1 with sched := { s1.sched with late := s1.sched.late + (if entryLate e s.bell.count then 1 else 0) } } = t) :
    execCompletionWrite q s = .next (if x.prod = prodHost then t.askVector x.msix else t) := by
  simp only [execCompletionWrite, hx, he, hw, hz, hwok, hzok, hy, hs1, ht]

/-- At its bells the mirror sends COMPLETED of every queue that is not FREE (R360). -/
theorem execQueueMirror_due {s : State} (hdue : s.bell.count % s.val 0x6810 16 1000 = 0) :
    execQueueMirror s = .next (s.sched.queues.foldl (fun s e => if e.2.st ≠ qFree then s.queueDone e.1 else s) s) := by
  rw [execQueueMirror, if_neg (not_not.2 hdue)]

/-- Settles O35: each operation is its lemma above. The whole-number account, the hundredths of credit and the moment at which an entry becomes
eligible are the model's choices (log 86). -/
theorem selectionAndCompletion : Obligations.SelectionAndCompletion := by
  unfold Obligations.SelectionAndCompletion
  refine ⟨?_, ?_, fun s => execQueueMirror_due⟩
  · intro s s0 s1 ns c branch core p cr x
    exact execSelection_dispatches
  · intro s s1 q x y e w z hx he hw hwok hz hzok hy hs1 t ht
    exact execCompletionWrite_completes hx he hw hwok hz hzok hy hs1 ht

end Sys2Proof.Laws
end

section
/-!
PROOFS. The dictionary's commands on work queues (R332, R334, R335, R360, R365, R629, Table 11-9).
-/

namespace Sys2Proof.Laws
open Sys2Proof Sys2Proof.Machine

/-! ## A command that is refused -/

/-- After a refusal no staged value is applied (R629). -/
theorem appliedIf_refused {t : State} {status : Nat} (hstatus : status ≠ 0) (who index : Nat) (subs : List (Nat × Nat × Nat)) :
    (t.answer status).appliedIf who index subs = t.answer status := by
  rw [State.appliedIf, if_neg]
  unfold State.answer
  dsimp only
  split <;> simp [State.emit, hstatus]

/-- A command that is accepted and then refused answers its status (R629). -/
theorem command_refused {s t : State} {who index status : Nat} {auth : Bool} {subs : List (Nat × Nat × Nat)} {k : State → State}
    (h : Accepts s who index auth) (hk : k s = t.answer status) (hstatus : status ≠ 0) :
    s.command who index auth (fun s => (k s).appliedIf who index subs) = t.answer status := by
  rw [command_accepts h, hk, appliedIf_refused hstatus]

/-! ## CREATE and SET -/

section
variable {s : State} {id refusal : Nat} {x : Queue}

theorem wqStore_stores (hnone : refusal = 0) : s.wqStore id refusal x = ((s.setQueue id x).queueDesc id).answer 0 := by
  rw [hnone, State.wqStore]

theorem wqStore_refused (hrefused : refusal ≠ 0) : s.wqStore id refusal x = s.answer refusal := by
  unfold State.wqStore
  split
  · exact absurd rfl hrefused
  · rfl

end

section
variable {s : State} {who : Nat} {a : WqArgs} (ha : s.wqArgs who = a)
include ha

/-- CREATE stores the queue of its values unless a row of Table 11-9 refuses them (R332). -/
theorem wqCreate_eq_wqStore {x : Queue} (hx : a.created (s.wqSealed a) = x) :
    s.wqCreate who = s.wqStore a.id (s.wqRefusal a x (s.queue a.id) true) x := by
  rw [State.wqCreate, ha, hx]

/-- SET of a queue that is not FREE keeps its context, producer, size and rings (R334). -/
theorem wqSet_eq_wqStore {old x : Queue} (hold : s.queue a.id = old) (hused : old.st ≠ qFree) (hx : (a.kept old).queue old.sealed old = x) :
    s.wqSet who = s.wqStore a.id (s.wqRefusal (a.kept old) x old false) x := by
  simp only [State.wqSet, ha, hold, hx, if_neg hused]

/-! ## The state of a queue -/

variable {x : Queue} (hx : s.queue a.id = x) (hid : a.id < 2 ^ 20) (hused : x.st ≠ qFree)
include hx hid hused

/-- A command on a queue that exists runs (Table 11-9). -/
theorem wqState_runs (k : Nat → Queue → State) : s.wqState who k = k a.id x := by
  have hstaged : s.staged who 0x6800 1 0 = a.id := congrArg WqArgs.id ha
  simp only [State.wqState, hstaged, hx, if_neg hid.not_ge, if_neg hused]

theorem wqPause_pauses : s.wqPause who
    = ((s.setQueue a.id { x with st := if x.st = qEnabled then qPaused else x.st }).queueDone a.id).answer 0 :=
  wqState_runs ha hx hid hused _

theorem wqEnable_enables (hstays : x.st ≠ qMigrating) : s.wqEnable who = (s.setQueue a.id { x with st := qEnabled }).answer 0 := by
  rw [State.wqEnable, wqState_runs ha hx hid hused, if_neg hstays]

/-- DRAIN drops what is not taken, and pauses the queue once nothing is in flight (R334). -/
theorem wqDrain_drains {t : State} (ht : (s.setQueue a.id { x with st := qDraining }).dropEntries a.id = t) :
    s.wqDrain who = ((t.setQueue a.id (t.queue a.id).settle).queueDone a.id).answer 0 := by
  subst ht
  exact wqState_runs ha hx hid hused _

/-- DESTROY frees a PAUSED queue with nothing in flight (R334). -/
theorem wqDestroy_frees (hpaused : x.st = qPaused) (hidle : x.infl = 0) : s.wqDestroy who = (s.setQueue a.id Queue.blank).answer 0 := by
  rw [State.wqDestroy, wqState_runs ha hx hid hused, if_neg (by simp [hpaused, hidle])]

theorem wqSelect_selects : s.wqSelect who = (s.select who 0x6800 16 64 (leNat x.descriptor)).answer 0 :=
  wqState_runs ha hx hid hused _

end

/-- Settles O36: each command under its hypotheses is its lemma above. That SET refuses EBENCH only where it changes while entries are in flight, and that
ENABLE of a DRAINING queue makes it ENABLED, are the model's choices (log 90). -/
theorem queueCommands : Obligations.QueueCommands := by
  unfold Obligations.QueueCommands
  intro s who a ha haccepts
  refine ⟨fun x hx => ⟨fun hnone => ?_, ?_⟩, fun old x hold hused hx => ⟨fun hnone => ?_, ?_⟩,
    fun x hx hid hused => ⟨?_, fun hstays => ?_, fun t ht => ?_, fun hpaused hidle => ?_, ?_⟩⟩
  · exact congrArg Host.Outcome.next (command_done haccepts ((wqCreate_eq_wqStore ha hx).trans (wqStore_stores hnone)))
  · rintro _ rfl hrefused
    exact congrArg Host.Outcome.next
      (command_refused haccepts ((wqCreate_eq_wqStore ha hx).trans (wqStore_refused hrefused)) hrefused)
  · exact congrArg Host.Outcome.next (command_done haccepts ((wqSet_eq_wqStore ha hold hused hx).trans (wqStore_stores hnone)))
  · rintro _ rfl hrefused
    exact congrArg Host.Outcome.next
      (command_refused haccepts ((wqSet_eq_wqStore ha hold hused hx).trans (wqStore_refused hrefused)) hrefused)
  · exact congrArg Host.Outcome.next (command_done haccepts (wqPause_pauses ha hx hid hused))
  · exact congrArg Host.Outcome.next (command_done haccepts (wqEnable_enables ha hx hid hused hstays))
  · exact congrArg Host.Outcome.next (command_done haccepts (wqDrain_drains ha hx hid hused ht))
  · exact congrArg Host.Outcome.next (command_done haccepts (wqDestroy_frees ha hx hid hused hpaused hidle))
  · exact congrArg Host.Outcome.next (command_done haccepts (wqSelect_selects ha hx hid hused))

end Sys2Proof.Laws
end


section
/-!
PROOFS. The frames of the dictionary (R622, R623): the word of a frame's header, cut into its fields and put together from them.
-/

namespace Sys2Proof.Laws
open Sys2Proof Sys2Proof.Machine

/-- The low bits of a number end with a field above lower ones. -/
theorem mod_two_pow_eq_natBits {hi lo : Nat} (h : lo ≤ hi) (v : Nat) : v % 2 ^ (hi + 1) = natBits hi lo v * 2 ^ lo + v % 2 ^ lo := by
  rw [natBits, show 2 ^ (hi + 1) = 2 ^ lo * 2 ^ (hi + 1 - lo) by rw [← pow_add]; congr 1; omega, Nat.mod_mul]
  ring

theorem natBits_lt (hi lo v : Nat) : natBits hi lo v < 2 ^ (hi + 1 - lo) := Nat.mod_lt _ (Nat.two_pow_pos _)

/-- The number that the first 12 bytes of a frame spell (Table 22-3). -/
def headWord (f : DictFrame) : Nat :=
  2 ^ 92 + f.op % 16 * 2 ^ 88 + f.tid % 256 * 2 ^ 80 + f.index % 65536 * 2 ^ 64 + f.sub % 256 * 2 ^ 56 + f.status % 65536 * 2 ^ 40
    + f.seg % 256 * 2 ^ 32 + f.total % 8192 * 2 ^ 19 + f.data.length % 256 * 2 ^ 11 + (if f.part then 2 ^ 10 else 0)

theorem head_eq (f : DictFrame) : f.head = leBytes 12 (headWord f) := rfl

theorem headWord_lt (f : DictFrame) : headWord f < 2 ^ 96 := by
  unfold headWord
  split <;> omega

/-- The number of a 16-byte header: the word of Table 22-3 with the CRC above it. -/
theorem leNat_header (f : DictFrame) (c : Nat) (hc : c < 2 ^ 32) : leNat (f.head ++ leBytes 4 c) = headWord f + 2 ^ 96 * c := by
  have hw := headWord_lt f
  rw [leNat_append, head_length, head_eq, leNat_leBytes, leNat_leBytes, Nat.mod_eq_of_lt (by omega), Nat.mod_eq_of_lt (by omega)]
  norm_num

theorem bytes_take16 (f : DictFrame) : f.bytes.take 16 = f.head ++ leBytes 4 (crc32c (f.head ++ f.data)) := by
  rw [DictFrame.bytes, List.take_append_of_le_length (by simp), List.take_of_length_le (by simp)]

theorem bytes_take12 (f : DictFrame) : f.bytes.take 12 = f.head := by
  rw [DictFrame.bytes, List.append_assoc, List.take_append_of_le_length (by simp), List.take_of_length_le (by simp)]

theorem bytes_drop16 (f : DictFrame) : f.bytes.drop 16 = f.data := by
  rw [DictFrame.bytes, List.drop_append_of_le_length (by simp), List.drop_of_length_le (by simp), List.nil_append]

theorem bytes_length (f : DictFrame) : f.bytes.length = 16 + f.data.length := by
  simp only [DictFrame.bytes, List.length_append, head_length, leBytes_length]

/-- Every field of the header's number is that of the frame. -/
theorem natBits_header {f : DictFrame} (hf : FrameFields f) {c : Nat} (hc : c < 2 ^ 32) {h : Nat} (hh : h = headWord f + 2 ^ 96 * c) :
    natBits 127 96 h = c ∧ natBits 95 92 h = 1 ∧ natBits 91 88 h = f.op ∧ natBits 87 80 h = f.tid ∧ natBits 79 64 h = f.index
      ∧ natBits 63 56 h = f.sub ∧ natBits 55 40 h = f.status ∧ natBits 39 32 h = f.seg ∧ natBits 31 19 h = f.total
      ∧ natBits 18 11 h = f.data.length ∧ Nat.testBit h 10 = f.part ∧ natBits 9 0 h = 0 := by
  obtain ⟨hop, htid, hindex, hsub, hstatus, hseg, htotal, hdata⟩ := hf
  have hop16 : f.op < 16 := by
    simp only [List.contains_eq_mem, List.mem_cons, List.not_mem_nil, or_false, decide_eq_true_eq] at hop
    omega
  have hbit : (if f.part then 2 ^ 10 else 0) = f.part.toNat * 2 ^ 10 := by cases f.part <;> rfl
  have hpart : f.part.toNat < 2 := f.part.toNat_lt
  rw [headWord, hbit] at hh
  have htest : h / 2 ^ 10 % 2 = f.part.toNat := by omega
  simp only [natBits]
  refine ⟨?_, ?_, ?_, ?_, ?_, ?_, ?_, ?_, ?_, ?_, ?_, ?_⟩
  case refine_11 => rw [Nat.testBit_eq_decide_div_mod_eq, htest]; cases f.part <;> rfl
  all_goals omega

/-- A frame whose fields lie within their widths is read back. -/
theorem readFrame_bytes {f : DictFrame} (hf : FrameFields f) : readFrame f.bytes = some { f with crc := crc32c (f.head ++ f.data) } := by
  have hc := crc32c_lt (f.head ++ f.data)
  have hfits : f.data.length ≤ 236 := hf.2.2.2.2.2.2.2
  obtain ⟨hcrc, hver, hop, htid, hindex, hsub, hstatus, hseg, htotal, hlen, hpart, hzero⟩ :=
    natBits_header hf hc (leNat_header f _ hc)
  simp only [readFrame, bytes_take16, bytes_take12, bytes_drop16, bytes_length, hcrc, hver, hop, htid, hindex, hsub, hstatus, hseg,
    htotal, hlen, hpart, hzero, hf.1, hfits, ge_iff_le, Nat.le_add_right, and_self, if_true]

/-- A string of 16 bytes or more is its header and what follows: the fields put together give the low 96 bits of the header's number. -/
theorem headWord_of_natBits {f : DictFrame} {h : Nat} (hver : natBits 95 92 h = 1) (hop : f.op = natBits 91 88 h) (htid : f.tid = natBits 87 80 h)
    (hindex : f.index = natBits 79 64 h) (hsub : f.sub = natBits 63 56 h) (hstatus : f.status = natBits 55 40 h)
    (hseg : f.seg = natBits 39 32 h) (htotal : f.total = natBits 31 19 h) (hlen : f.data.length = natBits 18 11 h)
    (hpart : f.part = Nat.testBit h 10) (hzero : natBits 9 0 h = 0) : headWord f = h % 2 ^ 96 := by
  have hbit : (if f.part then 2 ^ 10 else 0) = natBits 10 10 h * 2 ^ 10 := by
    have := natBits_lt 10 10 h
    rw [hpart, Nat.testBit_eq_decide_div_mod_eq]
    simp only [natBits, decide_eq_true_eq] at *
    split <;> omega
  have hzero' : h % 2 ^ 10 = 0 := (mod_two_pow_eq_natBits (hi := 9) (lo := 0) (by omega) h).trans (by rw [hzero, Nat.pow_zero, Nat.mod_one])
  have hop' := natBits_lt 91 88 h
  have htid' := natBits_lt 87 80 h
  have hindex' := natBits_lt 79 64 h
  have hsub' := natBits_lt 63 56 h
  have hstatus' := natBits_lt 55 40 h
  have hseg' := natBits_lt 39 32 h
  have htotal' := natBits_lt 31 19 h
  have hlen' := natBits_lt 18 11 h
  rw [headWord, hbit, hop, htid, hindex, hsub, hstatus, hseg, htotal, hlen]
  rw [mod_two_pow_eq_natBits (hi := 95) (lo := 92) (by omega), mod_two_pow_eq_natBits (hi := 91) (lo := 88) (by omega),
    mod_two_pow_eq_natBits (hi := 87) (lo := 80) (by omega), mod_two_pow_eq_natBits (hi := 79) (lo := 64) (by omega),
    mod_two_pow_eq_natBits (hi := 63) (lo := 56) (by omega), mod_two_pow_eq_natBits (hi := 55) (lo := 40) (by omega),
    mod_two_pow_eq_natBits (hi := 39) (lo := 32) (by omega), mod_two_pow_eq_natBits (hi := 31) (lo := 19) (by omega),
    mod_two_pow_eq_natBits (hi := 18) (lo := 11) (by omega), mod_two_pow_eq_natBits (hi := 10) (lo := 10) (by omega), hzero', hver]
  omega

theorem leBytes_leNat_of_length {l : List Byte} {n : Nat} (hn : l.length = n) : leBytes n (leNat l) = l := by
  rw [← hn, leBytes_leNat]

/-- The first 12 of 16 bytes or more spell the low 96 bits of the first 16. -/
theorem leNat_take12 {b : List Byte} (hb : 16 ≤ b.length) : leNat (b.take 12) = leNat (b.take 16) % 2 ^ 96
    ∧ leNat ((b.drop 12).take 4) = natBits 127 96 (leNat (b.take 16)) := by
  have hsplit : b.take 16 = b.take 12 ++ (b.drop 12).take 4 := List.take_add (i := 12) (j := 4)
  have h12 : (b.take 12).length = 12 := by simp; omega
  have h4 : ((b.drop 12).take 4).length = 4 := by simp; omega
  have hlow := leNat_lt (b.take 12)
  have hhigh := leNat_lt ((b.drop 12).take 4)
  rw [h12] at hlow
  rw [h4] at hhigh
  rw [hsplit, leNat_append, h12, natBits]
  constructor <;> omega

/-- What is read as a frame is the encoding of that frame, and its fields lie within their widths. -/
theorem readFrame_eq_some {b : List Byte} {f : DictFrame} (h : readFrame b = some f) :
    FrameFields f ∧ f.bytes = b ∧ f.crc = crc32c (f.head ++ f.data) := by
  simp only [readFrame, Option.ite_none_right_eq_some, Option.some.injEq] at h
  obtain ⟨⟨hb, hcrc, hver, hop, hzero, hfits, hlen⟩, hf⟩ := h
  have hdata : f.data.length = natBits 18 11 (leNat (b.take 16)) := by
    rw [← hf, List.length_drop, hlen]
    omega
  have hhead : f.head = b.take 12 := by
    rw [head_eq, headWord_of_natBits (f := f) hver (by rw [← hf]) (by rw [← hf]) (by rw [← hf]) (by rw [← hf]) (by rw [← hf]) (by rw [← hf])
      (by rw [← hf]) hdata (by rw [← hf]) hzero, ← (leNat_take12 hb).1]
    exact leBytes_leNat_of_length (by simp; omega)
  have htail : f.data = b.drop 16 := by rw [← hf]
  have hcrc' : leBytes 4 (crc32c (f.head ++ f.data)) = (b.drop 12).take 4 := by
    rw [hhead, htail, ← hcrc, ← (leNat_take12 hb).2]
    exact leBytes_leNat_of_length (by simp; omega)
  refine ⟨?_, ?_, ?_⟩
  · subst hf
    exact ⟨hop, natBits_lt _ _ _, natBits_lt _ _ _, natBits_lt _ _ _, natBits_lt _ _ _, natBits_lt _ _ _, natBits_lt _ _ _, hdata.trans_le hfits⟩
  · rw [DictFrame.bytes, hcrc', hhead, htail, List.append_assoc, ← List.drop_drop (i := 4) (j := 12), List.take_append_drop, List.take_append_drop]
  · rw [hhead, htail, ← hcrc, ← hf]

/-- Settles O59: both directions go through the number that the header spells. -/
theorem frameRoundTrip : Obligations.FrameRoundTrip := by
  unfold Obligations.FrameRoundTrip
  exact ⟨fun f => readFrame_bytes, fun b f => readFrame_eq_some⟩

end Sys2Proof.Laws
end

section
/-!
PROOFS. Stored-data protection (R401, R405, R406, R409 to R411): when a write-back reaches its unit, when the scrub reads, what the commands of retirement and
of the test mode leave.
-/

namespace Sys2Proof.Laws
open Sys2Proof Sys2Proof.Machine

/-! ## Scrub -/

/-- A patrol reads its next sector in service (R405). -/
theorem execScrubRead_inService {s : State} (h : s.dev.st = 2 ∨ s.dev.st = 3) (hbm : Bool) :
    execScrubRead hbm s = .next (if hbm then s.scrubNextHbm else s.scrubMarket) := by
  rw [execScrubRead, if_neg]
  simp only [devReady, devDegraded]
  omega

theorem execScrubRead_pauses {s : State} (hready : s.dev.st ≠ 2) (hdegraded : s.dev.st ≠ 3) (hbm : Bool) : execScrubRead hbm s = .next s :=
  if_pos ⟨hready, hdegraded⟩

/-! ## Retirement -/

section
variable {s : State} {who kind unit addr : Nat} (hkind : s.staged who 0x4420 1 0 = kind) (hunit : s.staged who 0x4420 2 0 = unit)
  (haddr : s.staged who 0x4420 3 0 = addr)

section
include hkind hunit haddr

theorem rtRetire_retires {t : State} (hnone : s.retireRefusal kind unit addr = 0) (ht : s.retire kind unit addr = some t) :
    s.rtRetire who = (t.applied who 0x4420 [(1, 1, 0), (2, 2, 0), (3, 8, 0)]).answer 0 := by
  simp only [State.rtRetire, hkind, hunit, haddr, hnone, ht]

theorem rtRetire_waits (hnone : s.retireRefusal kind unit addr = 0) (hwait : s.retire kind unit addr = none) : s.rtRetire who = s.waits := by
  simp only [State.rtRetire, hkind, hunit, haddr, hnone, hwait]

theorem rtRetire_refused {e : Nat} (he : e ≠ 0) (hrefused : s.retireRefusal kind unit addr = e) : s.rtRetire who = s.answer e := by
  simp only [State.rtRetire, hkind, hunit, haddr, hrefused]

end

include hunit

theorem rtSelect_selects (hlt : unit < 288) : s.rtSelect who = (s.select who 0x4420 5 1 (s.sparesLeft unit)).answer 0 := by
  simp only [State.rtSelect, hunit, hlt.not_ge, if_false]

end

/-! ## The test mode -/

/-- A command of the test mode on a unit in TESTING stores what its operation gives, or reads (R411). -/
theorem tsCommand_testing {s : State} {mem a n data check : Nat} {u : TsUnit} (hmem : s.val 0x4430 1 0 = mem) (ha : s.val 0x4430 2 0 = a)
    (hnone : s.tsRefusal mem a = 0) (hu : s.tsRead mem a = u) (hn : (if mem = 2 then 8 else 32) = n)
    (hdata : s.val 0x4430 3 0 % 256 ^ n = data) (hcheck : s.val 0x4430 4 0 % 2 ^ (if mem = 2 then 8 else 16) = check) :
    s.tsCommand 1 = (s.tsStore mem a data u.check).answer 0 ∧ s.tsCommand 2 = (s.tsStore mem a u.data check).answer 0
      ∧ s.tsCommand 3 = (s.tsStore mem a data check).answer 0
      ∧ s.tsCommand 4 = (((s.setVal 0x4430 3 n u.data).setVal 0x4430 4 2 u.check).setVal 0x4430 6 1 u.decision).answer 0 := by
  refine ⟨?_, ?_, ?_, ?_⟩ <;> simp only [State.tsCommand, hmem, ha, hnone, hu, hn, hdata, hcheck]

/-- Settles O38: a write-back compares the unit with what was read; the scrub asks the device state; each command is its lemma above. Scrub, the rows of Table 13-4 and the test store
rest on the model's choices (logs 103, 104). -/
theorem storedDataProtection : Obligations.StoredDataProtection := by
  unfold Obligations.StoredDataProtection
  refine ⟨⟨fun s unit addr was chk => ⟨?market, ?hbm, ?bench⟩, fun s => ⟨fun h => ?_, fun h2 h3 b => ?_⟩⟩, ?retire, ?test⟩
  case market =>
    rintro x p rfl rfl
    have hbase : exec (.correctingWriteback 0 unit addr was chk) s = .next (s.correctingWb 0 unit addr was chk) := rfl
    have hshadow : exec (.correctingWriteback 3 unit addr was chk) s = .next (s.correctingWb 3 unit addr was chk) := rfl
    rw [hbase, hshadow]
    simp only [State.correctingWb]
    exact ⟨fun hd hc => congrArg Host.Outcome.next (if_pos ⟨hd, hc⟩), fun h => by rw [if_neg (by tauto)],
      fun hd hc => congrArg Host.Outcome.next (if_pos ⟨hd, hc⟩), fun h => by rw [if_neg (by tauto)]⟩
  case hbm =>
    rintro x rfl
    exact ⟨fun h => congrArg Host.Outcome.next (if_pos h), fun h => congrArg Host.Outcome.next (if_neg h)⟩
  case bench =>
    rintro x e w rfl rfl rfl
    have hexec : exec (.correctingWriteback 2 unit addr was chk) s = .next (s.correctingWb 2 unit addr was chk) := rfl
    rw [hexec]
    simp only [State.correctingWb]
    refine ⟨fun he hw h0 hp => congrArg Host.Outcome.next (if_pos ⟨he, hw, h0, hp⟩), fun h => ?_⟩
    rw [if_neg]
    rintro ⟨he, hw, h0, hp⟩
    exact h.elim (· he) (Or.elim · (· hw) (Or.elim · h0 hp))
  · exact ⟨execScrubRead_inService h false, execScrubRead_inService h true⟩
  · exact execScrubRead_pauses h2 h3 b
  case retire =>
    intro s who kind unit addr hkind hunit haddr haccepts
    rw [exec_rtRetire, exec_rtSelect, execRtRetire, execRtSelect, command_accepts haccepts, command_accepts haccepts]
    refine ⟨fun t hnone ht => ?_, fun hnone hwait => ?_, fun e he hrefused => ?_, fun hlt => ?_⟩
    · rw [rtRetire_retires hkind hunit haddr hnone ht]
    · rw [rtRetire_waits hkind hunit haddr hnone hwait]
    · rw [rtRetire_refused hkind hunit haddr he hrefused]
    · rw [rtSelect_selects hunit hlt]
  case test =>
    intro s who mem a n data check u hmem ha haccepts hnone hu hn hdata hcheck
    obtain ⟨h1, h2, h3, h4⟩ := tsCommand_testing hmem ha hnone hu hn hdata hcheck
    rw [exec_tsWriteData, exec_tsWriteCheck, exec_tsWriteBoth, exec_tsReadRaw, execTsWriteData, execTsWriteCheck, execTsWriteBoth, execTsReadRaw,
      command_accepts haccepts, command_accepts haccepts, command_accepts haccepts, command_accepts haccepts, h1, h2, h3, h4]
    exact ⟨rfl, rfl, rfl, rfl⟩

end Sys2Proof.Laws
end

section
/-!
PROOFS. Frames that arrive (R424 to R426, R429, R432, R433, R438, R443, R444, R458): which of them joins the engine's frames, and what the engine makes of each.
-/

namespace Sys2Proof.Laws
open Sys2Proof Sys2Proof.Machine

/-- A fold over a list whose step leaves the state for every element leaves it. -/
theorem foldl_of_forall_eq {σ α : Type} {f : σ → α → σ} {l : List α} (hf : ∀ a ∈ l, ∀ s, f s a = s) (s : σ) : l.foldl f s = s := by
  induction l with
  | nil => rfl
  | cons a l ih => rw [List.foldl_cons, hf a List.mem_cons_self, ih fun b hb => hf b (List.mem_cons_of_mem a hb)]

/-! ## Admission -/

section
variable {s t u : State} {port : Fin 18} {hdr : BitVec 512} {pmap tag : QWord} {payload : List Byte} {fcsOk tagOk ce : Bool} {r : RxFrame}
  (hport : s.inService ukPort port = true) (ht : s.setPort port { s.port port with rx := (s.port port).rx + 1 } = t)
include hport ht

/-- A frame that fails the checks of R424 is counted and discarded. -/
theorem execFrameReceive_malformed (hbad : t.frameOk hdr pmap tag payload fcsOk = false) :
    execFrameReceive port hdr pmap tag payload fcsOk tagOk ce s = .next (t.fbCount 1 1) := by
  simp only [execFrameReceive, hport, ht, hbad, Bool.not_true, Bool.not_false, Bool.false_eq_true, if_false, if_true]

variable (hok : t.frameOk hdr pmap tag payload fcsOk = true)
include hok

/-- A frame that does not authenticate is counted, discarded and reported. -/
theorem execFrameReceive_forged (hforged : t.frameAuth hdr tagOk = false) :
    execFrameReceive port hdr pmap tag payload fcsOk tagOk ce s = .next ((t.fbCount 2 1).authFailed (2 * 2 ^ 32 + frSrc hdr) 0) := by
  simp only [execFrameReceive, hport, ht, hok, hforged, Bool.not_true, Bool.not_false, Bool.false_eq_true, if_false, if_true]

variable (hauth : t.frameAuth hdr tagOk = true) (hother : frType hdr ≠ tBeat ∨ frSrc hdr ≠ t.selfId) (hu : t.hearPeer (frSrc hdr) = u)
include hauth hother hu

/-- A valid frame of another device is refused when it is redirected, and otherwise taken by its type (R424, R458). -/
theorem execFrameReceive_valid : execFrameReceive port hdr pmap tag payload fcsOk tagOk ce s = .next (
    if u.redirectedFrame hdr then if frType hdr ≤ 6 ∨ frType hdr = tBeat then u.sendNack (port.val / 9) hdr 4 0 else u
    else if 8 ≤ frType hdr then
      { u with fabric := { u.fabric with rxQ := u.fabric.rxQ ++ [⟨port, hdr, if frPx hdr then pmap else 0#128, payload, 0, ce⟩] } }
    else if (u.peer (frSrc hdr)).st = 2 then u
    else u.dataFrame ⟨port, hdr, if frPx hdr then pmap else 0#128, payload, 0, ce⟩) := by
  have hself : ¬(frType hdr = tBeat ∧ frSrc hdr = t.selfId) := not_and_or.2 hother
  simp only [execFrameReceive, hport, ht, hok, hauth, hself, hu, Bool.not_true, Bool.false_eq_true, if_false, ge_iff_le]
  split_ifs <;> rfl

end

/-! ## PUT -/

section
variable {s : State} {e : Fin 2} {r : RxFrame} {h : BitVec 512} (hh : r.hdr = h)
include hh

section
variable {w : Window} {a : Nat} {x : State × AccSt} {m : RxMsg} (hr : s.firstRx e tPut = some r) (hw : s.frameTarget h (frPlen h) = some (w, a))
  (hx : State.writePayload (targetAgent w h e) r.pmap r.payload a 0 s = x) (hok : x.2 = .ok) (hm : (x.1.rxMsg e h).took (frPlen h / 32) (frPsn h) = m)
include hr hw hx hok hm

/-- A frame of a message that is not complete, or that rings no queue, is applied. -/
theorem execPutFrame_writes (hplain : frColl h = false) (hquiet : m.sectors < m.total ∨ frDb h = false) :
    execPutFrame e s = .next (x.1.frameDone e r m) := by
  have hbell : ¬(decide (m.sectors ≥ m.total) = true ∧ frDb h = true) := by
    rw [decide_eq_true_eq]
    rintro ⟨hwhole, hdb⟩
    exact hquiet.elim hwhole.not_gt (by simp [hdb])
  simp only [execPutFrame, hr, hh, hw, hx, hok, hm, hplain, hbell, Bool.false_eq_true, and_false, if_false]

/-- The last frame of a message with DB set leaves its doorbell with the flow (R438). -/
theorem execPutFrame_rings (hplain : frColl h = false) (hwhole : m.total ≤ m.sectors) (hdb : frDb h = true) :
    execPutFrame e s = .next ((x.1.onFlow e (frSrc h) (fun f =>
      { f with bells := f.bells ++ [⟨frDbq h, frDbtail h, if w.kind = 1 then w.part + 1 else 0, m.psn⟩] })).frameDone e r m) := by
  simp only [execPutFrame, hr, hh, hw, hx, hok, hm, hplain, hdb, hwhole, decide_true, Bool.false_eq_true, and_false, and_self, if_false,
    if_true]

/-- A frame of a collective counts in it, once its message is complete (R443). -/
theorem execPutFrame_collects (hcoll : frColl h = true) (hdb : frDb h = false) :
    execPutFrame e s = .next ((x.1.onColls (Coll.isOf h e) (fun c =>
      { c with puts := c.puts + (if m.total ≤ m.sectors then 1 else 0), flags := c.flags ||| (if m.total ≤ m.sectors then frCflags h else 0) ||| collPoison r })).frameDone
        e r m) := by
  by_cases hwhole : m.total ≤ m.sectors
  · simp only [execPutFrame, hr, hh, hw, hx, hok, hm, hcoll, hdb, hwhole, decide_true, Bool.false_eq_true, and_false, and_self, if_false, if_true]
  · simp only [execPutFrame, hr, hh, hw, hx, hok, hm, hcoll, hdb, hwhole, decide_false, Bool.false_eq_true, and_false, false_and, if_false,
      if_true, Nat.add_zero, Nat.or_zero]

end

/-! ## GET -/

/-- A request answers with its next frame, and stays until the last one (R425). -/
theorem execGetreq_answers {w : Window} {a n : Nat} {x : State × AccSt × List Byte × Nat} {t : State} (hr : s.firstRx e tGetreq = some r)
    (hw : s.frameTarget h (32 * frSectors h) = some (w, a)) (hn : min (frSectors h - r.pos) (s.mtu / 32) = n)
    (hx : State.readSectors (targetAgent w h e) n (a + 32 * r.pos) 0 s = x) (hok : x.2.1 = .ok)
    (ht : x.1.sendData e
        { type := tGetresp, last := decide (frSectors h ≤ r.pos + n), plen := 32 * n, dst := frSrc h, deadline := frDeadline h,
          rclass := frRclass h, tkind := frTkind h, win := frWin h, addr := frAddr h + 32 * r.pos, msg := frMsg h, frag := r.pos / (s.mtu / 32),
          msectm1 := frSectors h - 1 } (some w.part) (BitVec.ofNat 128 x.2.2.2) x.2.2.1 = some t) :
    execGetreq e s = .next (if frSectors h ≤ r.pos + n then t.frameDone e r ((t.rxMsg e h).took (frSectors h) (frPsn h))
        else { t with fabric := { t.fabric with rxQ := t.fabric.rxQ.map (fun y => if y = r then { y with pos := r.pos + n } else y) } }) := by
  have hnext : (if frSectors h - r.pos < s.mtu / 32 then frSectors h - r.pos else s.mtu / 32) = n := (min_def_lt _ _).symm.trans hn
  simp only [execGetreq, hr, hh, hw, hnext, hx, hok, ge_iff_le, ht, decide_eq_true_eq]
  split_ifs <;> rfl

/-- A response is written at the local address of its request (R429, R432). -/
theorem execGetresp_writes {m : Msg} {x : State × AccSt} (hr : s.firstRx e tGetresp = some r)
    (hm : s.fabric.msgs.find? (fun m => decide (m.engine = e.val ∧ m.num = frMsg h ∧ m.kind = tGetreq ∧ m.ended = 0)) = some m)
    (hx : State.writePayload (s.chanAgent (16 + e) m.chan 0#16) r.pmap r.payload (m.laddr + (frAddr h - m.raddr)) 0 s = x) (hok : x.2 = .ok) :
    execGetresp e s = .next (((x.1.onMsgs (fun y => decide (y = m)) (fun y =>
        { y with got := y.got + frPlen h / 32, poison := y.poison || decide (r.pmap ≠ 0#128) })).dropRx r).accept e (frSrc h) (frPsn h) r.ce) := by
  simp only [execGetresp, hr, hh, hm, hx, hok]

/-! ## FOLD and DONE -/

section
variable {w : Window} {a : Nat} {x : State × AccSt × Nat} {m m0 : RxMsg} (hr : s.firstRx e tFold = some r)
  (hw : s.frameTarget h (frPlen h) = some (w, a)) (hx : State.foldPayload (targetAgent w h e) (frFmt h) (frAnchor h) r.pmap r.payload a 0 s = x)
  (hok : x.2.1 = .ok) (hm0 : (x.1.rxMsg e h).took (frPlen h / 32) (frPsn h) = m0) (hm : { m0 with flags := m0.flags ||| x.2.2 } = m)
  (hplain : frColl h = false)
include hr hw hx hok hm0 hm hplain

theorem execFoldFrame_folds (hmore : m.sectors < m.total) : execFoldFrame e s = .next (x.1.frameDone e r m) := by
  subst hm
  dsimp only at hmore
  simp only [execFoldFrame, hr, hh, hw, hx, hok, hm0, hplain, hmore.not_ge, Bool.false_eq_true, if_false]

/-- After the last frame of the message its flags go out with a DONE (R444). -/
theorem execFoldFrame_reports {t : State} (hwhole : m.total ≤ m.sectors)
    (ht : x.1.sendData e { type := tDone, last := true, dst := frSrc h, msg := frMsg h, body := m.flags * 2 ^ 252 } (some w.part) 0#128 [] = some t) :
    execFoldFrame e s = .next (t.frameDone e r m) := by
  subst hm
  dsimp only at hwhole ht
  simp only [execFoldFrame, hr, hh, hw, hx, hok, hm0, hplain, hwhole, ht, Bool.false_eq_true, if_false, if_true]

end

/-- The flags of a message outside every collective are kept with it (R432). -/
theorem execDoneFrame_delivers {t : State} (hr : s.firstRx e tDone = some r)
    (ht : s.onMsgs (fun m => decide (m.engine = e.val ∧ m.num = frMsg h ∧ m.kind = tFold))
      (fun m => { m with doneIn := true, flags := m.flags ||| frDflags h }) = t)
    (hplain : s.fabric.msgs.all (fun m => !decide (m.engine = e.val ∧ m.num = frMsg h ∧ m.kind = tFold) || decide (m.coll = 0)) = true) :
    execDoneFrame e s = .next ((t.dropRx r).accept e (frSrc h) (frPsn h) r.ce) := by
  rw [List.all_eq_true] at hplain
  simp only [execDoneFrame, hr, hh, ht]
  rw [foldl_of_forall_eq]
  intro m hmem t
  have hm := hplain m hmem
  simp only [Bool.or_eq_true, Bool.not_eq_true', decide_eq_false_iff_not, decide_eq_true_eq] at hm ⊢
  rw [if_neg (by tauto)]

end

/-- Settles O39: each frame is its lemma above. -/
theorem framesReceived : Obligations.FramesReceived := by
  unfold Obligations.FramesReceived
  refine ⟨?_, fun s e r h hh => ⟨?_, ?_, ?_, ?_, ?_⟩⟩
  · rintro s t u port hdr pmap tag payload fcsOk tagOk ce r hport ht rfl
    refine ⟨execFrameReceive_malformed hport ht, fun hok => ⟨execFrameReceive_forged hport ht hok, fun hauth hother hu => ?_⟩⟩
    rw [exec_frameReceive, execFrameReceive_valid hport ht hok hauth hother hu]
    refine ⟨fun hred htype => ?_, fun hred => ⟨fun htype => ?_, fun htype hpeer => ?_⟩⟩
    · rw [if_pos hred, if_pos (.inl htype)]
    · rw [hred, if_neg Bool.false_ne_true, if_pos htype]
    · rw [hred, if_neg Bool.false_ne_true, if_neg htype.not_ge, if_neg hpeer]
  · intro w a x m hr hw hx hok hm
    exact ⟨execPutFrame_writes hh hr hw hx hok hm, execPutFrame_rings hh hr hw hx hok hm, execPutFrame_collects hh hr hw hx hok hm⟩
  · intro w a n x t hr hw hn hx hok ht
    exact execGetreq_answers hh hr hw hn hx hok ht
  · intro m x hr hm hx hok
    exact execGetresp_writes hh hr hm hx hok
  · intro w a x m m0 hr hw hx hok hm0 hm hplain
    exact ⟨execFoldFrame_folds hh hr hw hx hok hm0 hm hplain, fun t => execFoldFrame_reports hh hr hw hx hok hm0 hm hplain⟩
  · intro t hr ht hplain
    exact execDoneFrame_delivers hh hr ht hplain

end Sys2Proof.Laws
end

section
/-!
PROOFS. Flows and peers (R432, R434 to R437, R440, R446 to R449, R557, Table 14-6): what acknowledgements, heartbeats and the timers of the engines leave.
-/

namespace Sys2Proof.Laws
open Sys2Proof Sys2Proof.Machine

/-! ## Control frames -/

/-- No frame under the PSN belongs to another device's message. -/
theorem not_any_foreign {l : List TxFrame} {h : BitVec 512}
    (hown : l.all (fun x => !decide (frPsn x.hdr = bits 255 224 h) || ownsMsg (frType x.hdr)) = true) :
    l.any (fun x => decide (frPsn x.hdr = bits 255 224 h) && !ownsMsg (frType x.hdr)) = false := by
  rw [List.all_eq_true] at hown
  rw [List.any_eq_false]
  intro x hx
  have := hown x hx
  revert this
  cases decide (frPsn x.hdr = bits 255 224 h) <;> cases ownsMsg (frType x.hdr) <;> decide

section
variable {s : State} {e : Fin 2} {r : RxFrame} {h : BitVec 512} {peer : Nat} (hh : r.hdr = h) (hpeer : frSrc h = peer)
include hh hpeer

theorem execAck_applies (hr : s.firstRx e tAck = some r) : execAck e s
    = .next ((s.dropRx r).applyAck e peer r.port (bits 255 224 h) (bits 223 192 h) (bits 191 64 h) (frCe h)) := by
  simp only [execAck, hr, hh, hpeer]

section
variable {t : State} (hr : s.firstRx e tNack = some r) (ht : (s.dropRx r).fbCount 5 1 = t)
include hr ht

/-- NOTREADY has the frame sent again after 2 µs (R440). -/
theorem execNack_resends (hcode : bits 223 220 h = 3) : execNack e s = .next (t.onFlow e peer (fun f =>
    { f with unacked := f.unacked.map (fun x => if frPsn x.hdr = bits 255 224 h then { x with again := s.bell.count + 3 } else x) })) := by
  simp only [execNack, hr, hh, hpeer, ht, hcode]

variable (hown : (s.flow e peer).unacked.all (fun x => !decide (frPsn x.hdr = bits 255 224 h) || ownsMsg (frType x.hdr)) = true)
include hown

theorem execNack_resetting (hcode : bits 223 220 h = 1) : execNack e s = .next
    (t.onMsgs (fun m => decide (m.engine = e.val ∧ m.num = frMsg h ∧ t.routeTo m.dst = peer)) (Msg.finish 4 (bits 219 212 h))).settleColls := by
  simp only [execNack, hr, hh, hpeer, ht, hcode, not_any_foreign hown, Bool.not_false, if_true]

theorem execNack_refused {u : State} (hcode : bits 223 220 h = 2)
    (hu : (t.onMsgs (fun m => decide (m.engine = e.val ∧ m.num = frMsg h ∧ t.routeTo m.dst = peer)) (Msg.finish 5 (bits 219 212 h))).settleColls = u) :
    execNack e s = .next
      (if (s.flow e peer).unacked.any (fun x => decide (frPsn x.hdr = bits 255 224 h ∧ frType x.hdr = tMirror)) then u.stopStarters peer else u) := by
  simp only [execNack, hr, hh, hpeer, ht, hcode, not_any_foreign hown, hu, Bool.not_false, if_true]

end

/-- A BEAT of a peer that was not LOST and has its incarnation keeps what it says (R446, R447). -/
theorem execBeat_keeps {p : Peer} {t u : State} {skew : Nat} (hr : s.firstRx e tBeat = some r) (hp : s.peer peer = p) (halive : p.st ≠ 2)
    (hsame : p.heard = true → p.incarn = bits 191 160 h) (ht : s.dropRx r = t)
    (hu : (if (t.flow e peer).open' then t else t.onFlow e peer (fun f => { f with cum := bits 159 128 h, open' := true })) = u)
    (hskew : min ((if s.bell.count ≤ bits 255 192 h then bits 255 192 h - s.bell.count else s.bell.count - bits 255 192 h) * 1000) 0xFFFFFFFF = skew) :
    execBeat e s = .next (({ u with bell := { u.bell with skewMax := max skew u.bell.skewMax } }).setPeer peer
      { p with st := if p.st = 3 then 3 else 1, ports := bits 123 106 h, lastHeard := s.bell.count, incarn := bits 191 160 h, heard := true }) := by
  have hagain : (decide (p.st = 2) || (p.heard && decide (p.incarn ≠ bits 191 160 h))) = false := by
    rw [decide_eq_false halive, Bool.false_or, Bool.and_eq_false_imp]
    exact fun hheard => decide_eq_false (not_not.2 (hsame hheard))
  have hopen : (if !(t.flow e peer).open' then t.onFlow e peer (fun f => { f with cum := bits 159 128 h, open' := true }) else t) = u := by
    rw [← hu]
    cases (t.flow e peer).open' <;> rfl
  have hcapped : (if (if bits 255 192 h ≥ s.bell.count then bits 255 192 h - s.bell.count else s.bell.count - bits 255 192 h) * 1000 > 0xFFFFFFFF
      then 0xFFFFFFFF else (if bits 255 192 h ≥ s.bell.count then bits 255 192 h - s.bell.count else s.bell.count - bits 255 192 h) * 1000) = skew := by
    rw [← hskew, min_comm]
    exact (min_def_lt _ _).symm
  have hgreatest : (if skew > u.bell.skewMax then { u with bell := { u.bell with skewMax := skew } } else u)
      = { u with bell := { u.bell with skewMax := max skew u.bell.skewMax } } := by
    rw [max_comm, max_def_lt]
    split <;> rfl
  simp only [execBeat, hr, hh, hpeer, hp, ht, hagain, hopen, hcapped, hgreatest, Bool.false_eq_true, if_false]

end

/-! ## Timers -/

section
variable {s : State} {e : Fin 2} {peer : Fin 65536} {f : Flow} (hf : s.flow e peer = f)
include hf

theorem execAckTimer_acknowledges (hsince : 0 < f.sinceAck) (hdue : f.oldest + 2 ≤ s.bell.count) : execAckTimer e peer s = .next (s.sendAck e peer) := by
  simp only [execAckTimer, hf, hsince, hdue, and_self, if_true]

section
variable {x : TxFrame} (hx : f.unacked.find? (fun x => decide (x.sent + s.rto f ≤ s.bell.count)) = some x)
include hx

/-- The oldest overdue frame goes out again; its plane stays below 8 timeouts in a row (R436, R437). -/
theorem execRtoExpiry_resends {n : Nat} {t : State} (hn : Tab.get 0 f.planeTo x.plane + 1 = n) (hlt : n < 8)
    (ht : s.setFlow e peer { f with w := 8, grow := 0, backoff := f.backoff + 1, planeTo := Tab.set 0 f.planeTo x.plane n } = t) :
    execRtoExpiry e peer s = .next (t.resend e peer (frPsn x.hdr)) := by
  simp only [execRtoExpiry, State.timeoutFlow, hf, hx, hn, hlt.not_ge, ht, if_false]

/-- At 8 timeouts in a row its plane is excluded for 100 ms (R435). -/
theorem execRtoExpiry_excludes {t : State} (hge : 8 ≤ Tab.get 0 f.planeTo x.plane + 1)
    (ht : s.setFlow e peer { f with w := 8, grow := 0, backoff := f.backoff + 1, planeTo := Tab.set 0 f.planeTo x.plane 0 } = t) :
    execRtoExpiry e peer s = .next
      ((t.setPeer peer { s.peer peer with excluded := Tab.set 0 (s.peer peer).excluded x.plane (s.bell.count + 100000) }).resend e peer (frPsn x.hdr)) := by
  have hpeer : t.peer peer = s.peer peer := by rw [← ht]; rfl
  simp only [execRtoExpiry, State.timeoutFlow, hf, hx, hge, ht, hpeer, if_true]

end

theorem execNotreadyResend_resends {due : List TxFrame}
    (hdue : f.unacked.filter (fun t => decide (t.again ≠ 0 ∧ t.again - 1 ≤ s.bell.count)) = due) :
    execNotreadyResend e peer s = .next (due.foldl (fun s t => s.resend e peer (frPsn t.hdr)) s) := by
  simp only [execNotreadyResend, hf, hdue]

/-- A spent key gives way to its successor (R557). -/
theorem execKeySwitch_switches {id n : Nat} {k kn : KeyRec} {t : State} (hspent : f.spent = [id]) (hk : Tab.get KeyRec.blank s.sec.keys id = k)
    (hactive : k.st = 1) (huse : k.use = 1) (hn : s.nextKey id = some n) (hkn : Tab.get KeyRec.blank s.sec.keys n = kn)
    (ht : { s with sec := { s.sec with
        keys := Tab.set KeyRec.blank (Tab.set KeyRec.blank s.sec.keys id { k with st := 3, bell := s.bell.count }) n { kn with st := 1 } } } = t) :
    execKeySwitch e peer s = .next (t.event 0x70 6 k.part n) := by
  subst ht
  simp only [execKeySwitch, hf, hspent, List.foldl_cons, List.foldl_nil, State.switchKey, hk, hactive, huse, hn, hkn, ne_eq, not_true_eq_false, or_self,
    if_false]

end

/-! ## Silent peers, retiring keys -/

theorem execPeerLost_loses {s t : State} {peer : Fin 65536} {x : Peer} (hx : s.peer peer = x) (halive : x.st < 2)
    (hwatched : (s.beatList.contains peer.val || (s.flow 0 peer).open' || (s.flow 1 peer).open') = true)
    (hsilent : x.lastHeard + s.val 0x5030 2 20 * 1000 ≤ s.bell.count)
    (ht : (((((((s.endMessagesTo peer 3).endColls (fun c => (s.group c.group).contains peer.val) 3).settleColls.discardFlows peer).setPeer peer
      { x with st := 2 }).fbCount 6 1).event 0x40 2 peer 2).stopStarters peer) = t) (hnone : t.hostedOf peer = none) :
    execPeerLost peer s = .next t := by
  simp only [execPeerLost, hx, hwatched, halive.not_ge, hsilent.not_gt, Bool.not_true, Bool.false_eq_true, or_self, if_false]
  subst ht
  split
  · next q hq => exact absurd (hq.symm.trans hnone) (by simp)
  · rfl

theorem execKeyRetire_destroys {s : State} {id : Fin 65536} {k : KeyRec} (hk : Tab.get KeyRec.blank s.sec.keys id = k) (hretiring : k.st = 3)
    (huse : k.use = 1) (hdone : s.fabric.flows.any (fun e => e.2.unacked.any (fun t => decide (frKeyid t.hdr = id.val))) = false
      ∨ k.bell + s.val 0x5030 6 100 * 1000 ≤ s.bell.count) :
    execKeyRetire id s = .next ((s.destroyKey id).event 0x70 6 k.part id) := by
  simp only [execKeyRetire, hk]
  rw [if_pos ⟨hretiring, huse, hdone.imp_left (by simp [·])⟩]

/-- Settles O40: each operation is its lemma above. That a partner which refuses a MIRROR frame stops its starters (log 82), and what the engines do at
the code of a NACK and at a BEAT (logs 119, 121), are the model's choices. -/
theorem flowsAndPeers : Obligations.FlowsAndPeers := by
  unfold Obligations.FlowsAndPeers
  refine ⟨fun s e r h peer hh hpeer => ⟨execAck_applies hh hpeer, ?_, ?_⟩, fun s e peer f hf => ⟨execAckTimer_acknowledges hf, ?_, ?_, ?_, ?_⟩,
    fun s e => ⟨rfl, rfl⟩, ?_, ?_⟩
  · intro t hr ht
    exact ⟨execNack_resends hh hpeer hr ht, fun hown => ⟨execNack_resetting hh hpeer hr ht hown,
      fun u hu hcode => execNack_refused hh hpeer hr ht hown hcode hu⟩⟩
  · intro p t u hr hp halive hsame ht hu skew hskew
    exact execBeat_keeps hh hpeer hr hp halive hsame ht hu hskew
  · intro x n t hx hn hlt ht
    exact execRtoExpiry_resends hf hx hn hlt ht
  · intro x t hx hge ht
    exact execRtoExpiry_excludes hf hx hge ht
  · intro due
    exact execNotreadyResend_resends hf
  · intro id n k kn t hspent hk hactive huse hn hkn ht
    rw [exec_keySwitch]
    exact execKeySwitch_switches hf hspent hk hactive huse hn hkn ht
  · intro s t peer x hx halive hwatched hsilent ht hnone
    rw [exec_peerLost]
    exact execPeerLost_loses hx halive hwatched hsilent ht hnone
  · intro s id k hk hretiring huse hdone
    rw [exec_keyRetire]
    exact execKeyRetire_destroys hk hretiring huse hdone

end Sys2Proof.Laws
end

section
/-!
PROOFS. The starter stream (R451, R453, R454), takeover and redirects (R456 to R459, Table 14-9).
-/

namespace Sys2Proof.Laws
open Sys2Proof Sys2Proof.Machine

/-! ## The source -/

section
variable {s : State} {p : PartIx} {x : Starter} (hx : s.starter p = x)
include hx

/-- START with a partner, which for a sealed partition hosts the same tenant, begins a generation (R451). -/
theorem fsStart_starts {ok : Bool} (hpartner : s.val (0x5400 + p) 1 0xFFFF ≠ 0xFFFF) (hsealed : s.sealed p = true → ok = true ∧ s.sendKey (some p) ≠ 0) :
    s.fsStart p ok
      = (((s.dropStream p).setStarter p { x with st := 1, generation := x.generation + 1, placed := [], sent := [] }).copyShard p).answer 0 := by
  have hfits : ¬(s.sealed p = true ∧ ¬(ok = true ∧ s.sendKey (some p) ≠ 0)) := fun h => h.2 (hsealed h.1)
  simp only [State.fsStart, hx, hpartner, hfits, if_false]

theorem execFsStop_stops {who : Fin 16} (haccepts : Accepts s who (0x5400 + p) (s.authPlain who)) :
    execFsStop who p s = .next (((s.dropStream p).setStarter p { x with st := 0 }).answer 0) := by
  rw [execFsStop, command_accepts haccepts]
  simp only [hx]

variable {e : Fin 2} (hstreams : x.st = 1 ∨ x.st = 2)
include hstreams

/-- A CUT that is due joins the stream before the stream goes out (R453). -/
theorem execCutSend_cuts {t : State} (hbell : s.bell.count % s.val (0x5400 + p) 3 1000 = 0) (hnew : Tab.get 0 x.placed e ≠ s.bell.count + 1)
    (ht : (s.mirrorTo e ⟨7, p, 0, 0, 0, 0#16, s.bell.count, leBytes 8 s.bell.count ++ leBytes 8 x.generation ++ leBytes 16 0⟩).setStarter p
      { x with placed := Tab.set 0 x.placed e (s.bell.count + 1) } = t) :
    execCutSend e p s = .next (State.sendMirror e p (Tab.get [] t.fabric.out e).length t) := by
  have hstopped : ¬(x.st ≠ 1 ∧ x.st ≠ 2) := by omega
  simp only [execCutSend, hx, hstopped, if_false]
  rw [if_pos ⟨hbell, hnew⟩, ht]

theorem execCutSend_sends (hbell : s.bell.count % s.val (0x5400 + p) 3 1000 ≠ 0) :
    execCutSend e p s = .next (State.sendMirror e p (Tab.get [] s.fabric.out e).length s) := by
  have hstopped : ¬(x.st ≠ 1 ∧ x.st ≠ 2) := by omega
  simp only [execCutSend, hx, hstopped, hbell, false_and, if_false]

end

/-! ## The host -/

section
variable {s : State} {e : Fin 2} {r : RxFrame} {p : Nat} {h : Hosted}
  (hr : s.fabric.rxQ.find? (fun r => decide (r.port / 9 = e.val ∧ frType r.hdr = tMirror ∧ frPsn r.hdr = (s.flow e (frSrc r.hdr)).cum)) = some r)
  (hp : s.hostedOf (frSrc r.hdr) = some p)
  (hh : { s.hosted p with
    st := if (s.hosted p).st = 0 then 1 else (s.hosted p).st
    log := (s.hosted p).log ++ (parseRecords p (r.payload.length / 16) r.payload).map (fun x => (e.val, x)) } = h)
include hr hp hh

/-- Records that the starter region has room for join the log (R453). -/
theorem execMirrorFrame_logs (hused : h.used ≤ s.val (0x5410 + p) 2 0 * 1000000000) (hmapped : h.mapped ≤ s.val (0x5410 + p) 2 0 * 1000000000) :
    execMirrorFrame e s = .next (((s.setHosted p h).dropRx r).accept e (frSrc r.hdr) (frPsn r.hdr) r.ce) := by
  simp only [execMirrorFrame, hr, hp, hh, hused.not_gt, hmapped.not_gt, and_false, if_false]

/-- A frame whose MAP exceeds the starter region is refused (R455). -/
theorem execMirrorFrame_refuses (hmaps : (parseRecords p (r.payload.length / 16) r.payload).any (fun x => decide (x.kind = 3)) = true)
    (hover : s.val (0x5410 + p) 2 0 * 1000000000 < h.mapped) : execMirrorFrame e s = .next ((s.dropRx r).refuseFrame e r.hdr r.ce 2 2) := by
  have hany : ((parseRecords p (r.payload.length / 16) r.payload).map (fun x => (e.val, x))).any (fun r => decide (r.2.kind = 3)) = true := by
    rw [List.any_map]
    exact hmaps
  simp only [execMirrorFrame, hr, hp, hh, hany, gt_iff_lt, hover, and_self, if_true]

end

/-! ## Takeover -/

section
variable {s : State} {p : PartIx} {h : Hosted} (hh : s.hosted p = h)
include hh

/-- The log is applied up to the latest CUT of both engines (R453). -/
theorem execCutApply_applies {b : Nat} {x : List MirRec × List (Nat × MirRec)} (hst : h.st = 1)
    (hb : ((h.cuts 0).filter (fun b => (h.cuts 1).contains b)).getLast? = some b) (hx : splitLog b h.log [] = x) :
    execCutApply p s = .next (s.setHosted p { x.1.foldl Hosted.apply h with log := x.2, cut := b }) := by
  simp only [execCutApply, hh, hb, hx, hst, if_true]

/-- A takeover whose REDIRECTs wait sends them (R459). -/
theorem takeover_sends (hst : h.st = 2) (hopen : h.redirects ≠ []) : s.takeover p = s.sendRedirects p (s.val (0x5410 + p) 1 0xFFFF) := by
  simp only [State.takeover, hh, hst, hopen, ne_eq, not_true_eq_false, not_false_eq_true, if_false, if_true]

/-- With 8 aliases in force the takeover fails (R457). -/
theorem takeover_fails (hst : h.st = 2) (hnone : h.redirects = []) (hfull : 8 ≤ s.fabric.aliases.length) :
    s.takeover p = s.setHosted p { h with st := 4 } := by
  simp only [State.takeover, hh, hst, hnone, hfull, ne_eq, not_true_eq_false, if_false, if_true]

section
variable {who : Fin 16} (haccepts : Accepts s who (0x5410 + p) (s.authPlain who))
include haccepts

theorem execFhTakeover_begins (hst : h.st = 1) : execFhTakeover who p s = .next (((s.beginTakeover p).takeover p).answer 0) := by
  rw [execFhTakeover, command_accepts haccepts, hh, if_neg (not_not.2 hst)]

theorem execFhDiscard_forgets {t : State} (hst : h.st ≠ 2) (ht : s.setHosted p Hosted.blank = t) : execFhDiscard who p s
    = .next (({ t with fabric := { t.fabric with aliases := t.fabric.aliases.filter (fun a => decide (a.2 ≠ p.val)) } }).answer 0) := by
  subst ht
  rw [execFhDiscard, command_accepts haccepts, hh, if_neg hst]

end

/-- Once every REDIRECT is acknowledged, or FH_REDIRECT_WAIT has passed, the migrated queues are enabled (R459). -/
theorem execRedirectComplete_enables {t u : State} (hst : h.st = 2) (hopen : h.redirects ≠ [])
    (hdone : h.redirects.any (fun k => s.fabric.msgs.any (fun m => decide (m.engine = k.1 ∧ m.num = k.2 ∧ m.kind = tRedirect) && !m.complete s.mtu)) = false
      ∨ h.started + s.val (0x5410 + p) 4 500 * 1000 ≤ s.bell.count)
    (ht : { s with fabric := { s.fabric with msgs := s.fabric.msgs.filter (fun m =>
      !(decide (m.kind = tRedirect) && h.redirects.contains (m.engine, m.num))) } } = t)
    (hu : h.queues.foldl (fun s e => if (s.queue e.1).st = qMigrating then (s.setQueue e.1 { s.queue e.1 with st := qEnabled }).settleBells e.1 else s) t
      = u) :
    execRedirectComplete p s = .next ((u.setHosted p { h with st := 3, redirects := [] }).event 0x40 3 (s.val (0x5410 + p) 1 0xFFFF) 6) := by
  have hwaits : ¬(h.redirects.any (fun k => s.fabric.msgs.any (fun m => decide (m.engine = k.1 ∧ m.num = k.2 ∧ m.kind = tRedirect) && !m.complete s.mtu))
      = true ∧ s.bell.count < h.started + s.val (0x5410 + p) 4 500 * 1000) := by
    rintro ⟨hany, hlt⟩
    exact hdone.elim (fun hnone => Bool.noConfusion (hany.symm.trans hnone)) hlt.not_ge
  simp only [execRedirectComplete, hh, hst, hopen, ne_eq, not_true_eq_false, or_self, if_false]
  rw [if_neg hwaits, ht, hu]

end

theorem execRedirectFrame_redirects {s : State} {e : Fin 2} {r : RxFrame} (hr : s.firstRx e tRedirect = some r) : execRedirectFrame e s
    = .next (((s.dropRx r).accept e (frSrc r.hdr) (frPsn r.hdr) r.ce).redirect (bits 255 240 r.hdr) (bits 239 224 r.hdr)) := by
  simp only [execRedirectFrame, hr]

/-- Settles O43: each operation is its lemma above. That a MAP beyond the region is refused (log 82), and when a takeover fails or its redirects end
(log 116), are the model's choices. -/
theorem starterStream : Obligations.StarterStream := by
  unfold Obligations.StarterStream
  refine ⟨fun s who p x hx haccepts => ⟨fun ok hpartner hsealed => ?_, ?_⟩, fun s t e p x hx hstreams => ⟨fun hbell hnew ht => ?_, fun hbell => ?_⟩,
    fun s e r p h hr hp hh => ⟨fun hused hmapped => ?_, fun hmaps hover => ?_⟩, fun s p h hh => ⟨?_, fun hst hopen => ?_, fun hst hnone hfull => ?_, ?_, ?_⟩,
    fun s e r hr => ?_⟩
  · rw [exec_fsStart, execFsStart, command_accepts haccepts, fsStart_starts hx hpartner hsealed]
  · rw [exec_fsStop, execFsStop_stops hx haccepts]
  · rw [exec_cutSend, execCutSend_cuts hx hstreams hbell hnew ht]
  · rw [exec_cutSend, execCutSend_sends hx hstreams hbell]
  · rw [exec_mirrorFrame, execMirrorFrame_logs hr hp hh hused hmapped]
  · rw [exec_mirrorFrame, execMirrorFrame_refuses hr hp hh hmaps hover]
  · intro b x hst hb hx
    rw [exec_cutApply, execCutApply_applies hh hst hb hx]
  · rw [exec_takeover, execTakeover, takeover_sends hh hst hopen]
  · rw [exec_takeover, execTakeover, takeover_fails hh hst hnone hfull]
  · intro who haccepts
    refine ⟨fun hst => ?_, fun t hst ht => ?_⟩
    · rw [exec_fhTakeover, execFhTakeover_begins hh haccepts hst]
    · rw [exec_fhDiscard, execFhDiscard_forgets hh haccepts hst ht]
  · intro t u hst hopen hdone ht hu
    rw [exec_redirectComplete, execRedirectComplete_enables hh hst hopen hdone ht hu]
  · rw [exec_redirectFrame, execRedirectFrame_redirects hr]

end Sys2Proof.Laws
end

section
/-!
PROOFS. The host interface (R463, R469, R470, R474, R475, R477 to R479, R662): BAR4, the rings' pointers, MSI-X, resets and the link.
-/

namespace Sys2Proof.Laws
open Sys2Proof Sys2Proof.Machine

section
variable {s : State} (hlink : s.linkUp = true)
include hlink

/-! ## BAR4 -/

/-- A read reaches the endpoint once the link is up and D3hot is left. -/
theorem execBar4Read_up {off : Fin 67108864} {len : Fin 4097} (hlen : len.val ≠ 0) : execBar4Read off len s
    = if s.host.d3hot then .next s.hostUr else match s.bar4At off len with
      | none => .next s.hostUr
      | some a => match (s.agentRead hostAgent a len).st with
        | .ok => .next ((s.agentRead hostAgent a len).s.emit .host 0
          [if (s.agentRead hostAgent a len).poison then 1 else 0, len.val,
            leNat ((s.agentRead hostAgent a len).s.bulk 1 a (s.agentRead hostAgent a len).bytes)])
        | _ => .next s.waits := by
  simp only [execBar4Read, hlink, hlen, Bool.not_true, Bool.false_eq_true, or_self, if_false] <;> rfl

/-- So does a write. -/
theorem execBar4Write_up {off : Fin 67108864} {bytes : List Byte} {poisoned : Bool} (hbytes : bytes.isEmpty = false) : execBar4Write off bytes poisoned s
    = if s.host.d3hot then .next s.hostUr else match s.bar4At off bytes.length with
      | none => .next s.hostDrop
      | some a => match (s.agentWrite hostAgent a (s.bulk 0 a bytes) poisoned).2 with
        | .ok => .next (s.agentWrite hostAgent a (s.bulk 0 a bytes) poisoned).1
        | _ => .next s.waits := by
  simp only [execBar4Write, hlink, hbytes, Bool.not_true, Bool.false_eq_true, or_self, if_false] <;> rfl

theorem execBar4Read_unserved {off : Fin 67108864} {len : Fin 4097} (hlen : len.val ≠ 0) (ha : s.bar4At off len = none) :
    execBar4Read off len s = .next s.hostUr := by
  simp only [execBar4Read_up hlink hlen, ha, ite_self]

section
variable (hd3 : s.host.d3hot = false)
include hd3

theorem execBar4Read_served {off : Fin 67108864} {len : Fin 4097} {a : Nat} {r : URead} (hlen : len.val ≠ 0) (ha : s.bar4At off len = some a)
    (hr : s.agentRead hostAgent a len = r) (hok : r.st = .ok) :
    execBar4Read off len s = .next (r.s.emit .host 0 [if r.poison then 1 else 0, len.val, leNat (r.s.bulk 1 a r.bytes)]) := by
  simp only [execBar4Read_up hlink hlen, hd3, ha, hr, hok, Bool.false_eq_true, if_false]

theorem execBar4Write_served {off : Fin 67108864} {bytes : List Byte} {poisoned : Bool} {a : Nat} {t : State} (hbytes : bytes.isEmpty = false)
    (ha : s.bar4At off bytes.length = some a) (ht : s.agentWrite hostAgent a (s.bulk 0 a bytes) poisoned = (t, .ok)) :
    execBar4Write off bytes poisoned s = .next t := by
  simp only [execBar4Write_up hlink hbytes, hd3, ha, ht, Bool.false_eq_true, if_false]

theorem execBar4Write_unserved {off : Fin 67108864} {bytes : List Byte} {poisoned : Bool} (hbytes : bytes.isEmpty = false)
    (ha : s.bar4At off bytes.length = none) : execBar4Write off bytes poisoned s = .next s.hostDrop := by
  simp only [execBar4Write_up hlink hbytes, hd3, ha, Bool.false_eq_true, if_false]

/-! ## The rings' pointers -/

section
variable {f : Fin 4} {v : Word} {x : FnRing} (hx : s.ring f = x)
include hx

/-- A doorbell of a ring that serves moves its tail by at most the bound of 64 (R475). -/
theorem execRqTail_rings (hserves : x.st ≠ 2) (hup : (v.toNat + 2 ^ 32 - x.rqTail) % 2 ^ 32 < 2 ^ 31) : execRqTail f v s
    = if (v.toNat + 2 ^ 32 - x.rqHead) % 2 ^ 32 ≤ 64 then .next (s.setRing f { x with rqTail := v.toNat })
      else .next ((s.setRing f { x with rqTail := (x.rqHead + 64) % 2 ^ 32 }).onHost
        (fun h => { h with dropped := h.dropped + ((v.toNat + 2 ^ 32 - x.rqHead) % 2 ^ 32 - 64) })) := by
  simp only [execRqTail, hlink, hd3, hx, hserves, hup.not_ge, Bool.not_true, Bool.false_eq_true, if_false]

theorem execRsHead_reads : execRsHead f v s = .next (State.releaseHeld f x.held.length (s.setRing f { x with rsHead := v.toNat })) := by
  simp only [execRsHead, hlink, hd3, hx, Bool.not_true, Bool.false_eq_true, if_false]

end

/-- A vector asked for and not masked sends its message once HL_MSIX_MOD has passed (R477, R478). -/
theorem execMsixSend_sends {n : Fin 2048} {ns : Nat} {x : MsixVec} (hx : s.vec n = x) (hasked : x.asked = true ∨ x.pend = true)
    (hmask : x.masked = false) (hns : s.val 0x5510 1 0 ≤ ns) :
    execMsixSend n ns s = .next ((s.setVec n { x with asked := false, pend := false }).emit .host 2 [n.val, x.addr, x.data]) := by
  simp only [execMsixSend, hx, hmask, hlink, hd3, hns, hasked, Bool.not_false, and_self, if_true]

end

/-! ## D3hot -/

section
variable (hd3 : s.host.d3hot = true)
include hd3

theorem execBar4Read_d3hot {off : Fin 67108864} {len : Fin 4097} (hlen : len.val ≠ 0) : execBar4Read off len s = .next s.hostUr := by
  rw [execBar4Read_up hlink hlen, if_pos hd3]

theorem execBar4Write_d3hot {off : Fin 67108864} {bytes : List Byte} {poisoned : Bool} (hbytes : bytes.isEmpty = false) :
    execBar4Write off bytes poisoned s = .next s.hostUr := by
  rw [execBar4Write_up hlink hbytes, if_pos hd3]

theorem execRqTail_d3hot (f : Fin 4) (v : Word) : execRqTail f v s = .next s.hostUr := by
  simp only [execRqTail, hlink, hd3, Bool.not_true, Bool.false_eq_true, if_false, if_true]

theorem execRsHead_d3hot (f : Fin 4) (v : Word) : execRsHead f v s = .next s.hostUr := by
  simp only [execRsHead, hlink, hd3, Bool.not_true, Bool.false_eq_true, if_false, if_true]

end

end

/-! ## The link -/

/-- The link trains on a link that was down (R479, R662). -/
theorem execLinkUp_trains {s t t' : State} {lanes : Fin 17} {mts : Nat} (hon : s.endpointOn = true) (hlanes : lanes.val ≠ 0) (hdown : s.host.lanes = 0)
    (ht : s.onHost (fun h => { h with lanes := lanes, speed := mts, wasLost := false }) = t)
    (ht' : (if s.host.wasLost then (t.raiseEvt 1).raiseEvt 4 else t.raiseEvt 1) = t') :
    execLinkUp lanes mts s = .next (if lanes.val < 16 ∨ mts < 64000 then t'.event 0x41 1 lanes (speedCode mts) else t') := by
  have hchanged : decide (s.host.lanes ≠ lanes.val ∨ s.host.speed ≠ mts) = true := decide_eq_true (.inl (hdown ▸ hlanes.symm))
  simp only [execLinkUp, hon, hlanes, hchanged, ht, ht', Bool.not_true, Bool.false_eq_true, or_self, if_false, if_true]

/-- Settles O44: each request is its lemma above. What of BAR4 is served and what the resets leave of the rings are the model's choices (logs 129, 130). -/
theorem hostInterface : Obligations.HostInterface := by
  unfold Obligations.HostInterface
  refine ⟨fun s hlink => ⟨fun hd3 => ⟨?_, ?_, ?_, ?_, ?_⟩, fun hd3 => ⟨fun off len hlen => ?_, fun off bytes p hbytes => ?_, fun f v => ⟨?_, ?_⟩⟩, ?_, ?_, ?_⟩,
    fun s hon => ⟨?_, ?_⟩⟩
  · intro off len a r hlen
    rw [exec_bar4Read]
    exact ⟨fun ha hr hok => execBar4Read_served hlink hd3 hlen ha hr hok, fun ha => execBar4Read_unserved hlink hlen ha⟩
  · intro off bytes poisoned a t hbytes
    rw [exec_bar4Write]
    exact ⟨fun ha ht => execBar4Write_served hlink hd3 hbytes ha ht, fun ha => execBar4Write_unserved hlink hd3 hbytes ha⟩
  · intro f v x hx hserves hup
    rw [exec_rqTail, execRqTail_rings hlink hd3 hx hserves hup]
    exact ⟨fun hle => if_pos hle, fun hgt => if_neg hgt.not_ge⟩
  · intro f v x hx
    rw [exec_rsHead, execRsHead_reads hlink hd3 hx]
  · intro n ns x hx hasked hmask hns
    rw [exec_msixSend, execMsixSend_sends hlink hd3 hx hasked hmask hns]
  · rw [exec_bar4Read, execBar4Read_d3hot hlink hd3 fun h => hlen (Fin.ext h)]
  · rw [exec_bar4Write, execBar4Write_d3hot hlink hd3 (List.isEmpty_eq_false_iff.2 hbytes)]
  · rw [exec_rqTail, execRqTail_d3hot hlink hd3]
  · rw [exec_rsHead, execRsHead_d3hot hlink hd3]
  · rw [exec_flr, execFlr, if_pos hlink]
  · rw [exec_linkLoss, execLinkLoss, if_pos hlink]
  · intro b
    rw [exec_d3hotEntry, execD3hotEntry, if_pos hlink]
  · rw [exec_perstN, execPerstN, if_pos hon]
  · intro lanes mts t t' hlanes hdown ht ht'
    rw [exec_linkUp, execLinkUp_trains hon hlanes hdown ht ht']

end Sys2Proof.Laws
end

section
/-!
PROOFS. Time sources and states (R483, R484, R486 to R488, R496, R497): what a measurement, an edge, a loss and a STEP leave of the bell.
-/

namespace Sys2Proof.Laws
open Sys2Proof Sys2Proof.Machine

section
variable {s t : State} {src : Fin 20} {off : Int} {time : DWord} (hon : s.dev.st ≠ 0) (hsrc : src.val ≠ 0) (hfollowed : src.val = s.timeSource)
  (ht : s.onBell (fun b => { b with src := src }) = t)
include hon hsrc hfollowed ht

/-- A measurement of the source followed is taken (R486). -/
theorem execPtpMeasurement_taken (hacquired : s.bell.acquired = true) : execPtpMeasurement src off time s = .next (t.measured off) := by
  have hother : ¬(s.dev.st = devCold ∨ src.val = 0 ∨ src.val ≠ s.timeSource) := not_or.2 ⟨hon, not_or.2 ⟨hsrc, not_not.2 hfollowed⟩⟩
  have hkept : t.bell.acquired = true := by rw [← ht]; exact hacquired
  simp only [execPtpMeasurement, hother, ht, hkept, if_false, if_true]

/-- The first one moves the bell onto the source's time, unless it is there or past it (R487). -/
theorem execPtpMeasurement_first {u : State} (hacquired : s.bell.acquired = false) (hu : t.onBell (fun b => { b with offset := off, acquired := true }) = u) :
    execPtpMeasurement src off time s = .next ((if time.toNat - s.bell.count = 0 then u
      else (u.stepBell (time.toNat - s.bell.count)).shiftBells (time.toNat - s.bell.count)).measured off) := by
  have hother : ¬(s.dev.st = devCold ∨ src.val = 0 ∨ src.val ≠ s.timeSource) := not_or.2 ⟨hon, not_or.2 ⟨hsrc, not_not.2 hfollowed⟩⟩
  have hkept : t.bell.acquired = false := by rw [← ht]; exact hacquired
  have hcount : t.bell.count = s.bell.count := by rw [← ht]; rfl
  simp only [execPtpMeasurement, hother, ht, hkept, hu, hcount, Bool.false_eq_true, if_false]

end

section
variable {s : State} (hpps : s.ppsSource = true) (hacquired : s.bell.acquired = true)
include hpps hacquired

/-- An edge within its limit is good, and its distance is the offset unless PPS was dropped and has not come back (R484). -/
theorem execPpsEdge_good {d : Int} (hd : d.natAbs ≤ s.val 0x3001 11 500) : execPpsEdge (some d) s = .next (s.onBell (fun b => { b with
      ppsBad := 0, ppsGood := b.ppsGood + 1, ppsOff := b.ppsOff && decide (b.ppsGood + 1 < 8)
      offset := if b.ppsOff && decide (b.ppsGood + 1 < 8) then b.offset else d })) := by
  simp only [execPpsEdge, hpps, hacquired, hd, decide_true, Bool.not_true, Bool.false_eq_true, or_self, if_false, if_true, Option.getD_some]
  rfl

theorem execPpsEdge_far {d : Int} (hd : s.val 0x3001 11 500 < d.natAbs) : execPpsEdge (some d) s = .next (s.onBell (fun b => { b with
      ppsReject := b.ppsReject + 1, ppsBad := b.ppsBad + 1, ppsGood := 0, ppsOff := b.ppsOff || decide (3 ≤ b.ppsBad + 1) })) := by
  simp only [execPpsEdge, hpps, hacquired, hd.not_ge, decide_false, Bool.not_true, Bool.false_eq_true, or_self, if_false, Option.isSome_some, if_true,
    ge_iff_le]

theorem execPpsEdge_missing : execPpsEdge none s = .next (s.onBell (fun b => { b with
      ppsBad := b.ppsBad + 1, ppsGood := 0, ppsOff := b.ppsOff || decide (3 ≤ b.ppsBad + 1) })) := by
  simp only [execPpsEdge, hpps, hacquired, Bool.not_true, Bool.false_eq_true, or_self, if_false, Option.isSome_none, ge_iff_le]

end

/-- STEP by a valid offset that is not negative moves the bell forward (R488, R496, R497). -/
theorem btStep_steps {s : State} {d : Nat} (hoff : 0 ≤ s.bell.offset) (hvalid : s.bell.valid = true) (hd : (s.bell.offset / 1000).toNat = d) :
    s.btStep = (((s.startPassed d).stepBell d).stepEvents).answer 0 := by
  simp only [State.btStep, hoff.not_gt, hvalid, hd, Bool.not_true, Bool.false_eq_true, if_false]

theorem btStep_invalid {s : State} (hoff : 0 ≤ s.bell.offset) (hvalid : s.bell.valid = false) : s.btStep = s.answer 0x0402 := by
  simp only [State.btStep, hoff.not_gt, hvalid, Bool.not_false, if_false, if_true]

/-- Settles O45: each operation is its lemma above. What a first measurement moves, and that a measurement of another source is none, are the model's
choices (log 134). -/
theorem timeSources : Obligations.TimeSources := by
  unfold Obligations.TimeSources
  refine ⟨?_, fun s hpps hacquired => ⟨fun d hd => ?_, fun d hd => ?_, ?_⟩, fun s => ⟨fun hst hdue => ?_, fun hst hdue => ?_⟩,
    fun s who haccepts => ⟨fun d hoff hvalid hd => ?_, fun hoff => ?_, fun hoff hvalid => ?_⟩⟩
  · intro s t src off time hon hsrc hfollowed ht
    rw [exec_ptpMeasurement]
    refine ⟨execPtpMeasurement_taken hon hsrc hfollowed ht, fun hacquired u hu => ?_⟩
    rw [execPtpMeasurement_first hon hsrc hfollowed ht hacquired hu]
    refine ⟨fun hlt => ?_, fun hle => ?_⟩
    · rw [if_neg (Nat.sub_ne_zero_of_lt hlt)]
    · rw [if_pos (Nat.sub_eq_zero_of_le hle)]
  · rw [exec_ppsEdge, execPpsEdge_good hpps hacquired hd]
  · rw [exec_ppsEdge, execPpsEdge_far hpps hacquired hd]
  · rw [exec_ppsEdge, execPpsEdge_missing hpps hacquired]
  · rw [exec_sourceLoss, execSourceLoss, if_pos ⟨hst, hdue⟩]
  · rw [exec_holdoverExpiry, execHoldoverExpiry, if_pos ⟨hst, hdue⟩]
  · rw [exec_btStep, execBtStep, command_accepts haccepts, btStep_steps hoff hvalid hd]
  · rw [exec_btStep, execBtStep, command_accepts haccepts, State.btStep, if_pos hoff]
  · rw [exec_btStep, execBtStep, command_accepts haccepts, btStep_invalid hoff hvalid]

end Sys2Proof.Laws
end

section
/-!
PROOFS. Scheduled events (R492 to R495, R498, R576, R632), pins (R667, Table 24-6a) and neighbours (R416, R640).
-/

namespace Sys2Proof.Laws
open Sys2Proof Sys2Proof.Machine

/-! ## Commands of the event table (0x3010) -/

/-- ARM of a GPIO or RECORD event that nothing refuses takes the slot of R492 and answers its bell (R493, R632). -/
theorem seArm_arms {s : State} {who kind bell param i : Nat} (hkind : s.staged who 0x3010 1 0 = kind) (hbell : s.staged who 0x3010 2 0 = bell)
    (hparam : s.staged who 0x3010 3 0 = param) (hslot : s.freeSlot = some i) (hin : s.bellOut kind bell = false)
    (hnone : s.armRefusal kind param bell = 0)
    (hevent : (kind = evGpio ∧ param < 16 ∧ s.val 0x1200 (param % 8 + 1) 0 = 3) ∨ (kind = evRecord ∧ param < 2 ^ 32)) :
    s.seArm who
      = ((((s.setSlot i ⟨kind, esArmed, 0, param, bell, 0⟩).applied who 0x3010 seSubs).stage who 0x3010 5 1 i).setVal 0x3010 5 1 i).answerBell bell := by
  have hcode : kind = 4 ∨ kind = 5 := hevent.imp And.left And.left
  have hknown : ¬(kind = 0 ∨ kind > 5) := by omega
  have howner : ¬(kind < evGpio) := by simp only [evGpio]; omega
  have hrange : (if kind = evGpio then decide (param ≥ 16) else decide (param ≥ 2 ^ 32)) = false := by
    rcases hevent with ⟨hgpio, hlt, -⟩ | ⟨hrecord, hlt⟩
    · rw [if_pos hgpio, decide_eq_false hlt.not_ge]
    · rw [if_neg (hrecord.trans_ne (by decide)), decide_eq_false hlt.not_ge]
  have hpin : ¬(kind = evGpio ∧ s.val 0x1200 (param % 8 + 1) 0 ≠ 3) := by
    rintro ⟨hgpio, hfunc⟩
    rcases hevent with ⟨-, -, h⟩ | ⟨hrecord, -⟩
    · exact hfunc h
    · exact absurd (hgpio.symm.trans hrecord) (by decide)
  simp only [State.seArm, hkind, hbell, hparam, hknown, howner, hrange, hin, hpin, hnone, State.arm, hslot, Option.getD_some, Bool.false_eq_true, or_self,
    ne_eq, not_true_eq_false, if_false]

section
variable {s : State} {who i : Nat} {x : EvSlot} (hi : s.staged who 0x3010 5 0 = i) (hx : s.slot i = x) (hle : i ≤ 63)
include hi hx hle

theorem seCancel_cancels (hwaits : x.waiting = true) (hkind : evGpio ≤ x.kind) : s.seCancel who
    = (((s.setSlot i { x with st := esCancelled }).onBell (fun b => { b with cancelled := b.cancelled + 1 })).applied who 0x3010 seSubs).answer 0 := by
  simp only [State.seCancel, hi, hx, hle.not_gt, hwaits, hkind.not_gt, Bool.not_true, Bool.false_eq_true, or_self, if_false]

theorem seSelect_selects : s.seSelect who = ((s.select who 0x3010 6 16 x.bytes).applied who 0x3010 seSubs).answer 0 := by
  simp only [State.seSelect, hi, hx, hle.not_gt, if_false]

end

/-- Events due at a bell are handed over in the order of R494. -/
theorem execScheduledEvent_hands {s s1 : State} {peaks : List (Nat × Nat)} {due : Nat → List Nat} {a : Admit}
    (hdue : ∀ k, (List.range 64).filter (fun i => decide ((s.slot i).kind = k ∧ (s.slot i).st = esArmed ∧ (s.slot i).bell = s.bell.count)) = due k)
    (hs1 : (due evFreq).foldl State.handFreq s = s1)
    (ha : (⟨peaks, if s.power.point < s1.power.point then pointMhz s1.power.point else 1,
      if s.power.point < s1.power.point then pointMhz s.power.point else 1, []⟩ : Admit) = a) :
    execScheduledEvent peaks s = .next ((due evRecord).foldl State.handRecord ((due evActivate).foldl State.activate
      ((due evGpio).foldl State.handGpio ((due evPowerup).foldl State.tryPowerup (s1, a)).1))) := by
  simp only [execScheduledEvent, hdue, hs1, gt_iff_lt, decide_eq_true_eq, ha]

/-! ## Pins -/

/-- A function that Table 24-6a does not refuse is kept; a changed one releases the pin. -/
theorem gpFunc_keeps {s : State} {n f : Nat} (hcode : f ≤ 7) (hfree : f = 0 ∨ f = s.gpio n ∨ s.gpio n = 0) (hbell : f = 4 → s.gpioCount 4 n = 0)
    (htrigger : f = 7 → s.gpioCount 7 n < 2)
    (harmed : s.gpio n = 3 → f ≠ 3 → ∀ i, i < 64 → ¬((s.slot i).kind = evGpio ∧ (s.slot i).st = esArmed ∧ (s.slot i).param % 8 = n)) :
    s.gpFunc n f = (if f = s.gpio n then s.keepVal 0x1200 (n + 1) 1 f else (s.keepVal 0x1200 (n + 1) 1 f).onPins (fun p => { p with
      driven := Tab.set false p.driven n false, lastTrig := Tab.set 0 p.lastTrig n 0 })).answer 0 := by
  have htaken : ¬(f ≠ gpNone ∧ f ≠ s.gpio n ∧ s.gpio n ≠ gpNone) := by
    simp only [gpNone]
    omega
  have hmany : ¬((f = gpBell ∧ s.gpioCount gpBell n ≥ 1) ∨ (f = gpTrigger ∧ s.gpioCount gpTrigger n ≥ 2)) := by
    simp only [gpBell, gpTrigger]
    omega
  have hwaits : ¬(s.gpio n = gpScheduled ∧ f ≠ gpScheduled ∧ (List.range 64).any (fun i =>
      decide ((s.slot i).kind = evGpio ∧ (s.slot i).st = esArmed ∧ (s.slot i).param % 8 = n)) = true) := by
    rintro ⟨hscheduled, hother, hany⟩
    obtain ⟨i, hi, h⟩ := List.any_eq_true.1 hany
    exact harmed hscheduled hother i (List.mem_range.1 hi) (of_decide_eq_true h)
  simp only [State.gpFunc, hcode.not_gt, htaken, hmany, hwaits, if_false]

theorem gpPeriod_keeps {s : State} {v : Nat} (hmin : 2 ≤ v) (hmax : v ≤ 100000000) (hnone : ∀ i, i < 8 → s.gpio i ≠ 4) :
    s.gpPeriod v = (s.keepVal 0x1200 9 4 v).answer 0 := by
  have hidle : (List.range 8).any (fun i => decide (s.gpio i = gpBell)) = false :=
    List.any_eq_false.2 fun i hi => decide_eq_true_iff.not.2 (hnone i (List.mem_range.1 hi))
  simp only [State.gpPeriod, hmin.not_gt, hmax.not_gt, hidle, Bool.false_eq_true, or_self, if_false]

section
variable {s : State} {pin : Fin 8} (hon : s.pinsOff = false)
include hon

/-- An edge that comes late enough after the last one writes a marker (R667). -/
theorem execTriggerIn_marks (hfunc : s.gpio pin = 7) (hlate : Tab.get 0 s.pins.lastTrig pin = 0 ∨ Tab.get 0 s.pins.lastTrig pin + 999 ≤ s.bell.count) :
    execTriggerIn pin s = .next ((s.onPins (fun p => { p with
      triggers := p.triggers + 1, lastTrig := Tab.set 0 p.lastTrig pin (s.bell.count + 1) })).event 1 3 (0xFFFFFF00 + pin) 0) := by
  have hignored : ¬(s.pinsOff = true ∨ s.gpio pin ≠ gpTrigger
      ∨ Tab.get 0 s.pins.lastTrig pin ≠ 0 ∧ s.bell.count < Tab.get 0 s.pins.lastTrig pin - 1 + 1000) := by
    simp only [hon, hfunc, gpTrigger, Bool.false_eq_true, false_or, ne_eq, not_true_eq_false]
    omega
  simp only [execTriggerIn, hignored, if_false]

theorem execBellOut_drives (hfunc : s.gpio pin = 4) : execBellOut pin s = .next (s.onPins (fun p => { p with
      driven := Tab.set false p.driven pin (decide (s.bell.count % s.val 0x1200 9 1000000 < s.val 0x1200 9 1000000 / 2)) })) := by
  simp only [execBellOut, hon, hfunc, gpBell, Bool.false_eq_true, ne_eq, not_true_eq_false, or_self, if_false]

end

/-! ## Neighbours -/

/-- The next hop's advertisement on a port in service is kept (R416). -/
theorem execNeighborAdvertisement_keeps {s : State} {i : Fin 18} (mac : BitVec 48) (hport : s.inService ukPort i = true) :
    execNeighborAdvertisement ⟨i, by omega⟩ (linkLocal (s.val 0x5022 (i + 1) 0)) mac s = .next (s.setPort i { s.port i with hop := some mac.toNat }) := by
  simp only [execNeighborAdvertisement, i.isLt, hport, decide_true, Bool.and_self, if_true]

section
variable {s : State} {pcie : Bool} (hon : s.mctpOn pcie = true)
include hon

theorem execMctpControl_discovers : execMctpControl pcie none s = .next (s.emit (if pcie then .host else .mgmt) 0x200 [s.eidOn pcie]) := by
  simp only [execMctpControl, hon, Bool.not_true, Bool.false_eq_true, if_false]

/-- An assignment takes effect without a static identifier (R640). -/
theorem execMctpControl_assigns {e : Fin 256} {t : State} (hdynamic : s.val 0x1010 10 0 = 0) (hmin : 8 ≤ e.val) (hmax : e.val ≤ 254)
    (ht : s.onPins (fun p => if pcie then { p with eidPcie := e } else { p with eidI3c := e }) = t) :
    execMctpControl pcie (some e) s = .next (t.emit (if pcie then .host else .mgmt) 0x200 [t.eidOn pcie]) := by
  subst ht
  simp only [execMctpControl, hon, hdynamic, hmin, hmax, Bool.not_true, Bool.false_eq_true, and_self, if_false, if_true]

end

/-- Settles O46: each operation is its lemma above. -/
theorem scheduledEvents : Obligations.ScheduledEvents := by
  unfold Obligations.ScheduledEvents
  refine ⟨fun s who haccepts => ⟨?_, fun i x hi hx hle => ⟨fun hwaits hkind => ?_, ?_⟩⟩, ?_, fun s who pin f haccepts => ⟨?_, fun v hmin hmax hnone => ?_⟩,
    fun s pin hon => ⟨fun hfunc hlate => ?_, fun hfunc => ?_⟩, fun s i target howns => ?_, fun s i mac hport => ⟨?_, fun src body => ?_⟩,
    fun s pcie hon => ⟨?_, fun e t hdynamic hmin hmax ht => ?_⟩⟩
  · intro kind bell param i hkind hbell hparam hslot hin hnone hevent
    rw [exec_seArm, execSeArm, command_accepts haccepts, seArm_arms hkind hbell hparam hslot hin hnone hevent]
  · rw [exec_seCancel, execSeCancel, command_accepts haccepts, seCancel_cancels hi hx hle hwaits hkind]
  · rw [exec_seSelect, execSeSelect, command_accepts haccepts, seSelect_selects hi hx hle]
  · intro s s1 peaks due a hdue hs1 ha
    rw [exec_scheduledEvent, execScheduledEvent_hands hdue hs1 ha]
  · intro hcode hfree hbell htrigger harmed
    rw [exec_gpFunc, execGpFunc, command_accepts haccepts, gpFunc_keeps hcode hfree hbell htrigger harmed]
  · rw [exec_gpPeriod, execGpPeriod, command_accepts haccepts, gpPeriod_keeps hmin hmax hnone]
  · rw [exec_triggerIn, execTriggerIn_marks hon hfunc hlate]
  · rw [exec_bellOut, execBellOut_drives hon hfunc]
  · rw [exec_neighborSolicitation, execNeighborSolicitation, if_pos howns]
  · rw [exec_neighborAdvertisement, execNeighborAdvertisement_keeps mac hport]
  · rw [exec_echoRequest, execEchoRequest, if_pos hport]
  · rw [exec_mctpControl, execMctpControl_discovers hon]
  · rw [exec_mctpControl, execMctpControl_assigns hon hdynamic hmin hmax ht]

end Sys2Proof.Laws
end

section
/-!
PROOFS. A step (R481, R485): the command at the front of the queue, or the passing of one bell.
-/

namespace Sys2Proof.Laws
open Sys2Proof Sys2Proof.Machine

theorem step_cons {s : State} {c : Instr} {rest : List Instr} (h : s.pending = c :: rest) : step s = exec c { s with pending := rest } := by
  rw [step, h]

theorem step_nil {s : State} (h : s.pending = []) : step s = .next s.idle := by
  rw [step, h]

/-- Without clocks nothing passes (R481). -/
theorem idle_of_stopped {s : State} (h : s.dev.st = 0 ∨ (s.dev.st = 1 ∧ s.dev.bootStep = 1)) : s.idle = s := if_pos h

/-- With clocks the bell counts, and what passing time renews lies in the bell, the latencies of HBM and the operating time. -/
theorem idle_of_running {s : State} (h : ¬(s.dev.st = 0 ∨ (s.dev.st = 1 ∧ s.dev.bootStep = 1))) : ∃ hbm recorder,
    s.idle = { s with bell := { s.bell with count := (s.bell.count + 1) % 2 ^ 64 }, hbm := hbm, recorder := recorder } := by
  rw [State.idle, if_neg h]
  dsimp only
  split <;> split <;> exact ⟨_, _, rfl⟩

/-- Settles O1: an empty queue lets one bell pass, the model's choice (log 2). -/
theorem stepRunsFront : Obligations.StepRunsFront := by
  unfold Obligations.StepRunsFront
  refine ⟨fun s c rest => step_cons, fun s h => ⟨s.idle, step_nil h, ?_⟩⟩
  by_cases hstopped : s.dev.st = 0 ∨ (s.dev.st = 1 ∧ s.dev.bootStep = 1)
  · rw [idle_of_stopped hstopped]
    exact ⟨h, rfl, rfl, rfl, rfl, fun _ => rfl, fun hcold hfirst => absurd hstopped (not_or.2 ⟨hcold, hfirst⟩)⟩
  · obtain ⟨hbm, recorder, hidle⟩ := idle_of_running hstopped
    rw [hidle]
    exact ⟨h, rfl, rfl, rfl, rfl, fun hst => absurd hst hstopped, fun _ _ => rfl⟩

end Sys2Proof.Laws
end

section
/-!
PROOFS. Power (R501, R503, R504, R506, R510 to R512, R514, R519, R521, R522, R632): the sample, failing regulators, droop, operating points.
-/

namespace Sys2Proof.Laws
open Sys2Proof Sys2Proof.Machine

/-- A device that is neither cold nor latched. -/
theorem not_cold_or_latched {s : State} (hcold : s.dev.st ≠ 0) (hlatched : s.dev.st ≠ 5) : ¬(s.dev.st = devCold ∨ s.dev.st = devLatched) :=
  not_or.2 ⟨hcold, hlatched⟩

section
variable {s : State} (hcold : s.dev.st ≠ 0) (hlatched : s.dev.st ≠ 5)
include hcold hlatched

/-! ## The sample -/

section
variable {vin watts : Nat} {ovr : Word} {t : State} (ht : s.onPower (fun p => { p with
    vin := vin, vinBad := if vin < 1710 ∨ 1890 < vin then p.vinBad + 1 else 0 }.cause 10 (decide (vin < 1746 ∨ 1854 < vin))) = t)
include ht

/-- A second sample outside the limits latches the device (R501). -/
theorem execPowerSample_latches (hout : vin < 1710 ∨ 1890 < vin) (hbad : 1 ≤ s.power.vinBad) :
    execPowerSample vin watts ovr s = .next ((t.event 0x20 (6 * 256 + t.power.level) t.causes vin).latchOff false) := by
  have hsecond : s.power.vinBad + 1 ≥ 2 := by omega
  subst ht
  simp only [execPowerSample, not_cold_or_latched hcold hlatched, gt_iff_lt, hout, decide_true, if_false, if_true, hsecond]
  rfl

/-- A sample in its window runs the capper and sets the level-2 causes (R503, R514). -/
theorem execPowerSample_caps {u : State} (hmin : 1746 ≤ vin) (hmax : vin ≤ 1854)
    (hu : ((t.capper watts).onPower (fun p => { p with domCut := (List.range 32).foldl (fun c k =>
      if ovr.getLsbD k then Tab.modify 0 c k (fun v => if v < 64 then v + 1 else 64) else c) p.domCut }.cause 9
        (Nat.testBit p.causes 9 && decide (ovr ≠ 0#32)))).settleLevel = u) :
    execPowerSample vin watts ovr s = .next u.sampleBoundary := by
  have hin : ¬(vin < 1710 ∨ 1890 < vin) := by omega
  have hquiet : ¬(vin < 1746 ∨ 1854 < vin) := by omega
  have hfew : ¬(0 ≥ 2) := by omega
  simp only [hin, hquiet, decide_false, if_false] at ht
  simp only [execPowerSample, not_cold_or_latched hcold hlatched, gt_iff_lt, hin, hquiet, decide_false, Bool.false_eq_true, Bool.false_and, if_false,
    ht, hfew, hu]

end

/-! ## Regulators and droop -/

/-- A failed regulator of a compute cluster is recorded once; weak sites may go dark (R505, R506). -/
theorem execRegulatorFail_cluster {r : Fin 352} (hr : r.val < 288) (hnew : s.power.failed.contains r.val = false) : execRegulatorFail r s
    = .next (State.darken (r.val / 9) 9 ((s.onPower (fun p => { p with failed := p.failed ++ [r.val] })).event 0x20 (512 + s.power.level) r 0)).settleUnits := by
  simp only [execRegulatorFail, not_cold_or_latched hcold hlatched, hr, hnew, Bool.false_eq_true, if_false, if_true]

/-- A failed regulator of a market group lowers the group's cap; the fourth makes a serving device SAFE (R507). -/
theorem execRegulatorFail_market {r : Fin 352} {g old m n : Nat} {t u : State} (hr : 288 ≤ r.val) (hg : (r.val - 288) / 4 = g)
    (hold : Tab.get 0 s.power.mktFailed g = old) (hnew : Nat.testBit old (r.val % 4) = false) (hm : old + 2 ^ (r.val % 4) = m) (hn : maskOnes m = n)
    (ht : (s.onPower (fun p => { p with mktFailed := Tab.set 0 p.mktFailed g m })).event 0x20 (512 + s.power.level) r 0 = t)
    (hu : { t with market := { t.market with
      stallCap := (List.range 18).foldl (fun c i => Tab.set 0 c (18 * g + i) (groupCap n)) t.market.stallCap } } = u) :
    execRegulatorFail r s = .next (if n = 4 ∧ u.serving = true then u.enterSafe 2 else u.settleUnits) := by
  subst hu
  have hif {a b : State} {p q : Prop} [Decidable p] [Decidable q] : (if p then if q then a else b else b) = if p ∧ q then a else b :=
    (ite_and p q a b).symm
  simp only [execRegulatorFail, not_cold_or_latched hcold hlatched, hr.not_gt, hg, hold, hnew, hm, hn, ht, Bool.false_eq_true, if_false, hif]

theorem execDroop_stretches {k : ClusterIx} {second : Bool} {mv : Fin 65536} {now new old : Nat} (hnow : Tab.get 0 s.power.stretch k = now)
    (hnew : (if second ∨ now = 2 then 2 else 1) = new) (hold : Tab.get 0 s.power.drMin k = old) : execDroop k second mv s = .next (s.onPower (fun p => { p with
        stretch := Tab.set 0 p.stretch k new
        stretch1 := if new = 1 ∧ now = 0 then p.stretch1 + 1 else p.stretch1
        stretch2 := if new = 2 ∧ now ≠ 2 then p.stretch2 + 1 else p.stretch2
        drMin := if old = 0 ∨ mv.val < old / 2 ^ 48 then Tab.set 0 p.drMin k (mv.val * 2 ^ 48 + s.bell.count % 2 ^ 48) else p.drMin })) := by
  have hstage : (if second = true then 2 else if now = 2 then 2 else 1) = new := by
    rw [← hnew]
    cases second <;> simp
  simp only [execDroop, not_cold_or_latched hcold hlatched, hnow, hstage, hold, if_false]

end

/-! ## Operating points -/

/-- SCHEDULE of a point that the device can run, in a group that knows the time, arms the change (R519, R632). -/
theorem fgSchedule_arms {s : State} {who point bell : Nat} (hpoint : s.staged who 0x2101 2 48 = point) (hbell : s.staged who 0x2101 3 0 = bell)
    (hmax : point ≤ s.pmax) (hin : s.bellOut evFreq bell = false) (hgroup : s.group1 ≠ 0) (hset : s.bell.st ≠ tsUnset)
    (hfree : s.evConflict evFreq (s.group1 * 256 + point) bell = false) :
    s.fgSchedule who = ((s.arm evFreq 1 (s.group1 * 256 + point) bell).applied who 0x2101 [(2, 1, 48), (3, 8, 0)]).answerBell bell := by
  simp only [State.fgSchedule, hpoint, hbell, hmax.not_gt, hin, hgroup, hset, hfree, Bool.false_eq_true, or_self, if_false]

/-- At the end of a window its demand is set, and outside a group a change of the point is armed (R521). -/
theorem execPhaseEval_demands {s t : State} {top d : Nat} (hserving : s.serving = true)
    (htop : (if s.power.ranTask then (List.range 16).foldl (fun m i =>
        if s.power.phases.getLsbD i && decide (m < s.val 0x2110 (i + 1) 48) then s.val 0x2110 (i + 1) 48 else m) 0
      else s.val 0x2110 1 48) = top) (hd : min top s.pmax = d)
    (ht : s.onPower (fun p => { p with demand := d, phases := s.phasesNow, ranTask := decide (s.phasesNow ≠ 0#16) }) = t) :
    execPhaseEval s = .next (if t.group1 = 0 ∧ d ≠ s.power.point
        ∧ (List.range 64).all (fun i => !decide ((s.slot i).kind = evFreq ∧ (s.slot i).st = esArmed)) = true ∧ t.armRefusal evFreq d (s.bell.count + 200) = 0
      then t.arm evFreq 1 d (s.bell.count + 200) else t) := by
  have hcapped : (if s.pmax < top then s.pmax else top) = d := by rw [← hd, min_comm]; exact (min_def_lt _ _).symm
  simp only [execPhaseEval, hserving, gt_iff_lt, htop, hcapped, ht, Bool.not_true, Bool.false_eq_true, if_false]
  simp only [List.not_any_eq_all_not, Bool.and_eq_true, decide_eq_true_eq, and_assoc]

/-- Settles O47: each operation is its lemma above. What a sample records and when a level falls are the model's choices (logs 140, 141). -/
theorem powerCommands : Obligations.PowerCommands := by
  unfold Obligations.PowerCommands
  refine ⟨fun s hcold hlatched => ⟨?_, fun k => ?_, fun r => ⟨fun hr hnew => ?_, ?_⟩, ?_⟩, fun s k => rfl, fun s hlevel hwant hlast => ?_,
    fun s who => ⟨fun haccepts => ?_, ?_⟩, ?_, fun s low hserving hdue => ?_, fun s peaks => rfl⟩
  · intro vin watts ovr t u ht
    rw [exec_powerSample]
    exact ⟨fun hout hbad => execPowerSample_latches hcold hlatched ht hout hbad,
      fun hin hu => execPowerSample_caps hcold hlatched ht hin.1 hin.2 hu⟩
  · rw [exec_clusterOvercurrent, execClusterOvercurrent, if_neg (not_cold_or_latched hcold hlatched)]
  · rw [exec_regulatorFail, execRegulatorFail_cluster hcold hlatched hr hnew]
  · intro g old m n t hr hg hold hnew hm hn ht u hu
    rw [exec_regulatorFail, execRegulatorFail_market hcold hlatched hr hg hold hnew hm hn ht hu]
  · intro k second mv now new old hnow hnew hold
    rw [exec_droop, execDroop_stretches hcold hlatched hnow hnew hold]
  · rw [exec_level2Release, execLevel2Release]
    exact congrArg Host.Outcome.next (if_pos ⟨hlevel, hwant, hlast⟩)
  · rw [exec_drClear, execDrClear, command_accepts haccepts]
  · intro point bell hpoint hbell haccepts hmax hin hgroup hset hfree
    rw [exec_fgSchedule, execFgSchedule, command_accepts haccepts, fgSchedule_arms hpoint hbell hmax hin hgroup hset hfree]
  · intro s t top d hserving htop hd ht
    rw [exec_phaseEval, execPhaseEval_demands hserving htop hd ht]
  · rw [exec_ageingTrim, execAgeingTrim, hserving]
    exact if_neg (by simpa using hdue)

end Sys2Proof.Laws
end

section
/-!
PROOFS. Temperatures and telemetry (R531 to R533, R535, R536, R538, R539, R541).
-/

namespace Sys2Proof.Laws
open Sys2Proof Sys2Proof.Machine

section
variable {s : State} (hcold : s.dev.st ≠ 0) (hlatched : s.dev.st ≠ 5)
include hcold hlatched

/-- A sample runs the checks, the limits, the emergency count, the peaks, the bands and the profiles in that order. -/
theorem execThermalSample_runs {readings : List (Nat × Int)} {rise : List (Nat × Nat)} {s1 s2 s3 s4 s5 s6 s7 : State}
    (hs1 : s.onThermal (fun t => { t with
        sensors := readings.foldl (fun q r => Tab.set Sensor.blank q r.1 { Tab.get Sensor.blank q r.1 with last := r.2 }) t.sensors
        rise := rise.foldl (fun q r => Tab.set 0 q r.1 r.2) t.rise }) = s1)
    (hs2 : ((List.range 32).map clusterStallSensors).foldl (State.checkMedian 5) s1 = s2) (hs3 : (List.range 288).foldl State.checkSite s2 = s3)
    (hs4 : sensorGroups.foldl (State.checkMedian 1) s3 = s4) (hs5 : (List.range 288).foldl State.limitSite s4 = s5)
    (hs6 : (List.range 1040).foldl State.countHot s5 = s6) (hs7 : (s6.thermalPeaks.setBands).onPower (fun p => p.cause 11 s6.thermalEmergency) = s7) :
    execThermalSample readings rise s = .next ((List.range 4).foldl State.gather s7).settleLevel.settleUnits := by
  have hserves : ¬(s.dev.st = devCold ∨ s.dev.st = devLatched) := not_or.2 ⟨hcold, hlatched⟩
  simp only [execThermalSample, hserves, hs1, hs2, hs3, hs4, hs5, hs6, hs7, if_false]

/-- A cycle counts where the mean has fallen 40 °C below its peak after rising 40 °C (R539). -/
theorem execThermalCycleSample_follows {t peak trough : Int} {armed : Bool} {u : State} (hpeak : max s.thermal.cyclePeak t = peak)
    (htrough : min s.thermal.trough t = trough) (harmed : (s.thermal.armed || decide (trough + 160 ≤ t)) = armed)
    (hu : s.onThermal (fun x => { x with
      cycles := x.cycles + 1, swingMax := max ((peak - trough) / 4).toNat x.swingMax, armed := false, cyclePeak := t, trough := t }) = u) :
    execThermalCycleSample t s = if armed = true ∧ t ≤ peak - 160 then
        .next (if s.thermal.cycles + 1 = 40000 ∨ s.thermal.cycles + 1 = 50000 then u.event 0x21 3 (s.thermal.cycles + 1) 0 else u)
      else .next (s.onThermal (fun x => { x with armed := armed, cyclePeak := peak, trough := trough })) := by
  subst hu
  have hserves : ¬(s.dev.st = devCold ∨ s.dev.st = devLatched) := not_or.2 ⟨hcold, hlatched⟩
  have hhigh : (if t > s.thermal.cyclePeak then t else s.thermal.cyclePeak) = peak := by rw [← hpeak, max_def_lt]
  have hlow : (if t < s.thermal.trough then t else s.thermal.trough) = trough := by rw [← htrough, min_comm, min_def_lt]
  have hswing (n m : Nat) : (if n > m then n else m) = max n m := by rw [max_comm, max_def_lt]
  simp only [execThermalCycleSample, hserves, hhigh, hlow, ge_iff_le, harmed, hswing, if_false]
  rfl

/-- Two readings at or above 115 °C of a healthy sensor trip the device, from step 2 of a boot on (R538). -/
theorem execThermalTrip_trips {n : Fin 1040} {a b : Int} (hboot : s.dev.st = 1 → 2 ≤ s.dev.bootStep) (hhealthy : (s.sensor n).failed = false)
    (ha : 460 ≤ a) (hb : 460 ≤ b) : execThermalTrip n a b s = .next ((s.event 0x21 2 n (int16 a + 65536 * int16 b)).latchOff true) := by
  have hserves : ¬(s.dev.st = devCold ∨ s.dev.st = devLatched) := not_or.2 ⟨hcold, hlatched⟩
  have hearly : ¬(s.dev.st = devBooting ∧ s.dev.bootStep < 2) := fun h => (hboot h.1).not_gt h.2
  simp only [execThermalTrip, hserves, hearly, hhealthy, ha, hb, decide_false, Bool.not_false, Bool.and_self, and_self, if_true]

end

/-- ENABLE of a set with a period in its range starts the profile (R541). -/
theorem tpEnable_enables {s : State} {who i j set period : Nat} (hj : 0x2340 + i = j) (hset : s.staged who j 1 0 = set)
    (hperiod : s.staged who j 2 1000 = period) (hmin : 20 ≤ period) (hmax : period ≤ 1000000) (hsome : set ≠ 0) (hstep : period % 20 = 0) :
    s.tpEnable who i = ((s.setProfile i { s.profile i with on := true, sensors := set, period := period, start := s.bell.count, acc := [] }).applied who j
      [(1, 130, 0), (2, 4, 1000)]).answer 0 := by
  simp only [State.tpEnable, hj, hset, hperiod, hmin.not_gt, hmax.not_gt, hsome, hstep, ne_eq, not_true_eq_false, or_self, if_false]

/-- Settles O48: each operation is its lemma above. -/
theorem thermalCommands : Obligations.ThermalCommands := by
  unfold Obligations.ThermalCommands
  refine ⟨fun s hcold hlatched => ⟨?_, ?_, ?_⟩, fun s who i j set period hj haccepts hset hperiod => ⟨fun hmin hmax hsome hstep => ?_, ?_⟩,
    fun s i p hp hon hdue => ?_⟩
  · intro readings rise s1 s2 s3 s4 s5 s6 s7 hs1 hs2 hs3 hs4 hs5 hs6 hs7
    rw [exec_thermalSample, execThermalSample_runs hcold hlatched hs1 hs2 hs3 hs4 hs5 hs6 hs7]
  · intro t peak trough armed hpeak htrough harmed
    rw [exec_thermalCycleSample]
    refine ⟨fun hstays => ?_, fun u hup hdown hu => ?_⟩
    · rw [execThermalCycleSample_follows hcold hlatched hpeak htrough harmed rfl, if_neg]
      rintro ⟨hup, hdown⟩
      exact hstays.elim (fun h => Bool.noConfusion (hup.symm.trans h)) hdown.not_gt
    · rw [execThermalCycleSample_follows hcold hlatched hpeak htrough harmed hu, if_pos ⟨hup, hdown⟩]
  · intro n a b t hboot hhealthy ha hb ht
    rw [exec_thermalTrip, execThermalTrip_trips hcold hlatched hboot hhealthy ha hb, ht]
  · subst hj
    rw [exec_tpEnable, execTpEnable, command_accepts haccepts, tpEnable_enables rfl hset hperiod hmin hmax hsome hstep]
  · subst hj
    rw [exec_tpDisable, execTpDisable, command_accepts haccepts]
    rfl
  · rw [exec_telemetryPeriod, execTelemetryPeriod, hp, if_pos ⟨hon, hdue⟩]

end Sys2Proof.Laws
end

section
/-!
PROOFS. SPDM messages and sessions (R547, R549 to R551): what a request in its place is answered.
-/

namespace Sys2Proof.Laws
open Sys2Proof Sys2Proof.Machine

/-- A request that is in its place is answered. -/
theorem spdmAfter_runs {s : State} (hon : s.spdmOn = true) {ok : Bool} (hok : ok = true) (k : State → State) : s.spdmAfter ok k = k s := by
  simp only [State.spdmAfter, hon, hok, Bool.not_true, Bool.false_eq_true, if_false]

/-- A request out of its place gets an ERROR. -/
theorem spdmAfter_unexpected {s : State} (hon : s.spdmOn = true) {ok : Bool} (hok : ok = false) (k : State → State) :
    s.spdmAfter ok k = s.spdmError 4 := by
  simp only [State.spdmAfter, hon, hok, Bool.not_true, Bool.not_false, Bool.false_eq_true, if_false, if_true]

/-- A message that authenticates in an open session runs with the session heard. -/
theorem inSession_runs {s : State} {n : Nat} {x : Session} (hon : s.spdmOn = true) (hx : s.session n = x) (hused : x.used = true)
    (hlive : s.lapsed n = false) (hfinished : x.finished = true) (k : Session → State → State) :
    s.inSession n true k = k { x with bell := s.bell.count } s := by
  simp only [State.inSession, hon, hx, hused, hlive, hfinished, Bool.not_true, Bool.false_eq_true, or_self, if_false]

/-- One that does not authenticate counts against it. -/
theorem inSession_failed {s : State} {n : Nat} {x : Session} (hon : s.spdmOn = true) (hx : s.session n = x) (hused : x.used = true)
    (hlive : s.lapsed n = false) (hfinished : x.finished = true) (k : Session → State → State) : s.inSession n false k = s.sessionFailed n := by
  simp only [State.inSession, hon, hx, hused, hlive, hfinished, Bool.not_true, Bool.not_false, Bool.false_eq_true, or_self, if_false, if_true]

section
variable {s : State} {peer : Fin 65536} (hon : s.spdmOn = true)
include hon

/-! ## Requests after the negotiation -/

section
variable (halgs : (s.spdmPeer peer).algs = true)
include halgs

theorem execGetCertificate_portion {o n : Fin 65536} {part : List Byte} (ho : o.val < s.chain.length) (hpart : (s.chain.drop o).take n = part) :
    execGetCertificate peer 0 o n s = .next (s.spdm 0x02 [0, part.length, s.chain.length - o - part.length, leNat part]) := by
  simp only [execGetCertificate, spdmAfter_runs hon halgs, ho.not_ge, hpart, Fin.val_zero, ne_eq, not_true_eq_false, or_self, if_false]

theorem execGetMeasurements_block {i : Fin 256} {d : Nat} (hfirst : i ≠ 0) (hall : i ≠ 255) (hd : s.measure i = some d) :
    execGetMeasurements peer i s = .next (s.spdm 0x60 [i.val, d]) := by
  have hfirst' : i.val ≠ 0 := fun h => hfirst (Fin.ext h)
  have hall' : i.val ≠ 255 := fun h => hall (Fin.ext h)
  simp only [execGetMeasurements, spdmAfter_runs hon halgs, hfirst', hall', hd, if_false]

/-- KEY_EXCHANGE opens the lowest free session (R549). -/
theorem execKeyExchange_opens {t : State} {n : Nat} (ht : s.endLapsed = t) (hn : (List.range 8).find? (fun n => !(t.session n).used) = some n) :
    execKeyExchange peer 0 s
      = .next ((t.fresh.1.setSession n { Session.blank with used := true, bell := t.fresh.1.bell.count }).spdm 0x64 [n, 10, 1, t.fresh.2]) := by
  simp only [execKeyExchange, spdmAfter_runs hon halgs, ht, hn, Fin.val_zero, ne_eq, not_true_eq_false, if_false]
  rfl

end

/-! ## FINISH -/

section
variable {n : Fin 8} {x : Session} (hx : s.session n = x) (hused : x.used = true) (hlive : s.lapsed n = false) (hopen : x.finished = false)
include hx hused hlive hopen

theorem execFinish_runs {leaf root : Nat} {ok : Bool} : execFinish n leaf root ok s
    = .next (if !ok then ((s.authFailed (3 * 2 ^ 32 + n) 0).endSession n).spdmError 6
      else (s.setSession n { x with
        finished := true, role := (s.roleOf leaf root).1, part := (s.roleOf leaf root).2, leaf := leaf, bell := s.bell.count }).spdm 0x65 [n.val]) := by
  have hwaits : (x.used && !x.finished && !s.lapsed n) = true := by rw [hused, hlive, hopen]; rfl
  simp only [execFinish, hx, spdmAfter_runs hon hwaits]

end

end

/-- Settles O49: each request is its lemma above. The codes and the lapse of a silent session come from DSP0274 (log 149); that a FINISH which fails ends
its session is the model's choice (log 152). -/
theorem spdmExchanges : Obligations.SpdmExchanges := by
  unfold Obligations.SpdmExchanges
  refine ⟨fun s peer hon => ⟨?_, fun hversion => ?_, fun hcaps => ⟨?_, ?_⟩, fun halgs => ⟨?_, fun o n part ho hpart => ?_, ?_, ?_, fun i d h0 h255 hd => ?_,
    fun t n ht hn => ?_⟩, fun halgs => ⟨?_, fun slot => ?_⟩⟩, fun s n x hon hx hused hlive => ⟨fun hopen => ⟨?_, fun leaf root => ?_⟩, fun hfinished =>
    ⟨?_, ?_, ?_, ?_⟩⟩⟩
  · rw [exec_getVersion, execGetVersion, spdmAfter_runs hon rfl]
  · rw [exec_getCapabilities, execGetCapabilities, spdmAfter_runs hon hversion]
  · rw [exec_negotiateAlgorithms, execNegotiateAlgorithms, spdmAfter_runs hon hcaps, if_pos rfl]
  · rw [exec_negotiateAlgorithms, execNegotiateAlgorithms, spdmAfter_runs hon hcaps, if_neg Bool.false_ne_true]
  · rw [exec_getDigests, execGetDigests, spdmAfter_runs hon halgs]
  · rw [exec_getCertificate, execGetCertificate_portion hon halgs ho hpart]
  · rw [exec_challenge, execChallenge, spdmAfter_runs hon halgs]
    rfl
  · rw [exec_getMeasurements, execGetMeasurements, spdmAfter_runs hon halgs]
    rfl
  · rw [exec_getMeasurements, execGetMeasurements_block hon halgs h0 h255 hd]
  · rw [exec_keyExchange, execKeyExchange_opens hon halgs ht hn]
  · rw [exec_getDigests, execGetDigests, spdmAfter_unexpected hon halgs]
  · rw [exec_keyExchange, execKeyExchange, spdmAfter_unexpected hon halgs]
  · rintro leaf root _ rfl
    rw [exec_finish, execFinish_runs hon hx hused hlive hopen]
    rfl
  · rw [exec_finish, execFinish_runs hon hx hused hlive hopen]
    rfl
  · rw [exec_heartbeat, execHeartbeat, inSession_runs hon hx hused hlive hfinished]
  · rw [exec_keyUpdate, execKeyUpdate, inSession_runs hon hx hused hlive hfinished]
  · rw [exec_endSession, execEndSession, inSession_runs hon hx hused hlive hfinished]
  · rw [exec_heartbeat, execHeartbeat, inSession_failed hon hx hused hlive hfinished]

end Sys2Proof.Laws
end

section
/-!
PROOFS. Sealing, keys, anti-rollback, debug, roots (R548, R552, R554 to R557, R565, R566, R633, Table 19-7).
-/

namespace Sys2Proof.Laws
open Sys2Proof Sys2Proof.Machine

/-! ## Sealing -/

/-- SEAL of an OPEN, empty partition clears its storage, draws its key and gives the session the tenant's role (R554, R555). -/
theorem psSeal_seals {s s1 s2 s3 : State} {who p n : Nat} {x : Seal} (hx : s.seal p = x) (hn : (s.requester who).source = n) (hopen : x.st = 0)
    (hempty : s.partEmpty p = true) (hdebug : s.sec.dbgLevel ≠ 2) (hcrypto : s.sec.pcieCryptoBad = false)
    (hs1 : (s.clearStorage (s.partQuarters p)).drawKey p = s1)
    (hs2 : (s1.setSeal p ⟨1, (s.session n).leaf, x.seals + 1⟩).keepVal (0x7010 + p) 4 4 (x.seals + 1) = s2)
    (hs3 : (s2.onSec (fun c => { c with sealedSinceBoot := true })).event 0x70 1 p (x.seals + 1) = s3) :
    s.psSeal who p = (s3.setSession n { s3.session n with role := 2, part := p }).answer 0 := by
  simp only [State.psSeal, hx, hn, hopen, hempty, hdebug, hcrypto, hs1, hs2, hs3, Bool.not_true, Bool.false_eq_true, ne_eq, not_true_eq_false, or_self,
    if_false]

/-! ## Keys (0x7020) -/

section
variable {s : State} {who : Fin 16} {p id : Nat} (hp : s.staged who 0x7020 1 0 = p) (hid : s.staged who 0x7020 2 0 = id)
  (haccepts : Accepts s who 0x7020 (s.authTenant who p)) (hpart : p ≤ 3) (hmin : 1 ≤ id) (hmax : id ≤ 0xFFFE)
include hp hid haccepts hpart hmin hmax

/-- A key command that ends well applies its values, and the staged key is cleared (R556, R629). -/
theorem skRun_done {k : Nat → Nat → State → State} {t : State} (hk : k p id s = t.answer 0) :
    s.skRun who k = ((t.answer 0).applied who 0x7020 skSubs).unstage who 0x7020 4 := by
  have hids : ¬(p > 3 ∨ id = 0 ∨ id > 0xFFFE) := by omega
  have hlast : (t.answer 0).out.getLast? = some ⟨.dict, 0, []⟩ := List.getLast?_concat
  simp only [State.skRun, hp, hid]
  rw [command_accepts haccepts, if_neg hids, hk, if_pos hlast]

/-- INSTALL of a key that no refusal meets stores it, a successor as NEXT (R557). -/
theorem execSkInstall_stores {use pred : Nat} {t : State} (huse : s.staged who 0x7020 3 0 = use)
    (hpred : (if use = 1 then s.staged who 0x7020 5 0 else 0) = pred) (husemin : 1 ≤ use) (husemax : use ≤ 3) (hlen : s.stagedLen who 0x7020 4 = 32)
    (hchain : pred ≠ 0 → (s.key pred).st = 1 ∧ (s.key pred).use = 1 ∧ (s.key pred).part = p) (hfree : (s.key id).st = 0)
    (hroom : (s.sec.keys.filter (fun e => decide (e.2.st ≠ 0))).length < 256)
    (hbulk : use = 3 → s.sec.keys.any (fun e => decide (e.2.st ≠ 0 ∧ e.2.use = 3 ∧ e.2.part = p)) = false)
    (hnext : pred ≠ 0 → s.sec.keys.any (fun e => decide (e.2.st = 2 ∧ e.2.pred = pred)) = false)
    (ht : s.onSec (fun c => { c with
      keys := Tab.set KeyRec.blank c.keys id ⟨if pred = 0 then 1 else 2, p, use, s.staged who 0x7020 4 0, pred, s.bell.count⟩ }) = t) :
    execSkInstall who s = .next (((t.answer 0).applied who 0x7020 skSubs).unstage who 0x7020 4) := by
  have hrange : ¬(use = 0 ∨ use > 3 ∨ s.stagedLen who 0x7020 4 ≠ 32) := by omega
  have hlinks : ¬(pred ≠ 0 ∧ ((s.key pred).st ≠ 1 ∨ (s.key pred).use ≠ 1 ∨ (s.key pred).part ≠ p)) := by
    rintro ⟨hpred, hbad⟩
    obtain ⟨h1, h2, h3⟩ := hchain hpred
    exact hbad.elim (· h1) (Or.elim · (· h2) (· h3))
  have hconflict : ¬((s.key id).st ≠ 0 ∨ (s.sec.keys.filter (fun e => decide (e.2.st ≠ 0))).length ≥ 256
      ∨ (use = 3 ∧ s.sec.keys.any (fun e => decide (e.2.st ≠ 0 ∧ e.2.use = 3 ∧ e.2.part = p)) = true)
      ∨ (pred ≠ 0 ∧ s.sec.keys.any (fun e => decide (e.2.st = 2 ∧ e.2.pred = pred)) = true)) := by
    rintro (h | h | ⟨h3, h⟩ | ⟨h0, h⟩)
    · exact h hfree
    · exact hroom.not_ge h
    · exact Bool.noConfusion ((hbulk h3).symm.trans h)
    · exact Bool.noConfusion ((hnext h0).symm.trans h)
  have hinstall : State.skInstall who p id s = t.answer 0 := by
    simp only [State.skInstall, huse, hpred]
    rw [if_neg hrange, if_neg hlinks, if_neg hconflict, ht]
  rw [execSkInstall, skRun_done hp hid haccepts hpart hmin hmax hinstall]

theorem execSkDestroy_destroys (hused : (s.key id).st ≠ 0) (hmine : (s.key id).part = p) :
    execSkDestroy who s = .next ((((s.destroyKey id).answer 0).applied who 0x7020 skSubs).unstage who 0x7020 4) := by
  have hdestroy : State.skDestroy p id s = (s.destroyKey id).answer 0 := by
    rw [State.skDestroy, if_neg (not_or.2 ⟨hused, not_not.2 hmine⟩)]
  rw [execSkDestroy, skRun_done hp hid haccepts hpart hmin hmax hdestroy]

theorem execSkSelect_selects : execSkSelect who s
    = .next ((((s.select who 0x7020 7 1 (if (s.key id).part = p then (s.key id).st else 0)).answer 0).applied who 0x7020 skSubs).unstage who 0x7020 4) := by
  have hselect : State.skSelect who p id s = (s.select who 0x7020 7 1 (if (s.key id).part = p then (s.key id).st else 0)).answer 0 := rfl
  rw [execSkSelect, skRun_done hp hid haccepts hpart hmin hmax hselect]

end

/-! ## Debug, roots -/

/-- A token with nothing sealed is granted where it verifies for a higher level (R566). -/
theorem debugToken_grants {s : State} {token : List Byte} (hwaits : s.sec.dbgWaits = false) (hsealed : s.sec.sealedSinceBoot = false)
    (hopen : (List.range 4).filter (fun p => decide ((s.seal p).tenant ≠ 0)) = []) : s.debugToken token
    = match Config.debugToken token s.sec.serial s.sec.dbgChallenge with
      | some level =>
        if level = 0 ∨ 2 < level then s.answer 0x0301
        else if level ≤ s.sec.dbgLevel then s.newChallenge.answer 0x0402 else (s.newChallenge.debugGrant level).answer 0
      | none => s.answer 0x0301 := by
  rw [State.debugToken]
  cases Config.debugToken token s.sec.serial s.sec.dbgChallenge with
  | none => rfl
  | some level =>
    simp only [hwaits, hsealed, hopen, gt_iff_lt, Bool.false_eq_true, and_false, ne_eq, not_true_eq_false, false_and, or_false, or_true, if_true]

theorem secOpRoots_closes {s : State} {bytes : List Byte} (hwhole : bytes.length % 48 = 0) (hmax : bytes.length ≤ 192)
    (hsome : bytes = [] → s.sec.opClosed = true) :
    s.secOpRoots bytes = ((s.keepVal 0x7000 5 bytes.length (leNat bytes)).onSec (fun c => { c with opClosed := true })).answer 0 := by
  have hfits : ¬(bytes.length % 48 ≠ 0 ∨ bytes.length > 192 ∨ (bytes.length = 0 ∧ (!s.sec.opClosed) = true)) := by
    rintro (h | h | ⟨h, hopen⟩)
    · exact h hwhole
    · exact hmax.not_gt h
    · rw [hsome (List.length_eq_zero_iff.1 h)] at hopen
      exact Bool.noConfusion hopen
  rw [State.secOpRoots, if_neg hfits]

/-- A chain is stored when its leaf is the DeviceID key under a root that is present and not revoked (R548). -/
theorem secCert_checks {s : State} {bytes : List Byte} (hmax : bytes.length ≤ 4096) : s.secCert bytes = match Config.certRoot bytes with
      | some r =>
        if Config.certLeaf bytes = s.sec.devidHash ∧ Nat.testBit s.sec.rootsPresent r = true ∧ Nat.testBit s.sec.rootsRevoked r = false then
          (s.keepVal 0x7000 4 bytes.length (leNat bytes)).answer 0
        else s.answer 0x0301
      | none => s.answer 0x0301 := by
  rw [State.secCert]
  cases Config.certRoot bytes with
  | none => simp
  | some r =>
    have hrefused : (bytes.length > 4096 ∨ Config.certLeaf bytes ≠ s.sec.devidHash
        ∨ (!(Nat.testBit s.sec.rootsPresent r && !Nat.testBit s.sec.rootsRevoked r)) = true)
        ↔ ¬(Config.certLeaf bytes = s.sec.devidHash ∧ Nat.testBit s.sec.rootsPresent r = true ∧ Nat.testBit s.sec.rootsRevoked r = false) := by
      rw [or_iff_right hmax.not_gt, not_and_or, Bool.not_eq_true', Bool.and_eq_false_iff, not_and_or, Bool.not_eq_true, Bool.not_eq_false',
        Bool.not_eq_false]
    simp only [hrefused, ite_not]

/-- Settles O50: each command is its lemma above. What SEAL clears, when INSTALL is refused, when a counter rises, what a token waits for and which chain
is kept are the model's choices where logs 152 to 156 say so. -/
theorem securityCommands : Obligations.SecurityCommands := by
  unfold Obligations.SecurityCommands
  refine ⟨?_, fun s who p haccepts hserving hquiet => ?_, ?_, fun s who fails haccepts => ⟨fun hhealthy => ?_, fun hsick => ?_⟩, ?_,
    fun s who bytes => ⟨fun haccepts hwhole hmax hsome => ?_, fun haccepts hmax => ?_⟩⟩
  · intro s s1 s2 s3 who p x n hx hn haccepts hopen hempty hdebug hcrypto hs1 hs2 hs3
    rw [exec_psSeal, execPsSeal, command_accepts haccepts, psSeal_seals hx hn hopen hempty hdebug hcrypto hs1 hs2 hs3]
  · have hfree : ¬((!s.serving) = true ∨ s.partResetting p = true) := by simp [hserving, hquiet]
    rw [exec_psUnseal, execPsUnseal, command_accepts haccepts, State.psUnseal, if_neg hfree]
  · intro s t who p id hp hid haccepts hpart hmin hmax
    rw [exec_skInstall, exec_skDestroy, exec_skSelect]
    refine ⟨?_, fun hused hmine => execSkDestroy_destroys hp hid haccepts hpart hmin hmax hused hmine,
      execSkSelect_selects hp hid haccepts hpart hmin hmax⟩
    intro use pred huse hpred husemin husemax hlen hchain hfree hroom hbulk hnext ht
    exact execSkInstall_stores hp hid haccepts hpart hmin hmax huse hpred husemin husemax hlen hchain hfree hroom hbulk hnext ht
  · rw [exec_arCommit, execArCommit, command_accepts haccepts, State.arCommit, hhealthy]
    rfl
  · rw [exec_arCommit, execArCommit, command_accepts haccepts, State.arCommit, hsick]
    rfl
  · intro s who token haccepts hlen hwaits hsealed hopen
    rw [exec_dbgToken, execDbgToken, command_accepts haccepts, if_neg (not_not.2 hlen)]
    exact congrArg Host.Outcome.next (debugToken_grants hwaits hsealed hopen)
  · rw [exec_secOpRoots, execSecOpRoots, command_accepts haccepts, secOpRoots_closes hwhole hmax hsome]
  · rw [exec_secCert, execSecCert, command_accepts haccepts]
    exact congrArg Host.Outcome.next (secCert_checks hmax)

end Sys2Proof.Laws
end

section
/-!
PROOFS. What every command of the dictionary checks first (R552, R595, R631, Table 22-8).
-/

namespace Sys2Proof.Laws
open Sys2Proof Sys2Proof.Machine

/-- The checks of a command, in their order: the path, the early boot steps, the authorisation, the device state. -/
theorem command_refuses {s : State} {who index : Nat} {auth : Bool} (k : State → State) :
    (s.served who = false → s.command who index auth k = s)
    ∧ (s.served who = true → s.earlyBoot = true → s.command who index auth k = s.answer 0x0402)
    ∧ (s.served who = true → s.earlyBoot = false → auth = false → s.command who index auth k = s.answer 0x0203)
    ∧ (s.served who = true → s.earlyBoot = false → auth = true → s.writable index = false → s.command who index auth k = s.answer 0x0402) := by
  refine ⟨fun hserved => ?_, fun hserved hearly => ?_, fun hserved hearly hauth => ?_, fun hserved hearly hauth hwritable => ?_⟩
  · simp only [State.command, State.admitWrite, hserved, Bool.not_false, if_true]
  · simp only [State.command, State.admitWrite, hserved, hearly, Bool.not_true, Bool.false_eq_true, if_false, if_true]
  · simp only [State.command, State.admitWrite, hserved, hearly, hauth, Bool.not_true, Bool.not_false, Bool.false_eq_true, if_false, if_true]
  · simp only [State.command, State.admitWrite, hserved, hearly, hauth, hwritable, Bool.not_true, Bool.not_false, Bool.false_eq_true, if_false, if_true]

/-- An instruction that runs as a command of an entry checks what commands check. -/
theorem refusesFirst_of_command {s : State} {who index : Nat} {auth : Bool} {c : Instr} {k : State → State}
    (h : exec c s = .next (s.command who index auth k)) : RefusesFirst s who index auth c := by
  obtain ⟨hpath, hearly, hauth, hstate⟩ := command_refuses (s := s) (who := who) (index := index) (auth := auth) k
  unfold RefusesFirst
  rw [h]
  exact ⟨fun h1 => congrArg _ (hpath h1), fun h1 h2 => congrArg _ (hearly h1 h2), fun h1 h2 h3 => congrArg _ (hauth h1 h2 h3),
    fun h1 h2 h3 h4 => congrArg _ (hstate h1 h2 h3 h4)⟩

/-- Settles O56: each instruction of the dictionary runs as a command of its entry. The order of the early-boot and device-state checks against the
authorisation is the model's choice (log 172). -/
theorem refusalOrder : Obligations.RefusalOrder := by
  unfold Obligations.RefusalOrder
  intro s who
  refine ⟨?plain, fun p => ?_, fun i kind => ?_, fun w => ?_, fun port => ?_, fun pin code v => ?_, ?_, ?_, fun fails => ?_, fun bytes => ?_⟩
  case plain =>
    suffices hruns : ∀ x ∈ (_ : List (Instr × Nat)), ∃ k, exec x.1 s = .next (s.command who x.2 (s.authPlain who) k) from
      fun x hx => (hruns x hx).elim fun _ h => refusesFirst_of_command h
    simp only [List.cons_append, List.nil_append, List.forall_mem_cons, List.not_mem_nil, false_imp_iff, implies_true, and_true]
    and_intros <;> exact ⟨_, rfl⟩
  · refine ⟨?_, ?_, ?_, ?_, ?_, ?_, ?_, fun partnerOk => ?_⟩ <;> exact refusesFirst_of_command rfl
  · exact ⟨refusesFirst_of_command rfl, refusesFirst_of_command rfl⟩
  · exact ⟨refusesFirst_of_command rfl, refusesFirst_of_command rfl⟩
  · exact refusesFirst_of_command rfl
  · exact ⟨refusesFirst_of_command rfl, refusesFirst_of_command rfl⟩
  · rintro c (rfl | rfl | rfl) <;> exact refusesFirst_of_command rfl
  · exact refusesFirst_of_command rfl
  · exact refusesFirst_of_command rfl
  · exact ⟨refusesFirst_of_command rfl, refusesFirst_of_command rfl, refusesFirst_of_command rfl⟩

end Sys2Proof.Laws
end

section
/-!
PROOFS. Loader and staging (R575, R577 to R579, R581).
-/

namespace Sys2Proof.Laws
open Sys2Proof Sys2Proof.Machine

/-! ## SOLICIT and OFFER (R577, R578) -/

section
variable {s : State} (hst : s.fw.loader.st = 1) (hdue : s.fw.loader.solicit + 1000000 ≤ s.bell.count)
include hst hdue

/-- A SOLICIT of a staging or a restart that is unanswered for 1 s is repeated. -/
theorem execSolicitRetry_repeats (huse : 1 < s.fw.loader.use) : execSolicitRetry s = .next s.solicit := by
  have hdue' : s.fw.loader.st = 1 ∧ s.bell.count ≥ s.fw.loader.solicit + 1000000 := ⟨hst, hdue⟩
  simp only [execSolicitRetry, hdue', huse.not_ge, and_self, if_true, if_false]

/-- At boot the repeat also notes refusal 1 (R579). -/
theorem execSolicitRetry_notes (huse : s.fw.loader.use ≤ 1) :
    execSolicitRetry s = .next ((s.solicit.onFw (fun f => { f with refusal := if f.refusal = 0 then 1 else f.refusal })).bootRefusal 1) := by
  have hdue' : s.fw.loader.st = 1 ∧ s.bell.count ≥ s.fw.loader.solicit + 1000000 := ⟨hst, hdue⟩
  simp only [execSolicitRetry, hdue', huse, and_self, if_true]

end

/-- The size and version that an OFFER gives for type `t`. -/
def offerEntry (msg : List Byte) (t : Nat) : Nat × Nat := (imgField msg (32 + 8 * t) 4, imgField msg (36 + 8 * t) 4)

section
variable {s : State} {msg : List Byte} {h : Nat} (hst : s.fw.loader.st = 1) (hmine : s.loaderFor 2 msg = some h)
  (hlen : natBits 183 171 h = 32) (htype : natBits 191 184 h = 255)
include hst hmine hlen htype

/-- A boot set without a security image is refused with code 7. -/
theorem execOffer_refused (huse : s.fw.loader.use ≤ 1) (hnone : (offerEntry msg 0).1 = 0) : execOffer msg s = .next (s.loadRefused 0 7 0) := by
  have hwanted : ¬(s.fw.loader.st ≠ 1 ∨ natBits 183 171 h ≠ 32 ∨ natBits 191 184 h ≠ 255) := by
    rintro (hbad | hbad | hbad)
    exacts [hbad hst, hbad hlen, hbad htype]
  simp only [execOffer, hmine]
  rw [if_neg hwanted, if_pos ⟨huse, hnone⟩]

/-- The first OFFER for the transfer is taken and READs of every wanted image go out. -/
theorem execOffer_taken {s1 : State} {wanted : List Nat}
    (hwant : (if s.fw.loader.use = 2 then [0, 1, 2, 3] else s.fw.loader.types).filter
      (fun t => decide ((((List.range 4).map (offerEntry msg)).getD t (0, 0)).1 ≠ 0)) = wanted)
    (hs1 : s.onLoader (fun l => { l with st := 2, offered := (List.range 4).map (offerEntry msg), types := wanted, lastData := s.bell.count }) = s1)
    (hboot : s.fw.loader.use ≤ 1 → (offerEntry msg 0).1 ≠ 0 ∧ (offerEntry msg 1).1 ≠ 0) (hsome : wanted ≠ [])
    (hfits : ∀ t, t ∈ wanted → (offerEntry msg t).1 ≤ 2 ^ 22) :
    execOffer msg s = .next (State.issueReads 8 (s1.onLoader (fun l => { l with todo := wanted.flatMap (fun t => readsOf t (offerEntry msg t).1) }))) := by
  have hmineNow : ¬(s.fw.loader.st ≠ 1 ∨ natBits 183 171 h ≠ 32 ∨ natBits 191 184 h ≠ 255) := by
    rintro (hbad | hbad | hbad)
    exacts [hbad hst, hbad hlen, hbad htype]
  have hsecurity : ¬(s.fw.loader.use ≤ 1 ∧ (offerEntry msg 0).1 = 0) := fun hb => (hboot hb.1).1 hb.2
  have hpower : ¬(s.fw.loader.use ≤ 1 ∧ (offerEntry msg 1).1 = 0) := fun hb => (hboot hb.1).2 hb.2
  have hnobig : wanted.find? (fun t => decide ((offerEntry msg t).1 > 2 ^ 22)) = none :=
    List.find?_eq_none.2 (fun t ht => by simpa using hfits t ht)
  subst hwant hs1
  unfold offerEntry at *
  simp only [execOffer, hmine]
  rw [if_neg hmineNow, if_neg hsecurity, if_neg hpower, if_neg hsome, hnobig]

end

/-! ## DATA, LOADER_ERROR and the retries (R578) -/

/-- DATA of a wanted block is stored, ends the READs it completes, and completes the load when all has come. -/
theorem execData_stores {s : State} {msg : List Byte} {h t o n : Nat} {l1 : Loader} (hst : s.fw.loader.st = 2) (hmine : s.loaderFor 4 msg = some h)
    (ht : natBits 191 184 h = t) (ho : natBits 159 128 h = o) (hn : natBits 183 171 h = n) (hwanted : s.fw.loader.types.contains t = true)
    (halign : o % 1024 = 0) (hin : o < s.fw.loader.bytes t)
    (hwhole : n = (if s.fw.loader.bytes t - o ≥ 1024 then 1024 else s.fw.loader.bytes t - o))
    (hl1 : { s.fw.loader with
      lastData := s.bell.count, buf := Tab.setBytes 0#8 s.fw.loader.buf (t * 2 ^ 22 + o) (msg.drop 32)
      have' := Tab.set false s.fw.loader.have' (t * 4096 + o / 1024) true } = l1) :
    execData msg s = .next ((State.issueReads 8 (s.onLoader (fun _ => { l1 with reads := l1.reads.filter (fun r => !l1.readDone r) }))).loadDone) := by
  have hstored : ¬(s.fw.loader.st ≠ 2 ∨ (!s.fw.loader.types.contains t) = true ∨ o % 1024 ≠ 0 ∨ s.fw.loader.bytes t - o = 0
      ∨ n ≠ (if s.fw.loader.bytes t - o ≥ 1024 then 1024 else s.fw.loader.bytes t - o)) := by
    rw [hst, hwanted, halign, ← hwhole]
    have hleft : s.fw.loader.bytes t - o ≠ 0 := (Nat.sub_pos_of_lt hin).ne'
    simp [hleft]
  simp only [execData, hmine, ht, ho, hn]
  rw [if_neg hstored, ← hl1]
  rfl

theorem execLoaderError_reports {s : State} {msg : List Byte} {h : Nat} (hmine : s.loaderFor 5 msg = some h) :
    execLoaderError msg s = .next (s.emit .firmware 2 [natBits 215 208 h]) := by
  simp only [execLoaderError, hmine]

/-- 2 s without DATA start a new SOLICIT. -/
theorem execLoaderRestart_solicits {s : State} (hst : s.fw.loader.st = 2) (hopen : s.fw.loader.complete = false)
    (hdue : s.fw.loader.lastData + 2000000 ≤ s.bell.count) :
    execLoaderRestart s = .next (s.onFw (fun f => { f with refusal := 1 })).solicit := by
  have hdue' : s.bell.count ≥ s.fw.loader.lastData + 2000000 := hdue
  simp only [execLoaderRestart, hst, hopen, hdue', Bool.not_false, and_self, if_true]

/-! ## Staging (R581) -/

theorem fwStage_busy {s : State} (hbusy : s.fw.stgState = 1 ∨ s.fw.loader.st ≠ 0) : s.fwStage = s.answer 0x0401 := by
  rw [State.fwStage, if_pos hbusy]

/-- STAGE starts a staging. -/
theorem fwStage_starts {s : State} (hstg : s.fw.stgState ≠ 1) (hidle : s.fw.loader.st = 0) (hpc : s.fw.pcState = 0) :
    s.fwStage = (((s.clearSet 1).onFw (fun f => { f with stgState := 1, refusal := 0 })).startLoad 2 (s.val 0x1F50 3 0) []).answer 0 := by
  simp only [State.fwStage, hstg, hidle, hpc, ne_eq, not_true_eq_false, or_self, if_false]

/-- DISCARD empties STAGED; a staging that runs ends. -/
theorem fwDiscard_empties {s : State} (hpc : s.fw.pcState = 0) :
    s.fwDiscard = (((if s.fw.loader.use = 2 then s.stopLoad else s).clearSet 1).onFw (fun f => { f with stgState := 0 })).answer 0 := by
  simp only [State.fwDiscard, hpc, ne_eq, not_true_eq_false, if_false]

section
variable {s : State} (hstg : s.fw.stgState = 1) (huse : s.fw.loader.use = 2) (hall : s.fw.loader.complete = true)
include hstg huse hall

/-- A complete staging that no image refuses becomes READY. -/
theorem execStageComplete_ready {t : State} (hnone : s.firstRefusal s.secVersion s.fw.loader.types = none)
    (ht : ((s.placeImages 1).stopLoad).onFw (fun f => { f with stgState := 2 }) = t) :
    execStageComplete s = .next (t.event 0x80 1 1 (t.setVersion 1)) := by
  simp only [execStageComplete, hstg, huse, hall, hnone, ht, Bool.not_true, Bool.false_eq_true, ne_eq, not_true_eq_false, or_self, if_false]

/-- One that an image refuses ends REFUSED. -/
theorem execStageComplete_refused {t code : Nat} (hsome : s.firstRefusal s.secVersion s.fw.loader.types = some (t, code)) :
    execStageComplete s = .next (s.loadRefused t code (imgField (s.fw.loader.content t) 8 4)) := by
  simp only [execStageComplete, hstg, huse, hall, hsome, Bool.not_true, Bool.false_eq_true, ne_eq, not_true_eq_false, or_self, if_false]

end

/-- Settles O51: each command is its lemma above. The name a transfer solicits with, the blocks a READ asks for and what a refusal does to the transfer are
the model's choices where logs 157 to 159 say so. -/
theorem firmwareLoading : Obligations.FirmwareLoading := by
  unfold Obligations.FirmwareLoading
  refine ⟨fun s hst hdue => ⟨execSolicitRetry_repeats hst hdue, execSolicitRetry_notes hst hdue⟩, ?_, ?_, fun s msg h hmine => ?_, ?_,
    fun s hst hopen hdue => ?_, fun s who haccepts => ?_, fun s hstg huse hall => ?_⟩
  · intro s s1 msg h e wanted hst hmine hlen htype hentry hwant hs1
    obtain rfl : offerEntry msg = e := funext hentry
    rw [exec_offer]
    exact ⟨execOffer_refused hst hmine hlen htype, execOffer_taken hst hmine hlen htype hwant hs1⟩
  · intro s msg h t o n hst hmine ht ho hn hwanted halign hin hwhole l1 hl1
    rw [exec_data, execData_stores hst hmine ht ho hn hwanted halign hin hwhole hl1]
  · rw [exec_loaderError, execLoaderError_reports hmine]
  · intro s due missing hdue hmissing
    obtain rfl : (fun r : LoadRead => decide (s.fw.loader.st = 2 ∧ s.bell.count ≥ r.bell + 20000)) = due := funext hdue
    rw [exec_readRetry, ← hmissing]
    rfl
  · rw [exec_loaderRestart, execLoaderRestart_solicits hst hopen hdue]
  · rw [exec_fwStage, exec_fwDiscard, execFwStage, execFwDiscard, command_accepts haccepts, command_accepts haccepts]
    refine ⟨fun hbusy => ?_, fun hstg hidle hpc => ?_, fun hpc huse => ?_, fun hpc huse => ?_⟩
    · rw [fwStage_busy hbusy]
    · rw [fwStage_starts hstg hidle hpc]
    · rw [fwDiscard_empties hpc, if_neg huse]
    · rw [fwDiscard_empties hpc, if_pos huse]
  · rw [exec_stageComplete]
    exact ⟨fun hnone t ht => execStageComplete_ready hstg huse hall hnone ht, fun t code hsome => execStageComplete_refused hstg huse hall hsome⟩

end Sys2Proof.Laws
end

section
/-!
PROOFS. Activation, health, watchdogs and the firmware rings (R571 to R573, R582, R584, R586, R587, R589 to R591).
-/

namespace Sys2Proof.Laws
open Sys2Proof Sys2Proof.Machine

/-! ## Activation (R582 to R584) -/

/-- SCHEDULE that no refusal meets arms ACTIVATE and answers its bell. -/
theorem pcSchedule_arms {s : State} {who bell slot : Nat} (hbell : s.staged who 0x1F51 1 0 = bell) (hslot : s.staged who 0x1F51 2 1 = slot)
    (hin : s.bellOut evActivate bell = false) (hsets : slot = 1 ∨ slot = 2) (hpc : s.fw.pcState = 0) (hfree : s.evConflict evActivate slot bell = false)
    (hstaged : slot = 1 → s.fw.stgState = 2) (hfallback : slot = 2 → s.fallbackOk = true) (hset : s.bell.st ≠ tsUnset) :
    s.pcSchedule who = (((s.arm evActivate 2 slot bell).onFw (fun f => { f with
      pcState := 1, pcSlot := slot, pcBell := bell, pcFirst := bell, pcRearmed := false })).applied who 0x1F51 pcSubs).answerBell bell := by
  have hrange : ¬(s.bellOut evActivate bell = true ∨ slot = 0 ∨ slot > 2) := by
    rw [hin]
    rcases hsets with h | h <;> simp [h]
  have hconflict : ¬(s.fw.pcState = 1 ∨ s.fw.pcState = 2 ∨ s.evConflict evActivate slot bell = true) := by simp [hpc, hfree]
  have hstate : ¬((slot = 1 ∧ s.fw.stgState ≠ 2) ∨ (slot = 2 ∧ (!s.fallbackOk) = true) ∨ s.bell.st = tsUnset ∨ s.fw.pcState ≠ 0) := by
    rintro (⟨h1, h⟩ | ⟨h2, h⟩ | h | h)
    · exact h (hstaged h1)
    · rw [hfallback h2] at h
      exact Bool.noConfusion h
    · exact hset h
    · exact h hpc
  simp only [State.pcSchedule, hbell, hslot]
  rw [if_neg hrange, if_neg hconflict, if_neg hstate]

/-- CANCEL frees the slot of the event. -/
theorem pcCancel_cancels {s : State} {who i : Nat} (hpc : s.fw.pcState = 1 ∨ s.fw.pcState = 2) (hevent : s.pcEvent = some i) :
    s.pcCancel who = ((((s.setSlot i { s.slot i with st := esCancelled }).onBell (fun b => { b with cancelled := b.cancelled + 1 })).onFw (fun f =>
      { f with pcState := 0, pcBell := 0, pcRearmed := false })).applied who 0x1F51 pcSubs).answer 0 := by
  have hscheduled : ¬(s.fw.pcState ≠ 1 ∧ s.fw.pcState ≠ 2) := fun hb => hpc.elim hb.1 hb.2
  rw [State.pcCancel, if_neg hscheduled, hevent]

/-- A deferred event is armed again 1,000,000 bells after the level falls. -/
theorem execActivationRearm_rearms {s : State} {i : Nat} (hevent : s.pcEvent = some i) (hpc : s.fw.pcState = 2) (hlevel : s.power.level < 2) :
    execActivationRearm s = .next ((s.setSlot i { s.slot i with st := esArmed, bell := s.bell.count + 1000000 }).onFw (fun f => { f with
      pcState := 1, pcBell := s.bell.count + 1000000, pcRearmed := true })) := by
  simp only [execActivationRearm, hevent, hpc, hlevel, and_self, if_true]

/-! ## Health (R571, R586, R587) -/

/-- HEALTHY makes a processor's image HEALTHY and ends what waited for it; a set on trial is accepted once all are healthy. -/
theorem execHealthy_marks {s s1 t : State} {p : Fin 64} {x : Proc} (hx : s.proc p = x) (hruns : x.st = 1 ∨ x.st = 2)
    (hs1 : s.setProc p { x with st := 2, healthy := true } = s1)
    (ht : (if p.val = 1 then s1.onPower (fun q => { q with guardHold := false }) else if p.val = 0 ∧ x.st = 1 then s1.securityBack else s1) = t) :
    execHealthy p s = .next (if t.fw.pcState = 4 ∧ t.trialHealthy = true then t.acceptSet else t) := by
  have hstopped : ¬(x.st ≠ 1 ∧ x.st ≠ 2) := fun hb => hruns.elim hb.1 hb.2
  simp only [execHealthy, hx]
  rw [if_neg hstopped, hs1, ht]

section
variable {s s1 : State} (hpc : s.fw.pcState = 4) (hdue : s.fw.pcStart + 5000000 ≤ s.bell.count) (hsick : s.trialHealthy = false)
  (hs1 : s.onFw (fun f => { f with pcState := 5 }) = s1)
include hpc hdue hsick hs1

/-- At 5 s a set that is not healthy rolls back. -/
theorem execHealthDeadline_rollsBack (hlevel : s.power.level < 2) : execHealthDeadline s = .next s1.rolledBack := by
  simp only [execHealthDeadline, hpc, hdue.not_gt, hsick, hs1, ge_iff_le, hlevel.not_ge, Bool.false_eq_true, ne_eq, not_true_eq_false, or_self,
    false_and, if_false]

/-- In an emergency a power core on trial waits for its end; the security core switches back at once. -/
theorem execHealthDeadline_waits (hlevel : 2 ≤ s.power.level) (hpower : s.fw.pcSwitched.contains 1 = true) :
    execHealthDeadline s = .next (s1.switchBack (s.fw.pcSwitched.filter (· = 0))) := by
  simp only [execHealthDeadline, hpc, hdue.not_gt, hsick, hs1, ge_iff_le, hlevel, hpower, Bool.false_eq_true, ne_eq, not_true_eq_false, or_self,
    and_self, if_false, if_true]

end

/-! ## Watchdogs and faults (R572, R573, Table 20-3) -/

section
variable {s s1 : State} {p : Fin 64} {x : Proc} {dump : List Byte} {recent : List Nat} (hx : s.proc p = x) (hruns : x.st ≠ 0) (hon : s.dev.st ≠ 0)
  (hrecent : x.restarts.filter (fun b => decide (s.bell.count < b + 3600000000)) = recent)
  (hs1 : (s.setProc p { x with restarts := recent ++ [s.bell.count], dump := dump.take 16384, dumpBell := s.bell.count }).event 0x80 5 p
    (s.running (procType p)).version = s1)
include hx hruns hon hrecent hs1

/-- The third restart within the hour does Table 20-3's last column. -/
theorem execWatchdogExpiry_third (hthird : 2 ≤ recent.length) (poisoned : Bool) : execWatchdogExpiry p dump poisoned s = .next (s1.thirdRestart p) := by
  have hwatched : ¬(x.st = 0 ∨ s.dev.st = devCold) := not_or.2 ⟨hruns, hon⟩
  simp only [execWatchdogExpiry, hx]
  rw [if_neg hwatched, hrecent, hs1, if_pos hthird]

/-- An earlier restart starts the processor's image again, or loads it when it is poison, and does what the processor's row gives. -/
theorem execWatchdogExpiry_restarts {s2 : State} {poisoned : Bool} (hfew : recent.length < 2)
    (hs2 : (if poisoned then (s1.setProc p { s1.proc p with st := 0, healthy := false }).startLoad 3 (s.val 0x1F50 2 0) [procType p]
      else s1.startProc p) = s2) :
    execWatchdogExpiry p dump poisoned s = if p.val = 0 then .next ((s2.endSessions.releaseReqs).pauseRings true)
      else if p.val = 1 then .next (s2.onPower (fun q => { q with guardHold := true }))
      else if p.val = 2 then .next s2
      else .next (s2.onFw (fun f => { f with ctxsel := Tab.set 0 f.ctxsel (p - 32) 0 })) := by
  have hwatched : ¬(x.st = 0 ∨ s.dev.st = devCold) := not_or.2 ⟨hruns, hon⟩
  simp only [execWatchdogExpiry, hx]
  rw [if_neg hwatched, hrecent, hs1, if_neg hfew.not_ge, hs2]

end

section
variable {s : State} {p : Fin 64} (hruns : (s.proc p).st = 1 ∨ (s.proc p).st = 2) (a : Nat)
include hruns

/-- An access fault traps to the image's handler. -/
theorem execFwAccessFault_traps : execFwAccessFault p a false s = .next (s.emit .firmware 1 [p.val, a]) := by
  have hrunning : ¬((s.proc p).st = 0 ∨ (s.proc p).st = 3) := by omega
  rw [execFwAccessFault, if_neg hrunning]
  rfl

/-- In the handler it stops the processor. -/
theorem execFwAccessFault_stops : execFwAccessFault p a true s = .next (s.setProc p { s.proc p with st := 3, healthy := false }) := by
  have hrunning : ¬((s.proc p).st = 0 ∨ (s.proc p).st = 3) := by omega
  rw [execFwAccessFault, if_neg hrunning]
  rfl

end

/-! ## Firmware rings (R589 to R591) -/

/-- A well-formed request is taken and answered by its ring's function. -/
theorem fnTake_request {s : State} {f seq : Nat} {b : List Byte} (h : RingRequest s f seq b) (k : Nat → List Byte → State → State) :
    s.fnTake f k = k seq b (s.ringTake f) := by
  obtain ⟨hready, hlen, hcrc, htype, hseq, hpayload⟩ := h
  simp only [State.fnTake, hready, hlen.not_gt, hcrc, htype, hseq, hpayload, Bool.not_true, Bool.false_eq_true, ne_eq, not_true_eq_false, or_self, if_false]

section
variable {s t : State} {seq p o : Nat} {b : List Byte} (ht : s.ringTake 3 = t) (hreq : RingRequest s 3 seq b) (hlen : 6 ≤ b.length)
  (hp : leNat (b.take 2) = p) (ho : leNat ((b.drop 2).take 4) = o) (hproc : p ≤ 2 ∨ 32 ≤ p) (hmax : p ≤ 63) (halign : o % 224 = 0)
include ht hreq hlen hp ho hproc hmax halign

/-- DUMP of a processor whose dump may not leave is DENIED; any other gives up to 224 bytes from the offset (R591). -/
theorem execFrDump_answers : execFrDump s = .next (if t.dumpDenied p = true then t.ringRespond 3 (fnResponse 1 seq fnDenied [])
    else t.ringRespond 3 (fnResponse 1 seq fnOk
      (leBytes 4 (t.proc p).dump.length ++ leBytes 4 (t.proc p).dumpBell ++ ((t.proc p).dump.drop o).take 224))) := by
  have hok : ¬(b.length < 6 ∨ (p > 2 ∧ p < 32) ∨ p > 63 ∨ o % 224 ≠ 0) := by omega
  rw [execFrDump, fnTake_request hreq, ht]
  simp only [hp, ho]
  rw [if_neg hok]

end

/-- WAIT is answered at once when a record of its class is there, and else waits (R589). -/
theorem execFrWait_takes {s t : State} {seq from' timeout id : Nat} {b : List Byte} (hnone : s.host.waits = []) (ht : s.ringTake 1 = t)
    (hreq : RingRequest s 1 seq b) (hlen : 8 ≤ b.length) (hfrom : leNat (b.take 4) = from') (htimeout : leNat ((b.drop 6).take 2) = timeout)
    (hid : leNat ((b.drop 4).take 2) * 65536 + seq = id) (hvalid : from' ≠ 0xFFFFFFFF) (hmin : 1 ≤ timeout) (hmax : timeout ≤ 60000) :
    execFrWait s = .next ((t.answerWait id from').getD (t.onHost (fun h => { h with waits := [(id, from', t.bell.count + 1000 * timeout)] }))) := by
  have hok : ¬(b.length < 8 ∨ from' = 0xFFFFFFFF ∨ timeout = 0 ∨ timeout > 60000) := by omega
  simp only [execFrWait, hnone]
  rw [fnTake_request hreq, ht]
  simp only [hfrom, htimeout, hid]
  rw [if_neg hok]
  cases t.answerWait id from' <;> rfl

/-- A WAIT that waits is answered as soon as it can be. -/
theorem execFrWait_answers {s t : State} {w : Nat × Nat × Nat} {rest : List (Nat × Nat × Nat)} (hwaits : s.host.waits = w :: rest)
    (hanswer : s.answerWait w.1 w.2.1 = some t) : execFrWait s = .next (t.onHost (fun h => { h with waits := rest })) := by
  simp only [execFrWait, hwaits, hanswer]

/-- One that its time has passed is answered TIMEOUT. -/
theorem execFrWaitTimeout_times {s : State} {w : Nat × Nat × Nat} {rest : List (Nat × Nat × Nat)} (hwaits : s.host.waits = w :: rest)
    (hdue : w.2.2 ≤ s.bell.count) (hnone : (s.onHost (fun h => { h with waits := rest })).answerWait w.1 w.2.1 = none) :
    execFrWaitTimeout s
      = .next ((s.onHost (fun h => { h with waits := rest })).ringRespond 1 (fnResponse 1 (w.1 % 65536) fnTimeout (leBytes 4 w.2.1))) := by
  simp only [execFrWaitTimeout, hwaits, hdue.not_gt, hnone, if_false]

/-- Settles O52: each command is its lemma above. The moment a deferred event is armed again, what a restart ends and the order of a WAIT's checks are
the model's choices where logs 160 and 162 say so. -/
theorem activationAndWatchdogs : Obligations.ActivationAndWatchdogs := by
  unfold Obligations.ActivationAndWatchdogs
  refine ⟨fun s who haccepts => ⟨?_, fun i hpc hevent => ?_⟩, fun s i hevent hpc hlevel => ?_, ?_, ?_, ?_, fun s p a hruns => ?_,
    fun s t seq b ht hreq => ?_, ?_, ?_, fun s w rest hwaits => ⟨fun t hanswer => ?_, fun hdue hnone => ?_⟩⟩
  · intro bell slot hbell hslot hin hsets hpc hfree hstaged hfallback hset
    rw [exec_pcSchedule, execPcSchedule, command_accepts haccepts, pcSchedule_arms hbell hslot hin hsets hpc hfree hstaged hfallback hset]
  · rw [exec_pcCancel, execPcCancel, command_accepts haccepts, pcCancel_cancels hpc hevent]
  · rw [exec_activationRearm, execActivationRearm_rearms hevent hpc hlevel]
  · intro s s1 t p x hx hruns hs1 ht
    rw [exec_healthy, execHealthy_marks hx hruns hs1 ht]
    refine ⟨fun hpc hall => ?_, fun hnot => ?_⟩
    · rw [if_pos ⟨hpc, hall⟩]
    · have hnone : ¬(t.fw.pcState = 4 ∧ t.trialHealthy = true) := fun hb => hnot.elim (· hb.1) (Bool.eq_false_iff.1 · hb.2)
      rw [if_neg hnone]
  · intro s s1 hpc hdue hsick hs1
    rw [exec_healthDeadline]
    exact ⟨execHealthDeadline_rollsBack hpc hdue hsick hs1, execHealthDeadline_waits hpc hdue hsick hs1⟩
  · intro s s1 p x dump recent hx hruns hon hrecent hs1
    have hfirst := fun poisoned hfew => execWatchdogExpiry_restarts (poisoned := poisoned) hx hruns hon hrecent hs1 hfew rfl
    simp only [exec_watchdogExpiry]
    refine ⟨fun hfew => ⟨fun hp => ?_, fun hp => ?_, fun hp => ⟨?_, ?_⟩, fun hp => ?_⟩, execWatchdogExpiry_third hx hruns hon hrecent hs1⟩
    · rw [hfirst false hfew, if_pos hp, hp]
      rfl
    · rw [hfirst false hfew, hp]
      rfl
    · rw [hfirst false hfew, hp]
      rfl
    · rw [hfirst true hfew, hp]
      rfl
    · rw [hfirst false hfew, if_neg (by omega), if_neg (by omega), if_neg (by omega)]
      rfl
  · rw [exec_fwAccessFault, exec_fwAccessFault]
    exact ⟨execFwAccessFault_traps hruns a, execFwAccessFault_stops hruns a⟩
  · rw [exec_frStatus, execFrStatus, fnTake_request hreq, ht]
  · intro s t seq p o b ht hreq hlen hp ho hproc hmax halign
    rw [exec_frDump, execFrDump_answers ht hreq hlen hp ho hproc hmax halign]
    refine ⟨fun hdenied => ?_, fun hfree => ?_⟩
    · rw [if_pos hdenied]
    · rw [if_neg (Bool.eq_false_iff.1 hfree)]
  · intro s t seq b hnone ht hreq hlen from' timeout id hfrom htimeout hid hvalid hmin hmax
    rw [exec_frWait, execFrWait_takes hnone ht hreq hlen hfrom htimeout hid hvalid hmin hmax]
    refine ⟨fun u hu => ?_, fun hu => ?_⟩
    · rw [hu, Option.getD_some]
    · rw [hu, Option.getD_none]
  · rw [exec_frWait, execFrWait_answers hwaits hanswer]
  · rw [exec_frWaitTimeout, execFrWaitTimeout_times hwaits hdue hnone]

end Sys2Proof.Laws
end

section
/-!
PROOFS. Power, boot and the event recorder (R594, R600, R601, R603, R644, R647, R648, R652, R661).
-/

namespace Sys2Proof.Laws
open Sys2Proof Sys2Proof.Machine

/-! ## Power (R661) -/

theorem execColdBoot_cold {s : State} (hcold : s.dev.st = devCold) : execColdBoot s = .next ((({ s with
      recorder := { s.recorder with pcycles := (s.recorder.pcycles + 1) % 2 ^ 32 }
      pins := { s.pins with pwrgood := true } } : State).onDev (fun d =>
      { d with bootStep := 1, bootKind := 0, bootStart := s.bell.count })).setDev devBooting) := by
  rw [execColdBoot, if_neg (not_not.2 hcold)]

theorem execPwrgoodDeassert_powersOff {s : State} (h : s.dev.st ≠ devLatched ∨ s.pins.thermtrip = false) : execPwrgoodDeassert s = .next s.powerOff := by
  have hopen : ¬(s.dev.st = devLatched ∧ s.pins.thermtrip = true) := fun hb => h.elim (· hb.1) (Bool.eq_false_iff.1 · hb.2)
  rw [execPwrgoodDeassert, if_neg hopen]

/-- A trip stays latched over PWRGOOD. -/
theorem execPwrgoodDeassert_latched {s : State} (hlatched : s.dev.st = devLatched) (htrip : s.pins.thermtrip = true) :
    execPwrgoodDeassert s = .next s := by
  rw [execPwrgoodDeassert, if_pos ⟨hlatched, htrip⟩]

/-! ## The boot steps (R594, R600, R603) -/

/-- The end of the last step, of a cold boot or of a warm reset, decides the device state. -/
theorem execBootStepEnd_last {s : State} (o : BootOutcome) (hboot : s.dev.st = devBooting) (hlast : s.dev.bootStep = 7 ∨ s.dev.bootStep = 0x16) :
    execBootStepEnd o s = .next (s.bootState o) := by
  rw [execBootStepEnd, if_neg (not_not.2 hboot)]
  rcases hlast with h | h <;> simp only [h]

section
variable {s t : State} {o : BootOutcome} (ht : s.onDev (fun d => { d with bootMs := o.ms }) = t)
include ht

/-- Without a core the device is SAFE for cause 4. -/
theorem bootState_noCore (hcores : t.coresEnabled = 0) : s.bootState o = t.enterSafe 4 := by
  simp only [State.bootState, ht, hcores, if_true]

/-- Without a port it is SAFE for cause 1. -/
theorem bootState_noPort (hcores : t.coresEnabled ≠ 0) (hport : t.anyPort = false) : s.bootState o = t.enterSafe 1 := by
  simp only [State.bootState, ht, hcores, hport, Bool.not_false, if_true, if_false]

/-- Otherwise it serves: READY when every unit is, and else READY-DEGRADED. -/
theorem bootState_serves (hcores : t.coresEnabled ≠ 0) (hport : t.anyPort = true) (hmarket : t.power.mktFailed.any (fun e => e.2 = 15) = false) :
    s.bootState o = (t.stepRecord o false 0).setDev (if t.allReady then devReady else devDegraded) := by
  simp only [State.bootState, ht, hcores, hport, hmarket, Bool.not_true, Bool.false_eq_true, if_false]

end

/-! ## The recorder (R644, R647, R648, R652) -/

section
variable {s : State} (hon : s.dev.st ≠ devCold) (hworks : s.recorder.state ≠ 2)
include hon hworks

/-- The record at the front of the queue is programmed. -/
theorem execRecordFlashWrite_programs {x : EventRec} {rest : List EventRec} (hqueue : s.recorder.queue = x :: rest) :
    execRecordFlashWrite 0 s = .next (({ s with recorder := { s.recorder.program x with queue := rest } } : State).recState 0) := by
  rw [execRecordFlashWrite, if_neg (not_or.2 ⟨hworks, hon⟩), hqueue]
  rfl

/-- A flash that fails twice ends recording. -/
theorem execRecordFlashWrite_fails {x : EventRec} {rest : List EventRec} (hqueue : s.recorder.queue = x :: rest) :
    execRecordFlashWrite 1 s = .next (s.recState 2) := by
  rw [execRecordFlashWrite, if_neg (not_or.2 ⟨hworks, hon⟩), hqueue]
  rfl

/-- One that does not answer keeps the queue. -/
theorem execRecordFlashWrite_silent : execRecordFlashWrite 2 s = .next (s.recState 1) := by
  rw [execRecordFlashWrite, if_neg (not_or.2 ⟨hworks, hon⟩)]
  rfl

end

theorem execRecordFlashWrite_ended {s : State} (hended : s.recorder.state = 2) (flash : Fin 3) : execRecordFlashWrite flash s = .next s := by
  rw [execRecordFlashWrite, if_pos (Or.inl hended)]

/-- CLEAR makes every earlier record unreadable and is itself recorded. -/
theorem erClear_clears {s t : State} {who : Nat} (hroom : s.recorder.queue.length ≤ 510)
    (ht : s.event 1 1 s.recorder.span (if (s.sessionOf who).isSome then 0 else 1) = t) :
    s.erClear who = ({ t with recorder := { t.recorder with oldest := t.recorder.head, clears := t.recorder.clears + 1 } } : State).answer 0 := by
  have hnotFull : ¬(s.recorder.state = 1 ∧ s.recorder.queue.length ≥ 512) := by omega
  have hfits : ¬(s.recorder.state ≠ 2 ∧ s.recorder.queue.length > (if s.recorder.lostPending = 0 then 511 else 510)) := by
    split <;> omega
  simp only [State.erClear]
  rw [if_neg hnotFull, if_neg hfits, ht]

/-- Settles O55: each command is its lemma above. That BROWNOUT ends a latched trip too is the model's choice (log 139). -/
theorem bootAndRecorder : Obligations.BootAndRecorder := by
  unfold Obligations.BootAndRecorder
  refine ⟨fun s hcold => ?_, fun s => ⟨fun hopen => ?_, fun hlatched htrip => ?_, rfl⟩, fun s who haccepts hst => ?_, fun s o hboot => ?_,
    fun s hon => ⟨fun hworks => ⟨fun x rest hqueue => ⟨?_, ?_⟩, ?_⟩, fun hended flash => ?_, ?_⟩, fun s t who haccepts hroom ht => ?_⟩
  · rw [exec_coldBoot, execColdBoot_cold hcold]
  · rw [exec_pwrgoodDeassert, execPwrgoodDeassert_powersOff hopen]
  · rw [exec_pwrgoodDeassert, execPwrgoodDeassert_latched hlatched htrip]
  · have hruns : s.serving = true ∨ s.dev.st = devSafe := by
      rw [State.serving, decide_eq_true_eq, or_assoc]
      exact hst
    rw [exec_devWarmReset, execDevWarmReset, command_accepts haccepts, if_pos hruns]
  · have hbooting : ¬s.dev.st ≠ devBooting := not_not.2 hboot
    rw [exec_bootStepEnd]
    refine ⟨fun h => ?_, fun h => ?_, fun h himages => ?_, fun h => ?_, fun h => ?_, fun h hlevel => ?_, fun h => ?_, fun h => ?_, fun h => ?_,
      fun h => ?_, fun h hlevel => ?_, fun h t ht => ?_⟩
    case refine_12 =>
      rw [execBootStepEnd_last o hboot h]
      refine ⟨fun hcores => ?_, fun hcores hport => ?_, fun hcores hport hmarket => ?_⟩
      · rw [bootState_noCore ht hcores]
      · rw [bootState_noPort ht hcores hport]
      · rw [bootState_serves ht hcores hport hmarket, devReady, devDegraded]
    all_goals
      rw [execBootStepEnd, if_neg hbooting]
      simp only [h]
    · rw [if_pos himages]
    · rw [if_neg hlevel.not_ge]
    · rw [if_neg hlevel.not_ge]
  · rw [exec_recordFlashWrite, execRecordFlashWrite_programs hon hworks hqueue]
  · rw [exec_recordFlashWrite, execRecordFlashWrite_fails hon hworks hqueue]
  · rw [exec_recordFlashWrite, execRecordFlashWrite_silent hon hworks]
  · rw [exec_recordFlashWrite, execRecordFlashWrite_ended hended]
  · have hpowered : s.dev.st ≠ devCold := hon
    rw [exec_optimePersist, execOptimePersist, if_neg hpowered]
    rfl
  · rw [exec_erClear, execErClear, command_accepts haccepts, erClear_clears hroom ht]

end Sys2Proof.Laws
end

section
/-!
PROOFS. READ, WRITE, SEG, NEXT and ABORT frames (R595, R619, R621, R624 to R627, R631).
-/

namespace Sys2Proof.Laws
open Sys2Proof Sys2Proof.Machine

/-! ## A frame on its way to its requester (R619) -/

/-- A frame that can be read goes, its requester greeted, to the rules of frames. -/
theorem dictFrame_reads {s u : State} {path source : Nat} {b : List Byte} {who : Fin 16} {f : DictFrame} (hread : readFrame b = some f)
    (hwho : s.requesterOf path source = some who) (hgreet : s.greet who path source = u) (found : WriteFound) :
    s.dictFrame f.op path source b found = u.requestFrame who f found := by
  simp only [State.dictFrame, hread, hwho, hgreet, if_true]

theorem frameIn_ring {s u : State} {bytes : List Byte} {who : Fin 16} {f : DictFrame} (h : Arrives s .ring bytes who f u) (found : WriteFound) :
    s.frameIn f.op .ring bytes found = (u.requestFrame who f found).getD s.waits := by
  obtain ⟨hserved, hready, hread, hwho, hgreet⟩ := h
  have hrow : ofRow f.op (s.ringFrame 0) = true := by simp only [ofRow, hread, decide_true]
  simp only [State.frameIn, srcPath, hserved, hready, hrow, dictFrame_reads hread hwho hgreet, Bool.not_true, Bool.false_eq_true, and_self, if_false, if_true]

theorem frameIn_session {s u : State} {n : Fin 8} {ok : Bool} {bytes : List Byte} {who : Fin 16} {f : DictFrame}
    (h : Arrives s (.session n ok) bytes who f u) (found : WriteFound) :
    s.frameIn f.op (.session n ok) bytes found = (u.requestFrame who f found).getD s.waits := by
  obtain ⟨hserved, hhere, hon, hlive, hused, hfinished, rfl, hread, t, rfl, hwho, hgreet⟩ := h
  have hring : ¬pathSession = pathRing := by decide
  have hpcie : ¬pathSession = pathPcie := by decide
  have hudp : ¬pathSession = pathUdp := by decide
  simp only [State.frameIn, srcPath, hserved, hhere, hring, hpcie, hudp, Bool.not_true, Bool.false_eq_true, false_and, if_false]
  rw [State.takeMessage, inSession_runs hon rfl hused hlive hfinished]
  exact congrArg (Option.getD · s.waits) (dictFrame_reads hread hwho hgreet found)

/-- A frame by MCTP or UDP is that of its vendor message. -/
theorem frameIn_message {s u : State} {src : FrameSrc} {path source : Nat} {bytes : List Byte} {who : Fin 16} {f : DictFrame} {found : WriteFound}
    (hpath : srcPath src = (path, source)) (hring : path ≠ pathRing)
    (htake : s.takeMessage f.op src bytes found = match s.vendorFrame bytes with
      | none => s
      | some b => (s.dictFrame f.op path source b found).getD s.waits)
    (h : s.pathServed path = true ∧ (path = pathPcie → s.linkUp = true ∧ s.host.d3hot = false) ∧ (path = pathUdp → s.pins.mgLink ≠ 0)
      ∧ s.securityAway = false ∧ (∃ b, s.vendorFrame bytes = some b ∧ readFrame b = some f) ∧ s.requesterOf path source = some who
      ∧ s.greet who path source = u) :
    s.frameIn f.op src bytes found = (u.requestFrame who f found).getD s.waits := by
  obtain ⟨hserved, hlink, hmanagement, hhere, ⟨b, hvendor, hread⟩, hwho, hgreet⟩ := h
  have hlinkUp : ¬(path = pathPcie ∧ ((!s.linkUp) = true ∨ s.host.d3hot = true)) := by
    rintro ⟨hp, hdown⟩
    obtain ⟨hup, hawake⟩ := hlink hp
    simp [hup, hawake] at hdown
  have hmanagementUp : ¬(path = pathUdp ∧ s.pins.mgLink = 0) := fun hb => hmanagement hb.1 hb.2
  simp only [State.frameIn, hpath, hserved, hring, hhere, Bool.not_true, Bool.false_eq_true, if_false]
  rw [if_neg hlinkUp, if_neg hmanagementUp, htake, hvendor]
  exact congrArg (Option.getD · s.waits) (dictFrame_reads hread hwho hgreet found)

/-- A frame that arrives is taken by the rules of its requester's frames; where its command waits, the frame stays with its sender. -/
theorem frameIn_arrives {s u : State} {src : FrameSrc} {bytes : List Byte} {who : Fin 16} {f : DictFrame} (h : Arrives s src bytes who f u)
    (found : WriteFound) : s.frameIn f.op src bytes found = (u.requestFrame who f found).getD s.waits := by
  cases src with
  | ring => exact frameIn_ring h found
  | session n ok => exact frameIn_session h found
  | pcie eid => exact frameIn_message rfl (by decide) rfl h
  | i3c eid => exact frameIn_message rfl (by decide) rfl h
  | udp addr port => exact frameIn_message rfl (by decide) rfl h

/-! ## A requester's frame (R623, R626, R627) -/

section
variable {u v : State} {who : Fin 16} {f : DictFrame} (found : WriteFound)

/-- ABORT ends the transaction of its TID. -/
theorem requestFrame_abort (hop : f.op = 9) : u.requestFrame who f found = some (u.closeTrans who f.tid) := by
  simp only [State.requestFrame, hop, if_true]

/-- A repeat gets the remembered answer. -/
theorem requestFrame_repeat {m : Memo} (hop : f.op ≠ 9) (hmemo : (u.requester who).memo.find? (fun m => m.key = f.key) = some m) :
    u.requestFrame who f found = some (({ u with dict := { u.dict with repeats := u.dict.repeats + 1 } } : State).sendOd (u.requester who).path
      (u.requester who).source (leBytes (m.answer.headD 0) (m.answer.getD 1 0))) := by
  simp only [State.requestFrame, hop, hmemo, if_false]

/-- A READ or a WRITE that is no repeat opens a transaction. -/
theorem requestFrame_opening (hfresh : Fresh u who f) (hop : f.op = 1 ∨ f.op = 2) : u.requestFrame who f found = u.openingFrame who f found := by
  obtain ⟨hmemo, howed⟩ := hfresh
  have h9 : f.op ≠ 9 := by omega
  simp only [State.requestFrame, h9, hmemo, howed, hop, Bool.false_eq_true, if_false, if_true]

theorem requestFrame_seg (hfresh : Fresh u who f) (hop : f.op = 3) : u.requestFrame who f found = u.segFrameOp who f found := by
  obtain ⟨hmemo, howed⟩ := hfresh
  simp only [State.requestFrame, hmemo, howed, hop, Bool.false_eq_true, Nat.reduceEqDiff, or_self, if_false, if_true]

theorem requestFrame_next (hfresh : Fresh u who f) (hop : f.op = 4) : u.requestFrame who f found = some (u.nextFrameOp who f) := by
  obtain ⟨hmemo, howed⟩ := hfresh
  simp only [State.requestFrame, hmemo, howed, hop, Bool.false_eq_true, Nat.reduceEqDiff, or_self, if_false]

/-! ## Opening a transaction (R624, R626) -/

/-- The TID of an open transaction is answered with ABORT SEQUENCE. -/
theorem openingFrame_tidTaken (htid : u.findTrans who f.tid ≠ none) : u.openingFrame who f found = some (u.abortFrame who f abortSequence) := by
  rw [State.openingFrame, if_pos (Option.isSome_iff_ne_none.2 htid)]

section
variable (hv : u.forgetTid who f.tid = v) (htid : u.findTrans who f.tid = none)
include hv htid

/-- A fifth transaction is answered with ABORT BUSY. -/
theorem openingFrame_busy (hfull : 4 ≤ (v.requester who).trans.length) :
    u.openingFrame who f found = some (v.respondAbort who f.key f.tid f.index f.sub abortBusy) := by
  simp only [State.openingFrame, htid, hv, Option.isSome_none, Bool.false_eq_true, ge_iff_le, hfull, if_false, if_true]

theorem openingFrame_read (hroom : (v.requester who).trans.length < 4) (hop : f.op = 1) :
    u.openingFrame who f found = some (v.readFrameOp who f) := by
  simp only [State.openingFrame, htid, hv, hop, Option.isSome_none, Bool.false_eq_true, ge_iff_le, hroom.not_ge, if_false, if_true]

theorem openingFrame_write (hroom : (v.requester who).trans.length < 4) (hop : f.op = 2) :
    u.openingFrame who f found = v.writeFrameOp who f found := by
  simp [State.openingFrame, htid, hv, hop, hroom.not_ge]

end

/-! ## READ (R595, R624) -/

/-- In the first steps of a boot only DEV_STATE and DEV_BOOT_STEP are read. -/
theorem readFrameOp_early (hearly : v.earlyBoot = true) (hother : ¬(f.index = 0x6000 ∧ (f.sub = 1 ∨ f.sub = 2))) :
    v.readFrameOp who f = v.respondStatus who f 0x0402 := by
  rw [State.readFrameOp, if_pos ⟨hearly, hother⟩]

section
variable (hread : v.earlyBoot = false ∨ (f.index = 0x6000 ∧ (f.sub = 1 ∨ f.sub = 2)))
include hread

/-- A READ is answered with segment 0 of its snapshot. -/
theorem readFrameOp_answers {b : List Byte} (hvalue : v.odRead who f.index f.sub = (0, b)) :
    v.readFrameOp who f = v.sendSegment who f f.index f.sub 0 b := by
  have hopen : ¬(v.earlyBoot = true ∧ ¬(f.index = 0x6000 ∧ (f.sub = 1 ∨ f.sub = 2))) := fun hb => hread.elim (Bool.eq_false_iff.1 · hb.1) hb.2
  rw [State.readFrameOp, if_neg hopen]
  simp only [hvalue]

/-- One that is refused is answered with the status. -/
theorem readFrameOp_refuses {e : Nat} {b : List Byte} (he : e ≠ 0) (hvalue : v.odRead who f.index f.sub = (e, b)) :
    v.readFrameOp who f = v.respondStatus who f e := by
  have hopen : ¬(v.earlyBoot = true ∧ ¬(f.index = 0x6000 ∧ (f.sub = 1 ∨ f.sub = 2))) := fun hb => hread.elim (Bool.eq_false_iff.1 · hb.1) hb.2
  rw [State.readFrameOp, if_neg hopen, hvalue]
  split
  · next heq => exact absurd (congrArg Prod.fst heq) he
  · next heq => rw [(Prod.mk.inj heq).1]

end

/-! ## NEXT and SEG (R624, R625) -/

section
variable {t : Trans} (ht : u.findTrans who f.tid = some t)
include ht

/-- NEXT sends the segment that is due. -/
theorem nextFrameOp_due (hread : t.write = false) (hseg : f.seg = t.seg) : u.nextFrameOp who f = u.sendSegment who f t.index t.sub t.seg t.buf := by
  simp only [State.nextFrameOp, ht, hread, hseg, Bool.not_false, and_self, if_true]

/-- Any other NEXT is answered with ABORT SEQUENCE. -/
theorem nextFrameOp_sequence (hbad : t.write = true ∨ f.seg ≠ t.seg) : u.nextFrameOp who f = u.abortFrame who f abortSequence := by
  have hnot : ¬((!t.write) = true ∧ f.seg = t.seg) := fun hb => hbad.elim (by simpa using hb.1) (· hb.2)
  simp only [State.nextFrameOp, ht]
  rw [if_neg hnot]

theorem segFrameOp_sequence (hbad : f.seg ≠ t.seg) : u.segFrameOp who f found = some (u.abortFrame who f abortSequence) := by
  simp only [State.segFrameOp, ht, hbad, and_false, if_false]

/-- The segment that is due is added to the write. -/
theorem segFrameOp_due (hwrite : t.write = true) (hseg : f.seg = t.seg) :
    u.segFrameOp who f found = u.addSegment who f t.index t.sub t.total (t.buf ++ f.data) found := by
  simp only [State.segFrameOp, ht, hwrite, hseg, and_self, if_true]

end

/-! ## WRITE (R625, R631) -/

section
variable {index sub total : Nat} {buf : List Byte}

/-- A segment with PART is acknowledged. -/
theorem addSegment_part (hpart : f.part = true) (hfull : f.data.length = 236) (hfits : buf.length ≤ total) :
    u.addSegment who f index sub total buf found = some ((u.openTrans who ⟨f.tid, true, index, sub, total, buf, f.seg + 1, u.bell.count⟩).respondWith who
      f.key f.tid index sub 0 f.seg 0 true []) := by
  simp only [State.addSegment, hpart, hfull, segBytes, hfits.not_gt, ne_eq, not_true_eq_false, or_self, if_false, if_true]

/-- The last segment performs the write when the lengths agree, -/
theorem addSegment_last (hpart : f.part = false) (hlen : buf.length = total) :
    u.addSegment who f index sub total buf found = u.finishWrite who f index sub buf found := by
  simp only [State.addSegment, hpart, hlen, Bool.false_eq_true, ne_eq, not_true_eq_false, if_false]

/-- and is answered with ABORT LENGTH when they do not. -/
theorem addSegment_length (hpart : f.part = false) (hlen : buf.length ≠ total) :
    u.addSegment who f index sub total buf found = some (u.abortFrame who f abortLength) := by
  simp only [State.addSegment, hpart, hlen, Bool.false_eq_true, ne_eq, not_false_eq_true, if_false, if_true]

end

section
variable (hopen : v.earlyBoot = false)
include hopen

/-- A write that a check refuses is answered with the status, -/
theorem writeFrameOp_refuses {e : Nat} (he : v.odWriteCheck who f.index f.sub f.total = e) (h0 : e ≠ 0) (h3 : e ≠ 3) :
    v.writeFrameOp who f found = some (v.respondStatus who f e) := by
  rw [State.writeFrameOp, if_neg (Bool.eq_false_iff.1 hopen), he]
  split
  · exact absurd rfl h0
  · exact absurd rfl h3
  · rfl

/-- one that is too long with ABORT LENGTH, -/
theorem writeFrameOp_length (he : v.odWriteCheck who f.index f.sub f.total = 3) : v.writeFrameOp who f found = some (v.abortFrame who f abortLength) := by
  rw [State.writeFrameOp, if_neg (Bool.eq_false_iff.1 hopen)]
  simp only [he]

/-- and an accepted one takes its segment 0. -/
theorem writeFrameOp_accepts (he : v.odWriteCheck who f.index f.sub f.total = 0) :
    v.writeFrameOp who f found = v.addSegment who f f.index f.sub f.total f.data found := by
  rw [State.writeFrameOp, if_neg (Bool.eq_false_iff.1 hopen)]
  simp only [he]

end

end

/-! ## The obligation -/

/-- A frame whose requester's rules give a next state leads to it. -/
theorem frameIn_eq {s u t : State} {src : FrameSrc} {bytes : List Byte} {who : Fin 16} {f : DictFrame} {found : WriteFound} {op : Nat}
    (h : Arrives s src bytes who f u) (hop : f.op = op) (ht : u.requestFrame who f found = some t) :
    (.next (s.frameIn op src bytes found) : Res) = .next t := by
  rw [← hop, frameIn_arrives h, ht, Option.getD_some]

/-- Settles O57: a frame that arrives reaches its requester's rules (`frameIn_eq`), and each answer is a lemma above. That ABORT is not answered and that
NEXT of a write is out of sequence are the model's choices (log 175). -/
theorem dictionaryFrames : Obligations.DictionaryFrames := by
  unfold Obligations.DictionaryFrames
  intro s u v src bytes who f h hv
  simp only [exec_odAbort, execOdAbort, exec_odRead, execOdRead, exec_odNext, execOdNext, exec_odWrite, execOdWrite, exec_odSeg, execOdSeg]
  refine ⟨fun hop => frameIn_eq h hop (requestFrame_abort _ hop),
    fun hop m hmemo => frameIn_eq h hop (requestFrame_repeat _ (by omega) hmemo), fun hfresh => ⟨fun hop htid => ?_, fun hop htid hfull => ?_,
    fun hop htid hroom => ⟨fun hearly hother => ?_, fun hread => ⟨fun b hvalue => ?_, fun e b he hvalue => ?_⟩⟩,
    fun hop t ht => ⟨fun hread hseg => ?_, fun hbad => ?_⟩,
    fun hop htid hroom hopen found e he => ⟨fun h0 h3 => ?_, fun h3 => ?_, fun h0 hpart hfull hfits => ?_, fun h0 hpart hlen t hfinish => ?_⟩,
    fun hop t ht hwrite => ⟨fun hbad => ?_, fun hseg hpart hlen => ?_, fun hseg hpart hlen r hfinish => ?_⟩⟩⟩
  · exact frameIn_eq h hop ((requestFrame_opening _ hfresh (.inl hop)).trans (openingFrame_tidTaken _ htid))
  · exact frameIn_eq h hop ((requestFrame_opening _ hfresh (.inl hop)).trans (openingFrame_busy _ hv htid hfull))
  · refine frameIn_eq h hop ((requestFrame_opening _ hfresh (.inl hop)).trans ?_)
    rw [openingFrame_read _ hv htid hroom hop, readFrameOp_early hearly hother]
  · refine frameIn_eq h hop ((requestFrame_opening _ hfresh (.inl hop)).trans ?_)
    rw [openingFrame_read _ hv htid hroom hop, readFrameOp_answers hread hvalue]
  · refine frameIn_eq h hop ((requestFrame_opening _ hfresh (.inl hop)).trans ?_)
    rw [openingFrame_read _ hv htid hroom hop, readFrameOp_refuses hread he hvalue]
  · exact frameIn_eq h hop ((requestFrame_next _ hfresh hop).trans (congrArg some (nextFrameOp_due ht hread hseg)))
  · exact frameIn_eq h hop ((requestFrame_next _ hfresh hop).trans (congrArg some (nextFrameOp_sequence ht hbad)))
  · refine frameIn_eq h hop ((requestFrame_opening _ hfresh (.inr hop)).trans ?_)
    rw [openingFrame_write _ hv htid hroom hop, writeFrameOp_refuses _ hopen he h0 h3]
  · refine frameIn_eq h hop ((requestFrame_opening _ hfresh (.inr hop)).trans ?_)
    rw [openingFrame_write _ hv htid hroom hop, writeFrameOp_length _ hopen (he.trans h3)]
  · refine frameIn_eq h hop ((requestFrame_opening _ hfresh (.inr hop)).trans ?_)
    rw [openingFrame_write _ hv htid hroom hop, writeFrameOp_accepts _ hopen (he.trans h0),
      addSegment_part _ hpart hfull (hfull.le.trans hfits)]
  · refine frameIn_eq h hop ((requestFrame_opening _ hfresh (.inr hop)).trans ?_)
    rw [openingFrame_write _ hv htid hroom hop, writeFrameOp_accepts _ hopen (he.trans h0), addSegment_last _ hpart hlen, hfinish]
  · exact frameIn_eq h hop ((requestFrame_seg _ hfresh hop).trans (segFrameOp_sequence _ ht hbad))
  · refine frameIn_eq h hop ((requestFrame_seg _ hfresh hop).trans ?_)
    rw [segFrameOp_due _ ht hwrite hseg, addSegment_length _ hpart hlen]
  · refine frameIn_eq h hop ((requestFrame_seg _ hfresh hop).trans ?_)
    rw [segFrameOp_due _ ht hwrite hseg, addSegment_last _ hpart hlen, hfinish]

end Sys2Proof.Laws
end

section
/-!
PROOFS. Register writes, defaults, and what time ends (R569, R571, R621, R625, R626, R631, R636, R637).
-/

namespace Sys2Proof.Laws
open Sys2Proof Sys2Proof.Machine

/-! ## Values without behaviour of their own (R628, R631) -/

section
variable {s : State} {who index sub : Nat} {bytes : List Byte} {r : OdRow} (hserved : s.served who = true) (hopen : s.earlyBoot = false)
include hserved hopen

section
variable (hrow : odRow index sub = some r) (hkind : r.kind ≠ .command)
include hrow hkind

/-- A write that checks 1 to 4 refuse is answered with the status. -/
theorem subWrite_refuses {e : Nat} (hcheck : s.odWriteCheck who index sub bytes.length = e) (h0 : e ≠ 0) (h3 : e ≠ 3) :
    s.subWrite who index sub bytes = s.answer e := by
  simp only [State.subWrite, hserved, hopen, hrow, hkind, hcheck, Bool.not_true, Bool.false_eq_true, if_false]

theorem subWrite_accepts (hcheck : s.odWriteCheck who index sub bytes.length = 0) :
    s.subWrite who index sub bytes = s.writePlain who index sub r bytes := by
  simp only [State.subWrite, hserved, hopen, hrow, hkind, hcheck, Bool.not_true, Bool.false_eq_true, if_false]

end

section
variable {v : Nat} (hv : leNat bytes = v) (hwritable : s.writable index = true)
include hv hwritable

/-- A staged value is the requester's own. -/
theorem writePlain_staged (hkind : r.kind = .staged) (hbool : r.size = .bool → v ≤ 1) :
    s.writePlain who index sub r bytes = (s.storeStaged who index sub bytes.length v).answer 0 := by
  have hrange : ¬(r.size = .bool ∧ v > 1) := fun hb => (hbool hb.1).not_gt hb.2
  simp only [State.writePlain, State.admitWrite, hserved, hopen, hwritable, hkind, hv, hrange, Bool.not_true, Bool.false_eq_true, if_false]

section
variable (hkind : r.kind ≠ .staged)
include hkind

/-- Any other value is stored when its range, state and conflict checks pass. -/
theorem writePlain_stores (hcheck : s.plainRefusal index sub v = 0) :
    s.writePlain who index sub r bytes = (s.storePlain r.kind index sub bytes.length v).answer 0 := by
  simp only [State.writePlain, State.admitWrite, hserved, hopen, hwritable, hv, hcheck, Bool.not_true, Bool.false_eq_true, if_false]

theorem writePlain_refuses {e : Nat} (he : e ≠ 0) (hcheck : s.plainRefusal index sub v = e) :
    s.writePlain who index sub r bytes = s.answer e := by
  simp only [State.writePlain, State.admitWrite, hserved, hopen, hwritable, hv, hcheck, Bool.not_true, Bool.false_eq_true, if_false]

end

end

end

theorem execRegisterWrite_beat {s : State} {p : Fin 64} (hruns : (s.proc p).st ≠ 0) (bytes : List Byte) :
    execRegisterWrite (.beat p) bytes s = .next (s.setProc p { s.proc p with beat := leNat bytes % 65536 }) := by
  simp only [execRegisterWrite, hruns, if_false]

/-! ## DEFAULTS (R637) -/

theorem execOdDefaults_sealed {s : State} {who : Fin 16} (haccepts : Accepts s who 0x1020 (s.authPlain who)) (hsealed : ∃ p, p < 4 ∧ (s.seal p).st = 1) :
    execOdDefaults who s = .next (s.answer 0x0402) := by
  have hany : (List.range 4).any (fun p => decide ((s.seal p).st = 1)) = true := by simpa using hsealed
  rw [execOdDefaults, command_accepts haccepts, if_pos hany]

theorem execOdDefaults_marks {s : State} {who : Fin 16} (haccepts : Accepts s who 0x1020 (s.authPlain who)) (hopen : ∀ p, p < 4 → (s.seal p).st ≠ 1) :
    execOdDefaults who s = .next (({ s with dict := { s.dict with defaults := true } } : State).answer 0) := by
  have hnone : ¬(List.range 4).any (fun p => decide ((s.seal p).st = 1)) = true := by simpa using hopen
  rw [execOdDefaults, command_accepts haccepts, if_neg hnone]

/-! ## What time ends (R621, R626, R636) -/

section
variable {s u : State} {who : Fin 16} {tid : Fin 256} {t : Trans} (ht : s.findTrans who tid = some t)
include ht

/-- A transaction silent for 2 s is aborted. -/
theorem execTransactionTimeout_aborts (hu : s.closeTrans who tid = u) (hdue : t.bell + 2000000 ≤ s.bell.count) : execTransactionTimeout who tid s
    = .next (({ u with dict := { u.dict with aborts := u.dict.aborts + 1 } } : State).sendOd (u.requester who).path (u.requester who).source
      (DictFrame.bytes ⟨9, tid, t.index, t.sub, abortTimeout, 0, 0, false, [], 0⟩)) := by
  simp only [execTransactionTimeout, ht, hdue.not_gt, hu, if_false]

theorem execTransactionTimeout_waits (hearly : s.bell.count < t.bell + 2000000) : execTransactionTimeout who tid s = .next s := by
  simp only [execTransactionTimeout, ht, hearly, if_true]

end

section
variable {s : State} {who : Fin 16} (hused : (s.requester who).used = true)
include hused

/-- A requester silent for 60 s loses its state. -/
theorem execRequesterExpiry_releases (hdue : (s.requester who).bell + 60000000 ≤ s.bell.count) :
    execRequesterExpiry who s = .next (s.releaseReq who) := by
  simp only [execRequesterExpiry, hused, ge_iff_le, hdue, and_self, if_true]

theorem execRequesterExpiry_waits (hearly : s.bell.count < (s.requester who).bell + 60000000) : execRequesterExpiry who s = .next s := by
  simp only [execRequesterExpiry, hused, ge_iff_le, hearly.not_ge, and_false, if_false]

end

/-- Settles O58: each command is its lemma above. That CTXSEL keeps bits 63 and 11:0 is the model's choice (log 127). -/
theorem registersAndTime : Obligations.RegistersAndTime := by
  unfold Obligations.RegistersAndTime
  refine ⟨?_, fun s bytes => ⟨fun p hruns => ?_, fun k => rfl⟩, fun s who haccepts => ?_, fun s u who tid t ht hu => ?_, fun s who hused => ?_,
    fun s hstored => ?_⟩
  · intro s who index sub bytes r v hserved hopen hrow hkind hv
    simp only [exec_registerWrite, execRegisterWrite]
    refine ⟨fun e hcheck h0 h3 => ?_, fun hcheck hwritable => ?_⟩
    · rw [subWrite_refuses hserved hopen hrow hkind hcheck h0 h3]
    · rw [subWrite_accepts hserved hopen hrow hkind hcheck]
      refine ⟨fun hplain hpass => ?_, fun hplain e he hfail => ?_, fun hstaged hbool => ?_⟩
      · rw [writePlain_stores hserved hopen hv hwritable hplain hpass]
      · rw [writePlain_refuses hserved hopen hv hwritable hplain he hfail]
      · rw [writePlain_staged hserved hopen hv hwritable hstaged hbool]
  · rw [exec_registerWrite, execRegisterWrite_beat hruns]
  · rw [exec_odDefaults]
    exact ⟨execOdDefaults_sealed haccepts, execOdDefaults_marks haccepts⟩
  · rw [exec_transactionTimeout]
    exact ⟨execTransactionTimeout_aborts ht hu, execTransactionTimeout_waits ht⟩
  · rw [exec_requesterExpiry]
    exact ⟨execRequesterExpiry_releases hused, execRequesterExpiry_waits hused⟩
  · rw [exec_persistRetry, execPersistRetry, if_neg hstored]

end Sys2Proof.Laws
end

section
/-!
PROOFS. The power-cycle count (R645).
-/

namespace Sys2Proof.Laws
open Sys2Proof Sys2Proof.Machine

/-! ## What leaves the count alone -/

@[simp] theorem push_pcycles (r : Recorder) (bell cls detail p0 p1 : Nat) : (r.push bell cls detail p0 p1).pcycles = r.pcycles := rfl

@[simp] theorem recorder_event_pcycles (r : Recorder) (bell cls detail p0 p1 : Nat) : (r.event bell cls detail p0 p1).pcycles = r.pcycles := by
  simp only [Recorder.event]
  split_ifs <;> rfl

section
variable (s : State)

@[simp] theorem event_pcycles (cls detail p0 p1 : Nat) : (s.event cls detail p0 p1).recorder.pcycles = s.recorder.pcycles :=
  recorder_event_pcycles _ _ _ _ _ _

@[simp] theorem answer_recorder (status : Nat) : (s.answer status).recorder = s.recorder := by
  simp only [State.answer]
  split_ifs <;> rfl

@[simp] theorem raiseEvt_recorder (bit : Nat) : (s.raiseEvt bit).recorder = s.recorder := by
  simp only [State.raiseEvt]
  split_ifs <;> rfl

@[simp] theorem setDev_recorder (st : Nat) : (s.setDev st).recorder = s.recorder := by
  simp only [State.setDev]
  split_ifs
  · rfl
  · rw [raiseEvt_recorder, onDev_recorder]

@[simp] theorem raiseEvt_dev (bit : Nat) : (s.raiseEvt bit).dev = s.dev := by
  simp only [State.raiseEvt]
  split_ifs <;> rfl

@[simp] theorem setDev_dev (st : Nat) : (s.setDev st).dev = { s.dev with st := st } := by
  rw [State.setDev]
  split_ifs with h
  · rw [← h]
  · rw [raiseEvt_dev, onDev_dev]

@[simp] theorem applyDefaults_recorder : s.applyDefaults.recorder = s.recorder := by
  simp only [State.applyDefaults]
  split_ifs <;> rfl

@[simp] theorem warmFirmware_pcycles : s.warmFirmware.recorder.pcycles = s.recorder.pcycles := by
  simp only [State.warmFirmware, onFw_recorder]
  split_ifs
  · exact event_pcycles _ _ _ _ _
  · rfl

/-- A warm reset leaves the count as it is. -/
theorem warmReset_pcycles : s.warmReset.recorder.pcycles = s.recorder.pcycles := by
  have hclear : ∀ s : State, s.warmClear.recorder = s.warmFirmware.recorder := fun _ => rfl
  calc s.warmReset.recorder.pcycles
      = (s.event 0x11 4 0 0).applyDefaults.warmClear.recorder.pcycles := congrArg Recorder.pcycles (setDev_recorder _ _)
    _ = s.recorder.pcycles := by rw [hclear, warmFirmware_pcycles, applyDefaults_recorder, event_pcycles]

end

/-- A command leaves the count as it is when its own rules do. -/
theorem command_pcycles {s : State} {k : State → State} (hk : (k s).recorder.pcycles = s.recorder.pcycles) (who index : Nat) (auth : Bool) :
    (s.command who index auth k).recorder.pcycles = s.recorder.pcycles := by
  simp only [State.command, State.admitWrite]
  split_ifs
  case neg => exact hk
  all_goals simp only [answer_recorder, waits_recorder]

/-- Settles O4: COLD_BOOT counts before anything is recorded, and a warm reset is a command whose every part leaves the count alone. -/
theorem powerCycles : Obligations.PowerCycles := by
  unfold Obligations.PowerCycles
  refine ⟨fun s hcold => ?_, fun s who => ⟨_, rfl, ?_⟩⟩
  · refine ⟨_, (exec_coldBoot s).trans (execColdBoot_cold hcold), ?_⟩
    rw [setDev_recorder, setDev_dev]
    exact ⟨rfl, rfl, rfl, rfl, rfl, rfl⟩
  · apply command_pcycles
    split_ifs
    · rw [answer_recorder, warmReset_pcycles]
    · rw [answer_recorder]

end Sys2Proof.Laws
end

section
/-!
PROOFS. The device state (R593): which operations of the model leave it as it is, and that the others set one of the six codes of Table 21-1.
A lemma proved by `(rfl)` and not by `rfl` is one that `simp` rewrites with, under a quantifier too.
-/

namespace Sys2Proof.Machine

/-- The code of the device state (Table 21-1). -/
def State.devSt (s : State) : Nat := s.dev.st

end Sys2Proof.Machine

namespace Sys2Proof.Laws
open Sys2Proof Sys2Proof.Machine

@[simp] theorem dev_st (s : State) : s.dev.st = s.devSt := (rfl)

@[simp] theorem mk_devSt (pending out freeCtr dev recorder bell cores clusters sched host market hbm ecc pager fabric sec power thermal fw pins dict) :
    State.devSt ⟨pending, out, freeCtr, dev, recorder, bell, cores, clusters, sched, host, market, hbm, ecc, pager, fabric, sec, power, thermal, fw,
      pins, dict⟩ = dev.st := (rfl)

@[simp] theorem ite_devSt (c : Prop) [Decidable c] (s t : State) : (if c then s else t).devSt = if c then s.devSt else t.devSt :=
  apply_ite State.devSt c s t

@[simp] theorem ite_fst_devSt {α : Type} (c : Prop) [Decidable c] (p q : State × α) :
    (if c then p else q).1.devSt = if c then p.1.devSt else q.1.devSt :=
  apply_ite (fun p : State × α => p.1.devSt) c p q

/-- A step that leaves the device state as it is. -/
def KeepsSt (s : State) : Res → Prop
  | .next t => t.devSt = s.devSt
  | _ => True

@[simp] theorem keepsSt_next (s t : State) : KeepsSt s (.next t) ↔ t.devSt = s.devSt := Iff.rfl

@[simp] theorem keepsSt_fault (s : State) (f : Fault) : KeepsSt s (.fault f) := trivial

@[simp] theorem keepsSt_refused (s : State) (r : Refusal) : KeepsSt s (.refused r) := trivial

@[simp] theorem keepsSt_ite (c : Prop) [Decidable c] (s : State) (q r : Res) :
    KeepsSt s (if c then q else r) ↔ if c then KeepsSt s q else KeepsSt s r := by
  split <;> rfl

section
variable {α β : Type}

/-- A fold of operations that keep the device state keeps it. -/
@[simp] theorem foldl_devSt {f : State → α → State} (hf : ∀ s a, (f s a).devSt = s.devSt) (l : List α) (s : State) :
    (l.foldl f s).devSt = s.devSt := by
  induction l generalizing s with
  | nil => rfl
  | cons a l ih => rw [List.foldl_cons, ih, hf]

@[simp] theorem foldl_fst_devSt {f : State × β → α → State × β} (hf : ∀ p a, (f p a).1.devSt = p.1.devSt) (l : List α) (p : State × β) :
    (l.foldl f p).1.devSt = p.1.devSt := by
  induction l generalizing p with
  | nil => rfl
  | cons a l ih => rw [List.foldl_cons, ih, hf]

end

/-! ## Operations of Machine/Ops that keep the device state -/

section
variable (s : State)

@[simp] theorem emit_devSt (p : OutPort) (code : Nat) (vals : List Nat) : (s.emit p code vals).devSt = s.devSt := (rfl)
@[simp] theorem answer_devSt (status : Nat) : (s.answer status).devSt = s.devSt := by simp [State.answer]
@[simp] theorem waits_devSt : s.waits.devSt = s.devSt := (rfl)
@[simp] theorem fresh_devSt : (s.fresh).1.devSt = s.devSt := (rfl)
@[simp] theorem setVal_devSt (index sub len v : Nat) : (s.setVal index sub len v).devSt = s.devSt := (rfl)
@[simp] theorem stage_devSt (who index sub len v : Nat) : (s.stage who index sub len v).devSt = s.devSt := (rfl)
@[simp] theorem unstage_devSt (who index sub : Nat) : (s.unstage who index sub).devSt = s.devSt := (rfl)

@[simp] theorem applied_devSt (who index : Nat) (subs : List (Nat × Nat × Nat)) : (s.applied who index subs).devSt = s.devSt := by
  simp [State.applied]

@[simp] theorem select_devSt (who index sub len v : Nat) : (s.select who index sub len v).devSt = s.devSt := (rfl)
@[simp] theorem event_devSt (cls detail p0 p1 : Nat) : (s.event cls detail p0 p1).devSt = s.devSt := (rfl)
@[simp] theorem keepVal_devSt (index sub len v : Nat) : (s.keepVal index sub len v).devSt = s.devSt := by simp [State.keepVal]
@[simp] theorem setUnit_devSt (kind i : Nat) (r : UnitRec) : (s.setUnit kind i r).devSt = s.devSt := (rfl)
@[simp] theorem moveUnit_devSt (kind i st reason : Nat) : (s.moveUnit kind i st reason).devSt = s.devSt := (rfl)
@[simp] theorem holdActivation_devSt : s.holdActivation.devSt = s.devSt := by simp [State.holdActivation]
@[simp] theorem settleLevel_devSt : s.settleLevel.devSt = s.devSt := by simp [State.settleLevel]

end

/-! ## Operations of Machine/Command that keep the device state -/

section
variable (s : State)

@[simp] theorem setRequester_devSt (who : Nat) (r : Requester) : (s.setRequester who r).devSt = s.devSt := (rfl)
@[simp] theorem setSession_devSt (n : Nat) (x : Session) : (s.setSession n x).devSt = s.devSt := (rfl)
@[simp] theorem authFailed_devSt (source part : Nat) : (s.authFailed source part).devSt = s.devSt := by simp [State.authFailed]

@[simp] theorem admitWrite_devSt (who index : Nat) (auth : Bool) {k : State → State} (hk : (k s).devSt = s.devSt) :
    (s.admitWrite who index auth k).devSt = s.devSt := by
  simp [State.admitWrite, hk]

@[simp] theorem command_devSt (who index : Nat) (auth : Bool) {k : State → State} (hk : (k s).devSt = s.devSt) :
    (s.command who index auth k).devSt = s.devSt := by
  simp [State.command, hk]

@[simp] theorem appliedIf_devSt (t : State) (who index : Nat) (subs : List (Nat × Nat × Nat)) : (t.appliedIf who index subs).devSt = t.devSt := by
  simp [State.appliedIf]

end

/-! ## Operations of Machine/Mem that keep the device state -/

section
variable (s : State)

@[simp] theorem setFrame_devSt (q f : Nat) (r : FrameRole) : (s.setFrame q f r).devSt = s.devSt := (rfl)
@[simp] theorem eccNote_devSt (kind mem unit symbol addr : Nat) : (s.eccNote kind mem unit symbol addr).devSt = s.devSt := by simp [State.eccNote]

@[simp] theorem eccCorrected_devSt (mem unit symbol addr : Nat) : (s.eccCorrected mem unit symbol addr).devSt = s.devSt := by
  simp [State.eccCorrected]

@[simp] theorem eccFresh_devSt (kind mem unit addr : Nat) : (s.eccFresh kind mem unit addr).devSt = s.devSt := by simp [State.eccFresh]
@[simp] theorem eccPoisonRead_devSt : s.eccPoisonRead.devSt = s.devSt := (rfl)
@[simp] theorem eccPoisonFold_devSt (s0 s : State) : (s0.eccPoisonFold s).devSt = s.devSt := (rfl)
@[simp] theorem eccWroteBack_devSt (mem unit symbol addr : Nat) : (s.eccWroteBack mem unit symbol addr).devSt = s.devSt := (rfl)
@[simp] theorem setStack_devSt (j : Nat) (k : Stack) : (s.setStack j k).devSt = s.devSt := (rfl)
@[simp] theorem setHbmSector_devSt (n : Nat) (x : HbmSector) : (s.setHbmSector n x).devSt = s.devSt := (rfl)
@[simp] theorem hbmAccept_devSt (acc : Acc) (addr kind : Nat) : (s.hbmAccept acc addr kind).devSt = s.devSt := (rfl)
@[simp] theorem rekeyedFrom_devSt (s0 s : State) : (s0.rekeyedFrom s).devSt = s.devSt := (rfl)

@[simp] theorem hbmChecked_devSt (n : Nat) : (s.hbmChecked n).1.devSt = s.devSt := by
  simp only [State.hbmChecked, ite_fst_devSt]
  split
  · rfl
  · split <;> simp

@[simp] theorem hbmReadNow_devSt (acc : Acc) (n : Nat) : (s.hbmReadNow acc n).1.devSt = s.devSt := by simp [State.hbmReadNow]
@[simp] theorem hbmWriteNow_devSt (acc : Acc) (n : Nat) (x : HbmSector) : (s.hbmWriteNow acc n x).devSt = s.devSt := by simp [State.hbmWriteNow]
@[simp] theorem mergeLost_devSt (j : Nat) : (s.mergeLost j).devSt = s.devSt := (rfl)
@[simp] theorem mergeNow_devSt (m : MergeReq) : (s.mergeNow m).devSt = s.devSt := by simp [State.mergeNow]
@[simp] theorem settleMerges_devSt (n : Nat) : (s.settleMerges n).devSt = s.devSt := by simp [State.settleMerges]
@[simp] theorem settleRange_devSt (lo n : Nat) : (s.settleRange lo n).devSt = s.devSt := by simp [State.settleRange]
@[simp] theorem hbmRead_devSt (acc : Acc) (n : Nat) : (s.hbmRead acc n).1.devSt = s.devSt := by simp [State.hbmRead]
@[simp] theorem hbmWrite_devSt (acc : Acc) (n : Nat) (x : HbmSector) : (s.hbmWrite acc n x).devSt = s.devSt := by simp [State.hbmWrite]
@[simp] theorem hbmMerge_devSt (acc : Acc) (n : Nat) (x : Sector) : (s.hbmMerge acc n x).devSt = s.devSt := by simp [State.hbmMerge]
@[simp] theorem setSector_devSt (n : Nat) (x : Sector) : (s.setSector n x).devSt = s.devSt := (rfl)
@[simp] theorem setLine_devSt (l : Nat) (x : LineRec) : (s.setLine l x).devSt = s.devSt := (rfl)
@[simp] theorem setShWay_devSt (l row1 : Nat) : (s.setShWay l row1).devSt = s.devSt := (rfl)

@[simp] theorem readOut_devSt (n : Nat) (x : Sector) : (s.readOut n x).1.devSt = s.devSt := by
  rw [State.readOut]
  split <;> simp

@[simp] theorem writeBackSector_devSt (acc : Acc) (n : Nat) : (s.writeBackSector acc n).devSt = s.devSt := by
  rw [State.writeBackSector]
  split <;> simp

@[simp] theorem evictLine_devSt (acc : Acc) (l : Nat) : (s.evictLine acc l).devSt = s.devSt := by simp [State.evictLine]

theorem takeWay_devSt {acc : Machine.Acc} {stall set : Nat} {p : State × Nat} (h : s.takeWay acc stall set = some p) : p.1.devSt = s.devSt := by
  simp only [State.takeWay] at h
  split at h
  · cases h
    rfl
  · split at h
    · cases h
      simp
    · cases h

@[simp] theorem touch_devSt (l : Nat) : (s.touch l).devSt = s.devSt := by simp [State.touch]

theorem ensureLine_devSt {acc : Machine.Acc} {l : Nat} {t : State} (h : s.ensureLine acc l = some t) : t.devSt = s.devSt := by
  rw [State.ensureLine] at h
  split at h
  · cases h
    rfl
  · split at h
    · cases h
      simp
    · split at h
      · cases h
      · split at h
        · cases h
        · next hway =>
          cases h
          simp [takeWay_devSt s hway]

@[simp] theorem mirrorTo_devSt (e : Nat) (r : MirRec) : (s.mirrorTo e r).devSt = s.devSt := (rfl)

@[simp] theorem mirror_devSt (mir : Option (Nat × Nat)) (n kind fmt : Nat) (anchor : Int) (emask : Half) (body : List Byte) :
    (s.mirror mir n kind fmt anchor emask body).devSt = s.devSt := by
  simp only [State.mirror]
  split <;> simp

@[simp] theorem mirrorHeld_devSt (mir : Option (Nat × Nat)) : (s.mirrorHeld mir).devSt = s.devSt := by
  simp only [State.mirrorHeld]
  split <;> simp

@[simp] theorem setEpoch_devSt (e : Nat) (x : Epoch) : (s.setEpoch e x).devSt = s.devSt := (rfl)

theorem ensureShadow_devSt {acc : Machine.Acc} {l : Nat} {m : Half} {t : State} (h : s.ensureShadow acc l m = some t) : t.devSt = s.devSt := by
  simp only [State.ensureShadow] at h
  split at h
  · cases h
    rfl
  · split at h
    · cases h
    · split at h
      · cases h
      · split at h
        · cases h
        · next hway =>
          cases h
          simp [takeWay_devSt s hway]

@[simp] theorem freeShadow_devSt (l : Nat) : (s.freeShadow l).devSt = s.devSt := by simp [State.freeShadow]
@[simp] theorem staleRead_devSt : s.staleRead.devSt = s.devSt := (rfl)
@[simp] theorem backing_devSt (acc : Acc) (n : Nat) : (s.backing acc n).1.devSt = s.devSt := by simp [State.backing]

@[simp] theorem checkSector_devSt (acc : Acc) (n : Nat) : (s.checkSector acc n).1.devSt = s.devSt := by
  rw [State.checkSector]
  split <;> simp

@[simp] theorem baseView_devSt (acc : Acc) (n : Nat) : (s.baseView acc n).1.devSt = s.devSt := by
  rw [State.baseView]
  split <;> simp

@[simp] theorem draftView_devSt (acc : Acc) (n : Nat) : (s.draftView acc n).1.devSt = s.devSt := by
  rw [State.draftView]
  split <;> simp

@[simp] theorem dropSector_devSt (n : Nat) : (s.dropSector n).devSt = s.devSt := by simp [State.dropSector]
@[simp] theorem lastUse_devSt (n : Nat) : (s.lastUse n).devSt = s.devSt := by simp [State.lastUse]
@[simp] theorem foldCount_devSt (e : FoldEnd) : (s.foldCount e).devSt = s.devSt := (rfl)

@[simp] theorem foldBase_devSt (acc : Acc) (n fmt : Nat) (elems : List (Nat × FoldOperand)) : (s.foldBase acc n fmt elems).1.devSt = s.devSt := by
  rw [State.foldBase]
  split <;> simp

@[simp] theorem foldDraft_devSt (acc : Acc) (n fmt : Nat) (elems : List (Nat × FoldOperand)) : (s.foldDraft acc n fmt elems).1.devSt = s.devSt := by
  rw [State.foldDraft]
  split <;> simp

@[simp] theorem foldApply_devSt (acc : Machine.Acc) (n fmt : Nat) (elems : List (Nat × FoldOperand)) : (s.foldApply acc n fmt elems).1.devSt = s.devSt := by
  simp only [State.foldApply, ite_fst_devSt]
  split
  · rfl
  · split
    · rfl
    · split
      · simp
      · split
        · simp
        · split
          · rfl
          · next s1 h =>
            have hs1 : s1.devSt = s.devSt := by
              split at h
              · exact ensureLine_devSt s h
              · exact ensureShadow_devSt s h
            simp [hs1]

@[simp] theorem drainOne_devSt (p : State × List FoldReq) (r : FoldReq) : (drainOne p r).1.devSt = p.1.devSt := by
  simp only [drainOne, ite_fst_devSt]
  split
  · rfl
  · split <;> simp

@[simp] theorem drainLine_devSt (l : Nat) : (s.drainLine l).devSt = s.devSt := by
  rw [State.drainLine]
  split <;> simp

@[simp] theorem readSector_devSt (acc : Machine.Acc) (n : Nat) : (s.readSector acc n).1.devSt = s.devSt := by
  simp only [State.readSector, ite_fst_devSt]
  split
  · rfl
  · split
    · rfl
    · split
      · rfl
      · split
        · rfl
        · next hline =>
          simp only [ite_fst_devSt]
          split
          · split
            · rfl
            · next hshadow => simp [ensureShadow_devSt _ hshadow, ensureLine_devSt _ hline]
          · simp [ensureLine_devSt _ hline]

@[simp] theorem writeSector_devSt (acc : Machine.Acc) (n : Nat) (d : BitVec 256) (poison : Bool) : (s.writeSector acc n d poison).1.devSt = s.devSt := by
  simp only [State.writeSector, ite_fst_devSt]
  split
  · rfl
  · split
    · rfl
    · split
      · rfl
      · split
        · simp
        · split
          · split
            · rfl
            · next hline => simp [ensureLine_devSt _ hline]
          · split
            · rfl
            · next hshadow => simp [ensureShadow_devSt _ hshadow]

@[simp] theorem modifySector_devSt (acc : Machine.Acc) (n : Nat) (isAtomic : Bool) (f : BitVec 256 → BitVec 256) :
    (s.modifySector acc n isAtomic f).1.devSt = s.devSt := by
  simp only [State.modifySector, ite_fst_devSt]
  split
  · rfl
  · split
    · rfl
    · split
      · rfl
      · split
        · simp
        · split
          · rfl
          · next hline =>
            simp only [ite_fst_devSt]
            split
            · simp [ensureLine_devSt _ hline]
            · split
              · rfl
              · next hshadow => simp [ensureShadow_devSt _ hshadow, ensureLine_devSt _ hline]

@[simp] theorem applyShadow_devSt (n : Nat) : (s.applyShadow n).devSt = s.devSt := by
  simp only [State.applyShadow]
  split
  · rfl
  · split
    · simp
    · next hline => simp [ensureLine_devSt _ hline]
  · split
    · simp
    · next hline => simp [ensureLine_devSt _ hline]
  · simp

@[simp] theorem commitSector_devSt (c : Half) (n : Nat) : (State.commitSector c s n).devSt = s.devSt := by simp [State.commitSector]
@[simp] theorem cancelSector_devSt (c : Half) (n : Nat) : (State.cancelSector c s n).devSt = s.devSt := by simp [State.cancelSector]

@[simp] theorem eachShadow_devSt {f : State → Nat → State} (hf : ∀ s n, (f s n).devSt = s.devSt) : (s.eachShadow f).devSt = s.devSt := by
  simp [State.eachShadow, hf]

@[simp] theorem commitStalls_devSt (c : Half) : (s.commitStalls c).devSt = s.devSt := by simp [State.commitStalls]
@[simp] theorem cancelStalls_devSt (c : Half) : (s.cancelStalls c).devSt = s.devSt := by simp [State.cancelStalls]

end

/-! ## Operations of Machine/Paging that keep the device state -/

section
variable (s : State)

/-- A fold of operations that can fail keeps the device state when each of them does. -/
theorem foldl_bind_devSt {α : Type} {f : State → α → Option State} (hf : ∀ s a t, f s a = some t → t.devSt = s.devSt) {l : List α} {s t : State}
    (h : l.foldl (fun (o : Option State) a => o.bind (fun s => f s a)) (some s) = some t) : t.devSt = s.devSt := by
  induction l generalizing s with
  | nil => rw [Option.some.inj h]
  | cons a l ih =>
    rw [List.foldl_cons, Option.bind_some] at h
    cases hstep : f s a with
    | none =>
      have hnone : ∀ l : List α, l.foldl (fun (o : Option State) a => o.bind (fun s => f s a)) none = none := by
        intro l
        induction l with
        | nil => rfl
        | cons a l ih => exact ih
      rw [hstep, hnone] at h
      cases h
    | some u =>
      rw [hstep] at h
      rw [ih h, hf s a u hstep]

theorem getD_devSt {o : Option State} {s t : State} (ho : ∀ u, o = some u → u.devSt = s.devSt) (ht : t.devSt = s.devSt) : (o.getD t).devSt = s.devSt := by
  cases o with
  | none => exact ht
  | some u => exact ho u rfl

@[simp] theorem setCtx_devSt (c : Nat) (x : Ctx) : (s.setCtx c x).devSt = s.devSt := (rfl)
@[simp] theorem setPage_devSt (k : Nat) (p : Page) : (s.setPage k p).devSt = s.devSt := (rfl)

theorem vacateFrame_devSt {q f : Nat} {t : State} (h : s.vacateFrame q f = some t) : t.devSt = s.devSt := by
  simp only [State.vacateFrame] at h
  split at h
  · cases h
  · obtain ⟨u, hu, rfl⟩ := Option.map_eq_some_iff.1 h
    rw [setFrame_devSt, foldl_bind_devSt ?_ hu, setFrame_devSt, foldl_devSt (fun s l => by simp)]
    intro s l t ht
    split at ht
    · cases ht
    · obtain ⟨x, hx, rfl⟩ := Option.map_eq_some_iff.1 ht
      simp [takeWay_devSt s hx]

theorem takeFrames_devSt {r : FrameRole} {q n f : Nat} {t : State} (h : State.takeFrames r q n f s = some t) : t.devSt = s.devSt := by
  induction n generalizing f s with
  | zero =>
    cases h
    rfl
  | succ n ih =>
    rw [State.takeFrames] at h
    split at h
    · exact ih s h
    · split at h
      · cases h
      · next hvacate => rw [ih _ h, setFrame_devSt, vacateFrame_devSt s hvacate]

@[simp] theorem forgetSectors_devSt (lo n : Nat) : (s.forgetSectors lo n).devSt = s.devSt := (rfl)
@[simp] theorem zeroHbm_devSt (lo n : Nat) : (s.zeroHbm lo n).devSt = s.devSt := by simp [State.zeroHbm]
@[simp] theorem releaseFrames_devSt (q f n : Nat) : (s.releaseFrames q f n).devSt = s.devSt := by simp [State.releaseFrames]
@[simp] theorem trFault_devSt (w : Who) (ctx va cause : Nat) : (s.trFault w ctx va cause).devSt = s.devSt := (rfl)

@[simp] theorem allocPage_devSt (ctx va : Nat) (attr : Word) (t : TierStart) (place : Bool) :
    (s.allocPage ctx va attr t place).1.devSt = s.devSt := by
  simp only [State.allocPage, ite_fst_devSt]
  split
  · rfl
  split
  · rfl
  refine getD_devSt (fun u hu => ?_) (by simp)
  split at hu
  · split at hu
    · cases hu
    · obtain ⟨v, hv, rfl⟩ := Option.map_eq_some_iff.1 hu
      simp [takeFrames_devSt _ hv]
  · cases hu

@[simp] theorem translate_devSt (w : Who) (ctx va : Nat) (write : Bool) : (s.translate w ctx va write).1.devSt = s.devSt := by
  simp only [State.translate]
  split
  · simp
  split
  · rfl
  split
  · simp
  simp only [mk_devSt, dev_st, ite_fst_devSt]
  split
  · rfl
  split <;> simp

@[simp] theorem pagerCount_devSt (f : PagerCounters → PagerCounters) : (s.pagerCount f).devSt = s.devSt := (rfl)

@[simp] theorem promoteSector_devSt (src dst : Nat) : (s.promoteSector src dst).devSt = s.devSt := by
  rw [State.promoteSector]
  split <;> simp

theorem promotePage_devSt {key fq f : Nat} {t : State} (h : s.promotePage key fq f = some t) : t.devSt = s.devSt := by
  simp only [State.promotePage] at h
  split at h
  · cases h
  · next htake =>
    cases h
    simp [takeFrames_devSt s htake]

@[simp] theorem demotePage_devSt (key : Nat) : (s.demotePage key).devSt = s.devSt := by
  simp only [State.demotePage, pagerCount_devSt, setPage_devSt, releaseFrames_devSt]
  rw [foldl_devSt]
  · simp
  · intro s k
    split <;> simp

end

/-! ## Operations of Machine/CoreOps that keep the device state -/

section
variable (s : State)

/-- A fold whose every step keeps a value keeps it. -/
theorem foldl_keeps {σ α β : Type} {f : σ → α → σ} {g : σ → β} (hf : ∀ a x, g (f a x) = g a) (l : List α) (a : σ) : g (l.foldl f a) = g a := by
  induction l generalizing a with
  | nil => rfl
  | cons x l ih => rw [List.foldl_cons, ih, hf]

@[simp] theorem setCore_devSt (c : Nat) (x : Core) : (s.setCore c x).devSt = s.devSt := (rfl)
@[simp] theorem onCore_devSt (c : Nat) (f : Core → Core) : (s.onCore c f).devSt = s.devSt := (rfl)
@[simp] theorem setCluster_devSt (k : Nat) (x : Cluster) : (s.setCluster k x).devSt = s.devSt := (rfl)

@[simp] theorem checkBenchWord_devSt (c : Nat) (e : Nat × Byte) : (s.checkBenchWord c e).devSt = s.devSt := by
  simp only [State.checkBenchWord, ite_devSt]
  split
  · simp
  split <;> simp

@[simp] theorem benchRead_devSt (c off n : Nat) : (s.benchRead c off n).1.devSt = s.devSt := by simp [State.benchRead]
@[simp] theorem benchWrite_devSt (c off : Nat) (bs : List Byte) (m : Half) (poison : Bool) : (s.benchWrite c off bs m poison).devSt = s.devSt := (rfl)
@[simp] theorem staleBy_devSt (c : Nat) (stale : Bool) : (s.staleBy c stale).devSt = s.devSt := by simp [State.staleBy]

@[simp] theorem readPiece_devSt (e : Env) (acc : Machine.Acc) (r : RdAcc) (p : Nat × Nat) : (readPiece e acc r p).s.devSt = r.s.devSt := by
  simp only [readPiece]
  split
  · split
    · simp
    split <;> simp
  · rfl

@[simp] theorem readLine_devSt (e : Env) (write : Bool) (r : RdAcc) (p : Nat × Nat) : (readLine e write r p).s.devSt = r.s.devSt := by
  simp only [readLine]
  split
  · split
    · simp
    rw [foldl_keeps (g := fun r : RdAcc => r.s.devSt) (readPiece_devSt e _)]
    simp
  · rfl

@[simp] theorem unitRead_devSt (e : Env) (va : Bool) (a n : Nat) : (s.unitRead e va a n).s.devSt = s.devSt := by
  rw [State.unitRead]
  split
  · exact foldl_keeps (g := fun r : RdAcc => r.s.devSt) (readLine_devSt e false) _ _
  split
  · rfl
  · simp

@[simp] theorem poisonSector_devSt (acc : Acc) (n : Nat) : (s.poisonSector acc n).devSt = s.devSt := (rfl)

@[simp] theorem partWrite_devSt (c : Nat) (acc : Acc) (n : Nat) (f : BitVec 256 → BitVec 256) (poison : Bool) :
    (s.partWrite c acc n f poison).1.devSt = s.devSt := by
  simp [State.partWrite]

@[simp] theorem writePiece_devSt (c : Nat) (acc : Machine.Acc) (poison : Bool) (r : WrAcc) (p : Nat × Nat) : (writePiece c acc poison r p).s.devSt = r.s.devSt := by
  simp only [writePiece]
  split
  · split <;> simp
  · rfl

@[simp] theorem writeLine_devSt (e : Env) (poison : Bool) (r : WrAcc) (p : Nat × Nat) : (writeLine e poison r p).s.devSt = r.s.devSt := by
  simp only [writeLine]
  split
  · split
    · simp
    rw [foldl_keeps (g := fun r : WrAcc => r.s.devSt) (writePiece_devSt e.core _ poison)]
    simp
  · rfl

@[simp] theorem unitWrite_devSt (e : Env) (va : Bool) (a : Nat) (bs : List Byte) (poison : Bool) : (s.unitWrite e va a bs poison).1.devSt = s.devSt := by
  rw [State.unitWrite]
  split
  · exact foldl_keeps (g := fun r : WrAcc => r.s.devSt) (writeLine_devSt e poison) _ _
  split
  · rfl
  · simp

@[simp] theorem unitPatch_devSt (e : Env) (va : Bool) (a : Nat) (bs : List (Nat × Byte)) : (s.unitPatch e va a bs).1.devSt = s.devSt := by
  simp only [State.unitPatch, ite_fst_devSt]
  split
  · split
    · simp
    split <;> simp
  · simp

@[simp] theorem unitFold_devSt (e : Env) (va fmt : Nat) (elems : List (Nat × FoldOperand)) : (s.unitFold e va fmt elems).1.devSt = s.devSt := by
  simp only [State.unitFold]
  split
  · simp
  split <;> simp

@[simp] theorem pushTrap_devSt (c : Nat) (r : QWord) : (s.pushTrap c r).devSt = s.devSt := by simp [State.pushTrap]

@[simp] theorem trap_devSt (c code unit : Nat) (poison tainted : Bool) (pos addr : Nat) : (s.trap c code unit poison tainted pos addr).devSt = s.devSt := by
  simp [State.trap]

@[simp] theorem completeLocal_devSt (c : Nat) (r : DWord) : (s.completeLocal c r).devSt = s.devSt := by simp [State.completeLocal]
@[simp] theorem clearBlocks_devSt (c blk cnt : Nat) : (s.clearBlocks c blk cnt).devSt = s.devSt := (rfl)

end

/-! ## Operations of Machine/Queue that keep the device state -/

section
variable (s : State)

@[simp] theorem setQueue_devSt (q : Nat) (x : Queue) : (s.setQueue q x).devSt = s.devSt := (rfl)
@[simp] theorem setVec_devSt (v : Nat) (x : MsixVec) : (s.setVec v x).devSt = s.devSt := (rfl)
@[simp] theorem askVector_devSt (v : Nat) : (s.askVector v).devSt = s.devSt := (rfl)
@[simp] theorem raiseEvt_devSt (bit : Nat) : (s.raiseEvt bit).devSt = s.devSt := by simp [State.raiseEvt]

@[simp] theorem finishEntry_devSt (q n status lcore result : Nat) (taint : Half) :
    (s.finishEntry q n status lcore result taint).devSt = s.devSt := (rfl)

@[simp] theorem taskEnded_devSt (q n status core : Nat) (taint : Half) : (s.taskEnded q n status core taint).devSt = s.devSt := by
  rw [State.taskEnded]
  split <;> simp

@[simp] theorem ignoreBell_devSt (q : Nat) : (s.ignoreBell q).devSt = s.devSt := by simp [State.ignoreBell]

@[simp] theorem readSlot_devSt (q n : Nat) (m : Half) : (s.readSlot q n m).1.devSt = s.devSt := by
  rw [State.readSlot]
  split <;> simp

@[simp] theorem dropEntries_devSt (q : Nat) : (s.dropEntries q).devSt = s.devSt := by simp [State.dropEntries]
@[simp] theorem ringNow_devSt (q tail : Nat) (m : Half) : (s.ringNow q tail m).devSt = s.devSt := by simp [State.ringNow]

@[simp] theorem ringWaiting_devSt (q n : Nat) : (State.ringWaiting q n s).devSt = s.devSt := by
  induction n generalizing s with
  | zero => rfl
  | succ n ih =>
    rw [State.ringWaiting]
    split
    · rfl
    split
    · rfl
    rw [ih, ringNow_devSt, setQueue_devSt]

@[simp] theorem settleBells_devSt (q : Nat) : (s.settleBells q).devSt = s.devSt := by simp [State.settleBells]
@[simp] theorem ringQueue_devSt (q prod tail : Nat) (m : Half) : (s.ringQueue q prod tail m).devSt = s.devSt := by simp [State.ringQueue]
@[simp] theorem queuesDraft_devSt (f : Queue → Queue) : (s.queuesDraft f).devSt = s.devSt := by simp [State.queuesDraft]

end

/-! ## Operations of Machine/Seq that keep the device state -/

section
variable (s : State)

@[simp] theorem endTask_devSt (c status : Nat) : (s.endTask c status).devSt = s.devSt := by simp [State.endTask]

@[simp] theorem recheck_devSt (c : Nat) : (s.recheck c).devSt = s.devSt := by
  simp only [State.recheck]
  split
  · simp
  split
  · rfl
  split <;> simp

@[simp] theorem malformed_devSt (c code unit : Nat) : (s.malformed c code unit).devSt = s.devSt := by simp [State.malformed]

@[simp] theorem decodeDesc_devSt (c cls : Nat) (payload : BitVec 92) (crc : Word) {k : State → State} (hk : (k s).devSt = s.devSt) :
    (s.decodeDesc c cls payload crc k).devSt = s.devSt := by
  simp [State.decodeDesc, hk]

@[simp] theorem setQfull_devSt (c bit : Nat) : (s.setQfull c bit).devSt = s.devSt := (rfl)
@[simp] theorem clearQfull_devSt (c bit : Nat) : (s.clearQfull c bit).devSt = s.devSt := (rfl)

end

/-! ## Operations of Machine/Array that keep the device state -/

section
variable (s : State)

@[simp] theorem rowsStep_devSt (e : Env) (va : Bool) (n : Nat) (r : RowsAcc) (a : Nat) : (rowsStep e va n r a).s.devSt = r.s.devSt := by
  rw [rowsStep]
  split
  · split <;> simp
  · rfl

@[simp] theorem readRows_devSt (e : Env) (va : Bool) (a stride rows n : Nat) : (readRows s e va a stride rows n).s.devSt = s.devSt :=
  foldl_keeps (g := fun r : RowsAcc => r.s.devSt) (rowsStep_devSt e va n) _ _

@[simp] theorem readOperand_devSt (e : Env) (r : OpReg) (fmt rows k : Nat) : (readOperand s e r fmt rows k).s.devSt = s.devSt := by
  rw [readOperand]
  split_ifs <;> simp

@[simp] theorem runPass_devSt (c : Nat) : (s.runPass c).devSt = s.devSt := by
  simp only [State.runPass]
  split
  · rfl
  split
  · rfl
  split
  · simp
  split
  · split <;> simp
  all_goals simp

@[simp] theorem runArray_devSt (c : Nat) : (s.runArray c).devSt = s.devSt := by simp [State.runArray]

end

/-! ## Operations of Machine/Operands that keep the device state -/

section
variable (s : State)

@[simp] theorem write_devSt (o : OutAcc) (e : Env) (va : Bool) (a : Nat) (bs : List Byte) (poison : Bool) :
    (o.write e va a bs poison).s.devSt = o.s.devSt := by
  rw [OutAcc.write]
  split <;> simp

@[simp] theorem writeRow_devSt (o : OutAcc) (e : Env) (va : Bool) (fmt a : Nat) (row : List (Option LaneOut)) : (o.writeRow e va fmt a row).s.devSt = o.s.devSt := by
  simp only [OutAcc.writeRow]
  split
  · split <;> simp
  · rw [foldl_keeps (g := fun o : OutAcc => o.s.devSt) (fun o g => write_devSt ..)]

@[simp] theorem writeBlock_devSt (o : OutAcc) (e : Env) (va : Bool) (fmt a sa : Nat) (blk : List (Option LaneOut)) :
    (o.writeBlock e va fmt a sa blk).s.devSt = o.s.devSt := by
  rw [OutAcc.writeBlock]
  split <;> simp

@[simp] theorem writeMxRow_devSt (e : Env) (va : Bool) (fmt n a sa : Nat) (row : List (Option LaneOut)) (o : OutAcc) :
    (OutAcc.writeMxRow e va fmt n a sa row o).s.devSt = o.s.devSt := by
  induction n generalizing a sa row o with
  | zero => rfl
  | succ n ih =>
    rw [OutAcc.writeMxRow]
    split
    · rfl
    · rw [ih, writeBlock_devSt]

@[simp] theorem folds_devSt (o : OutAcc) (e : Env) (fmt : Nat) (es : List (Nat × FoldOperand)) : (o.folds e fmt es).s.devSt = o.s.devSt := by
  refine foldl_keeps (g := fun o : OutAcc => o.s.devSt) (fun o q => ?_) _ _
  split <;> simp

end

/-! ## Operations of Machine/Recipe that keep the device state -/

section
variable (s : State)

@[simp] theorem loadRecipe_devSt (c off : Nat) : (s.loadRecipe c off).s.devSt = s.devSt := by
  simp only [State.loadRecipe]
  split
  · simp
  split
  · rfl
  split
  · simp
  split
  · simp
  split
  · simp
  split <;> simp

end

/-! ## Operations of Machine/Vector that keep the device state -/

section
variable (s : State)

/-- An entry's execution that leaves the device state as it is. -/
def VecKeepsSt (s : State) : VecEnd → Prop
  | .wait => True
  | .refused t => t.devSt = s.devSt
  | .ran t _ => t.devSt = s.devSt

@[simp] theorem vecKeepsSt_wait (s : State) : VecKeepsSt s .wait := trivial

@[simp] theorem vecKeepsSt_refused (s t : State) : VecKeepsSt s (.refused t) ↔ t.devSt = s.devSt := Iff.rfl

@[simp] theorem vecKeepsSt_ran (s t : State) (h : HeldRun) : VecKeepsSt s (.ran t h) ↔ t.devSt = s.devSt := Iff.rfl

@[simp] theorem anchLanes_devSt (anchor : Option Int) (n : Nat) (bytes : List Byte) (marks : List Bool) :
    (anchLanes s anchor n bytes marks).1.devSt = s.devSt := by
  rw [anchLanes]
  split <;> simp

@[simp] theorem readLanes_devSt (e : Env) (va : Bool) (fmt a sa n : Nat) : (readLanes s e va fmt a sa n).s.devSt = s.devSt := by
  simp only [readLanes]
  split
  · split
    · split <;> simp
    split <;> simp
  · simp

@[simp] theorem streamRow_devSt (e : Env) (b : Bind) (cols r : Nat) : (streamRow s e b cols r).s.devSt = s.devSt := by
  rw [streamRow]
  split <;> simp

@[simp] theorem rowStreams_devSt (e : Env) (cols r : Nat) (a : InAcc) (ins : List (Option Machine.Bind)) : (rowStreams e cols r a ins).1.devSt = a.s.devSt := by
  refine foldl_keeps (g := fun q : State × AccSt × List (List LaneIn) × Half => q.1.devSt) (fun q b => ?_) ins _
  split
  · split <;> simp
  · rfl

@[simp] theorem readInputs_devSt (e : Env) (ins : List (Option Machine.Bind)) (rows cols : Nat) : (readInputs s e ins rows cols).s.devSt = s.devSt := by
  refine foldl_keeps (g := fun a : InAcc => a.s.devSt) (fun a r => ?_) _ _
  split <;> simp

@[simp] theorem elemRow_devSt (o : OutAcc) (e : Env) (b : Machine.Bind) (r : Nat) (row : List (Option LaneOut)) : (o.elemRow e b r row).s.devSt = o.s.devSt := by
  simp only [OutAcc.elemRow]
  split
  · split <;> simp
  · simp
  · split <;> simp

@[simp] theorem elemStepT_devSt (o : OutAcc) (e : Env) (b : Machine.Bind) (rows cols j : Nat) (col : Nat → List (Option LaneOut)) :
    (o.elemStepT e b rows cols j col).s.devSt = o.s.devSt := by
  refine foldl_keeps (g := fun o : OutAcc => o.s.devSt) (fun o c => ?_) _ _
  simp only
  split
  · split <;> simp
  · simp

@[simp] theorem elemStep_devSt (e : Env) (outs : List (Option Machine.Bind)) (rows cols : Nat) (grid : List (List ElemOut)) (o : OutAcc) (j : Nat) :
    (OutAcc.elemStep e outs rows cols grid o j).s.devSt = o.s.devSt := by
  refine foldl_keeps (g := fun o : OutAcc => o.s.devSt) (fun o p => ?_) _ _
  split
  · rfl
  split
  · rfl
  split
  · simp
  · refine foldl_keeps (g := fun o : OutAcc => o.s.devSt) (fun o r => ?_) _ _
    split <;> simp

@[simp] theorem reduce_devSt (o : OutAcc) (e : Env) (v : VecEntry) (key : DWord) (b : Machine.Bind) (i rows cols : Nat) (grid : List (List ElemOut)) :
    (o.reduce e v key b i rows cols grid).1.s.devSt = o.s.devSt := by
  simp only [OutAcc.reduce]
  split
  · split <;> simp
  split
  · rfl
  split <;> simp

@[simp] theorem vecDone_devSt (c : Nat) (h : HeldRun) : (s.vecDone c h).devSt = s.devSt := by simp [State.vecDone]

@[simp] theorem vecRefused_devSt (c : Nat) (e : VecEntry) (rid : Option Nat) (poison : Bool) : (s.vecRefused c e rid poison).devSt = s.devSt := by
  simp [State.vecRefused]

@[simp] theorem cutTiles_devSt (c : Nat) (m : Half) (regs : List Nat) : (s.cutTiles c m regs).devSt = s.devSt := by simp [State.cutTiles]

@[simp] theorem runRecipe_devSt (c : Nat) (e : VecEntry) : VecKeepsSt s (s.runRecipe c e) := by
  simp only [State.runRecipe]
  split
  · simp
  split
  · simp
  split
  · simp
  split
  · trivial
  split
  · trivial
  simp only [vecKeepsSt_ran, cutTiles_devSt, onCore_devSt]
  split
  · rw [foldl_keeps (g := fun o : OutAcc => o.s.devSt) (elemStep_devSt _ _ _ _ _)]
    simp
  · rw [foldl_keeps (g := fun q : OutAcc × List SumVal => q.1.s.devSt)]
    · rw [foldl_keeps (g := fun o : OutAcc => o.s.devSt) (elemStep_devSt _ _ _ _ _)]
      simp
    · intro q b
      split
      · split
        · rfl
        split <;> simp
      · rfl

@[simp] theorem exportElem_devSt (e : Env) (b : Bind) (form nc : Nat) (int : Bool) (anchor : Int) (o : OutAcc) (r k : Nat) (el : AccElem) :
    (exportElem e b form nc int anchor o r k el).s.devSt = o.s.devSt := by
  simp only [exportElem]
  split <;> simp

@[simp] theorem runExport_devSt (c : Nat) (e : VecEntry) : VecKeepsSt s (s.runExport c e) := by
  simp only [State.runExport]
  split
  · simp
  split
  · simp
  split
  · trivial
  · simp only [vecKeepsSt_ran, onCore_devSt]
    exact foldl_keeps (g := fun o : OutAcc => o.s.devSt) (fun o rc => by simp) _ _

@[simp] theorem moveTld_devSt (c : Nat) (e : VecEntry) : VecKeepsSt s (s.moveTld c e) := by
  simp [State.moveTld]

@[simp] theorem moveTst_devSt (c : Nat) (e : VecEntry) : VecKeepsSt s (s.moveTst c e) := by
  simp [State.moveTst]

@[simp] theorem moveTcpy_devSt (c : Nat) (e : VecEntry) : VecKeepsSt s (s.moveTcpy c e) := by
  simp [State.moveTcpy]

@[simp] theorem vecExec_devSt (c : Nat) (e : VecEntry) : VecKeepsSt s (s.vecExec c e) := by
  rw [State.vecExec]
  split
  · split
    · simp
    split <;> simp
  split <;> simp

@[simp] theorem vecStep_devSt (c : Nat) : (s.vecStep c).devSt = s.devSt := by
  simp only [State.vecStep]
  split
  · rfl
  split
  · rfl
  next e rest _ _ =>
    have hkeeps := vecExec_devSt (s.onCore c (fun x => { x with vecQ := rest })) c e
    split
    · rfl
    · next hend =>
      rw [hend, vecKeepsSt_refused] at hkeeps
      simp [hkeeps]
    · next hend =>
      rw [hend, vecKeepsSt_ran] at hkeeps
      simp [hkeeps]

@[simp] theorem pump_devSt (c : Nat) : (s.pump c).devSt = s.devSt := by simp [State.pump]

@[simp] theorem issueVec_devSt (c : Nat) (move : Bool) (payload : BitVec 92) (scen : Bool) (sc : Nat) :
    (s.issueVec c move payload scen sc).devSt = s.devSt := by
  simp [State.issueVec]

end

/-! ## Operations of Machine/MatrixArray that keep the device state -/

section
variable (s : State)

@[simp] theorem execPass_devSt (core : CoreIx) (payload : BitVec 92) (crc : Word) : KeepsSt s (execPass core payload crc s) := by simp [execPass]

@[simp] theorem execAnchorScan_devSt (core : CoreIx) : KeepsSt s (execAnchorScan core s) := by
  simp only [execAnchorScan]
  split
  · simp
  · simp only [keepsSt_next, pump_devSt, onCore_devSt]
    split <;> split <;> simp

@[simp] theorem execPassComplete_devSt (core : CoreIx) : KeepsSt s (execPassComplete core s) := by
  simp only [execPassComplete]
  split
  · simp
  split <;> simp

@[simp] theorem execArrayAbort_devSt (core : CoreIx) : KeepsSt s (execArrayAbort core s) := by
  simp only [execArrayAbort]
  split
  · simp
  split <;> simp

@[simp] theorem execRampDown_devSt (core : CoreIx) : KeepsSt s (execRampDown core s) := by simp [execRampDown]

end

/-! ## Operations of Machine/Units that keep the device state -/

section
variable (s : State)

@[simp] theorem agentTr_devSt (g : Agent) (a : Nat) (write : Bool) : (s.agentTr g a write).1.devSt = s.devSt := by
  rw [State.agentTr]
  split
  · rfl
  simp only
  split <;> simp

@[simp] theorem agentPiece_devSt (lru : Bool) (acc : Machine.Acc) (r : URead) (p : Nat × Nat) : (agentPiece lru acc r p).s.devSt = r.s.devSt := by
  simp only [agentPiece]
  split
  · split <;> simp
  · rfl

@[simp] theorem agentLine_devSt (g : Agent) (r : URead) (p : Nat × Nat) : (agentLine g r p).s.devSt = r.s.devSt := by
  simp only [agentLine]
  split
  · split
    · simp
    rw [foldl_keeps (g := fun r : URead => r.s.devSt) (agentPiece_devSt g.lru _)]
    simp
  · rfl

@[simp] theorem agentRead_devSt (g : Agent) (a n : Nat) : (s.agentRead g a n).s.devSt = s.devSt :=
  foldl_keeps (g := fun r : URead => r.s.devSt) (agentLine_devSt g) _ _

@[simp] theorem agentWritePiece_devSt (acc : Machine.Acc) (poison : Bool) (r : WrAcc) (p : Nat × Nat) : (agentWritePiece acc poison r p).s.devSt = r.s.devSt := by
  simp only [agentWritePiece]
  split
  · split <;> simp
  · rfl

@[simp] theorem agentWriteLine_devSt (g : Agent) (poison : Bool) (r : WrAcc) (p : Nat × Nat) : (agentWriteLine g poison r p).s.devSt = r.s.devSt := by
  simp only [agentWriteLine]
  split
  · split
    · simp
    rw [foldl_keeps (g := fun r : WrAcc => r.s.devSt) (agentWritePiece_devSt _ poison)]
    simp
  · rfl

@[simp] theorem agentWrite_devSt (g : Agent) (a : Nat) (bs : List Byte) (poison : Bool) : (s.agentWrite g a bs poison).1.devSt = s.devSt :=
  foldl_keeps (g := fun r : WrAcc => r.s.devSt) (agentWriteLine_devSt g poison) _ _

@[simp] theorem agentFold_devSt (g : Agent) (a fmt : Nat) (elems : List (Nat × FoldOperand)) : (s.agentFold g a fmt elems).1.devSt = s.devSt := by
  simp only [State.agentFold]
  split
  · simp
  split <;> simp

end

/-! ## Operations of Machine/Rings that keep the device state -/

section
variable (s : State)

@[simp] theorem setChan_devSt (unit ch : Nat) (x : Chan) : (s.setChan unit ch x).devSt = s.devSt := (rfl)
@[simp] theorem onChan_devSt (unit ch : Nat) (f : Chan → Chan) : (s.onChan unit ch f).devSt = s.devSt := (rfl)
@[simp] theorem writeHeader_devSt (unit ch : Nat) : (s.writeHeader unit ch).devSt = s.devSt := by simp [State.writeHeader]
@[simp] theorem chanState_devSt (unit ch st : Nat) : (s.chanState unit ch st).devSt = s.devSt := by simp [State.chanState]
@[simp] theorem chanSettle_devSt (unit ch : Nat) : (s.chanSettle unit ch).devSt = s.devSt := by simp [State.chanSettle]
@[simp] theorem tailReport_devSt (unit ch tail : Nat) (m : Half) : (s.tailReport unit ch tail m).devSt = s.devSt := by simp [State.tailReport]
@[simp] theorem chanDone_devSt (unit ch n : Nat) : (s.chanDone unit ch n).devSt = s.devSt := by simp [State.chanDone]

@[simp] theorem bindChan_devSt (unit ch ctx ring ent maxCh : Nat) (unitOk ready : Bool) (part : Option Nat) :
    (s.bindChan unit ch ctx ring ent maxCh unitOk ready part).devSt = s.devSt := by
  simp [State.bindChan]

@[simp] theorem unbindChan_devSt (unit ch maxCh : Nat) (unitOk : Bool) : (s.unbindChan unit ch maxCh unitOk).devSt = s.devSt := by
  simp [State.unbindChan]

end

/-! ## Operations of Machine/Runner that keep the device state -/

section
variable (s : State)

@[simp] theorem halt_devSt (r : JobRun) (status pos : Nat) : (r.halt status pos).s.devSt = r.s.devSt := (rfl)
@[simp] theorem flag_devSt (r : JobRun) (f : Nat) : (r.flag f).s.devSt = r.s.devSt := (rfl)

@[simp] theorem jobRun_read_devSt (r : JobRun) (unit a n pos : Nat) : (r.read unit a n pos).1.s.devSt = r.s.devSt := by
  simp only [JobRun.read]
  split
  · split
    · simp
    split <;> simp
  all_goals simp

@[simp] theorem jobRun_stream_devSt (unit pos : Nat) (l : List (Nat × Nat)) (q : JobRun × Option (Nat × List Byte) × List Byte) :
    (JobRun.stream unit pos l q).1.s.devSt = q.1.s.devSt := by
  induction l generalizing q with
  | nil => rfl
  | cons p l ih =>
    simp only [JobRun.stream]
    split
    · split
      · split <;> simp [ih]
      · split <;> simp [ih]
    · split <;> simp [ih]

@[simp] theorem jobRun_index_devSt (r : JobRun) (unit k : Nat) : (r.index unit k).1.s.devSt = r.s.devSt := by
  simp [JobRun.index]

@[simp] theorem jobRun_offset_devSt (r : JobRun) (unit pos b : Nat) : (r.offset unit pos b).1.s.devSt = r.s.devSt := by
  simp [JobRun.offset]

@[simp] theorem jobRun_weight_devSt (r : JobRun) (unit k : Nat) : (r.weight unit k).1.s.devSt = r.s.devSt := by
  rw [JobRun.weight]
  split
  · rfl
  · simp

@[simp] theorem jobRun_row_devSt (r : JobRun) (unit j pos : Nat) : (r.row unit j pos).1.s.devSt = r.s.devSt := by
  simp only [JobRun.row]
  split
  · split <;> simp
  · simp

@[simp] theorem jobRun_named_devSt (r : JobRun) (unit j pos : Nat) : (r.named unit j pos).1.s.devSt = r.s.devSt := by
  rw [JobRun.named]
  split <;> simp

@[simp] theorem perform_devSt (o : HeldOut) (g : Agent) : (o.perform g s).1.devSt = s.devSt := by simp [HeldOut.perform]

@[simp] theorem jobRun_out_devSt (r : JobRun) (o : HeldOut) (pos : Nat) : (r.out o pos).s.devSt = r.s.devSt := by
  simp only [JobRun.out]
  split
  · rfl
  split
  · rfl
  split <;> simp

@[simp] theorem jobRun_bagOut_devSt (r : JobRun) (b pos : Nat) (sum : BagSum) : (r.bagOut b pos sum).s.devSt = r.s.devSt := by
  simp only [JobRun.bagOut]
  split
  · rw [foldl_keeps (g := fun r : JobRun => r.s.devSt) (fun r q => jobRun_out_devSt ..)]
    simp
  · simp

@[simp] theorem jobRun_scatter_devSt (r : JobRun) (j pos : Nat) (w : Word) (x : List FVal) : (r.scatter j pos w x).s.devSt = r.s.devSt := by
  simp only [JobRun.scatter]
  rw [foldl_keeps (g := fun r : JobRun => r.s.devSt) (fun r q => jobRun_out_devSt ..)]
  simp

@[simp] theorem jobIndex_devSt (unit b : Nat) (x : List FVal) (q : JobRun × BagSum) (k : Nat) : (jobIndex unit b x q k).1.s.devSt = q.1.s.devSt := by
  simp only [jobIndex]
  split
  · rfl
  split
  · split <;> simp
  split
  · simp
  split
  · split <;> simp
  split
  · simp
  split
  · simp
  split <;> simp

@[simp] theorem jobBag_devSt (unit start : Nat) (r : JobRun) (b : Nat) : (jobBag unit start r b).s.devSt = r.s.devSt := by
  rw [jobBag]
  split
  · rfl
  extract_lets d full j lo hi a aj r1 x from' q r2 j2
  have hlo : lo.1.s.devSt = r.s.devSt := by
    simp only [lo]
    split <;> simp
  have hhi : hi.1.s.devSt = r.s.devSt := by
    simp only [hi]
    split
    · split <;> simp [hlo]
    · exact hlo
  have hx : x.1.s.devSt = r.s.devSt := by
    simp only [x]
    split <;> simp [r1, a, hhi]
  have hq : q.1.s.devSt = r.s.devSt := (foldl_keeps (g := fun q : JobRun × BagSum => q.1.s.devSt) (jobIndex_devSt _ _ _) _ _).trans hx
  have hr2 : r2.s.devSt = r.s.devSt := by
    simp only [r2]
    split <;> simp [hq]
  split
  · rfl
  split
  · exact hhi
  split
  · simp [a, hhi]
  split
  · exact hq
  split
  · exact hr2
  · exact hr2

@[simp] theorem runJob_devSt (unit ch : Nat) (j : RunJob) : (s.runJob unit ch j).s.devSt = s.devSt := by
  have hjob : ∀ (l : List Nat) (r : JobRun), (l.foldl (jobBag unit j.pos) r).s.devSt = r.s.devSt :=
    foldl_keeps (g := fun r : JobRun => r.s.devSt) (jobBag_devSt unit j.pos)
  simp only [State.runJob]
  split <;> simp [hjob]

@[simp] theorem jobCounts_devSt (unit : Nat) (before after : RunJob) : (s.jobCounts unit before after).devSt = s.devSt := (rfl)
@[simp] theorem carryOn_devSt (unit ch : Nat) (j : RunJob) : (s.carryOn unit ch j).devSt = s.devSt := by simp [State.carryOn]

@[simp] theorem runnerJob_devSt (unit ch op : Nat) : (s.runnerJob unit ch op).devSt = s.devSt := by
  simp only [State.runnerJob]
  split
  · rfl
  split
  · split <;> simp
  split
  · split <;> simp
  split
  · rfl
  · simp
  split
  · simp
  split
  · split
    · simp
    split
    · simp
    split <;> simp
  all_goals simp

@[simp] theorem execPool_devSt (runner : StackIx) (chan : Fin 64) : KeepsSt s (execPool runner chan s) := by simp [execPool]
@[simp] theorem execSpmv_devSt (runner : StackIx) (chan : Fin 64) : KeepsSt s (execSpmv runner chan s) := by simp [execSpmv]
@[simp] theorem execSpmtv_devSt (runner : StackIx) (chan : Fin 64) : KeepsSt s (execSpmtv runner chan s) := by simp [execSpmtv]
@[simp] theorem execPrefetchJob_devSt (runner : StackIx) (chan : Fin 64) : KeepsSt s (execPrefetchJob runner chan s) := by simp [execPrefetchJob]

@[simp] theorem putRecord_devSt (unit ch : Nat) (j : RunJob) (status : Nat) : (s.putRecord unit ch j status).devSt = s.devSt := by
  simp [State.putRecord]

@[simp] theorem execRunnerJobDone_devSt (runner : StackIx) (chan : Fin 64) : KeepsSt s (execRunnerJobDone runner chan s) := by
  simp only [execRunnerJobDone]
  split
  · simp
  split
  · simp
  split <;> simp

@[simp] theorem execRunnerHalt_devSt (runner : StackIx) (chan : Fin 64) : KeepsSt s (execRunnerHalt runner chan s) := by
  simp only [execRunnerHalt]
  split
  · simp
  split
  · simp
  split <;> simp

@[simp] theorem flushHeld_devSt (g : Agent) (l : List HeldOut) (f : Nat) : (flushHeld g l s f).1.devSt = s.devSt := by
  induction l generalizing s f with
  | nil => rfl
  | cons o l ih =>
    simp only [flushHeld]
    split
    · rfl
    · rw [ih, perform_devSt]

@[simp] theorem chanCommit_devSt (c : Half) (unit ch : Nat) : (State.chanCommit c s unit ch).devSt = s.devSt := by
  rw [State.chanCommit]
  split <;> simp

@[simp] theorem runnersCommit_devSt (c : Half) : (s.runnersCommit c).devSt = s.devSt := by simp [State.runnersCommit]
@[simp] theorem chansCancel_devSt (c : Half) : (s.chansCancel c).devSt = s.devSt := by simp [State.chansCancel]

end

/-! ## Operations of Machine/TrayOps that keep the device state -/

section
variable (s : State)

@[simp] theorem setTray_devSt (c slot : Nat) (t : Tray) : (s.setTray c slot t).devSt = s.devSt := (rfl)
@[simp] theorem tflags_devSt (c fl : Nat) : (s.tflags c fl).devSt = s.devSt := (rfl)
@[simp] theorem lastSlot_devSt (c slot : Nat) : (s.lastSlot c slot).devSt = s.devSt := (rfl)
@[simp] theorem trayTaint_devSt (c slot : Nat) (m : Half) : (s.trayTaint c slot m).devSt = s.devSt := by simp [State.trayTaint]

@[simp] theorem trayTrap_devSt (c slot code : Nat) (poison : Bool) (addr : Nat) : (s.trayTrap c slot code poison addr).devSt = s.devSt := by
  simp [State.trayTrap]

@[simp] theorem trayDo_devSt (c slot : Nat) {k : State → State} (hk : ∀ s, (k s).devSt = s.devSt) : (s.trayDo c slot k).devSt = s.devSt := by
  simp only [State.trayDo, ite_devSt]
  split
  · simp
  split <;> simp [hk]

@[simp] theorem formatA_devSt (c slot : Nat) (p : BitVec 54) (a : ASpec) (f : Tray → Nat → Tray × Nat) : (s.formatA c slot p a f).devSt = s.devSt := by
  simp [State.formatA]

@[simp] theorem op32_devSt (c slot : Nat) (p : BitVec 54) (f : Word → Word → Word) : (s.op32 c slot p f).devSt = s.devSt := by simp [State.op32]
@[simp] theorem op64_devSt (c slot : Nat) (p : BitVec 54) (f : DWord → DWord → DWord) : (s.op64 c slot p f).devSt = s.devSt := by simp [State.op64]
@[simp] theorem cmp32_devSt (c slot : Nat) (p : BitVec 54) (f : Word → Word → Bool) : (s.cmp32 c slot p f).devSt = s.devSt := by simp [State.cmp32]
@[simp] theorem cmp64_devSt (c slot : Nat) (p : BitVec 54) (f : DWord → DWord → Bool) : (s.cmp64 c slot p f).devSt = s.devSt := by simp [State.cmp64]
@[simp] theorem opPred_devSt (c slot : Nat) (p : BitVec 54) (f : Bool → Bool → Bool) : (s.opPred c slot p f).devSt = s.devSt := by simp [State.opPred]
@[simp] theorem fp1_devSt (c slot : Nat) (p : BitVec 54) (f : Word → FpRes) : (s.fp1 c slot p f).devSt = s.devSt := by simp [State.fp1]
@[simp] theorem fp2_devSt (c slot : Nat) (p : BitVec 54) (f : Word → Word → FpRes) : (s.fp2 c slot p f).devSt = s.devSt := by simp [State.fp2]

theorem maskPush_devSt (c slot : Nat) (l : Launch) (e : MaskEntry) {t : State} (h : s.maskPush c slot l e = some t) : t.devSt = s.devSt := by
  simp only [State.maskPush] at h
  split at h
  · cases h
  split at h
  · split at h
    · cases h
    · cases h
      simp
  · cases h
    simp

theorem maskPop_devSt {c slot : Nat} {l : Launch} {p : State × MaskEntry} (h : s.maskPop c slot l = some p) : p.1.devSt = s.devSt := by
  simp only [State.maskPop] at h
  split at h
  · cases h
  · split at h <;>
    · cases h
      simp

theorem popContinue_devSt {c slot : Nat} {l : Launch} {fuel : Nat} {t : State} (h : State.popContinue c slot l fuel s = some t) : t.devSt = s.devSt := by
  induction fuel generalizing s with
  | zero => cases h
  | succ fuel ih =>
    simp only [State.popContinue] at h
    split at h
    · split at h
      · cases h
        simp
      · cases h
    · next s1 e hpop =>
      have hs1 : s1.devSt = s.devSt := maskPop_devSt s hpop
      split at h
      · rw [ih s1 h, hs1]
      · cases h
        simp [hs1]

end

/-! ## Operations of Machine/TrayMem that keep the device state -/

section
variable (s : State)

@[simp] theorem memDo_devSt (c slot : Nat) (p : BitVec 54) (n : Nat) (illegal : Tray → Bool) (srcs : List Nat) (block : Bool)
    {k : Tray → State → State} (hk : ∀ t s, (k t s).devSt = s.devSt) : (s.memDo c slot p n illegal srcs block k).devSt = s.devSt := by
  refine trayDo_devSt s c slot (fun s => ?_)
  simp only [ite_devSt]
  split
  · simp
  split
  · simp
  split
  · simp
  split <;> simp [hk]

@[simp] theorem step_devSt (e : Env) (va : Bool) (r : SecRead) (a : Nat) : (SecRead.step e va r a).s.devSt = r.s.devSt := by
  rw [SecRead.step]
  split <;> simp

@[simp] theorem loadRun_devSt (c slot : Nat) (p : BitVec 54) (ldl : Bool) : (s.loadRun c slot p ldl).s.devSt = s.devSt :=
  foldl_keeps (g := fun r : SecRead => r.s.devSt) (step_devSt _ _) _ _

@[simp] theorem load_devSt (c slot : Nat) (p : BitVec 54) (ldl : Bool) : (s.load c slot p ldl).devSt = s.devSt := by
  simp only [State.load]
  refine memDo_devSt (hk := fun _ s => ?_) ..
  split <;> simp

@[simp] theorem execTLd_devSt (core : CoreIx) (slot : Fin 16) (p : BitVec 54) : KeepsSt s (execTLd core slot p s) := by simp [execTLd]
@[simp] theorem execTLdl_devSt (core : CoreIx) (slot : Fin 16) (p : BitVec 54) : KeepsSt s (execTLdl core slot p s) := by simp [execTLdl]

@[simp] theorem storeRun_devSt (c slot : Nat) (p : BitVec 54) : (s.storeRun c slot p).1.devSt = s.devSt := by
  refine foldl_keeps (g := fun r : State × AccSt => r.1.devSt) (fun r a => ?_) _ _
  split <;> simp

@[simp] theorem execTSt_devSt (core : CoreIx) (slot : Fin 16) (p : BitVec 54) : KeepsSt s (execTSt core slot p s) := by
  simp only [execTSt, keepsSt_next]
  refine memDo_devSt (hk := fun _ s => ?_) ..
  split <;> simp

@[simp] theorem foldRun_devSt (c slot : Nat) (p : BitVec 54) : (s.foldRun c slot p).1.devSt = s.devSt := by
  refine foldl_keeps (g := fun r : State × AccSt × Nat => r.1.devSt) (fun r a => ?_) _ _
  split <;> simp

@[simp] theorem execTFold_devSt (core : CoreIx) (slot : Fin 16) (p : BitVec 54) : KeepsSt s (execTFold core slot p s) := by
  simp only [execTFold, keepsSt_next]
  refine memDo_devSt (hk := fun _ s => ?_) ..
  repeat' split
  all_goals simp

@[simp] theorem execTrayFence_devSt (core : CoreIx) (slot : Fin 16) (p : BitVec 54) : KeepsSt s (execTrayFence core slot p s) := by
  simp [execTrayFence]

end

/-! ## Operations of Machine/TrayAtom that keep the device state -/

section
variable (s : State)

@[simp] theorem atomicWord_devSt (e : Env) (va : Bool) (a n : Nat) (f : Nat → Nat) : (s.atomicWord e va a n f).s.devSt = s.devSt := by
  simp only [State.atomicWord]
  split
  · split
    · simp
    split <;> simp
  split <;> simp

@[simp] theorem atomRun_devSt (c slot : Nat) (p : BitVec 54) (step : Tray → Nat → Nat → Nat) : (s.atomRun c slot p step).s.devSt = s.devSt := by
  refine foldl_keeps (g := fun r : AtomAcc => r.s.devSt) (fun r a => ?_) _ _
  simp only
  split
  · split <;> simp
  · rfl

@[simp] theorem atom_devSt (c slot : Nat) (p : BitVec 54) (fpOnly cas : Bool) (step : Tray → Nat → Nat → Nat) :
    (s.atom c slot p fpOnly cas step).devSt = s.devSt := by
  simp only [State.atom]
  refine memDo_devSt (hk := fun _ s => ?_) ..
  split <;> simp

@[simp] theorem execAtomAdd_devSt (core : CoreIx) (slot : Fin 16) (p : BitVec 54) : KeepsSt s (execAtomAdd core slot p s) := by simp [execAtomAdd]
@[simp] theorem execAtomMin_devSt (core : CoreIx) (slot : Fin 16) (p : BitVec 54) : KeepsSt s (execAtomMin core slot p s) := by simp [execAtomMin]
@[simp] theorem execAtomMax_devSt (core : CoreIx) (slot : Fin 16) (p : BitVec 54) : KeepsSt s (execAtomMax core slot p s) := by simp [execAtomMax]
@[simp] theorem execAtomMinu_devSt (core : CoreIx) (slot : Fin 16) (p : BitVec 54) : KeepsSt s (execAtomMinu core slot p s) := by simp [execAtomMinu]
@[simp] theorem execAtomMaxu_devSt (core : CoreIx) (slot : Fin 16) (p : BitVec 54) : KeepsSt s (execAtomMaxu core slot p s) := by simp [execAtomMaxu]
@[simp] theorem execAtomFmin_devSt (core : CoreIx) (slot : Fin 16) (p : BitVec 54) : KeepsSt s (execAtomFmin core slot p s) := by simp [execAtomFmin]
@[simp] theorem execAtomFmax_devSt (core : CoreIx) (slot : Fin 16) (p : BitVec 54) : KeepsSt s (execAtomFmax core slot p s) := by simp [execAtomFmax]
@[simp] theorem execAtomAnd_devSt (core : CoreIx) (slot : Fin 16) (p : BitVec 54) : KeepsSt s (execAtomAnd core slot p s) := by simp [execAtomAnd]
@[simp] theorem execAtomOr_devSt (core : CoreIx) (slot : Fin 16) (p : BitVec 54) : KeepsSt s (execAtomOr core slot p s) := by simp [execAtomOr]
@[simp] theorem execAtomXor_devSt (core : CoreIx) (slot : Fin 16) (p : BitVec 54) : KeepsSt s (execAtomXor core slot p s) := by simp [execAtomXor]
@[simp] theorem execXchg_devSt (core : CoreIx) (slot : Fin 16) (p : BitVec 54) : KeepsSt s (execXchg core slot p s) := by simp [execXchg]
@[simp] theorem execCas_devSt (core : CoreIx) (slot : Fin 16) (p : BitVec 54) : KeepsSt s (execCas core slot p s) := by simp [execCas]
@[simp] theorem execAtomFadd_devSt (core : CoreIx) (slot : Fin 16) (p : BitVec 54) : KeepsSt s (execAtomFadd core slot p s) := by simp [execAtomFadd]

@[simp] theorem lockLane_devSt (lock : Bool) (c slot : Nat) (e : Env) (r : LockAcc) (lane va : Nat) :
    (State.lockLane lock c slot e r lane va).s.devSt = r.s.devSt := by
  simp only [State.lockLane]
  split
  · split
    · simp
    split
    · simp [apply_ite LockAcc.s]
    · rfl
    · simp
    · rfl
  · rfl

@[simp] theorem lockRun_devSt (c slot : Nat) (p : BitVec 54) (lock : Bool) : (s.lockRun c slot p lock).s.devSt = s.devSt := by
  simp only [State.lockRun]
  split
  · rfl
  · exact foldl_keeps (g := fun r : LockAcc => r.s.devSt) (fun r l => by simp) _ _

@[simp] theorem lockOp_devSt (c slot : Nat) (p : BitVec 54) (lock : Bool) : (s.lockOp c slot p lock).devSt = s.devSt := by
  simp only [State.lockOp]
  refine memDo_devSt (hk := fun _ s => ?_) ..
  repeat' split
  all_goals simp

@[simp] theorem execTLock_devSt (core : CoreIx) (slot : Fin 16) (p : BitVec 54) : KeepsSt s (execTLock core slot p s) := by simp [execTLock]
@[simp] theorem execTUnlock_devSt (core : CoreIx) (slot : Fin 16) (p : BitVec 54) : KeepsSt s (execTUnlock core slot p s) := by simp [execTUnlock]

theorem releaseLock_devSt (c : Nat) (r : LockRec) {t : State} (h : s.releaseLock c r = some t) : t.devSt = s.devSt := by
  simp only [State.releaseLock] at h
  split at h
  · cases h
  · cases h
    simp

theorem releaseLocks_devSt {c : Nat} {p : LockRec → Bool} {t : State} (h : s.releaseLocks c p = some t) : t.devSt = s.devSt :=
  foldl_bind_devSt (fun s _ _ h => releaseLock_devSt s c _ h) h

end

/-! ## Operations of Machine/TrayCopy that keep the device state -/

section
variable (s : State)

@[simp] theorem execAcp_devSt (core : CoreIx) (slot : Fin 16) (p : BitVec 54) : KeepsSt s (execAcp core slot p s) := by
  simp only [execAcp, keepsSt_next]
  refine trayDo_devSt (hk := fun s => ?_) ..
  split <;> simp

@[simp] theorem acpUnit_devSt (e : Env) (r : AcpRec) (q : State × AccSt × Half × Bool) (i : Nat) : (acpUnit e r q i).1.devSt = q.1.devSt := by
  simp only [acpUnit]
  split
  · split <;> simp
  · rfl

@[simp] theorem execAcpComplete_devSt (core : CoreIx) (slot : Fin 16) (id : Nat) : KeepsSt s (execAcpComplete core slot id s) := by
  simp only [execAcpComplete]
  split
  · simp
  split
  · simp
  · simp only [keepsSt_next, setTray_devSt, tflags_devSt, trayTaint_devSt]
    exact foldl_keeps (g := fun q : State × AccSt × Half × Bool => q.1.devSt) (acpUnit_devSt _ _) _ _

@[simp] theorem execWaita_devSt (core : CoreIx) (slot : Fin 16) (p : BitVec 54) : KeepsSt s (execWaita core slot p s) := by simp [execWaita]

@[simp] theorem execTsplit_devSt (core : CoreIx) (slot : Fin 16) (p : BitVec 54) : KeepsSt s (execTsplit core slot p s) := by
  simp only [execTsplit, keepsSt_next]
  refine trayDo_devSt (hk := fun s => ?_) ..
  repeat' split
  all_goals simp

@[simp] theorem execTpack_devSt (core : CoreIx) (slot : Fin 16) (p : BitVec 54) : KeepsSt s (execTpack core slot p s) := by
  simp only [execTpack, keepsSt_next]
  refine trayDo_devSt (hk := fun s => ?_) ..
  repeat' split
  all_goals simp

end

/-! ## Operations of Machine/TrayLife that keep the device state -/

section
variable (s : State)

@[simp] theorem execLaunch_devSt (core : CoreIx) (payload : BitVec 92) (crc : Word) : KeepsSt s (execLaunch core payload crc s) := by
  simp [execLaunch]

@[simp] theorem execTrayStart_devSt (core : CoreIx) (slot : Fin 16) : KeepsSt s (execTrayStart core slot s) := by
  simp only [execTrayStart]
  split
  · simp
  split <;> simp

@[simp] theorem launchDone_devSt (c id : Nat) : (s.launchDone c id).devSt = s.devSt := by
  rw [State.launchDone]
  split <;> simp

@[simp] theorem execTrayEnd_devSt (core : CoreIx) (slot : Fin 16) : KeepsSt s (execTrayEnd core slot s) := by
  simp only [execTrayEnd]
  split
  · simp
  split
  · simp
  · next hrelease => simp [releaseLocks_devSt s hrelease]

@[simp] theorem execLivelock_devSt (core : CoreIx) (slot : Fin 16) : KeepsSt s (execLivelock core slot s) := by
  rw [execLivelock]
  split <;> simp

end

/-! ## Operations of Machine/VectorEngine that keep the device state -/

section
variable (s : State)

@[simp] theorem issueRun_devSt (c : Nat) (payload : BitVec 92) (crc : Word) : (s.issueRun c payload crc).devSt = s.devSt := by simp [State.issueRun]

@[simp] theorem issueMove_devSt (c : Nat) (payload : BitVec 92) (crc : Word) : (s.issueMove c payload crc).devSt = s.devSt := by
  simp [State.issueMove]

@[simp] theorem execRun_devSt (core : CoreIx) (payload : BitVec 92) (crc : Word) : KeepsSt s (execRun core payload crc s) := by simp [execRun]

@[simp] theorem execExportRun_devSt (core : CoreIx) (payload : BitVec 92) (crc : Word) : KeepsSt s (execExportRun core payload crc s) := by
  simp [execExportRun]

@[simp] theorem execSummaryDeliver_devSt (core : CoreIx) : KeepsSt s (execSummaryDeliver core s) := by
  simp only [execSummaryDeliver]
  split
  · simp
  split <;> simp

@[simp] theorem execTld_devSt (core : CoreIx) (payload : BitVec 92) (crc : Word) : KeepsSt s (execTld core payload crc s) := by simp [execTld]
@[simp] theorem execTst_devSt (core : CoreIx) (payload : BitVec 92) (crc : Word) : KeepsSt s (execTst core payload crc s) := by simp [execTst]
@[simp] theorem execTcpy_devSt (core : CoreIx) (payload : BitVec 92) (crc : Word) : KeepsSt s (execTcpy core payload crc s) := by simp [execTcpy]

end

/-! ## Operations of Machine/Draft that keep the device state -/

section
variable (s : State)

@[simp] theorem setEpres_devSt (who st e : Nat) : (s.setEpres who st e).devSt = s.devSt := (rfl)

@[simp] theorem epCmd_devSt (who : Nat) (w : BitVec 28) (join : Bool) {k : State → State} (hk : (k s).devSt = s.devSt) : (s.epCmd who w join k).devSt = s.devSt := by
  simp [State.epCmd, hk]

@[simp] theorem execOpenEpoch_devSt (who : Fin 34) (word : BitVec 28) : KeepsSt s (execOpenEpoch who word s) := by
  rw [execOpenEpoch]
  split
  · simp
  split
  · simp
  split <;> simp

@[simp] theorem execJoin_devSt (who : Fin 34) (word : BitVec 28) : KeepsSt s (execJoin who word s) := by simp [execJoin]

@[simp] theorem coreCancel_devSt (c : Half) (n : Nat) : (State.coreCancel c s n).devSt = s.devSt := by
  rw [State.coreCancel]
  split <;> simp

@[simp] theorem mktCount_devSt (f : MktCounters → MktCounters) : (s.mktCount f).devSt = s.devSt := (rfl)

@[simp] theorem closeEpochs_devSt (m : Half) (cancel : Bool) (cause who : Nat) : (s.closeEpochs m cancel cause who).devSt = s.devSt := by
  simp [State.closeEpochs]

@[simp] theorem commitEpochs_devSt (c : Half) (who : Nat) : (s.commitEpochs c who).devSt = s.devSt := by simp [State.commitEpochs]
@[simp] theorem cancelEpochs_devSt (c : Half) (cause who : Nat) : (s.cancelEpochs c cause who).devSt = s.devSt := by simp [State.cancelEpochs]
@[simp] theorem execCommit_devSt (who : Fin 34) (word : BitVec 28) : KeepsSt s (execCommit who word s) := by simp [execCommit]
@[simp] theorem execCancel_devSt (who : Fin 34) (word : BitVec 28) : KeepsSt s (execCancel who word s) := by simp [execCancel]

@[simp] theorem freeEpochs_devSt (m : Half) (cancel : Bool) : (s.freeEpochs m cancel).devSt = s.devSt := by
  rw [State.freeEpochs]
  split <;> simp

@[simp] theorem execCommitComplete_devSt (mask : Half) : KeepsSt s (execCommitComplete mask s) := by simp [execCommitComplete]
@[simp] theorem execCancelComplete_devSt (mask : Half) : KeepsSt s (execCancelComplete mask s) := by simp [execCancelComplete]

@[simp] theorem execDraftFull_devSt (sector : Nat) (taint : Half) : KeepsSt s (execDraftFull sector taint s) := by
  rw [execDraftFull]
  split <;> simp

end

/-! ## Operations of Machine/Scheduler that keep the device state -/

section
variable (s : State)

@[simp] theorem execDoorbell_devSt (path : Fin 3) (who : Fin 34) (queue : Fin 1048576) (tail : DWord) (whole : Bool) :
    KeepsSt s (execDoorbell path who queue tail whole s) := by
  rw [execDoorbell]
  split_ifs <;> simp

@[simp] theorem readSeal_devSt (q n : Nat) (m : Half) : (s.readSeal q n m).1.devSt = s.devSt := by simp [State.readSeal]
@[simp] theorem endHead_devSt (q : Nat) (e : QEntry) (w : BitVec 512) (status : Nat) : (s.endHead q e w status).devSt = s.devSt := (rfl)

@[simp] theorem checkSeal_devSt (q n : Nat) (m : Half) (tagOk : Bool) : (s.checkSeal q n m tagOk).1.devSt = s.devSt := by
  simp only [State.checkSeal]
  split
  · rfl
  split
  · split <;> simp
  · simp

@[simp] theorem execEntryCheck_devSt (queue : Fin 1048576) (tagOk : Bool) : KeepsSt s (execEntryCheck queue tagOk s) := by
  simp only [execEntryCheck]
  split
  · simp
  split
  · simp
  split
  · simp
  · simp
  split
  · simp
  split
  · simp
  split
  · simp
  split
  · simp
  split <;> simp

@[simp] theorem execBarrierComplete_devSt (queue : Fin 1048576) : KeepsSt s (execBarrierComplete queue s) := by
  simp only [execBarrierComplete]
  split
  · simp
  split
  · simp
  split <;> simp

@[simp] theorem joinBulk_devSt (cands : List Cand) : (s.joinBulk cands).devSt = s.devSt := by simp [State.joinBulk]
@[simp] theorem dispatch_devSt (c : Cand) (core : Nat) : (s.dispatch c core).devSt = s.devSt := (rfl)

@[simp] theorem execSelection_devSt (ns : Nat) : KeepsSt s (execSelection ns s) := by
  simp only [execSelection]
  split
  · simp
  split
  · simp
  split <;> simp

@[simp] theorem sealCompletion_devSt (q k : Nat) : (s.sealCompletion q k).1.devSt = s.devSt := by simp [State.sealCompletion]

@[simp] theorem execCompletionWrite_devSt (queue : Fin 1048576) : KeepsSt s (execCompletionWrite queue s) := by
  simp only [execCompletionWrite]
  split
  · simp
  split <;> simp

@[simp] theorem firmRecord_devSt (p kind ctx keyv : Nat) (body : List Byte) : (s.firmRecord p kind ctx keyv body).devSt = s.devSt := by
  simp [State.firmRecord]

@[simp] theorem queueDone_devSt (q : Nat) : (s.queueDone q).devSt = s.devSt := by simp [State.queueDone]
@[simp] theorem queueDesc_devSt (q : Nat) : (s.queueDesc q).devSt = s.devSt := by simp [State.queueDesc]

@[simp] theorem wqStore_devSt (id refusal : Nat) (x : Queue) : (s.wqStore id refusal x).devSt = s.devSt := by
  simp only [State.wqStore]
  split <;> simp

@[simp] theorem wqCreate_devSt (who : Nat) : (s.wqCreate who).devSt = s.devSt := by simp [State.wqCreate]
@[simp] theorem wqSet_devSt (who : Nat) : (s.wqSet who).devSt = s.devSt := by simp [State.wqSet]

@[simp] theorem wqState_devSt (who : Nat) {k : Nat → Queue → State} (hk : ∀ id x, (k id x).devSt = s.devSt) : (s.wqState who k).devSt = s.devSt := by
  simp [State.wqState, hk]

@[simp] theorem wqPause_devSt (who : Nat) : (s.wqPause who).devSt = s.devSt := by simp [State.wqPause]
@[simp] theorem wqEnable_devSt (who : Nat) : (s.wqEnable who).devSt = s.devSt := by simp [State.wqEnable]
@[simp] theorem wqDrain_devSt (who : Nat) : (s.wqDrain who).devSt = s.devSt := by simp [State.wqDrain]
@[simp] theorem wqDestroy_devSt (who : Nat) : (s.wqDestroy who).devSt = s.devSt := by simp [State.wqDestroy]
@[simp] theorem wqSelect_devSt (who : Nat) : (s.wqSelect who).devSt = s.devSt := by simp [State.wqSelect]
@[simp] theorem execWqCreate_devSt (who : Fin 16) : KeepsSt s (execWqCreate who s) := by simp [execWqCreate]
@[simp] theorem execWqSet_devSt (who : Fin 16) : KeepsSt s (execWqSet who s) := by simp [execWqSet]
@[simp] theorem execWqPause_devSt (who : Fin 16) : KeepsSt s (execWqPause who s) := by simp [execWqPause]
@[simp] theorem execWqEnable_devSt (who : Fin 16) : KeepsSt s (execWqEnable who s) := by simp [execWqEnable]
@[simp] theorem execWqDrain_devSt (who : Fin 16) : KeepsSt s (execWqDrain who s) := by simp [execWqDrain]
@[simp] theorem execWqDestroy_devSt (who : Fin 16) : KeepsSt s (execWqDestroy who s) := by simp [execWqDestroy]
@[simp] theorem execWqSelect_devSt (who : Fin 16) : KeepsSt s (execWqSelect who s) := by simp [execWqSelect]
@[simp] theorem execQueueMirror_devSt : KeepsSt s (execQueueMirror s) := by simp [execQueueMirror]
@[simp] theorem queuesLost_devSt : s.queuesLost.devSt = s.devSt := by simp [State.queuesLost]

end

/-! ## Operations of Machine/Fabric that keep the device state -/

section
variable (s : State)

@[simp] theorem setPeer_devSt (p : Nat) (x : Peer) : (s.setPeer p x).devSt = s.devSt := (rfl)
@[simp] theorem setFlow_devSt (e peer : Nat) (x : Flow) : (s.setFlow e peer x).devSt = s.devSt := (rfl)
@[simp] theorem onFlow_devSt (e peer : Nat) (f : Flow → Flow) : (s.onFlow e peer f).devSt = s.devSt := (rfl)
@[simp] theorem fbCount_devSt (i n : Nat) : (s.fbCount i n).devSt = s.devSt := (rfl)
@[simp] theorem setPort_devSt (i : Nat) (x : Port) : (s.setPort i x).devSt = s.devSt := (rfl)

@[simp] theorem putOnWire_devSt (plane : Nat) (hdr : BitVec 512) (pmap : QWord) (tag : Nat) (payload : List Byte) :
    (s.putOnWire plane hdr pmap tag payload).devSt = s.devSt := (rfl)

theorem sendData_devSt {e : Nat} {h : Hdr} {part : Option Nat} {pmap : QWord} {payload : List Byte} {t : State}
    (hsend : s.sendData e h part pmap payload = some t) : t.devSt = s.devSt := by
  simp only [State.sendData] at hsend
  split at hsend
  · cases hsend
  · obtain ⟨pl, -, rfl⟩ := Option.map_eq_some_iff.1 hsend
    simp

@[simp] theorem sendControl_devSt (e peer : Nat) (h : Hdr) (part : Option Nat) : (s.sendControl e peer h part).devSt = s.devSt := by
  rw [State.sendControl]
  split <;> simp

@[simp] theorem onMsgs_devSt (p : Msg → Bool) (f : Msg → Msg) : (s.onMsgs p f).devSt = s.devSt := (rfl)

@[simp] theorem resend_devSt (e peer psn : Nat) : (s.resend e peer psn).devSt = s.devSt := by
  simp only [State.resend]
  split
  · rfl
  split <;> simp

@[simp] theorem endMessagesTo_devSt (peer status : Nat) : (s.endMessagesTo peer status).devSt = s.devSt := (rfl)
@[simp] theorem endColls_devSt (p : Coll → Bool) (status : Nat) : (s.endColls p status).devSt = s.devSt := (rfl)
@[simp] theorem settleColls_devSt : s.settleColls.devSt = s.devSt := by simp [State.settleColls]

@[simp] theorem applyAck_devSt (e peer plane cum sbase sack : Nat) (ce : Bool) : (s.applyAck e peer plane cum sbase sack ce).devSt = s.devSt := by
  simp [State.applyAck]

@[simp] theorem timeoutFlow_devSt (e peer : Nat) : (s.timeoutFlow e peer).devSt = s.devSt := by
  rw [State.timeoutFlow]
  split <;> simp

@[simp] theorem sendAck_devSt (e peer : Nat) : (s.sendAck e peer).devSt = s.devSt := by simp [State.sendAck]
@[simp] theorem flowBell_devSt (b : FlowBell) : (s.flowBell b).devSt = s.devSt := by simp [State.flowBell]
@[simp] theorem accept_devSt (e peer psn : Nat) (ce : Bool) : (s.accept e peer psn ce).devSt = s.devSt := by simp [State.accept]

@[simp] theorem sendNack_devSt (e : Nat) (h : BitVec 512) (code detail : Nat) : (s.sendNack e h code detail).devSt = s.devSt := by
  simp [State.sendNack]

@[simp] theorem setRxMsg_devSt (m : RxMsg) : (s.setRxMsg m).devSt = s.devSt := (rfl)
@[simp] theorem dropRx_devSt (r : RxFrame) : (s.dropRx r).devSt = s.devSt := (rfl)

@[simp] theorem refuseFrame_devSt (e : Nat) (h : BitVec 512) (ce : Bool) (code detail : Nat) : (s.refuseFrame e h ce code detail).devSt = s.devSt := by
  simp [State.refuseFrame]

end

/-! ## Operations of Machine/Bell that keep the device state -/

section
variable (s : State)

@[simp] theorem onBell_devSt (f : Bell → Bell) : (s.onBell f).devSt = s.devSt := (rfl)
@[simp] theorem setSlot_devSt (i : Nat) (x : EvSlot) : (s.setSlot i x).devSt = s.devSt := (rfl)

@[simp] theorem arm_devSt (kind owner param bell : Nat) : (s.arm kind owner param bell).devSt = s.devSt := by
  rw [State.arm]
  split <;> simp

@[simp] theorem answerBell_devSt (bell : Nat) : (s.answerBell bell).devSt = s.devSt := (rfl)
@[simp] theorem seArm_devSt (who : Nat) : (s.seArm who).devSt = s.devSt := by simp [State.seArm]
@[simp] theorem seCancel_devSt (who : Nat) : (s.seCancel who).devSt = s.devSt := by simp [State.seCancel]
@[simp] theorem seSelect_devSt (who : Nat) : (s.seSelect who).devSt = s.devSt := by simp [State.seSelect]
@[simp] theorem execSeArm_devSt (who : Fin 16) : KeepsSt s (execSeArm who s) := by simp [execSeArm]
@[simp] theorem execSeCancel_devSt (who : Fin 16) : KeepsSt s (execSeCancel who s) := by simp [execSeCancel]
@[simp] theorem execSeSelect_devSt (who : Fin 16) : KeepsSt s (execSeSelect who s) := by simp [execSeSelect]
@[simp] theorem shiftBells_devSt (d : Nat) : (s.shiftBells d).devSt = s.devSt := (rfl)
@[simp] theorem timeEvent_devSt (detail what : Nat) : (s.timeEvent detail what).devSt = s.devSt := (rfl)
@[simp] theorem timeState_devSt (st : Nat) : (s.timeState st).devSt = s.devSt := by simp [State.timeState]
@[simp] theorem stepBell_devSt (d : Nat) : (s.stepBell d).devSt = s.devSt := (rfl)
@[simp] theorem stepEvents_devSt : s.stepEvents.devSt = s.devSt := by simp [State.stepEvents]
@[simp] theorem startPassed_devSt (d : Nat) : (s.startPassed d).devSt = s.devSt := (rfl)
@[simp] theorem btStep_devSt : s.btStep.devSt = s.devSt := by simp [State.btStep]
@[simp] theorem execBtStep_devSt (who : Fin 16) : KeepsSt s (execBtStep who s) := by simp [execBtStep]

@[simp] theorem measured_devSt (offset : Int) : (s.measured offset).devSt = s.devSt := by
  rw [State.measured]
  split_ifs <;> simp

@[simp] theorem execPtpMeasurement_devSt (src : Fin 20) (offset : Int) (time : DWord) : KeepsSt s (execPtpMeasurement src offset time s) := by
  simp only [execPtpMeasurement]
  split_ifs <;> simp

@[simp] theorem execPpsEdge_devSt (dev : Option Int) : KeepsSt s (execPpsEdge dev s) := by
  simp only [execPpsEdge]
  split_ifs <;> simp

@[simp] theorem execSourceLoss_devSt : KeepsSt s (execSourceLoss s) := by simp [execSourceLoss]
@[simp] theorem execHoldoverExpiry_devSt : KeepsSt s (execHoldoverExpiry s) := by simp [execHoldoverExpiry]

end

/-! ## Operations of Machine/Binding that keep the device state -/

section
variable (s : State)

@[simp] theorem rbBind_devSt (who : Nat) : (s.rbBind who).devSt = s.devSt := by simp [State.rbBind]
@[simp] theorem rbUnbind_devSt (who : Nat) : (s.rbUnbind who).devSt = s.devSt := by simp [State.rbUnbind]
@[simp] theorem execRbBind_devSt (who : Fin 16) : KeepsSt s (execRbBind who s) := by simp [execRbBind]
@[simp] theorem execRbUnbind_devSt (who : Fin 16) : KeepsSt s (execRbUnbind who s) := by simp [execRbUnbind]

@[simp] theorem execRingTailReport_devSt (unit : Fin 18) (chan : Fin 256) (tail : DWord) (mask : Half) :
    KeepsSt s (execRingTailReport unit chan tail mask s) := by
  simp [execRingTailReport]

end

/-! ## Operations of Machine/MarketCmd that keep the device state -/

section
variable (s : State)

@[simp] theorem holdRequest_devSt : s.holdRequest.devSt = s.devSt := (rfl)
@[simp] theorem replyData_devSt (bs : List Byte) (poison stale : Bool) (taint : Half) : (s.replyData bs poison stale taint).devSt = s.devSt := (rfl)

@[simp] theorem replySt_devSt {s0 : State} (hs0 : s0.devSt = s.devSt) (st : AccSt) {k : State → State} (hk : (k s).devSt = s.devSt) :
    (s0.replySt s st k).devSt = s.devSt := by
  simp only [State.replySt]
  split <;> simp [hs0, hk]

@[simp] theorem staleOf_devSt (core : Option CoreIx) (stale : Bool) : (s.staleOf core stale).devSt = s.devSt := by
  simp only [State.staleOf]
  split <;> simp

@[simp] theorem execMarketRead_devSt (acc : Machine.Acc) (addr n : Nat) (core : Option CoreIx) : KeepsSt s (execMarketRead acc addr n core s) := by
  simp only [execMarketRead]
  split
  · simp
  have hread := foldl_keeps (g := fun r : URead => r.s.devSt) (agentPiece_devSt false acc) (piecesOf 32 addr n) ⟨s, .ok, [], [], 0#16, 0, false⟩
  exact (replySt_devSt _ hread.symm _ (by simp)).trans hread

@[simp] theorem execMarketWrite_devSt (acc : Machine.Acc) (addr : Nat) (data : List Byte) (poison : Bool) :
    KeepsSt s (execMarketWrite acc addr data poison s) := by
  simp only [execMarketWrite]
  split
  · simp
  have hwrite := foldl_keeps (g := fun r : WrAcc => r.s.devSt) (agentWritePiece_devSt acc poison) (piecesOf 32 addr data.length) ⟨s, .ok, data⟩
  exact (replySt_devSt _ hwrite.symm _ (by simp)).trans hwrite

@[simp] theorem execStallAtomic_devSt (acc : Machine.Acc) (op : AtomOp) (wide : Bool) (addr : Nat) (lanes : List (Nat × Nat)) :
    KeepsSt s (execStallAtomic acc op wide addr lanes s) := by
  simp only [execStallAtomic]
  split
  · simp
  split
  all_goals simp

@[simp] theorem execFoldInArrive_devSt (acc : Machine.Acc) (sector fmt : Nat) (elems : List (Nat × FoldOperand)) (source : Nat) :
    KeepsSt s (execFoldInArrive acc sector fmt elems source s) := by
  simp only [execFoldInArrive]
  split
  · simp
  split
  · simp
  split
  · simp
  split <;> simp

@[simp] theorem execFoldUnitApply_devSt (stall : StallIx) : KeepsSt s (execFoldUnitApply stall s) := by
  simp only [execFoldUnitApply]
  split
  · simp
  split
  all_goals simp

@[simp] theorem execCacheFill_devSt (acc : Machine.Acc) (sector : Nat) : KeepsSt s (execCacheFill acc sector s) := by
  simp only [execCacheFill]
  split
  · simp
  split
  · simp
  · next hline => simp [ensureLine_devSt _ hline]

@[simp] theorem closeSector_devSt (q : State × List Sector) (n : Nat) : (State.closeSector q n).1.devSt = q.1.devSt := by simp [State.closeSector]

@[simp] theorem execEviction_devSt (line : Nat) : KeepsSt s (execEviction line s) := by
  simp only [execEviction]
  split
  · simp
  split
  · simp
  split
  · simp
  split <;> simp

@[simp] theorem acceptSector_devSt (n : Nat) (x : Sector) : (s.acceptSector n x).devSt = s.devSt := by
  rw [State.acceptSector]
  split <;> simp

@[simp] theorem execWritebackAccept_devSt (line : Nat) : KeepsSt s (execWritebackAccept line s) := by
  simp only [execWritebackAccept]
  split
  · simp
  split <;> simp

theorem landFrames_devSt {q row0 rows : Nat} {t : State} (h : s.landFrames q row0 rows = some t) : t.devSt = s.devSt :=
  takeFrames_devSt s h

theorem rsvSet_devSt {n kind part q row0 rows : Nat} {t : State} (h : s.rsvSet n kind part q row0 rows = some t) : t.devSt = s.devSt := by
  obtain ⟨u, hland, rfl⟩ := Option.map_eq_some_iff.1 h
  exact (landFrames_devSt s hland : u.devSt = s.devSt)

@[simp] theorem rsvKeep_devSt (n kind part q row0 rows : Nat) : (s.rsvKeep n kind part q row0 rows).devSt = s.devSt := by simp [State.rsvKeep]
@[simp] theorem remapBar4_devSt (kind : Nat) : (s.remapBar4 kind).devSt = s.devSt := by simp [State.remapBar4]

@[simp] theorem rsvApply_devSt (who n kind : Nat) : (s.rsvApply who n kind).devSt = s.devSt := by
  simp only [State.rsvApply]
  split
  · split
    · simp
    · next hset => simp [rsvSet_devSt _ hset]
  · simp

@[simp] theorem rsvRelease_devSt (n : Nat) : (s.rsvRelease n).devSt = s.devSt := by simp [State.rsvRelease]
@[simp] theorem execRsvApply_devSt (who : Fin 16) (entry : Fin 16) (kind : Nat) : KeepsSt s (execRsvApply who entry kind s) := by simp [execRsvApply]
@[simp] theorem execRsvRelease_devSt (who : Fin 16) (entry : Fin 16) : KeepsSt s (execRsvRelease who entry s) := by simp [execRsvRelease]

end

/-! ## Operations of Machine/Frames that keep the device state -/

section
variable (s : State)

@[simp] theorem onHost_devSt (f : HostIf → HostIf) : (s.onHost f).devSt = s.devSt := (rfl)
@[simp] theorem setRing_devSt (f : Nat) (x : FnRing) : (s.setRing f x).devSt = s.devSt := (rfl)
@[simp] theorem ringTake_devSt (f : Nat) : (s.ringTake f).devSt = s.devSt := (rfl)
@[simp] theorem putResponse_devSt (f : Nat) (frame : List Byte) : (s.putResponse f frame).devSt = s.devSt := by simp [State.putResponse]
@[simp] theorem ringRespond_devSt (f : Nat) (frame : List Byte) : (s.ringRespond f frame).devSt = s.devSt := by simp [State.ringRespond]

@[simp] theorem releaseHeld_devSt (f n : Nat) : (State.releaseHeld f n s).devSt = s.devSt := by
  induction n generalizing s with
  | zero => rfl
  | succ n ih =>
    simp only [State.releaseHeld]
    split
    · rfl
    split
    · rfl
    · simp [ih]

@[simp] theorem sendOd_devSt (path source : Nat) (b : List Byte) : (s.sendOd path source b).devSt = s.devSt := by simp [State.sendOd]
@[simp] theorem remember_devSt (who : Nat) (key : List Nat) (b : List Byte) : (s.remember who key b).devSt = s.devSt := (rfl)

@[simp] theorem respondVia_devSt (path source who : Nat) (key : List Nat) (f : DictFrame) : (s.respondVia path source who key f).devSt = s.devSt := by
  simp [State.respondVia]

@[simp] theorem respond_devSt (who : Nat) (key : List Nat) (f : DictFrame) : (s.respond who key f).devSt = s.devSt := by simp [State.respond]

@[simp] theorem respondWith_devSt (who : Nat) (key : List Nat) (tid index sub status seg total : Nat) (part : Bool) (data : List Byte) :
    (s.respondWith who key tid index sub status seg total part data).devSt = s.devSt := by
  simp [State.respondWith]

@[simp] theorem respondAbort_devSt (who : Nat) (key : List Nat) (tid index sub reason : Nat) :
    (s.respondAbort who key tid index sub reason).devSt = s.devSt := by
  simp [State.respondAbort]

@[simp] theorem answerLate_devSt (tag : List Nat) (status : Nat) : (s.answerLate tag status).devSt = s.devSt := by
  rw [State.answerLate]
  split <;> simp

end

/-! ## Operations of Machine/Pager that keep the device state -/

section
variable (s : State)

@[simp] theorem cxCreate_devSt (who : Nat) : (s.cxCreate who).devSt = s.devSt := by simp [State.cxCreate]
@[simp] theorem cxSet_devSt (who : Nat) : (s.cxSet who).devSt = s.devSt := by simp [State.cxSet]
@[simp] theorem cxSetkey_devSt (who : Nat) : (s.cxSetkey who).devSt = s.devSt := by simp [State.cxSetkey]
@[simp] theorem freePage_devSt (k : Nat) : (s.freePage k).devSt = s.devSt := by simp [State.freePage]
@[simp] theorem dropRange_devSt (r : Range) : (s.dropRange r).devSt = s.devSt := by simp [State.dropRange]
@[simp] theorem cxDestroy_devSt (who : Nat) : (s.cxDestroy who).devSt = s.devSt := by simp [State.cxDestroy]
@[simp] theorem cxSelect_devSt (who : Nat) : (s.cxSelect who).devSt = s.devSt := by simp [State.cxSelect]

@[simp] theorem cxCommand_devSt (who : Nat) {k : State → State} (hk : (k s).devSt = s.devSt) : (s.cxCommand who k).devSt = s.devSt :=
  command_devSt s who _ _ ((appliedIf_devSt ..).trans hk)

@[simp] theorem execCxCreate_devSt (who : Fin 16) : KeepsSt s (execCxCreate who s) := by simp [execCxCreate]
@[simp] theorem execCxSet_devSt (who : Fin 16) : KeepsSt s (execCxSet who s) := by simp [execCxSet]
@[simp] theorem execCxDestroy_devSt (who : Fin 16) : KeepsSt s (execCxDestroy who s) := by simp [execCxDestroy]
@[simp] theorem execCxSelect_devSt (who : Fin 16) : KeepsSt s (execCxSelect who s) := by simp [execCxSelect]
@[simp] theorem execCxSetkey_devSt (who : Fin 16) : KeepsSt s (execCxSetkey who s) := by simp [execCxSetkey]
@[simp] theorem addRange_devSt (r : Range) : (s.addRange r).devSt = s.devSt := (rfl)
@[simp] theorem rgMap_devSt (who : Nat) : (s.rgMap who).devSt = s.devSt := by simp [State.rgMap]

@[simp] theorem rgAlias_devSt (who : Nat) : (s.rgAlias who).devSt = s.devSt := by
  simp only [State.rgAlias, ite_devSt]
  cases s.resolveSpan (s.rgArgs who).src (s.rgArgs who).srcVa (s.rgArgs who).bytes with
  | none => simp
  | some y => simp

@[simp] theorem rgFree_devSt (who : Nat) : (s.rgFree who).devSt = s.devSt := by
  simp only [State.rgFree, ite_devSt]
  split
  · simp
  split <;> simp

@[simp] theorem execShootdownComplete_devSt : KeepsSt s (execShootdownComplete s) := by
  rw [execShootdownComplete]
  split <;> simp

@[simp] theorem tryPromote_devSt (key : Nat) : (s.tryPromote key).devSt = s.devSt := by
  simp only [State.tryPromote]
  split
  · rfl
  split
  · rfl
  · exact getD_devSt (fun _ h => promotePage_devSt s h) rfl

@[simp] theorem pinPage_devSt (ctx : Nat) (attr : Word) (va : Nat) : (State.pinPage ctx attr s va).devSt = s.devSt := by simp [State.pinPage]
@[simp] theorem settlePins_devSt : s.settlePins.devSt = s.devSt := by simp [State.settlePins]

@[simp] theorem rgPin_devSt (who : Nat) : (s.rgPin who).devSt = s.devSt := by
  simp only [State.rgPin, ite_devSt]
  split
  · simp
  split <;> simp

@[simp] theorem rgOn_devSt (who : Nat) {k : Range → State} (hk : ∀ r, (k r).devSt = s.devSt) : (s.rgOn who k).devSt = s.devSt := by
  simp only [State.rgOn, ite_devSt]
  split
  · simp
  split <;> simp [hk]

@[simp] theorem rgUnpin_devSt (who : Nat) : (s.rgUnpin who).devSt = s.devSt := by simp [State.rgUnpin]
@[simp] theorem rgSelect_devSt (who : Nat) : (s.rgSelect who).devSt = s.devSt := by simp [State.rgSelect]

@[simp] theorem rgCommand_devSt (who : Nat) {k : State → State} (hk : (k s).devSt = s.devSt) : (s.rgCommand who k).devSt = s.devSt :=
  command_devSt s who _ _ ((appliedIf_devSt ..).trans hk)

@[simp] theorem execRgMap_devSt (who : Fin 16) : KeepsSt s (execRgMap who s) := by simp [execRgMap]
@[simp] theorem execRgAlias_devSt (who : Fin 16) : KeepsSt s (execRgAlias who s) := by simp [execRgAlias]
@[simp] theorem execRgFree_devSt (who : Fin 16) : KeepsSt s (execRgFree who s) := by simp [execRgFree]
@[simp] theorem execRgPin_devSt (who : Fin 16) : KeepsSt s (execRgPin who s) := by simp [execRgPin]
@[simp] theorem execRgUnpin_devSt (who : Fin 16) : KeepsSt s (execRgUnpin who s) := by simp [execRgUnpin]
@[simp] theorem execRgSelect_devSt (who : Fin 16) : KeepsSt s (execRgSelect who s) := by simp [execRgSelect]

@[simp] theorem execWalk_devSt (core : Option CoreIx) (cluster : ClusterIx) (ctx : Fin 4096) (va : Nat) (write : Bool) :
    KeepsSt s (execWalk core cluster ctx va write s) := by
  simp only [execWalk]
  split
  · simp
  split
  · simp
  · simp

@[simp] theorem execDemandAlloc_devSt (core : Option CoreIx) (cluster : ClusterIx) (ctx : Fin 4096) (va : Nat) (write : Bool) :
    KeepsSt s (execDemandAlloc core cluster ctx va write s) := by
  rw [execDemandAlloc]
  split <;> simp

@[simp] theorem flush_devSt (e : Nat × Nat) : (s.flush e).devSt = s.devSt := by simp [State.flush]

@[simp] theorem execHeatFlush_devSt (cache : Fin 288) (ctx : Fin 4096) (va : Nat) : KeepsSt s (execHeatFlush cache ctx va s) := by
  rw [execHeatFlush]
  split <;> simp

@[simp] theorem skipPage_devSt : s.skipPage.devSt = s.devSt := (rfl)
@[simp] theorem decay_devSt (part : Nat) : (s.decay part).devSt = s.devSt := (rfl)

@[simp] theorem demote_devSt (w : Sweep) (k : Nat) : (w.demote k).s.devSt = w.s.devSt := by
  simp only [Sweep.demote]
  split
  · rfl
  split
  · simp
  split
  · rfl
  · simp

@[simp] theorem cold_devSt (part : Nat) (w : Sweep) : (w.cold part).s.devSt = w.s.devSt :=
  foldl_keeps (g := fun w : Sweep => w.s.devSt) demote_devSt _ _

@[simp] theorem excess_devSt (part : Nat) (w : Sweep) : (w.excess part).s.devSt = w.s.devSt := by
  have hquota (w : Sweep) (k : Nat) (c : Prop) [Decidable c] : (if c then w.demote k else w).s.devSt = w.s.devSt := by
    split
    · exact demote_devSt w k
    · rfl
  refine (foldl_keeps (g := fun w : Sweep => w.s.devSt) (fun w e => ?_) _ _).trans
    (foldl_keeps (g := fun w : Sweep => w.s.devSt) (fun w k => hquota w k _) _ _)
  exact foldl_keeps (g := fun w : Sweep => w.s.devSt) (fun w k => hquota w k _) _ _

@[simp] theorem promote_devSt (w : Sweep) (k : Nat) : (w.promote k).s.devSt = w.s.devSt := by
  simp only [Sweep.promote]
  split
  · rfl
  split
  · simp
  split
  · rfl
  split
  · rfl
  split
  · split
    · next hpromote => exact promotePage_devSt _ hpromote
    · simp
  split
  · rfl
  split
  · rfl
  split
  · rfl
  have hdemoted (v : List Nat) : (v.foldl State.demotePage w.s).devSt = w.s.devSt := by simp
  split
  · exact hdemoted _
  split
  · next hpromote => exact (promotePage_devSt _ hpromote).trans (hdemoted _)
  · simp

@[simp] theorem hot_devSt (part : Nat) (w : Sweep) : (w.hot part).s.devSt = w.s.devSt :=
  foldl_keeps (g := fun w : Sweep => w.s.devSt) promote_devSt _ _

@[simp] theorem interval_devSt (part : Nat) : (s.interval part).devSt = s.devSt := by simp [State.interval]
@[simp] theorem retryPins_devSt : s.retryPins.devSt = s.devSt := by simp [State.retryPins]

@[simp] theorem execPagerInterval_devSt : KeepsSt s (execPagerInterval s) := by
  rw [execPagerInterval]
  split <;> simp

@[simp] theorem execPromote_devSt (ctx : Fin 4096) (va : Nat) : KeepsSt s (execPromote ctx va s) := by
  rw [execPromote]
  split <;> simp

@[simp] theorem execDemote_devSt (ctx : Fin 4096) (va : Nat) : KeepsSt s (execDemote ctx va s) := by
  rw [execDemote]
  split <;> simp

end

/-! ## Operations of Machine/FabricRx that keep the device state -/

section
variable (s : State)

@[simp] theorem admitFrame_devSt (r : RxFrame) : (s.admitFrame r).devSt = s.devSt := by
  simp only [State.admitFrame, ite_devSt]
  split
  · simp
  split
  · split <;> simp
  split
  · split <;> simp
  · simp

@[simp] theorem dataFrame_devSt (r : RxFrame) : (s.dataFrame r).devSt = s.devSt := by simp [State.dataFrame]
@[simp] theorem hearPeer_devSt (p : Nat) : (s.hearPeer p).devSt = s.devSt := (rfl)

@[simp] theorem execFrameReceive_devSt (port : Fin 18) (hdr : BitVec 512) (pmap tag : QWord) (payload : List Byte) (fcsOk tagOk ce : Bool) :
    KeepsSt s (execFrameReceive port hdr pmap tag payload fcsOk tagOk ce s) := by
  simp only [execFrameReceive]
  split_ifs <;> simp

@[simp] theorem writeSectors_devSt (g : Agent) (pmap : QWord) (l : List (List Byte)) (a j : Nat) : (State.writeSectors g pmap l a j s).1.devSt = s.devSt := by
  induction l generalizing a j s with
  | nil => rfl
  | cons x l ih =>
    simp only [State.writeSectors]
    split
    · rw [ih, agentWrite_devSt]
    · exact agentWrite_devSt ..

@[simp] theorem writePayload_devSt (g : Agent) (pmap : QWord) (bs : List Byte) (a j : Nat) : (State.writePayload g pmap bs a j s).1.devSt = s.devSt := by
  simp [State.writePayload]

@[simp] theorem onColls_devSt (p : Coll → Bool) (f : Coll → Coll) : (s.onColls p f).devSt = s.devSt := (rfl)
@[simp] theorem frameDone_devSt (e : Nat) (r : RxFrame) (m : RxMsg) : (s.frameDone e r m).devSt = s.devSt := by simp [State.frameDone]

@[simp] theorem execPutFrame_devSt (engine : Fin 2) : KeepsSt s (execPutFrame engine s) := by
  simp only [execPutFrame]
  split
  · simp
  split
  · simp
  split
  all_goals simp

@[simp] theorem readSectors_devSt (g : Agent) (n a j : Nat) : (State.readSectors g n a j s).1.devSt = s.devSt := by
  induction n generalizing a j s with
  | zero => rfl
  | succ n ih =>
    simp only [State.readSectors]
    split
    · rw [ih, agentRead_devSt]
    all_goals exact agentRead_devSt ..

@[simp] theorem execGetreq_devSt (engine : Fin 2) : KeepsSt s (execGetreq engine s) := by
  simp only [execGetreq]
  split
  · simp
  split
  · simp
  split
  · split
    · simp
    · next hsend => simp [sendData_devSt _ hsend]
  all_goals simp

@[simp] theorem endJob_devSt (e ch status pos : Nat) : (s.endJob e ch status pos).devSt = s.devSt := (rfl)

@[simp] theorem execGetresp_devSt (engine : Fin 2) : KeepsSt s (execGetresp engine s) := by
  simp only [execGetresp]
  split
  · simp
  split
  · simp
  split
  all_goals simp

@[simp] theorem foldSectors_devSt (g : Agent) (fmt : Nat) (anchor : Int) (pmap : QWord) (l : List (List Byte)) (a j : Nat) :
    (State.foldSectors g fmt anchor pmap l a j s).1.devSt = s.devSt := by
  induction l generalizing a j s with
  | nil => rfl
  | cons y l ih =>
    simp only [State.foldSectors]
    split
    · rw [ih]
      split <;> simp
    · split <;> simp

@[simp] theorem foldPayload_devSt (g : Agent) (fmt : Nat) (anchor : Int) (pmap : QWord) (bs : List Byte) (a j : Nat) :
    (State.foldPayload g fmt anchor pmap bs a j s).1.devSt = s.devSt := by
  simp [State.foldPayload]

@[simp] theorem execFoldFrame_devSt (engine : Fin 2) : KeepsSt s (execFoldFrame engine s) := by
  simp only [execFoldFrame]
  split
  · simp
  split
  · simp
  split
  · split
    · split
      · simp
      · next hsend => simp [sendData_devSt _ hsend]
    · simp
  all_goals simp

@[simp] theorem execDoneFrame_devSt (engine : Fin 2) : KeepsSt s (execDoneFrame engine s) := by
  rw [execDoneFrame]
  split <;> simp

@[simp] theorem execAck_devSt (engine : Fin 2) : KeepsSt s (execAck engine s) := by
  rw [execAck]
  split <;> simp

@[simp] theorem setStarter_devSt (p : Nat) (x : Starter) : (s.setStarter p x).devSt = s.devSt := (rfl)
@[simp] theorem setHosted_devSt (p : Nat) (x : Hosted) : (s.setHosted p x).devSt = s.devSt := (rfl)
@[simp] theorem dropStream_devSt (p : Nat) : (s.dropStream p).devSt = s.devSt := (rfl)
@[simp] theorem stopStarters_devSt (peer : Nat) : (s.stopStarters peer).devSt = s.devSt := by simp [State.stopStarters]
@[simp] theorem redirectedAway_devSt (new : Nat) : (s.redirectedAway new).devSt = s.devSt := by simp [State.redirectedAway]

@[simp] theorem execNack_devSt (engine : Fin 2) : KeepsSt s (execNack engine s) := by
  simp only [execNack]
  split
  · simp
  simp only [keepsSt_next]
  split
  all_goals simp

@[simp] theorem resetFlows_devSt (peer nextPsn e : Nat) : (s.resetFlows peer nextPsn e).devSt = s.devSt := by simp [State.resetFlows]

@[simp] theorem execBeat_devSt (engine : Fin 2) : KeepsSt s (execBeat engine s) := by
  rw [execBeat]
  split <;> simp

end

/-! ## Operations of Machine/Send that keep the device state -/

section
variable (s : State)

@[simp] theorem openMsg_devSt (m : Msg) : (s.openMsg m).devSt = s.devSt := (rfl)
@[simp] theorem sentOne_devSt (e num : Nat) (poison : Bool) : (s.sentOne e num poison).devSt = s.devSt := (rfl)
@[simp] theorem countFrame_devSt (e ch : Nat) : (s.countFrame e ch).devSt = s.devSt := (rfl)

@[simp] theorem sendFrame_devSt {s0 : State} (hs0 : s0.devSt = s.devSt) (e ch : Nat) (j : RunJob) (m : Msg) :
    (s.sendFrame s0 e ch j m).devSt = s.devSt := by
  simp only [State.sendFrame]
  split
  · split
    · simp [hs0]
    · next hsend => simp [sendData_devSt _ hsend]
  split
  · split
    · simp [hs0]
    · next hsend => simp [sendData_devSt _ hsend]
  · simp
  · simp [hs0]

@[simp] theorem openAndSend_devSt (e ch : Nat) (j : RunJob) (m : Msg) : (s.openAndSend e ch j m).devSt = s.devSt := by
  rw [State.openAndSend]
  split <;> simp

@[simp] theorem plainSend_devSt (kind e ch : Nat) (j : RunJob) : (State.plainSend kind e ch s j).devSt = s.devSt := by
  rw [State.plainSend]
  split <;> simp

@[simp] theorem issueColl_devSt (e ch : Nat) (j : RunJob) : (s.issueColl e ch j).devSt = s.devSt := (rfl)

@[simp] theorem collStep_devSt (e ch : Nat) (j : RunJob) : (State.collStep e ch s j).devSt = s.devSt := by
  simp only [State.collStep]
  have hissued : (if (s.coll e ch).isNone then s.issueColl e ch j else s).devSt = s.devSt := by simp
  generalize (if (s.coll e ch).isNone then s.issueColl e ch j else s) = s0 at hissued
  split
  · rfl
  rw [← hissued]
  split
  · rfl
  split
  · exact sendFrame_devSt _ rfl ..
  split
  · split
    · simp
    · rw [sendFrame_devSt _ rfl]
      simp
  · simp

@[simp] theorem sendGo_devSt (e ch : Nat) {go : State → RunJob → State} (hgo : ∀ s j, (go s j).devSt = s.devSt) (j : RunJob) :
    (s.sendGo e ch go j).devSt = s.devSt := by
  simp [State.sendGo, hgo]

@[simp] theorem sendJob_devSt (e ch op : Nat) {go : State → RunJob → State} (hgo : ∀ s j, (go s j).devSt = s.devSt) :
    (s.sendJob e ch op go).devSt = s.devSt := by
  simp only [State.sendJob]
  split
  · rfl
  split
  · simp [hgo]
  split
  · rfl
  · simp
  split
  · simp
  split
  · simp [hgo]
  · simp
  · simp

@[simp] theorem execSendPut_devSt (engine : Fin 2) (chan : Fin 256) : KeepsSt s (execSendPut engine chan s) := by simp [execSendPut]
@[simp] theorem execSendGet_devSt (engine : Fin 2) (chan : Fin 256) : KeepsSt s (execSendGet engine chan s) := by simp [execSendGet]
@[simp] theorem execSendFold_devSt (engine : Fin 2) (chan : Fin 256) : KeepsSt s (execSendFold engine chan s) := by simp [execSendFold]
@[simp] theorem execAllreduce_devSt (engine : Fin 2) (chan : Fin 256) : KeepsSt s (execAllreduce engine chan s) := by simp [execAllreduce]
@[simp] theorem execReducescatter_devSt (engine : Fin 2) (chan : Fin 256) : KeepsSt s (execReducescatter engine chan s) := by simp [execReducescatter]
@[simp] theorem execAllgather_devSt (engine : Fin 2) (chan : Fin 256) : KeepsSt s (execAllgather engine chan s) := by simp [execAllgather]
@[simp] theorem execSendStart_devSt (engine : Fin 2) (chan : Fin 256) : KeepsSt s (execSendStart engine chan s) := by simp [execSendStart]
@[simp] theorem dropSends_devSt (e ch : Nat) : (s.dropSends e ch).devSt = s.devSt := (rfl)

@[simp] theorem putSendRecord_devSt (e ch : Nat) (j : RunJob) (status detail : Nat) : (s.putSendRecord e ch j status detail).devSt = s.devSt := by
  simp [State.putSendRecord]

@[simp] theorem execSendComplete_devSt (engine : Fin 2) (chan : Fin 256) : KeepsSt s (execSendComplete engine chan s) := by
  simp only [execSendComplete]
  split
  · simp
  split
  · simp
  split
  · simp
  split <;> simp

@[simp] theorem ctrl_devSt (unit ch : Nat) (mask : Half) {k : Chan → State} (hk : ∀ x, (k x).devSt = s.devSt) : (s.ctrl unit ch mask k).devSt = s.devSt := by
  simp [State.ctrl, hk]

@[simp] theorem execRingResume_devSt (unit : Fin 18) (chan : Fin 256) (mask : Half) : KeepsSt s (execRingResume unit chan mask s) := by
  simp only [execRingResume, keepsSt_next]
  refine ctrl_devSt (hk := fun _ => ?_) ..
  split <;> simp

@[simp] theorem execRingSkip_devSt (unit : Fin 18) (chan : Fin 256) (mask : Half) : KeepsSt s (execRingSkip unit chan mask s) := by
  simp only [execRingSkip, keepsSt_next]
  refine ctrl_devSt (hk := fun _ => ?_) ..
  split <;> simp

@[simp] theorem abortRecord_devSt (unit ch num : Nat) : (s.abortRecord unit ch num).devSt = s.devSt := by simp [State.abortRecord]

@[simp] theorem execRingAbort_devSt (unit : Fin 18) (chan : Fin 256) (mask : Half) : KeepsSt s (execRingAbort unit chan mask s) := by
  simp [execRingAbort]

end

/-! ## Operations of Machine/FabricCmd that keep the device state -/

section
variable (s : State)

@[simp] theorem scBind_devSt (who : Nat) : (s.scBind who).devSt = s.devSt := by simp [State.scBind]
@[simp] theorem scUnbind_devSt (who : Nat) : (s.scUnbind who).devSt = s.devSt := by simp [State.scUnbind]
@[simp] theorem execScBind_devSt (who : Fin 16) : KeepsSt s (execScBind who s) := by simp [execScBind]
@[simp] theorem execScUnbind_devSt (who : Fin 16) : KeepsSt s (execScUnbind who s) := by simp [execScUnbind]
@[simp] theorem setWindow_devSt (id : Nat) (w : Window) : (s.setWindow id w).devSt = s.devSt := (rfl)

@[simp] theorem wnCreate_devSt (who : Nat) : (s.wnCreate who).devSt = s.devSt := by
  rw [State.wnCreate]
  split <;> simp

@[simp] theorem wnDestroy_devSt (who : Nat) : (s.wnDestroy who).devSt = s.devSt := by simp [State.wnDestroy]
@[simp] theorem wnSelect_devSt (who : Nat) : (s.wnSelect who).devSt = s.devSt := by simp [State.wnSelect]
@[simp] theorem execWnCreate_devSt (who : Fin 16) : KeepsSt s (execWnCreate who s) := by simp [execWnCreate]
@[simp] theorem execWnDestroy_devSt (who : Fin 16) : KeepsSt s (execWnDestroy who s) := by simp [execWnDestroy]
@[simp] theorem execWnSelect_devSt (who : Fin 16) : KeepsSt s (execWnSelect who s) := by simp [execWnSelect]
@[simp] theorem grDefine_devSt (who : Nat) : (s.grDefine who).devSt = s.devSt := by simp [State.grDefine]
@[simp] theorem grDelete_devSt (who : Nat) : (s.grDelete who).devSt = s.devSt := by simp [State.grDelete]
@[simp] theorem grSelect_devSt (who : Nat) : (s.grSelect who).devSt = s.devSt := by simp [State.grSelect]
@[simp] theorem execGrDefine_devSt (who : Fin 16) : KeepsSt s (execGrDefine who s) := by simp [execGrDefine]
@[simp] theorem execGrDelete_devSt (who : Fin 16) : KeepsSt s (execGrDelete who s) := by simp [execGrDelete]
@[simp] theorem execGrSelect_devSt (who : Fin 16) : KeepsSt s (execGrSelect who s) := by simp [execGrSelect]
@[simp] theorem discardFlows_devSt (peer : Nat) : (s.discardFlows peer).devSt = s.devSt := (rfl)
@[simp] theorem redirect_devSt (old new : Nat) : (s.redirect old new).devSt = s.devSt := by simp [State.redirect]

@[simp] theorem execRedirectFrame_devSt (engine : Fin 2) : KeepsSt s (execRedirectFrame engine s) := by
  rw [execRedirectFrame]
  split <;> simp

@[simp] theorem rdSet_devSt (who : Nat) : (s.rdSet who).devSt = s.devSt := by simp [State.rdSet]
@[simp] theorem rdClear_devSt (who : Nat) : (s.rdClear who).devSt = s.devSt := by simp [State.rdClear]
@[simp] theorem rdSelect_devSt (who : Nat) : (s.rdSelect who).devSt = s.devSt := (rfl)
@[simp] theorem execRdSet_devSt (who : Fin 16) : KeepsSt s (execRdSet who s) := by simp [execRdSet]
@[simp] theorem execRdClear_devSt (who : Fin 16) : KeepsSt s (execRdClear who s) := by simp [execRdClear]
@[simp] theorem execRdSelect_devSt (who : Fin 16) : KeepsSt s (execRdSelect who s) := by simp [execRdSelect]
@[simp] theorem execAckTimer_devSt (engine : Fin 2) (peer : Fin 65536) : KeepsSt s (execAckTimer engine peer s) := by simp [execAckTimer]
@[simp] theorem execRtoExpiry_devSt (engine : Fin 2) (peer : Fin 65536) : KeepsSt s (execRtoExpiry engine peer s) := by simp [execRtoExpiry]

@[simp] theorem execNotreadyResend_devSt (engine : Fin 2) (peer : Fin 65536) : KeepsSt s (execNotreadyResend engine peer s) := by
  simp [execNotreadyResend]

@[simp] theorem execMsgTimeout_devSt (engine : Fin 2) : KeepsSt s (execMsgTimeout engine s) := by simp [execMsgTimeout]
@[simp] theorem execBeatSend_devSt (engine : Fin 2) : KeepsSt s (execBeatSend engine s) := by simp [execBeatSend]
@[simp] theorem destroyKey_devSt (id : Nat) : (s.destroyKey id).devSt = s.devSt := (rfl)

@[simp] theorem switchKey_devSt (e peer id : Nat) : (s.switchKey e peer id).devSt = s.devSt := by
  simp only [State.switchKey]
  split
  · rfl
  split <;> simp

@[simp] theorem execKeySwitch_devSt (engine : Fin 2) (peer : Fin 65536) : KeepsSt s (execKeySwitch engine peer s) := by simp [execKeySwitch]
@[simp] theorem execKeyRetire_devSt (keyid : Fin 65536) : KeepsSt s (execKeyRetire keyid s) := by simp [execKeyRetire]

end

/-! ## Operations of Machine/HbmCmd that keep the device state -/

section
variable (s : State)

@[simp] theorem execHbmArbitrate_devSt (stack : Fin 16) (pc : Fin 64) (share8 share9 : Nat) : KeepsSt s (execHbmArbitrate stack pc share8 share9 s) := by
  rw [execHbmArbitrate]
  split <;> simp

@[simp] theorem execHbmReadComplete_devSt (stack : Fin 16) (pc : Fin 64) (ns : Nat) : KeepsSt s (execHbmReadComplete stack pc ns s) := by
  rw [execHbmReadComplete]
  split <;> simp

@[simp] theorem execRefresh_devSt (stack : Fin 16) (pc bank : Fin 64) : KeepsSt s (execRefresh stack pc bank s) := by simp [execRefresh]

@[simp] theorem execStackTempRead_devSt (stack : Fin 16) (reading : Option Int) : KeepsSt s (execStackTempRead stack reading s) := by
  simp [execStackTempRead]

@[simp] theorem execPowerDownEntry_devSt (stack : Fin 16) (pc : Fin 64) (idle : Nat) : KeepsSt s (execPowerDownEntry stack pc idle s) := by
  rw [execPowerDownEntry]
  split <;> simp

@[simp] theorem fenceStack_devSt (j : Nat) : (s.fenceStack j).devSt = s.devSt := by simp [State.fenceStack]

@[simp] theorem execPhaseRetrain_devSt (stack : Fin 16) (pc : Fin 64) (ok : Bool) : KeepsSt s (execPhaseRetrain stack pc ok s) := by
  simp [execPhaseRetrain]

@[simp] theorem execParityError_devSt (stack : Fin 16) (pc : Fin 64) (attempt : Fin 5) (retrainOk : Bool) :
    KeepsSt s (execParityError stack pc attempt retrainOk s) := by
  simp [execParityError]

@[simp] theorem execStackNotAnswering_devSt (stack : Fin 16) : KeepsSt s (execStackNotAnswering stack s) := by simp [execStackNotAnswering]

@[simp] theorem execMerge_devSt (stack : Fin 16) : KeepsSt s (execMerge stack s) := by
  rw [execMerge]
  split <;> simp

@[simp] theorem execCongestionLevel_devSt (stack : Fin 16) : KeepsSt s (execCongestionLevel stack s) := by simp [execCongestionLevel]
@[simp] theorem execLevelBroadcast_devSt : KeepsSt s (execLevelBroadcast s) := by simp [execLevelBroadcast]

@[simp] theorem rwEnable_devSt (who w : Nat) : (s.rwEnable who w).devSt = s.devSt := by
  rw [State.rwEnable]
  split <;> simp

@[simp] theorem rwDisable_devSt (w : Nat) : (s.rwDisable w).devSt = s.devSt := by simp [State.rwDisable]
@[simp] theorem execRwEnable_devSt (who : Fin 16) (window : Fin 64) : KeepsSt s (execRwEnable who window s) := by simp [execRwEnable]
@[simp] theorem execRwDisable_devSt (who : Fin 16) (window : Fin 64) : KeepsSt s (execRwDisable who window s) := by simp [execRwDisable]

end

/-! ## Operations of Machine/Protect that keep the device state -/

section
variable (s : State)

@[simp] theorem correctingWb_devSt (place unit addr : Nat) (was : BitVec 256) (chk : Half) : (s.correctingWb place unit addr was chk).devSt = s.devSt := by
  simp only [State.correctingWb]
  split
  all_goals
    split
    · split <;> simp
    · rfl

@[simp] theorem execCorrectingWriteback_devSt (place : Fin 4) (unit addr : Nat) (was : BitVec 256) (chk : Half) :
    KeepsSt s (execCorrectingWriteback place unit addr was chk s) := by
  simp [execCorrectingWriteback]

@[simp] theorem scrubBase_devSt (n : Nat) : (s.scrubBase n).devSt = s.devSt := by
  simp only [State.scrubBase]
  split
  · rfl
  · rfl
  split
  all_goals simp

@[simp] theorem scrubShadow_devSt (n : Nat) : (s.scrubShadow n).devSt = s.devSt := by
  simp only [State.scrubShadow]
  split
  · rfl
  · rfl
  split
  all_goals simp

@[simp] theorem scrubHbm_devSt (n : Nat) : (s.scrubHbm n).devSt = s.devSt := by
  rw [State.scrubHbm]
  split <;> simp

@[simp] theorem scrubPass_devSt : s.scrubPass.devSt = s.devSt := (rfl)

@[simp] theorem scrubMarket_devSt : s.scrubMarket.devSt = s.devSt := by
  simp only [State.scrubMarket]
  split
  · simp
  · next st _ =>
    generalize (if st = s.ecc.scrubStall then s.ecc.scrubLine else 0) = pos
    cases (s.lineAt st (pos / 4)).1 <;> cases (s.lineAt st (pos / 4)).2
    all_goals
      dsimp only
      split
      · simp
      split <;> simp

@[simp] theorem scrubNextHbm_devSt : s.scrubNextHbm.devSt = s.devSt := by simp [State.scrubNextHbm]

@[simp] theorem execScrubRead_devSt (hbm : Bool) : KeepsSt s (execScrubRead hbm s) := by
  rw [execScrubRead]
  split <;> simp

@[simp] theorem moveHbmSector_devSt (lo dst : Nat) (n : Nat) : (State.moveHbmSector lo dst s n).devSt = s.devSt := by simp [State.moveHbmSector]
@[simp] theorem moveHome_devSt (key q a : Nat) : (s.moveHome key q a).devSt = s.devSt := by simp [State.moveHome]

theorem retire_devSt {kind unit addr : Nat} {t : State} (h : s.retire kind unit addr = some t) : t.devSt = s.devSt := by
  simp only [State.retire] at h
  split at h
  · split at h
    · cases h
      simp
    split at h
    · cases h
      simp
    · cases h
  · obtain ⟨u, hvacate, rfl⟩ := Option.map_eq_some_iff.1 h
    have hkept := vacateFrame_devSt _ hvacate
    simp only [mk_devSt, dev_st, setFrame_devSt, forgetSectors_devSt, hkept]
    split <;> simp
  · cases h
    simp

@[simp] theorem rtRetire_devSt (who : Nat) : (s.rtRetire who).devSt = s.devSt := by
  simp only [State.rtRetire]
  split
  · split
    · simp
    · next hretire => simp [retire_devSt _ hretire]
  · simp

@[simp] theorem rtSelect_devSt (who : Nat) : (s.rtSelect who).devSt = s.devSt := by simp [State.rtSelect]
@[simp] theorem execRtRetire_devSt (who : Fin 16) : KeepsSt s (execRtRetire who s) := by simp [execRtRetire]
@[simp] theorem execRtSelect_devSt (who : Fin 16) : KeepsSt s (execRtSelect who s) := by simp [execRtSelect]

@[simp] theorem tsStore_devSt (mem a data check : Nat) : (s.tsStore mem a data check).devSt = s.devSt := by
  simp only [State.tsStore]
  split <;> simp

@[simp] theorem tsCommand_devSt (op : Nat) : (s.tsCommand op).devSt = s.devSt := by
  simp only [State.tsCommand]
  split
  · rw [answer_devSt]
    split <;> simp
  · simp

@[simp] theorem execTsWriteData_devSt (who : Fin 16) : KeepsSt s (execTsWriteData who s) := by simp [execTsWriteData]
@[simp] theorem execTsWriteCheck_devSt (who : Fin 16) : KeepsSt s (execTsWriteCheck who s) := by simp [execTsWriteCheck]
@[simp] theorem execTsWriteBoth_devSt (who : Fin 16) : KeepsSt s (execTsWriteBoth who s) := by simp [execTsWriteBoth]
@[simp] theorem execTsReadRaw_devSt (who : Fin 16) : KeepsSt s (execTsReadRaw who s) := by simp [execTsReadRaw]

end

/-! ## Operations of Machine/Host that keep the device state -/

section
variable (s : State)

@[simp] theorem hostUr_devSt : s.hostUr.devSt = s.devSt := (rfl)
@[simp] theorem hostDrop_devSt : s.hostDrop.devSt = s.devSt := (rfl)

@[simp] theorem execBar4Read_devSt (offset : Fin 67108864) (len : Fin 4097) : KeepsSt s (execBar4Read offset len s) := by
  simp only [execBar4Read]
  split
  · simp
  split
  · simp
  split
  · simp
  split <;> simp

@[simp] theorem execBar4Write_devSt (offset : Fin 67108864) (bytes : List Byte) (poisoned : Bool) : KeepsSt s (execBar4Write offset bytes poisoned s) := by
  simp only [execBar4Write]
  split
  · simp
  split
  · simp
  split
  · simp
  split <;> simp

@[simp] theorem execRqTail_devSt (ring : Fin 4) (value : Word) : KeepsSt s (execRqTail ring value s) := by
  simp only [execRqTail]
  split_ifs <;> simp

@[simp] theorem execRsHead_devSt (ring : Fin 4) (value : Word) : KeepsSt s (execRsHead ring value s) := by
  rw [execRsHead]
  split_ifs <;> simp

@[simp] theorem execMsixSend_devSt (vector : Fin 2048) (ns : Nat) : KeepsSt s (execMsixSend vector ns s) := by simp [execMsixSend]
@[simp] theorem hostReset_devSt : s.hostReset.devSt = s.devSt := (rfl)
@[simp] theorem execFlr_devSt : KeepsSt s (execFlr s) := by simp [execFlr]
@[simp] theorem execPerstN_devSt : KeepsSt s (execPerstN s) := by simp [execPerstN]
@[simp] theorem linkDown_devSt : s.linkDown.devSt = s.devSt := (rfl)
@[simp] theorem execLinkLoss_devSt : KeepsSt s (execLinkLoss s) := by simp [execLinkLoss]
@[simp] theorem execLinkUp_devSt (lanes : Fin 17) (mts : Nat) : KeepsSt s (execLinkUp lanes mts s) := by simp [execLinkUp]
@[simp] theorem execD3hotEntry_devSt (enter : Bool) : KeepsSt s (execD3hotEntry enter s) := by simp [execD3hotEntry]

end

/-! ## Operations of Machine/Copy that keep the device state -/

section
variable (s : State)

@[simp] theorem issueCopy_devSt (c : Nat) (p : BitVec 92) (crc : Word) : (s.issueCopy c p crc).devSt = s.devSt := by simp [State.issueCopy]

@[simp] theorem execCopyLinear_devSt (core : CoreIx) (payload : BitVec 92) (crc : Word) : KeepsSt s (execCopyLinear core payload crc s) := by
  simp [execCopyLinear]

@[simp] theorem execCopyStrided_devSt (core : CoreIx) (payload : BitVec 92) (crc : Word) : KeepsSt s (execCopyStrided core payload crc s) := by
  simp [execCopyStrided]

@[simp] theorem execCopyTranspose8_devSt (core : CoreIx) (payload : BitVec 92) (crc : Word) : KeepsSt s (execCopyTranspose8 core payload crc s) := by
  simp [execCopyTranspose8]

@[simp] theorem execCopyTranspose16_devSt (core : CoreIx) (payload : BitVec 92) (crc : Word) : KeepsSt s (execCopyTranspose16 core payload crc s) := by
  simp [execCopyTranspose16]

@[simp] theorem execCopyFill_devSt (core : CoreIx) (payload : BitVec 92) (crc : Word) : KeepsSt s (execCopyFill core payload crc s) := by
  simp [execCopyFill]

@[simp] theorem execCopyPrefetch_devSt (core : CoreIx) (payload : BitVec 92) (crc : Word) : KeepsSt s (execCopyPrefetch core payload crc s) := by
  simp [execCopyPrefetch]

@[simp] theorem copyUnit_devSt (e : Env) (sva dva : Bool) (q : CopyRun) (x : Nat × Nat) : (copyUnit e sva dva q x).s.devSt = q.s.devSt := by
  simp only [copyUnit]
  split
  · split
    · simp [apply_ite CopyRun.s]
    · simp
  · rfl

@[simp] theorem blockRead_devSt (e : Env) (sva : Bool) (q : CopyRun × List (List Byte)) (a : Nat) : (blockRead e sva q a).1.s.devSt = q.1.s.devSt := by
  simp only [blockRead]
  split
  · split <;> simp
  · rfl

@[simp] theorem copyBlock_devSt (e : Env) (c : CopyEntry) (w : Nat) (q : CopyRun) (b : Nat × Nat) : (copyBlock e c w q b).s.devSt = q.s.devSt := by
  simp only [copyBlock]
  split
  · refine (foldl_keeps (g := fun q : CopyRun => q.s.devSt) (fun q j => ?_) _ _).trans
      (foldl_keeps (g := fun q : CopyRun × List (List Byte) => q.1.s.devSt) (blockRead_devSt _ _) _ _)
    split <;> simp
  · rfl

@[simp] theorem prefetchUnit_devSt (e : Env) (q : CopyRun) (a : Nat) : (prefetchUnit e q a).s.devSt = q.s.devSt := by
  simp only [prefetchUnit]
  split
  · split
    · simp
    split
    · split
      · rfl
      · next hline => simp [ensureLine_devSt _ hline]
    · simp
  · rfl

@[simp] theorem copyRun_devSt (e : Env) (c : CopyEntry) : (s.copyRun e c).s.devSt = s.devSt := by
  simp only [State.copyRun]
  split
  · exact foldl_keeps (g := fun q : CopyRun => q.s.devSt) (copyUnit_devSt _ _ _) _ _
  · exact foldl_keeps (g := fun q : CopyRun => q.s.devSt) (copyUnit_devSt _ _ _) _ _
  · refine foldl_keeps (g := fun q : CopyRun => q.s.devSt) (fun q i => ?_) _ _
    split <;> simp
  · split
    · exact foldl_keeps (g := fun q : CopyRun => q.s.devSt) (fun q i => prefetchUnit_devSt ..) _ _
    · rfl
  · exact foldl_keeps (g := fun q : CopyRun => q.s.devSt) (copyBlock_devSt _ _ _) _ _

@[simp] theorem execCopyComplete_devSt (core : CoreIx) : KeepsSt s (execCopyComplete core s) := by
  simp only [execCopyComplete]
  split
  · simp
  split
  · simp
  split
  · simp
  simp only [keepsSt_next, recheck_devSt]
  split <;> simp

end

/-! ## Operations of Machine/Sequencer that keep the device state -/

section
variable (s : State)

@[simp] theorem holdPhase_devSt (p : Nat) : (s.holdPhase p).devSt = s.devSt := (rfl)

@[simp] theorem execTaskStart_devSt (core : CoreIx) : KeepsSt s (execTaskStart core s) := by
  simp only [execTaskStart]
  split
  · simp
  split
  · simp
  split <;> simp

@[simp] theorem execDescriptorFetch_devSt (core : CoreIx) : KeepsSt s (execDescriptorFetch core s) := by
  simp only [execDescriptorFetch]
  split
  · simp
  split
  · simp
  split
  all_goals simp

@[simp] theorem seqDesc_devSt (c cls : Nat) (p : BitVec 92) (crc : Word) (bad : Bool) {f : State → State} (hf : ∀ s, (f s).devSt = s.devSt) :
    (s.seqDesc c cls p crc bad f).devSt = s.devSt := by
  simp [State.seqDesc, hf]

@[simp] theorem execOpd_devSt (core : CoreIx) (payload : BitVec 92) (crc : Word) : KeepsSt s (execOpd core payload crc s) := by simp [execOpd]
@[simp] theorem execOps_devSt (core : CoreIx) (payload : BitVec 92) (crc : Word) : KeepsSt s (execOps core payload crc s) := by simp [execOps]
@[simp] theorem execBind_devSt (core : CoreIx) (payload : BitVec 92) (crc : Word) : KeepsSt s (execBind core payload crc s) := by simp [execBind]
@[simp] theorem execBindx_devSt (core : CoreIx) (payload : BitVec 92) (crc : Word) : KeepsSt s (execBindx core payload crc s) := by simp [execBindx]
@[simp] theorem execVargX_devSt (core : CoreIx) (payload : BitVec 92) (crc : Word) : KeepsSt s (execVargX core payload crc s) := by simp [execVargX]

@[simp] theorem execVargStream_devSt (core : CoreIx) (payload : BitVec 92) (crc : Word) : KeepsSt s (execVargStream core payload crc s) := by
  simp [execVargStream]

@[simp] theorem execVargDraw_devSt (core : CoreIx) (payload : BitVec 92) (crc : Word) : KeepsSt s (execVargDraw core payload crc s) := by
  simp [execVargDraw]

@[simp] theorem hold_devSt (c : Nat) (w : SeqWait) : (s.hold c w).devSt = s.devSt := by simp [State.hold]

@[simp] theorem execWaitDesc_devSt (core : CoreIx) (payload : BitVec 92) (crc : Word) : KeepsSt s (execWaitDesc core payload crc s) := by
  simp [execWaitDesc]

@[simp] theorem execPhaseDesc_devSt (core : CoreIx) (payload : BitVec 92) (crc : Word) : KeepsSt s (execPhaseDesc core payload crc s) := by
  simp [execPhaseDesc]

@[simp] theorem execFenceDesc_devSt (core : CoreIx) (payload : BitVec 92) (crc : Word) : KeepsSt s (execFenceDesc core payload crc s) := by
  simp [execFenceDesc]

@[simp] theorem execBclr_devSt (core : CoreIx) (payload : BitVec 92) (crc : Word) : KeepsSt s (execBclr core payload crc s) := by simp [execBclr]

@[simp] theorem execEndTask_devSt (core : CoreIx) (payload : BitVec 92) (crc : Word) : KeepsSt s (execEndTask core payload crc s) := by
  simp [execEndTask]

@[simp] theorem execJumpDesc_devSt (core : CoreIx) (payload : BitVec 92) (crc : Word) : KeepsSt s (execJumpDesc core payload crc s) := by
  simp [execJumpDesc]

@[simp] theorem execNopDesc_devSt (core : CoreIx) (payload : BitVec 92) (crc : Word) : KeepsSt s (execNopDesc core payload crc s) := by
  simp [execNopDesc]

@[simp] theorem restart_devSt (c : Nat) : (s.restart c).devSt = s.devSt := by simp [State.restart]

@[simp] theorem reply_devSt (c slot : Nat) (tray : Nat → Tray → Tray) {other : Nat → State → State} (hother : ∀ n s, (other n s).devSt = s.devSt) :
    (s.reply c slot tray other).devSt = s.devSt := by
  simp only [State.reply]
  split
  · rfl
  split
  · split <;> simp
  · simp [hother]

@[simp] theorem execTrapResume_devSt (core : CoreIx) (slot : Fin 16) : KeepsSt s (execTrapResume core slot s) := by simp [execTrapResume]
@[simp] theorem execTrapSkip_devSt (core : CoreIx) (slot : Fin 16) : KeepsSt s (execTrapSkip core slot s) := by simp [execTrapSkip]
@[simp] theorem execTrapAbort_devSt (core : CoreIx) (slot : Fin 16) : KeepsSt s (execTrapAbort core slot s) := by simp [execTrapAbort]

@[simp] theorem execSumheadRead_devSt (cluster : ClusterIx) : KeepsSt s (execSumheadRead cluster s) := by
  rw [execSumheadRead]
  split <;> simp

@[simp] theorem execSumack_devSt (cluster : ClusterIx) (n : Nat) : KeepsSt s (execSumack cluster n s) := by simp [execSumack]
@[simp] theorem refillTraps_devSt (k : Nat) : (s.refillTraps k).devSt = s.devSt := by simp [State.refillTraps]
@[simp] theorem execTrapack_devSt (cluster : ClusterIx) (n : Nat) : KeepsSt s (execTrapack cluster n s) := by simp [execTrapack]
@[simp] theorem execCompack_devSt (cluster : ClusterIx) (n : Nat) : KeepsSt s (execCompack cluster n s) := by simp [execCompack]

@[simp] theorem execTaskport_devSt (cluster : ClusterIx) (rank : Fin 8) (word : QWord) : KeepsSt s (execTaskport cluster rank word s) := by
  rw [execTaskport]
  split_ifs <;> simp

@[simp] theorem execCompletionRecordEnter_devSt (core : CoreIx) : KeepsSt s (execCompletionRecordEnter core s) := by
  simp only [execCompletionRecordEnter]
  split
  · simp
  split
  all_goals simp

end

/-! ## Operations of Machine/Starter that keep the device state -/

section
variable (s : State)

@[simp] theorem copySector_devSt (ctx : Nat) (e : Nat × Nat) : (State.copySector ctx s e).devSt = s.devSt := by simp [State.copySector]
@[simp] theorem copyRange_devSt (r : Range) : (s.copyRange r).devSt = s.devSt := by simp [State.copyRange]
@[simp] theorem copyShard_devSt (p : Nat) : (s.copyShard p).devSt = s.devSt := by simp [State.copyShard]
@[simp] theorem fsStart_devSt (p : Nat) (partnerOk : Bool) : (s.fsStart p partnerOk).devSt = s.devSt := by simp [State.fsStart]

@[simp] theorem execFsStart_devSt (who : Fin 16) (part : PartIx) (partnerOk : Bool) : KeepsSt s (execFsStart who part partnerOk s) := by
  simp [execFsStart]

@[simp] theorem execFsStop_devSt (who : Fin 16) (part : PartIx) : KeepsSt s (execFsStop who part s) := by simp [execFsStop]

@[simp] theorem sendMirror_devSt (e p n : Nat) : (State.sendMirror e p n s).devSt = s.devSt := by
  induction n generalizing s with
  | zero => rfl
  | succ n ih =>
    simp only [State.sendMirror]
    split
    · rfl
    split
    · rfl
    · next hsend => simp [ih, sendData_devSt _ hsend]

@[simp] theorem execCutSend_devSt (engine : Fin 2) (part : PartIx) : KeepsSt s (execCutSend engine part s) := by simp [execCutSend]

@[simp] theorem execMirrorFrame_devSt (engine : Fin 2) : KeepsSt s (execMirrorFrame engine s) := by
  simp only [execMirrorFrame]
  split
  · simp
  split <;> simp

@[simp] theorem execCutApply_devSt (part : PartIx) : KeepsSt s (execCutApply part s) := by
  rw [execCutApply]
  split <;> simp

@[simp] theorem activateQueue_devSt (p : Nat) (h : Hosted) (e : Nat × Nat) : (State.activateQueue p h s e).devSt = s.devSt := by
  rw [State.activateQueue]
  split <;> simp

theorem mapPages_devSt {p ctx srcCtx : Nat} {attr : Word} {image : Tab (BitVec 256)} {l : List Nat} {t : State}
    (h : State.mapPages p ctx srcCtx attr image l s = some t) : t.devSt = s.devSt := by
  induction l generalizing s with
  | nil =>
    cases h
    rfl
  | cons va l ih =>
    simp only [State.mapPages] at h
    split at h
    · cases h
    · rw [ih _ h]
      simp

@[simp] theorem mapRange_devSt (p src : Nat) (h : Hosted) (ready : List Nat) (r : Nat × Nat × Nat × Word) :
    (State.mapRange p src h ready s r).devSt = s.devSt := by
  simp only [State.mapRange]
  split
  · simp
  split
  · simp
  split
  · simp
  · next hpages => simp [mapPages_devSt _ hpages]

@[simp] theorem mapWindow_devSt (p src : Nat) (h : Hosted) (e : Nat × Window) : (State.mapWindow p src h s e).devSt = s.devSt := by
  simp only [State.mapWindow]
  split
  · simp
  split
  · split
    · simp
    · split <;> simp
  split
  · simp
  · split <;> simp

@[simp] theorem openRedirect_devSt (p : Nat) (dst : Nat) : (State.openRedirect p s dst).devSt = s.devSt := (rfl)

@[simp] theorem sendRedirects_devSt (p old : Nat) : (s.sendRedirects p old).devSt = s.devSt := by
  refine foldl_devSt (hf := fun s k => ?_) ..
  split
  · rfl
  dsimp only
  split
  · rfl
  · next hsend => simp [sendData_devSt _ hsend]

@[simp] theorem beginTakeover_devSt (p : Nat) : (s.beginTakeover p).devSt = s.devSt := (rfl)
@[simp] theorem takeover_devSt (p : Nat) : (s.takeover p).devSt = s.devSt := by simp [State.takeover]
@[simp] theorem execTakeover_devSt (part : PartIx) : KeepsSt s (execTakeover part s) := by simp [execTakeover]
@[simp] theorem execFhTakeover_devSt (who : Fin 16) (part : PartIx) : KeepsSt s (execFhTakeover who part s) := by simp [execFhTakeover]
@[simp] theorem execFhDiscard_devSt (who : Fin 16) (part : PartIx) : KeepsSt s (execFhDiscard who part s) := by simp [execFhDiscard]
@[simp] theorem execRedirectComplete_devSt (part : PartIx) : KeepsSt s (execRedirectComplete part s) := by simp [execRedirectComplete]

@[simp] theorem execPeerLost_devSt (peer : Fin 65536) : KeepsSt s (execPeerLost peer s) := by
  simp only [execPeerLost, keepsSt_next]
  split
  · rfl
  split
  · split <;> simp
  · simp

end

/-! ## Operations of Machine/Device that keep the device state -/

section
variable (s : State)

@[simp] theorem onDev_devSt {f : Device → Device} (hf : ∀ d, (f d).st = d.st) : (s.onDev f).devSt = s.devSt :=
  hf s.dev

@[simp] theorem markSite_devSt (site : Nat) : (s.markSite site).devSt = s.devSt := (rfl)

@[simp] theorem absorbCopies_devSt (c n : Nat) : (State.absorbCopies c n s).devSt = s.devSt := by
  induction n generalizing s with
  | zero => rfl
  | succ n ih =>
    simp only [State.absorbCopies]
    split
    · rfl
    rw [ih]
    split
    · split
      · next t hcopy =>
        have hkeeps := execCopyComplete_devSt s.fresh.1 (Fin.ofNat 256 c)
        rw [hcopy, keepsSt_next, fresh_devSt] at hkeeps
        split <;> simp [hkeeps]
      · simp
    · simp

@[simp] theorem freeLocks_devSt (c : Nat) : (s.freeLocks c).devSt = s.devSt := by
  rw [State.freeLocks, onCore_devSt]
  exact getD_devSt (fun _ h => releaseLocks_devSt s h) rfl

@[simp] theorem absorbCore_devSt (c : Nat) : (s.absorbCore c).devSt = s.devSt := by
  rw [State.absorbCore]
  split <;> simp

@[simp] theorem reincarnate_devSt (c : Nat) : (s.reincarnate c).devSt = s.devSt := (rfl)
@[simp] theorem notice_devSt (c : Nat) : (s.notice c).devSt = s.devSt := by simp [State.notice]
@[simp] theorem drainUnit_devSt (kind i reason : Nat) : (s.drainUnit kind i reason).devSt = s.devSt := by simp [State.drainUnit]
@[simp] theorem stopRunner_devSt (r : Nat) : (s.stopRunner r).devSt = s.devSt := by simp [State.stopRunner]
@[simp] theorem clearStorage_devSt (qs : List Nat) : (s.clearStorage qs).devSt = s.devSt := (rfl)
@[simp] theorem drawKey_devSt (p : Nat) : (s.drawKey p).devSt = s.devSt := (rfl)
@[simp] theorem clearPartition_devSt (p : Nat) : (s.clearPartition p).devSt = s.devSt := by simp [State.clearPartition]
@[simp] theorem setMove_devSt (m : MoveRun) : (s.setMove m).devSt = s.devSt := (rfl)
@[simp] theorem dropMove_devSt (c : Nat) : (s.dropMove c).devSt = s.devSt := (rfl)
@[simp] theorem dropRun_devSt (p : ResetRun → Bool) : (s.dropRun p).devSt = s.devSt := (rfl)
@[simp] theorem retireCore_devSt (c reason : Nat) : (s.retireCore c reason).devSt = s.devSt := by simp [State.retireCore]

@[simp] theorem loseCore_devSt (c reason : Nat) : (s.loseCore c reason).devSt = s.devSt := by
  rw [State.loseCore]
  split <;> simp

@[simp] theorem retireStall_devSt (st : Nat) : (s.retireStall st).devSt = s.devSt := by
  rw [State.retireStall]
  split <;> simp

end

/-! ## Operations of Machine/Switch that keep the device state -/

section
variable (s : State)

@[simp] theorem onSec_devSt (f : Security → Security) : (s.onSec f).devSt = s.devSt := (rfl)
@[simp] theorem releaseReq_devSt (w : Nat) : (s.releaseReq w).devSt = s.devSt := (rfl)
@[simp] theorem releaseReqs_devSt : s.releaseReqs.devSt = s.devSt := (rfl)
@[simp] theorem endSession_devSt (n : Nat) : (s.endSession n).devSt = s.devSt := by simp [State.endSession]
@[simp] theorem endSessions_devSt : s.endSessions.devSt = s.devSt := by simp [State.endSessions]
@[simp] theorem onFw_devSt (f : Firmware → Firmware) : (s.onFw f).devSt = s.devSt := (rfl)
@[simp] theorem setProc_devSt (p : Nat) (x : Proc) : (s.setProc p x).devSt = s.devSt := (rfl)
@[simp] theorem pauseRings_devSt (paused : Bool) : (s.pauseRings paused).devSt = s.devSt := (rfl)
@[simp] theorem switchType_devSt (t : Nat) : (s.switchType t).devSt = s.devSt := by simp [State.switchType]
@[simp] theorem switchTypes_devSt (l : List Nat) : (s.switchTypes l).devSt = s.devSt := by simp [State.switchTypes]
@[simp] theorem slotEvent_devSt (detail : Nat) : (s.slotEvent detail).devSt = s.devSt := (rfl)
@[simp] theorem probation_devSt : s.probation.devSt = s.devSt := (rfl)
@[simp] theorem switchBack_devSt (l : List Nat) : (s.switchBack l).devSt = s.devSt := by simp [State.switchBack]
@[simp] theorem switchPower_devSt : s.switchPower.devSt = s.devSt := by simp [State.switchPower]
@[simp] theorem rolledBack_devSt : s.rolledBack.devSt = s.devSt := by simp [State.rolledBack]
@[simp] theorem sampleBoundary_devSt : s.sampleBoundary.devSt = s.devSt := by simp [State.sampleBoundary]
@[simp] theorem debugGrant_devSt (level : Nat) : (s.debugGrant level).devSt = s.devSt := (rfl)
@[simp] theorem settleDebug_devSt : s.settleDebug.devSt = s.devSt := by simp [State.settleDebug]

end

/-! ## Operations of Machine/Power that keep the device state -/

section
variable (s : State)

@[simp] theorem onPower_devSt (f : Power → Power) : (s.onPower f).devSt = s.devSt := (rfl)
@[simp] theorem onThermal_devSt (f : Thermal → Thermal) : (s.onThermal f).devSt = s.devSt := (rfl)
@[simp] theorem onPins_devSt (f : Pins → Pins) : (s.onPins f).devSt = s.devSt := (rfl)
@[simp] theorem onRec_devSt (f : Recorder → Recorder) : (s.onRec f).devSt = s.devSt := (rfl)
@[simp] theorem capper_devSt (w : Nat) : (s.capper w).devSt = s.devSt := (rfl)

@[simp] theorem execClusterOvercurrent_devSt (_cluster : ClusterIx) : KeepsSt s (execClusterOvercurrent _cluster s) := by
  simp [execClusterOvercurrent]

@[simp] theorem execLevel2Release_devSt : KeepsSt s (execLevel2Release s) := by simp [execLevel2Release]

@[simp] theorem darken_devSt (k n : Nat) : (State.darken k n s).devSt = s.devSt := by
  induction n generalizing s with
  | zero => rfl
  | succ n ih =>
    simp only [State.darken]
    split
    · split
      · simp [ih]
      · rfl
    · rfl

@[simp] theorem execDroop_devSt (cluster : ClusterIx) (second : Bool) (mv : Fin 65536) : KeepsSt s (execDroop cluster second mv s) := by
  simp [execDroop]

@[simp] theorem execDroopRecover_devSt (cluster : ClusterIx) : KeepsSt s (execDroopRecover cluster s) := by simp [execDroopRecover]
@[simp] theorem execDrClear_devSt (who : Fin 16) : KeepsSt s (execDrClear who s) := by simp [execDrClear]
@[simp] theorem fgSchedule_devSt (who : Nat) : (s.fgSchedule who).devSt = s.devSt := by simp [State.fgSchedule]
@[simp] theorem execFgSchedule_devSt (who : Fin 16) : KeepsSt s (execFgSchedule who s) := by simp [execFgSchedule]
@[simp] theorem runPoint_devSt (n : Nat) : (s.runPoint n).devSt = s.devSt := by simp [State.runPoint]
@[simp] theorem outOfStep_devSt : s.outOfStep.devSt = s.devSt := by simp [State.outOfStep]
@[simp] theorem performFreq_devSt (new : Nat) : (s.performFreq new).devSt = s.devSt := by simp [State.performFreq]
@[simp] theorem loseFreq_devSt (i new : Nat) : (s.loseFreq i new).devSt = s.devSt := by simp [State.loseFreq]

@[simp] theorem execPhaseEval_devSt : KeepsSt s (execPhaseEval s) := by
  rw [execPhaseEval]
  split <;> simp

@[simp] theorem trimCluster_devSt (low : Word) (k : Nat) : (State.trimCluster low s k).devSt = s.devSt := by simp [State.trimCluster]

@[simp] theorem execAgeingTrim_devSt (low : Word) : KeepsSt s (execAgeingTrim low s) := by
  rw [execAgeingTrim]
  split <;> simp

@[simp] theorem powered_devSt (code : Nat) : (s.powered code).devSt = s.devSt := by
  simp only [State.powered]
  split
  · split <;> simp
  · rfl

end

/-! ## Operations of Machine/Thermal that keep the device state -/

section
variable (s : State)

@[simp] theorem setSensor_devSt (n : Nat) (x : Sensor) : (s.setSensor n x).devSt = s.devSt := (rfl)

@[simp] theorem failSensor_devSt (n : Nat) (est : Int) : (s.failSensor n est).devSt = s.devSt := by
  simp only [State.failSensor]
  split
  · split
    · split <;> simp
    · simp
  · simp

@[simp] theorem checkSensor_devSt (n : Nat) (est2 : Int) : (s.checkSensor n est2).devSt = s.devSt := by simp [State.checkSensor]
@[simp] theorem checkMedian_devSt (least : Nat) (l : List Nat) : (State.checkMedian least s l).devSt = s.devSt := by simp [State.checkMedian]

@[simp] theorem checkSite_devSt (site : Nat) : (s.checkSite site).devSt = s.devSt := by
  simp only [State.checkSite]
  split
  · simp
  split <;> simp

@[simp] theorem limitSite_devSt (site : Nat) : (s.limitSite site).devSt = s.devSt := by simp [State.limitSite]
@[simp] theorem countHot_devSt (n : Nat) : (s.countHot n).devSt = s.devSt := (rfl)

@[simp] theorem thermalPeaks_devSt : s.thermalPeaks.devSt = s.devSt := by
  unfold State.thermalPeaks
  generalize List.range 1040 = sensors
  dsimp only
  split
  · rfl
  · exact onThermal_devSt ..

@[simp] theorem setBands_devSt : s.setBands.devSt = s.devSt := by simp [State.setBands]
@[simp] theorem setProfile_devSt (i : Nat) (p : Profile) : (s.setProfile i p).devSt = s.devSt := (rfl)
@[simp] theorem gather_devSt (i : Nat) : (s.gather i).devSt = s.devSt := by simp [State.gather]

@[simp] theorem execThermalCycleSample_devSt (t : Int) : KeepsSt s (execThermalCycleSample t s) := by
  simp only [execThermalCycleSample]
  split_ifs <;> simp

@[simp] theorem tpEnable_devSt (who i : Nat) : (s.tpEnable who i).devSt = s.devSt := by simp [State.tpEnable]
@[simp] theorem tpDisable_devSt (who i : Nat) : (s.tpDisable who i).devSt = s.devSt := (rfl)
@[simp] theorem execTpEnable_devSt (who : Fin 16) (profile : Fin 4) : KeepsSt s (execTpEnable who profile s) := by simp [execTpEnable]
@[simp] theorem execTpDisable_devSt (who : Fin 16) (profile : Fin 4) : KeepsSt s (execTpDisable who profile s) := by simp [execTpDisable]
@[simp] theorem execTelemetryPeriod_devSt (profile : Fin 4) : KeepsSt s (execTelemetryPeriod profile s) := by simp [execTelemetryPeriod]

end

/-! ## Operations of Machine/Reset that keep the device state -/

section
variable (s : State)

@[simp] theorem backUnit_devSt (kind i : Nat) (test pass : Bool) : (s.backUnit kind i test pass).devSt = s.devSt := by simp [State.backUnit]
@[simp] theorem absorbReset_devSt (c : Nat) : (s.absorbReset c).devSt = s.devSt := by simp [State.absorbReset]

@[simp] theorem absorbCluster_devSt (k : Nat) : (s.absorbCluster k).devSt = s.devSt := by
  rw [State.absorbCluster]
  split <;> simp

@[simp] theorem addRun_devSt (r : ResetRun) : (s.addRun r).devSt = s.devSt := (rfl)
@[simp] theorem drainCluster_devSt (k reason : Nat) : (s.drainCluster k reason).devSt = s.devSt := by simp [State.drainCluster]

@[simp] theorem usCmd_devSt (who : Nat) {k : Nat → Nat → Bool → State → State} (hk : ∀ a b c, (k a b c s).devSt = s.devSt) : (s.usCmd who k).devSt = s.devSt := by
  simp [State.usCmd, hk]

@[simp] theorem usAllowed_devSt (ok : Bool) {t : State} (ht : t.devSt = s.devSt) : (usAllowed s ok t).devSt = s.devSt := by
  simp [usAllowed, ht]

@[simp] theorem usUnfence_devSt (kind i : Nat) (test : Bool) : (State.usUnfence kind i test s).devSt = s.devSt := by simp [State.usUnfence]
@[simp] theorem usClearmm_devSt (kind i : Nat) (_test : Bool) : (State.usClearmm kind i _test s).devSt = s.devSt := (rfl)

@[simp] theorem usRun_devSt (who : Nat) {k : Nat → Nat → Bool → State → State} (hk : ∀ a b c, (k a b c s).devSt = s.devSt) : (s.usRun who k).devSt = s.devSt :=
  command_devSt s who _ _ (usCmd_devSt s who hk)

@[simp] theorem execUsUnfence_devSt (who : Fin 16) : KeepsSt s (execUsUnfence who s) := by simp [execUsUnfence]
@[simp] theorem execUsClearmm_devSt (who : Fin 16) : KeepsSt s (execUsClearmm who s) := by simp [execUsClearmm]
@[simp] theorem settleAssign_devSt : s.settleAssign.devSt = s.devSt := by simp [State.settleAssign]
@[simp] theorem fenceDrained_devSt (kind i target : Nat) : (s.fenceDrained kind i target).devSt = s.devSt := by simp [State.fenceDrained]
@[simp] theorem markDrained_devSt (r : ResetRun) : (s.markDrained r).devSt = s.devSt := (rfl)
@[simp] theorem destroyKeys_devSt (p : Nat) : (s.destroyKeys p).devSt = s.devSt := by simp [State.destroyKeys]

@[simp] theorem execStallCopyComplete_devSt (core : CoreIx) : KeepsSt s (execStallCopyComplete core s) := by
  simp only [execStallCopyComplete]
  split <;> simp

end

/-! ## Operations of Machine/Security that keep the device state -/

section
variable (s : State)

@[simp] theorem sessionFailed_devSt (n : Nat) : (s.sessionFailed n).devSt = s.devSt := by simp [State.sessionFailed]
@[simp] theorem endLapsed_devSt : s.endLapsed.devSt = s.devSt := by simp [State.endLapsed]
@[simp] theorem spdm_devSt (code : Nat) (vals : List Nat) : (s.spdm code vals).devSt = s.devSt := (rfl)
@[simp] theorem spdmError_devSt (e : Nat) : (s.spdmError e).devSt = s.devSt := (rfl)
@[simp] theorem setSpdmPeer_devSt (p : Nat) (x : SpdmPeer) : (s.setSpdmPeer p x).devSt = s.devSt := (rfl)

@[simp] theorem spdmAfter_devSt (ok : Bool) {k : State → State} (hk : (k s).devSt = s.devSt) : (s.spdmAfter ok k).devSt = s.devSt := by
  simp [State.spdmAfter, hk]

@[simp] theorem execGetVersion_devSt (peer : Fin 65536) : KeepsSt s (execGetVersion peer s) := by simp [execGetVersion]
@[simp] theorem execGetCapabilities_devSt (peer : Fin 65536) : KeepsSt s (execGetCapabilities peer s) := by simp [execGetCapabilities]

@[simp] theorem execNegotiateAlgorithms_devSt (peer : Fin 65536) (common : Bool) : KeepsSt s (execNegotiateAlgorithms peer common s) := by
  simp [execNegotiateAlgorithms]

@[simp] theorem execGetDigests_devSt (peer : Fin 65536) : KeepsSt s (execGetDigests peer s) := by simp [execGetDigests]

@[simp] theorem execGetCertificate_devSt (peer : Fin 65536) (slot : Fin 8) (offset length : Fin 65536) :
    KeepsSt s (execGetCertificate peer slot offset length s) := by
  simp [execGetCertificate]

@[simp] theorem execChallenge_devSt (peer : Fin 65536) (slot : Fin 8) : KeepsSt s (execChallenge peer slot s) := by simp [execChallenge]

@[simp] theorem execGetMeasurements_devSt (peer : Fin 65536) (index : Fin 256) : KeepsSt s (execGetMeasurements peer index s) := by
  simp only [execGetMeasurements, keepsSt_next]
  refine spdmAfter_devSt (hk := ?_) ..
  repeat' split
  all_goals simp

@[simp] theorem execKeyExchange_devSt (peer : Fin 65536) (slot : Fin 8) : KeepsSt s (execKeyExchange peer slot s) := by
  simp only [execKeyExchange, keepsSt_next]
  refine spdmAfter_devSt (hk := ?_) ..
  repeat' split
  all_goals simp

@[simp] theorem execFinish_devSt (n : Fin 8) (leaf root : Nat) (ok : Bool) : KeepsSt s (execFinish n leaf root ok s) := by simp [execFinish]

@[simp] theorem inSession_devSt (n : Nat) (ok : Bool) {k : Session → State → State} (hk : ∀ x, (k x s).devSt = s.devSt) : (s.inSession n ok k).devSt = s.devSt := by
  simp [State.inSession, hk]

@[simp] theorem execHeartbeat_devSt (n : Fin 8) (ok : Bool) : KeepsSt s (execHeartbeat n ok s) := by simp [execHeartbeat]
@[simp] theorem execKeyUpdate_devSt (n : Fin 8) (ok : Bool) : KeepsSt s (execKeyUpdate n ok s) := by simp [execKeyUpdate]
@[simp] theorem execEndSession_devSt (n : Fin 8) (ok : Bool) : KeepsSt s (execEndSession n ok s) := by simp [execEndSession]
@[simp] theorem setSeal_devSt (p : Nat) (x : Seal) : (s.setSeal p x).devSt = s.devSt := (rfl)
@[simp] theorem psSeal_devSt (who p : Nat) : (s.psSeal who p).devSt = s.devSt := by simp [State.psSeal]
@[simp] theorem execPsSeal_devSt (who : Fin 16) (part : PartIx) : KeepsSt s (execPsSeal who part s) := by simp [execPsSeal]

@[simp] theorem skRun_devSt (who : Nat) {k : Nat → Nat → State → State} (hk : ∀ a b, (k a b s).devSt = s.devSt) : (s.skRun who k).devSt = s.devSt := by
  simp [State.skRun, hk]

@[simp] theorem skInstall_devSt (who p id : Nat) : (State.skInstall who p id s).devSt = s.devSt := by simp [State.skInstall]
@[simp] theorem skDestroy_devSt (p id : Nat) : (State.skDestroy p id s).devSt = s.devSt := by simp [State.skDestroy]
@[simp] theorem skSelect_devSt (who p id : Nat) : (State.skSelect who p id s).devSt = s.devSt := (rfl)
@[simp] theorem execSkInstall_devSt (who : Fin 16) : KeepsSt s (execSkInstall who s) := by simp [execSkInstall]
@[simp] theorem execSkDestroy_devSt (who : Fin 16) : KeepsSt s (execSkDestroy who s) := by simp [execSkDestroy]
@[simp] theorem execSkSelect_devSt (who : Fin 16) : KeepsSt s (execSkSelect who s) := by simp [execSkSelect]

@[simp] theorem commitCounter_devSt (fails : Option (Fin 4 × Fin 65)) (t : Nat) : (State.commitCounter fails s t).devSt = s.devSt := by
  simp [State.commitCounter]

@[simp] theorem arCommit_devSt (fails : Option (Fin 4 × Fin 65)) : (s.arCommit fails).devSt = s.devSt := by simp [State.arCommit]
@[simp] theorem execArCommit_devSt (who : Fin 16) (fails : Option (Fin 4 × Fin 65)) : KeepsSt s (execArCommit who fails s) := by simp [execArCommit]
@[simp] theorem newChallenge_devSt : s.newChallenge.devSt = s.devSt := (rfl)
@[simp] theorem secOpRoots_devSt (bytes : List Byte) : (s.secOpRoots bytes).devSt = s.devSt := by simp [State.secOpRoots]
@[simp] theorem execSecOpRoots_devSt (who : Fin 16) (bytes : List Byte) : KeepsSt s (execSecOpRoots who bytes s) := by simp [execSecOpRoots]
@[simp] theorem secCert_devSt (chain : List Byte) : (s.secCert chain).devSt = s.devSt := by simp [State.secCert]
@[simp] theorem execSecCert_devSt (who : Fin 16) (chain : List Byte) : KeepsSt s (execSecCert who chain s) := by simp [execSecCert]

end

/-! ## Operations of Machine/Recorder that keep the device state -/

section
variable (s : State)

@[simp] theorem recState_devSt (st : Nat) : (s.recState st).devSt = s.devSt := by simp [State.recState]

@[simp] theorem execRecordFlashWrite_devSt (flash : Fin 3) : KeepsSt s (execRecordFlashWrite flash s) := by
  simp only [execRecordFlashWrite, keepsSt_next, ite_devSt]
  split
  · rfl
  split
  · simp
  split <;> simp

@[simp] theorem erClear_devSt (who : Nat) : (s.erClear who).devSt = s.devSt := by simp [State.erClear]
@[simp] theorem execErClear_devSt (who : Fin 16) : KeepsSt s (execErClear who s) := by simp [execErClear]
@[simp] theorem saveTime_devSt : s.saveTime.devSt = s.devSt := (rfl)
@[simp] theorem execOptimePersist_devSt : KeepsSt s (execOptimePersist s) := by simp [execOptimePersist]

end

/-! ## Operations of Machine/Firmware that keep the device state -/

section
variable (s : State)

@[simp] theorem onLoader_devSt (f : Loader → Loader) : (s.onLoader f).devSt = s.devSt := (rfl)
@[simp] theorem setImage_devSt (set type : Nat) (x : Image) : (s.setImage set type x).devSt = s.devSt := (rfl)
@[simp] theorem startProc_devSt (p : Nat) : (s.startProc p).devSt = s.devSt := (rfl)
@[simp] theorem solicit_devSt : s.solicit.devSt = s.devSt := (rfl)
@[simp] theorem startLoad_devSt (use name : Nat) (types : List Nat) : (s.startLoad use name types).devSt = s.devSt := (rfl)
@[simp] theorem stopLoad_devSt : s.stopLoad.devSt = s.devSt := (rfl)

@[simp] theorem issueReads_devSt (n : Nat) : (State.issueReads n s).devSt = s.devSt := by
  induction n generalizing s with
  | zero => rfl
  | succ n ih =>
    simp only [State.issueReads]
    split
    · rfl
    split
    · rfl
    · simp [ih]

@[simp] theorem bootRefusal_devSt (code : Nat) : (s.bootRefusal code).devSt = s.devSt := by simp [State.bootRefusal]
@[simp] theorem authFailedImage_devSt (t code : Nat) : (s.authFailedImage t code).devSt = s.devSt := by simp [State.authFailedImage]
@[simp] theorem loadRefused_devSt (t code version : Nat) : (s.loadRefused t code version).devSt = s.devSt := by simp [State.loadRefused]

@[simp] theorem execOffer_devSt (msg : List Byte) : KeepsSt s (execOffer msg s) := by
  simp only [execOffer]
  split
  · simp
  generalize List.find? _ _ = tooLong
  cases tooLong <;> simp

@[simp] theorem placeImages_devSt (set : Nat) : (s.placeImages set).devSt = s.devSt := by simp [State.placeImages]
@[simp] theorem startType_devSt (t : Nat) : (s.startType t).devSt = s.devSt := by simp [State.startType]

@[simp] theorem loadDone_devSt : s.loadDone.devSt = s.devSt := by
  simp only [State.loadDone]
  split
  · rfl
  split
  · simp
  · simp

@[simp] theorem execData_devSt (msg : List Byte) : KeepsSt s (execData msg s) := by
  simp only [execData]
  split <;> simp

@[simp] theorem execLoaderError_devSt (msg : List Byte) : KeepsSt s (execLoaderError msg s) := by
  rw [execLoaderError]
  split <;> simp

@[simp] theorem execSolicitRetry_devSt : KeepsSt s (execSolicitRetry s) := by simp [execSolicitRetry]
@[simp] theorem execReadRetry_devSt : KeepsSt s (execReadRetry s) := by simp [execReadRetry]
@[simp] theorem execLoaderRestart_devSt : KeepsSt s (execLoaderRestart s) := by simp [execLoaderRestart]
@[simp] theorem clearSet_devSt (set : Nat) : (s.clearSet set).devSt = s.devSt := (rfl)
@[simp] theorem fwStage_devSt : s.fwStage.devSt = s.devSt := by simp [State.fwStage]
@[simp] theorem fwDiscard_devSt : s.fwDiscard.devSt = s.devSt := by simp [State.fwDiscard]
@[simp] theorem execFwStage_devSt (who : Fin 16) : KeepsSt s (execFwStage who s) := by simp [execFwStage]
@[simp] theorem execFwDiscard_devSt (who : Fin 16) : KeepsSt s (execFwDiscard who s) := by simp [execFwDiscard]

@[simp] theorem execStageComplete_devSt : KeepsSt s (execStageComplete s) := by
  simp only [execStageComplete]
  split
  · simp
  split
  · simp
  split <;> simp

@[simp] theorem pcSchedule_devSt (who : Nat) : (s.pcSchedule who).devSt = s.devSt := by simp [State.pcSchedule]

@[simp] theorem pcCancel_devSt (who : Nat) : (s.pcCancel who).devSt = s.devSt := by
  simp only [State.pcCancel]
  split
  · simp
  split <;> simp

@[simp] theorem execPcSchedule_devSt (who : Fin 16) : KeepsSt s (execPcSchedule who s) := by simp [execPcSchedule]
@[simp] theorem execPcCancel_devSt (who : Fin 16) : KeepsSt s (execPcCancel who s) := by simp [execPcCancel]
@[simp] theorem activate_devSt (i : Nat) : (s.activate i).devSt = s.devSt := by simp [State.activate]

@[simp] theorem execActivationRearm_devSt : KeepsSt s (execActivationRearm s) := by
  simp only [execActivationRearm]
  split <;> simp

@[simp] theorem acceptSet_devSt : s.acceptSet.devSt = s.devSt := by simp [State.acceptSet]

@[simp] theorem execHealthDeadline_devSt : KeepsSt s (execHealthDeadline s) := by
  rw [execHealthDeadline]
  split_ifs <;> simp

@[simp] theorem execFwAccessFault_devSt (proc : Fin 64) (addr : Nat) (inHandler : Bool) : KeepsSt s (execFwAccessFault proc addr inHandler s) := by
  simp [execFwAccessFault]

@[simp] theorem fnTake_devSt (f : Nat) {k : Nat → List Byte → State → State} (hk : ∀ a b s, (k a b s).devSt = s.devSt) : (s.fnTake f k).devSt = s.devSt := by
  simp [State.fnTake, hk]

theorem answerWait_devSt {id from' : Nat} {t : State} (h : s.answerWait id from' = some t) : t.devSt = s.devSt := by
  simp only [State.answerWait] at h
  split at h
  · cases h
    simp
  · cases h

@[simp] theorem execFrWait_devSt : KeepsSt s (execFrWait s) := by
  simp only [execFrWait]
  split
  · split
    · next hanswer => simp [answerWait_devSt _ hanswer]
    · simp
  · rw [keepsSt_next]
    refine fnTake_devSt (hk := fun _ _ s => ?_) ..
    split
    · simp
    split
    · next hanswer => exact answerWait_devSt _ hanswer
    · simp

@[simp] theorem execFrWaitTimeout_devSt : KeepsSt s (execFrWaitTimeout s) := by
  simp only [execFrWaitTimeout]
  split
  · split
    · simp
    split
    · next hanswer => simp [answerWait_devSt _ hanswer]
    · simp
  · simp

@[simp] theorem execFrStatus_devSt : KeepsSt s (execFrStatus s) := by simp [execFrStatus]
@[simp] theorem execFrDump_devSt : KeepsSt s (execFrDump s) := by simp [execFrDump]

end

/-! ## Operations of Machine/Boot that keep the device state -/

section
variable (s : State)

@[simp] theorem loadStore_devSt : s.loadStore.devSt = s.devSt := (rfl)
@[simp] theorem loadValues_devSt : s.loadValues.devSt = s.devSt := by simp [State.loadValues]
@[simp] theorem stepRecord_devSt (o : BootOutcome) (failed : Bool) (code : Nat) : (s.stepRecord o failed code).devSt = s.devSt := (rfl)
@[simp] theorem toStep_devSt (n : Nat) : (s.toStep n).devSt = s.devSt := (rfl)
@[simp] theorem bootRom_devSt (o : BootOutcome) : (s.bootRom o).devSt = s.devSt := by simp [State.bootRom]
@[simp] theorem bootClocks_devSt (o : BootOutcome) : (s.bootClocks o).devSt = s.devSt := by simp [State.bootClocks]
@[simp] theorem calibrate_devSt (n : Nat) : (s.calibrate n).devSt = s.devSt := (rfl)
@[simp] theorem repairBank_devSt (b : Nat × Nat) : (s.repairBank b).devSt = s.devSt := by simp [State.repairBank]
@[simp] theorem repairBonds_devSt (b : Nat × Nat × Nat) : (s.repairBonds b).devSt = s.devSt := by simp [State.repairBonds]
@[simp] theorem trainStack_devSt (x : Nat × Nat × Nat) : (s.trainStack x).devSt = s.devSt := by simp [State.trainStack]
@[simp] theorem bootMemory_devSt (o : BootOutcome) : (s.bootMemory o).devSt = s.devSt := by simp [State.bootMemory]
@[simp] theorem bootLinks_devSt (o : BootOutcome) : (s.bootLinks o).devSt = s.devSt := by simp [State.bootLinks]
@[simp] theorem quietUnit_devSt (kind i st : Nat) : (s.quietUnit kind i st).devSt = s.devSt := (rfl)
@[simp] theorem pairSite_devSt (k : Nat) (x : Nat × Nat) : (State.pairSite k s x).devSt = s.devSt := (rfl)
@[simp] theorem numberCluster_devSt (k : Nat) : (s.numberCluster k).devSt = s.devSt := by simp [State.numberCluster]
@[simp] theorem applyRetired_devSt : s.applyRetired.devSt = s.devSt := by simp [State.applyRetired]
@[simp] theorem applyPartitions_devSt : s.applyPartitions.devSt = s.devSt := (rfl)

@[simp] theorem applyReservations_devSt : s.applyReservations.devSt = s.devSt := by
  rw [State.applyReservations, remapBar4_devSt]
  refine foldl_devSt (hf := fun s n => ?_) ..
  dsimp only
  split
  · rfl
  split
  · exact getD_devSt (fun _ h => rsvSet_devSt s h) rfl
  · simp

@[simp] theorem bootUnits_devSt (o : BootOutcome) : (s.bootUnits o).devSt = s.devSt := by simp [State.bootUnits]
@[simp] theorem warmRom_devSt (o : BootOutcome) : (s.warmRom o).devSt = s.devSt := (rfl)

@[simp] theorem warmCore_devSt (c : Nat) : (s.warmCore c).devSt = s.devSt := by
  simp only [State.warmCore]
  split
  · rfl
  split
  · rfl
  split
  · split <;> simp
  · simp

@[simp] theorem warmServe_devSt (kind n : Nat) : (s.warmServe kind n).devSt = s.devSt := by simp [State.warmServe]
@[simp] theorem warmUnits_devSt (o : BootOutcome) : (s.warmUnits o).devSt = s.devSt := by simp [State.warmUnits]

end

/-! ## Operations of Machine/Events that keep the device state -/

section
variable (s : State)

@[simp] theorem slotDone_devSt (i : Nat) : (s.slotDone i).devSt = s.devSt := (rfl)
@[simp] theorem handFreq_devSt (i : Nat) : (s.handFreq i).devSt = s.devSt := by simp [State.handFreq]
@[simp] theorem handGpio_devSt (i : Nat) : (s.handGpio i).devSt = s.devSt := (rfl)
@[simp] theorem handRecord_devSt (i : Nat) : (s.handRecord i).devSt = s.devSt := (rfl)
@[simp] theorem gpFunc_devSt (n f : Nat) : (s.gpFunc n f).devSt = s.devSt := by simp [State.gpFunc]
@[simp] theorem execGpFunc_devSt (who : Fin 16) (pin : Fin 8) (code : Fin 256) : KeepsSt s (execGpFunc who pin code s) := by simp [execGpFunc]
@[simp] theorem gpPeriod_devSt (v : Nat) : (s.gpPeriod v).devSt = s.devSt := by simp [State.gpPeriod]
@[simp] theorem execGpPeriod_devSt (who : Fin 16) (value : Word) : KeepsSt s (execGpPeriod who value s) := by simp [execGpPeriod]
@[simp] theorem execTriggerIn_devSt (pin : Fin 8) : KeepsSt s (execTriggerIn pin s) := by simp [execTriggerIn]
@[simp] theorem execBellOut_devSt (pin : Fin 8) : KeepsSt s (execBellOut pin s) := by simp [execBellOut]

@[simp] theorem execNeighborSolicitation_devSt (port : Fin 19) (target : Nat) : KeepsSt s (execNeighborSolicitation port target s) := by
  simp [execNeighborSolicitation]

@[simp] theorem execNeighborAdvertisement_devSt (port : Fin 19) (target : Nat) (mac : BitVec 48) :
    KeepsSt s (execNeighborAdvertisement port target mac s) := by
  simp [execNeighborAdvertisement]

@[simp] theorem execEchoRequest_devSt (port : Fin 18) (src : Nat) (body : List Byte) : KeepsSt s (execEchoRequest port src body s) := by
  simp [execEchoRequest]

@[simp] theorem execMctpControl_devSt (pcie : Bool) (eid : Option (Fin 256)) : KeepsSt s (execMctpControl pcie eid s) := by
  simp only [execMctpControl]
  split
  · simp
  cases eid <;> simp

end

/-! ## Operations of Machine/Idle that keep the device state -/

section
variable (s : State)

@[simp] theorem renewLat_devSt : s.renewLat.devSt = s.devSt := (rfl)
@[simp] theorem idle_devSt : s.idle.devSt = s.devSt := by simp [State.idle]

end

/-! ## Operations of Machine/Writes that keep the device state -/

section
variable (s : State)

@[simp] theorem storePlain_devSt (kind : OdKind) (index sub len v : Nat) : (s.storePlain kind index sub len v).devSt = s.devSt := by
  simp [State.storePlain]

@[simp] theorem storeStaged_devSt (who index sub len v : Nat) : (s.storeStaged who index sub len v).devSt = s.devSt := by simp [State.storeStaged]

@[simp] theorem writePlain_devSt (who index sub : Nat) (r : OdRow) (bytes : List Byte) : (s.writePlain who index sub r bytes).devSt = s.devSt := by
  simp only [State.writePlain]
  refine admitWrite_devSt (hk := ?_) ..
  repeat' split
  all_goals simp

@[simp] theorem execOdDefaults_devSt (who : Fin 16) : KeepsSt s (execOdDefaults who s) := by simp [execOdDefaults]
@[simp] theorem noCommand_devSt (who index : Nat) : KeepsSt s (s.noCommand who index) := by simp [State.noCommand]

end

/-! ## Operations of Machine/Dict that keep the device state -/

section
variable (s : State)

@[simp] theorem greet_devSt (who path source : Nat) : (s.greet who path source).devSt = s.devSt := by simp [State.greet]
@[simp] theorem closeTrans_devSt (who tid : Nat) : (s.closeTrans who tid).devSt = s.devSt := (rfl)
@[simp] theorem openTrans_devSt (who : Nat) (t : Trans) : (s.openTrans who t).devSt = s.devSt := (rfl)
@[simp] theorem forgetTid_devSt (who tid : Nat) : (s.forgetTid who tid).devSt = s.devSt := (rfl)

@[simp] theorem respondStatus_devSt (who : Nat) (f : DictFrame) (status : Nat) : (s.respondStatus who f status).devSt = s.devSt := by
  simp [State.respondStatus]

@[simp] theorem abortFrame_devSt (who : Nat) (f : DictFrame) (reason : Nat) : (s.abortFrame who f reason).devSt = s.devSt := by
  simp [State.abortFrame]

@[simp] theorem sendSegment_devSt (who : Nat) (f : DictFrame) (index sub k : Nat) (b : List Byte) :
    (s.sendSegment who f index sub k b).devSt = s.devSt := by
  simp [State.sendSegment]

@[simp] theorem readFrameOp_devSt (who : Nat) (f : DictFrame) : (s.readFrameOp who f).devSt = s.devSt := by
  simp only [State.readFrameOp]
  split
  · simp
  split <;> simp

@[simp] theorem nextFrameOp_devSt (who : Nat) (f : DictFrame) : (s.nextFrameOp who f).devSt = s.devSt := by
  rw [State.nextFrameOp]
  split <;> simp

@[simp] theorem execTransactionTimeout_devSt (who : Fin 16) (tid : Fin 256) : KeepsSt s (execTransactionTimeout who tid s) := by
  rw [execTransactionTimeout]
  split <;> simp

@[simp] theorem execRequesterExpiry_devSt (who : Fin 16) : KeepsSt s (execRequesterExpiry who s) := by simp [execRequesterExpiry]
@[simp] theorem execPersistRetry_devSt : KeepsSt s (execPersistRetry s) := by simp [execPersistRetry]

end

/-! ## Operations of Machine/Registers that keep the device state -/

section
variable (s : State)

@[simp] theorem bar0Word_devSt (off w : Nat) : (s.bar0Word off w).devSt = s.devSt := by simp [State.bar0Word]
@[simp] theorem bar0Write_devSt (off : Nat) (bytes : List Byte) : (s.bar0Write off bytes).devSt = s.devSt := by simp [State.bar0Write]
@[simp] theorem accessFault_devSt (by' : Nat) : (s.accessFault by').devSt = s.devSt := (rfl)
@[simp] theorem coreWindow_devSt (by' c off : Nat) (bytes : List Byte) : (s.coreWindow by' c off bytes).devSt = s.devSt := by simp [State.coreWindow]
@[simp] theorem clusterWord_devSt (k off w : Nat) : (s.clusterWord k off w).devSt = s.devSt := by simp [State.clusterWord]

@[simp] theorem clusterWindow_devSt (by' k off : Nat) (bytes : List Byte) : (s.clusterWindow by' k off bytes).devSt = s.devSt := by
  simp [State.clusterWindow]

@[simp] theorem subWrite_devSt (who index sub : Nat) (bytes : List Byte) : (s.subWrite who index sub bytes).devSt = s.devSt := by
  simp only [State.subWrite]
  split
  · rfl
  split
  · simp
  split
  · split
    · rfl
    split <;> simp
  · split <;> simp

@[simp] theorem execRegisterWrite_devSt (target : RegTarget) (bytes : List Byte) : KeepsSt s (execRegisterWrite target bytes s) := by
  simp only [execRegisterWrite]
  split <;> simp

end

/-! ## Operations of Machine/TrayControl that keep the device state -/

section
variable (s : State)

@[simp] theorem control_devSt (c slot : Nat) (p : BitVec 54) (code : Nat) {k : Launch → Tray → State → Option State}
    (hk : ∀ l t s u, k l t s = some u → u.devSt = s.devSt) : (s.control c slot p code k).devSt = s.devSt := by
  refine trayDo_devSt s c slot (fun s => ?_)
  dsimp only
  split
  · simp
  split
  · simp
  split
  · next hsome => exact hk _ _ _ _ hsome
  · simp

@[simp] theorem execTJmp_devSt (core : CoreIx) (slot : Fin 16) (p : BitVec 54) : KeepsSt s (execTJmp core slot p s) := by
  refine control_devSt (hk := fun l t s u h => ?_) ..
  cases h
  simp

@[simp] theorem execTJmpi_devSt (core : CoreIx) (slot : Fin 16) (p : BitVec 54) : KeepsSt s (execTJmpi core slot p s) := by
  simp only [execTJmpi, keepsSt_next]
  refine trayDo_devSt (hk := fun s => ?_) ..
  repeat' split
  all_goals simp

@[simp] theorem execTSsy_devSt (core : CoreIx) (slot : Fin 16) (p : BitVec 54) : KeepsSt s (execTSsy core slot p s) := by
  refine control_devSt (hk := fun l t s u h => ?_) ..
  obtain ⟨v, hpush, rfl⟩ := Option.map_eq_some_iff.1 h
  simp [maskPush_devSt (h := hpush)]

@[simp] theorem execTBrd_devSt (core : CoreIx) (slot : Fin 16) (p : BitVec 54) : KeepsSt s (execTBrd core slot p s) := by
  refine control_devSt (hk := fun l t s u h => ?_) ..
  dsimp only at h
  split at h
  · cases h
    simp
  split at h
  · cases h
    simp
  · obtain ⟨v, hpush, rfl⟩ := Option.map_eq_some_iff.1 h
    simp [maskPush_devSt (h := hpush)]

@[simp] theorem execTBrk_devSt (core : CoreIx) (slot : Fin 16) (p : BitVec 54) : KeepsSt s (execTBrk core slot p s) := by
  refine control_devSt (hk := fun l t s u h => ?_) ..
  dsimp only at h
  split at h
  · simp [popContinue_devSt _ h]
  · cases h
    simp

@[simp] theorem execTSync_devSt (core : CoreIx) (slot : Fin 16) (p : BitVec 54) : KeepsSt s (execTSync core slot p s) :=
  control_devSt (hk := fun _ _ s _ h => popContinue_devSt s h) ..

@[simp] theorem execTExit_devSt (core : CoreIx) (slot : Fin 16) (p : BitVec 54) : KeepsSt s (execTExit core slot p s) := by
  refine control_devSt (hk := fun l t s u h => ?_) ..
  simp [popContinue_devSt _ h]

@[simp] theorem execTProgress_devSt (core : CoreIx) (slot : Fin 16) (p : BitVec 54) : KeepsSt s (execTProgress core slot p s) := by
  refine control_devSt (hk := fun l t s u h => ?_) ..
  cases h
  simp

end

/-! ## Operations of Machine/TrayFloat that keep the device state -/

section
variable (s : State)

@[simp] theorem execTFadd_devSt (core : CoreIx) (slot : Fin 16) (p : BitVec 54) : KeepsSt s (execTFadd core slot p s) := by simp [execTFadd]
@[simp] theorem execTFsub_devSt (core : CoreIx) (slot : Fin 16) (p : BitVec 54) : KeepsSt s (execTFsub core slot p s) := by simp [execTFsub]
@[simp] theorem execTFmul_devSt (core : CoreIx) (slot : Fin 16) (p : BitVec 54) : KeepsSt s (execTFmul core slot p s) := by simp [execTFmul]
@[simp] theorem execTFmin_devSt (core : CoreIx) (slot : Fin 16) (p : BitVec 54) : KeepsSt s (execTFmin core slot p s) := by simp [execTFmin]
@[simp] theorem execTFmax_devSt (core : CoreIx) (slot : Fin 16) (p : BitVec 54) : KeepsSt s (execTFmax core slot p s) := by simp [execTFmax]
@[simp] theorem execTFabs_devSt (core : CoreIx) (slot : Fin 16) (p : BitVec 54) : KeepsSt s (execTFabs core slot p s) := by simp [execTFabs]
@[simp] theorem execTFneg_devSt (core : CoreIx) (slot : Fin 16) (p : BitVec 54) : KeepsSt s (execTFneg core slot p s) := by simp [execTFneg]
@[simp] theorem execTFrcp_devSt (core : CoreIx) (slot : Fin 16) (p : BitVec 54) : KeepsSt s (execTFrcp core slot p s) := by simp [execTFrcp]
@[simp] theorem execTFsqrt_devSt (core : CoreIx) (slot : Fin 16) (p : BitVec 54) : KeepsSt s (execTFsqrt core slot p s) := by simp [execTFsqrt]
@[simp] theorem execTFrsqrt_devSt (core : CoreIx) (slot : Fin 16) (p : BitVec 54) : KeepsSt s (execTFrsqrt core slot p s) := by simp [execTFrsqrt]
@[simp] theorem execTFexp2_devSt (core : CoreIx) (slot : Fin 16) (p : BitVec 54) : KeepsSt s (execTFexp2 core slot p s) := by simp [execTFexp2]
@[simp] theorem execTFlog2_devSt (core : CoreIx) (slot : Fin 16) (p : BitVec 54) : KeepsSt s (execTFlog2 core slot p s) := by simp [execTFlog2]
@[simp] theorem execTFtanh_devSt (core : CoreIx) (slot : Fin 16) (p : BitVec 54) : KeepsSt s (execTFtanh core slot p s) := by simp [execTFtanh]

@[simp] theorem execTFlogistic_devSt (core : CoreIx) (slot : Fin 16) (p : BitVec 54) : KeepsSt s (execTFlogistic core slot p s) := by
  simp [execTFlogistic]

@[simp] theorem execTFrint_devSt (core : CoreIx) (slot : Fin 16) (p : BitVec 54) : KeepsSt s (execTFrint core slot p s) := by simp [execTFrint]
@[simp] theorem execTFlt_devSt (core : CoreIx) (slot : Fin 16) (p : BitVec 54) : KeepsSt s (execTFlt core slot p s) := by simp [execTFlt]
@[simp] theorem execTFle_devSt (core : CoreIx) (slot : Fin 16) (p : BitVec 54) : KeepsSt s (execTFle core slot p s) := by simp [execTFle]
@[simp] theorem execTFeq_devSt (core : CoreIx) (slot : Fin 16) (p : BitVec 54) : KeepsSt s (execTFeq core slot p s) := by simp [execTFeq]
@[simp] theorem execTFfma_devSt (core : CoreIx) (slot : Fin 16) (p : BitVec 54) : KeepsSt s (execTFfma core slot p s) := by simp [execTFfma]

@[simp] theorem convert_devSt (c slot : Nat) (p : BitVec 54) (f : Nat → Word → FpRes) : (s.convert c slot p f).devSt = s.devSt := by
  simp [State.convert]

@[simp] theorem execTF2x_devSt (core : CoreIx) (slot : Fin 16) (p : BitVec 54) : KeepsSt s (execTF2x core slot p s) := by simp [execTF2x]
@[simp] theorem execTX2f_devSt (core : CoreIx) (slot : Fin 16) (p : BitVec 54) : KeepsSt s (execTX2f core slot p s) := by simp [execTX2f]

@[simp] theorem execTMovs_devSt (core : CoreIx) (slot : Fin 16) (p : BitVec 54) : KeepsSt s (execTMovs core slot p s) := by
  simp only [execTMovs, keepsSt_next]
  refine trayDo_devSt (hk := fun s => ?_) ..
  split <;> simp

end

/-! ## Operations of Machine/TrayInt that keep the device state -/

section
variable (s : State)

@[simp] theorem execTAdd_devSt (core : CoreIx) (slot : Fin 16) (p : BitVec 54) : KeepsSt s (execTAdd core slot p s) := by simp [execTAdd]
@[simp] theorem execTSub_devSt (core : CoreIx) (slot : Fin 16) (p : BitVec 54) : KeepsSt s (execTSub core slot p s) := by simp [execTSub]
@[simp] theorem execTMul_devSt (core : CoreIx) (slot : Fin 16) (p : BitVec 54) : KeepsSt s (execTMul core slot p s) := by simp [execTMul]
@[simp] theorem execTMin_devSt (core : CoreIx) (slot : Fin 16) (p : BitVec 54) : KeepsSt s (execTMin core slot p s) := by simp [execTMin]
@[simp] theorem execTMax_devSt (core : CoreIx) (slot : Fin 16) (p : BitVec 54) : KeepsSt s (execTMax core slot p s) := by simp [execTMax]
@[simp] theorem execTMinu_devSt (core : CoreIx) (slot : Fin 16) (p : BitVec 54) : KeepsSt s (execTMinu core slot p s) := by simp [execTMinu]
@[simp] theorem execTMaxu_devSt (core : CoreIx) (slot : Fin 16) (p : BitVec 54) : KeepsSt s (execTMaxu core slot p s) := by simp [execTMaxu]
@[simp] theorem execTAnd_devSt (core : CoreIx) (slot : Fin 16) (p : BitVec 54) : KeepsSt s (execTAnd core slot p s) := by simp [execTAnd]
@[simp] theorem execTOr_devSt (core : CoreIx) (slot : Fin 16) (p : BitVec 54) : KeepsSt s (execTOr core slot p s) := by simp [execTOr]
@[simp] theorem execTXor_devSt (core : CoreIx) (slot : Fin 16) (p : BitVec 54) : KeepsSt s (execTXor core slot p s) := by simp [execTXor]
@[simp] theorem execTShl_devSt (core : CoreIx) (slot : Fin 16) (p : BitVec 54) : KeepsSt s (execTShl core slot p s) := by simp [execTShl]
@[simp] theorem execTShr_devSt (core : CoreIx) (slot : Fin 16) (p : BitVec 54) : KeepsSt s (execTShr core slot p s) := by simp [execTShr]
@[simp] theorem execTSar_devSt (core : CoreIx) (slot : Fin 16) (p : BitVec 54) : KeepsSt s (execTSar core slot p s) := by simp [execTSar]
@[simp] theorem execTAdd64_devSt (core : CoreIx) (slot : Fin 16) (p : BitVec 54) : KeepsSt s (execTAdd64 core slot p s) := by simp [execTAdd64]
@[simp] theorem execTSub64_devSt (core : CoreIx) (slot : Fin 16) (p : BitVec 54) : KeepsSt s (execTSub64 core slot p s) := by simp [execTSub64]
@[simp] theorem execTMin64_devSt (core : CoreIx) (slot : Fin 16) (p : BitVec 54) : KeepsSt s (execTMin64 core slot p s) := by simp [execTMin64]
@[simp] theorem execTMax64_devSt (core : CoreIx) (slot : Fin 16) (p : BitVec 54) : KeepsSt s (execTMax64 core slot p s) := by simp [execTMax64]
@[simp] theorem execTLt_devSt (core : CoreIx) (slot : Fin 16) (p : BitVec 54) : KeepsSt s (execTLt core slot p s) := by simp [execTLt]
@[simp] theorem execTLe_devSt (core : CoreIx) (slot : Fin 16) (p : BitVec 54) : KeepsSt s (execTLe core slot p s) := by simp [execTLe]
@[simp] theorem execTEq_devSt (core : CoreIx) (slot : Fin 16) (p : BitVec 54) : KeepsSt s (execTEq core slot p s) := by simp [execTEq]
@[simp] theorem execTLtu_devSt (core : CoreIx) (slot : Fin 16) (p : BitVec 54) : KeepsSt s (execTLtu core slot p s) := by simp [execTLtu]
@[simp] theorem execTLeu_devSt (core : CoreIx) (slot : Fin 16) (p : BitVec 54) : KeepsSt s (execTLeu core slot p s) := by simp [execTLeu]
@[simp] theorem execTLt64_devSt (core : CoreIx) (slot : Fin 16) (p : BitVec 54) : KeepsSt s (execTLt64 core slot p s) := by simp [execTLt64]
@[simp] theorem execTEq64_devSt (core : CoreIx) (slot : Fin 16) (p : BitVec 54) : KeepsSt s (execTEq64 core slot p s) := by simp [execTEq64]
@[simp] theorem execTPand_devSt (core : CoreIx) (slot : Fin 16) (p : BitVec 54) : KeepsSt s (execTPand core slot p s) := by simp [execTPand]
@[simp] theorem execTPor_devSt (core : CoreIx) (slot : Fin 16) (p : BitVec 54) : KeepsSt s (execTPor core slot p s) := by simp [execTPor]
@[simp] theorem execTPnot_devSt (core : CoreIx) (slot : Fin 16) (p : BitVec 54) : KeepsSt s (execTPnot core slot p s) := by simp [execTPnot]
@[simp] theorem execTMov_devSt (core : CoreIx) (slot : Fin 16) (p : BitVec 54) : KeepsSt s (execTMov core slot p s) := by simp [execTMov]
@[simp] theorem execTSel_devSt (core : CoreIx) (slot : Fin 16) (p : BitVec 54) : KeepsSt s (execTSel core slot p s) := by simp [execTSel]

end

/-! ## The operations that give the device another state (R593) -/

section
variable {s : State}

/-- A step to a state whose device state is one of Table 21-1. -/
def KnownSt : Res → Prop
  | .next t => t.devSt ≤ 5
  | _ => True

@[simp] theorem knownSt_next (t : State) : KnownSt (.next t) ↔ t.devSt ≤ 5 := Iff.rfl

@[simp] theorem knownSt_ite (c : Prop) [Decidable c] (q r : Res) : KnownSt (if c then q else r) ↔ if c then KnownSt q else KnownSt r := by
  split <;> rfl

@[simp] theorem ite_le_five (c : Prop) [Decidable c] (m n : Nat) : (if c then m else n) ≤ 5 ↔ if c then m ≤ 5 else n ≤ 5 := by
  split <;> rfl

theorem foldl_known {α : Type} {f : State → α → State} (hf : ∀ s a, s.devSt ≤ 5 → (f s a).devSt ≤ 5) (l : List α) (hs : s.devSt ≤ 5) :
    (l.foldl f s).devSt ≤ 5 := by
  induction l generalizing s with
  | nil => exact hs
  | cons a l ih => exact ih (hf s a hs)

@[simp] theorem setDev_devSt (st : Nat) : (s.setDev st).devSt = st := by
  rw [← dev_st, setDev_dev]

@[simp] theorem powerOff_devSt : s.powerOff.devSt = devCold := (rfl)

@[simp] theorem devCold_le : devCold ≤ 5 := Nat.zero_le _

section
variable (hs : s.devSt ≤ 5)
include hs

theorem knownSt_of_keepsSt {r : Res} (hr : KeepsSt s r) : KnownSt r := by
  cases r with
  | next t => exact hr.trans_le hs
  | fault f => trivial
  | refused r => trivial

@[simp] theorem enterSafe_known (cause : Nat) : (s.enterSafe cause).devSt ≤ 5 := by
  simp only [State.enterSafe]
  split
  · exact hs
  · simp [devSafe]

@[simp] theorem settleUnits_known : s.settleUnits.devSt ≤ 5 := by
  simp [State.settleUnits, devDegraded, hs]

@[simp] theorem command_known (who index : Nat) (auth : Bool) {k : State → State} (hk : (k s).devSt ≤ 5) : (s.command who index auth k).devSt ≤ 5 := by
  simp [State.command, State.admitWrite, hs, hk]

@[simp] theorem lossDrained_known (m : MoveRun) : (s.lossDrained m).devSt ≤ 5 := by
  simp [State.lossDrained, hs]

@[simp] theorem moveDone_known (m : MoveRun) : (s.moveDone m).devSt ≤ 5 := by
  simp [State.moveDone, hs]

@[simp] theorem moveFailed_known (m : MoveRun) (reason : Nat) : (s.moveFailed m reason).devSt ≤ 5 := by
  simp [State.moveFailed, hs]

omit hs in
@[simp] theorem latchOff_known (trip : Bool) : (s.latchOff trip).devSt ≤ 5 := by
  simp [State.latchOff, devLatched]

/-! ### Power and temperatures -/

@[simp] theorem execPowerSample_known (vin watts : Nat) (ovr : Word) : KnownSt (execPowerSample vin watts ovr s) := by
  simp [execPowerSample, hs]

@[simp] theorem execRegulatorFail_known (reg : Fin 352) : KnownSt (execRegulatorFail reg s) := by
  simp only [execRegulatorFail]
  split
  · exact hs
  split
  · simp [hs]
  split
  · exact hs
  split
  · split
    · exact enterSafe_known (by simp [hs]) _
    · exact settleUnits_known (by simp [hs])
  · exact settleUnits_known (by simp [hs])

@[simp] theorem tryPowerup_known (a : Admit) (i : Nat) : (State.tryPowerup (s, a) i).1.devSt ≤ 5 := by
  simp only [State.tryPowerup]
  split
  · simp [hs]
  split
  · split <;> simp [hs]
  · simp [hs]

theorem foldl_tryPowerup_known (a : Admit) (l : List Nat) : (l.foldl State.tryPowerup (s, a)).1.devSt ≤ 5 := by
  induction l generalizing s a with
  | nil => exact hs
  | cons i l ih => exact ih (tryPowerup_known hs a i) _

@[simp] theorem execPowerupRetry_known (peaks : List (Nat × Nat)) : KnownSt (execPowerupRetry peaks s) :=
  foldl_tryPowerup_known hs _ _

@[simp] theorem execThermalSample_known (readings : List (Nat × Int)) (rise : List (Nat × Nat)) : KnownSt (execThermalSample readings rise s) := by
  unfold execThermalSample
  generalize List.range 1040 = sensors
  simp [hs]

@[simp] theorem execThermalTrip_known (sensor : Fin 1040) (first second : Int) : KnownSt (execThermalTrip sensor first second s) := by
  simp [execThermalTrip, hs]

end
end

/-! ## Resets, fences, losses and reconciliation keep a known device state -/

section
variable {s : State}

theorem usAllowed_known (hs : s.devSt ≤ 5) (ok : Bool) {t : State} (ht : t.devSt ≤ 5) : (usAllowed s ok t).devSt ≤ 5 := by
  simp [usAllowed, hs, ht]

theorem get_known (hs : s.devSt ≤ 5) {r : Res} (hr : KnownSt r) : (r.get s).devSt ≤ 5 := by
  cases r with
  | next t => exact hr
  | fault f => exact hs
  | refused r => exact hs

section
variable (hs : s.devSt ≤ 5)
include hs

@[simp] theorem beginCoreReset_known (c : Nat) (test : Bool) (requester : Nat) : (s.beginCoreReset c test requester).devSt ≤ 5 := by
  simp [State.beginCoreReset, hs]

@[simp] theorem beginClusterReset_known (k : Nat) (test : Bool) (requester : Nat) : (s.beginClusterReset k test requester).devSt ≤ 5 := by
  simp [State.beginClusterReset, hs]

@[simp] theorem beginPartReset_known (p requester : Nat) : (s.beginPartReset p requester).devSt ≤ 5 := by
  simp [State.beginPartReset, hs]

@[simp] theorem loseCluster_known (k : Nat) : (s.loseCluster k).devSt ≤ 5 := by
  simp [State.loseCluster, hs]

@[simp] theorem usFence_known (kind i : Nat) (test : Bool) : (State.usFence kind i test s).devSt ≤ 5 :=
  usAllowed_known hs _ (by simp [hs])

@[simp] theorem usReset_known (kind i : Nat) (test : Bool) : (State.usReset kind i test s).devSt ≤ 5 := by
  simp only [State.usReset]
  split
  · exact hs
  · exact usAllowed_known hs _ (by simp [hs])

@[simp] theorem usRetire_known (kind i : Nat) (test : Bool) : (State.usRetire kind i test s).devSt ≤ 5 := by
  simp only [State.usRetire]
  split
  · exact usAllowed_known hs _ (by simp [hs])
  split
  · split
    · exact usAllowed_known hs _ (by simp [hs])
    · exact usAllowed_known hs _ (by simp [hs])
  split
  · exact usAllowed_known hs _ (by simp [hs])
  · exact usAllowed_known hs _ (by simp [hs])

theorem usRun_known (who : Nat) {k : Nat → Nat → Bool → State → State} (hk : ∀ a b c, (k a b c s).devSt ≤ 5) : (s.usRun who k).devSt ≤ 5 :=
  command_known hs _ _ _ (by simp [State.usCmd, hs, hk])

@[simp] theorem execUsFence_known (who : Fin 16) : KnownSt (execUsFence who s) := usRun_known hs _ (usFence_known hs)

@[simp] theorem execUsReset_known (who : Fin 16) : KnownSt (execUsReset who s) := usRun_known hs _ (usReset_known hs)

@[simp] theorem execUsRetire_known (who : Fin 16) : KnownSt (execUsRetire who s) := usRun_known hs _ (usRetire_known hs)

@[simp] theorem execPtReset_known (who : Fin 16) : KnownSt (execPtReset who s) :=
  command_known hs _ _ _ (by simp [State.ptReset, hs])

@[simp] theorem execPtAssign_known (who : Fin 16) : KnownSt (execPtAssign who s) := by
  refine command_known hs _ _ _ ?_
  have howners (l : List Nat) : (l.foldl (fun s o => s.beginPartReset o 3) s).devSt ≤ 5 :=
    foldl_known (fun _ _ hs => beginPartReset_known hs _ _) l hs
  simp [State.ptAssign, hs, howners]

@[simp] theorem runDrained_known (r : ResetRun) : (s.runDrained r).devSt ≤ 5 := by
  simp only [State.runDrained]
  split
  all_goals simp [hs]

@[simp] theorem execDrainEnd_known (scope : Fin 9) (index : Nat) : KnownSt (execDrainEnd scope index s) := by
  simp only [execDrainEnd]
  split
  · split <;> simp [hs]
  · split <;> simp [hs]

@[simp] theorem partBack_known (r : ResetRun) : (s.partBack r).devSt ≤ 5 :=
  settleUnits_known (by simp [hs])

@[simp] theorem execResetEnd_known (scope : Fin 9) (index : Nat) (pass : Bool) : KnownSt (execResetEnd scope index pass s) := by
  simp only [execResetEnd]
  split
  · exact hs
  split
  all_goals simp [hs]

@[simp] theorem execCoreLoss_known (core : CoreIx) (reason : Fin 16) : KnownSt (execCoreLoss core reason s) := by
  simp [execCoreLoss, hs]

@[simp] theorem execMoveComplete_known (core : CoreIx) (pass : Bool) : KnownSt (execMoveComplete core pass s) := by
  simp only [execMoveComplete]
  split <;> simp [hs]

@[simp] theorem execClusterFail_known (cluster : ClusterIx) : KnownSt (execClusterFail cluster s) := by
  simp [execClusterFail, hs]

@[simp] theorem execBondError_known (unit : Fin 320) (group : Fin 256) (wire : Fin 34) : KnownSt (execBondError unit group wire s) := by
  simp only [execBondError]
  generalize Tab.get 0 s.dev.bondErrors ((unit.val * 256 + group.val) * 64 + wire.val) = old
  generalize decide (old ≠ 0 ∧ s.bell.count < old / 8 - 1 + 1000) = live
  generalize (if live = true then old % 8 + 1 else 1) = n
  split
  · simp [hs]
  split
  · simp [hs]
  split
  · split <;> simp [hs]
  · simp [hs]

@[simp] theorem trainPort_known (i : Nat) : (s.trainPort i).devSt ≤ 5 := by
  simp [State.trainPort, hs]

@[simp] theorem execPortFailure_known (port : Fin 18) : KnownSt (execPortFailure port s) := by
  simp [execPortFailure, hs]

@[simp] theorem execPortRetryTrain_known (port : Fin 18) : KnownSt (execPortRetryTrain port s) := by
  simp [execPortRetryTrain, hs]

@[simp] theorem execFpRetrain_known (who : Fin 16) (port : Fin 18) : KnownSt (execFpRetrain who port s) :=
  command_known hs _ _ _ (by simp [hs])

@[simp] theorem execPortTrainingEnd_known (port : Fin 18) (lanes : Fin 16) : KnownSt (execPortTrainingEnd port lanes s) := by
  simp [execPortTrainingEnd, hs]

@[simp] theorem reconcile_known (key : Nat) : (s.reconcile key).devSt ≤ 5 := by
  simp [State.reconcile, hs]

@[simp] theorem execFenceReconcile_known : KnownSt (execFenceReconcile s) :=
  foldl_known (fun _ _ hs => reconcile_known hs _) _ hs

@[simp] theorem execPsUnseal_known (who : Fin 16) (part : PartIx) : KnownSt (execPsUnseal who part s) :=
  command_known hs _ _ _ (by simp [State.psUnseal, hs])

@[simp] theorem debugToken_known (token : List Byte) : (s.debugToken token).devSt ≤ 5 := by
  simp only [State.debugToken]
  split
  · simp [hs]
  have hresets (l : List Nat) : (l.foldl (fun s p => s.beginPartReset p 2) s.newChallenge).devSt ≤ 5 :=
    foldl_known (fun _ _ hs => beginPartReset_known hs _ _) l (by simp [hs])
  simp [hs, hresets]

@[simp] theorem execDbgToken_known (who : Fin 16) (token : List Byte) : KnownSt (execDbgToken who token s) :=
  command_known hs _ _ _ (by simp [hs])

@[simp] theorem thirdRestart_known (p : Nat) : (s.thirdRestart p).devSt ≤ 5 := by
  simp [State.thirdRestart, hs]

@[simp] theorem execWatchdogExpiry_known (proc : Fin 64) (dump : List Byte) (poisoned : Bool) : KnownSt (execWatchdogExpiry proc dump poisoned s) := by
  simp [execWatchdogExpiry, hs]

/-! ## Power, boot and warm reset -/

@[simp] theorem execPwrgoodDeassert_known : KnownSt (execPwrgoodDeassert s) := by
  simp [execPwrgoodDeassert, hs]

omit hs in
@[simp] theorem execBrownout_known : KnownSt (execBrownout s) := by
  simp [execBrownout]

@[simp] theorem execColdBoot_known : KnownSt (execColdBoot s) := by
  simp [execColdBoot, hs, devBooting]

@[simp] theorem bootState_known (o : BootOutcome) : (s.bootState o).devSt ≤ 5 := by
  simp only [State.bootState]
  split
  · simp [hs]
  split
  · simp [hs]
  split
  · simp [hs]
  · rw [setDev_devSt]
    split
    · decide
    · decide

omit hs in
@[simp] theorem warmReset_known : s.warmReset.devSt ≤ 5 := by
  simp [State.warmReset, devBooting]

@[simp] theorem execDevWarmReset_known (who : Fin 16) : KnownSt (execDevWarmReset who s) :=
  command_known hs _ _ _ (by simp [hs])

@[simp] theorem warmImages_known (o : BootOutcome) : (s.warmImages o).devSt ≤ 5 := by
  simp [State.warmImages, hs]

@[simp] theorem execBootStepEnd_known (o : BootOutcome) : KnownSt (execBootStepEnd o s) := by
  simp only [execBootStepEnd]
  split
  · exact hs
  split
  all_goals simp [hs]

@[simp] theorem execScheduledEvent_known (peaks : List (Nat × Nat)) : KnownSt (execScheduledEvent peaks s) := by
  simp only [execScheduledEvent, knownSt_next]
  have hpowered (t : State) (ht : t.devSt ≤ 5) (a : Admit) (l : List Nat) : (l.foldl State.tryPowerup (t, a)).1.devSt ≤ 5 :=
    foldl_tryPowerup_known ht a l
  simp [hs, hpowered]

end
end

/-! ## The object dictionary keeps a known device state -/

section
variable {s : State}

section
variable (hs : s.devSt ≤ 5)
include hs

@[simp] theorem commandOf_known (who : Fin 16) (index sub v : Nat) (bytes : List Byte) (found : WriteFound) :
    KnownSt (s.commandOf who index sub v bytes found) := by
  simp only [State.commandOf]
  split
  all_goals simp [hs, knownSt_of_keepsSt hs]

@[simp] theorem odCommand_known (who : Fin 16) (index sub : Nat) (bytes : List Byte) (found : WriteFound) :
    KnownSt (s.odCommand who index sub bytes found) := by
  simp only [State.odCommand]
  split
  · split
    · exact knownSt_of_keepsSt hs (execRsvRelease_devSt ..)
    · exact knownSt_of_keepsSt hs (execRsvApply_devSt ..)
  split
  · split
    · exact knownSt_of_keepsSt hs (execRwEnable_devSt ..)
    · exact knownSt_of_keepsSt hs (execRwDisable_devSt ..)
    · exact knownSt_of_keepsSt hs (noCommand_devSt ..)
  split
  · split
    · exact execFpRetrain_known hs ..
    · exact knownSt_of_keepsSt hs (noCommand_devSt ..)
  split
  · split
    · exact knownSt_of_keepsSt hs (execFsStart_devSt ..)
    · exact knownSt_of_keepsSt hs (execFsStop_devSt ..)
    · exact knownSt_of_keepsSt hs (noCommand_devSt ..)
  split
  · split
    · exact knownSt_of_keepsSt hs (execFhTakeover_devSt ..)
    · exact knownSt_of_keepsSt hs (execFhDiscard_devSt ..)
    · exact knownSt_of_keepsSt hs (noCommand_devSt ..)
  split
  · split
    · exact knownSt_of_keepsSt hs (execTpEnable_devSt ..)
    · exact knownSt_of_keepsSt hs (execTpDisable_devSt ..)
    · exact knownSt_of_keepsSt hs (noCommand_devSt ..)
  split
  · split
    · exact knownSt_of_keepsSt hs (execPsSeal_devSt ..)
    · exact execPsUnseal_known hs ..
    · exact knownSt_of_keepsSt hs (noCommand_devSt ..)
  · exact commandOf_known hs ..

@[simp] theorem odPerform_known (who : Fin 16) (index sub : Nat) (bytes : List Byte) (found : WriteFound) :
    (s.odPerform who index sub bytes found).devSt ≤ 5 := by
  simp only [State.odPerform]
  split
  · exact hs
  split
  · exact get_known hs (odCommand_known hs ..)
  · simp [hs]

theorem finishWrite_known {who : Fin 16} {f : DictFrame} {index sub : Nat} {bytes : List Byte} {found : WriteFound} {t : State}
    (h : s.finishWrite who f index sub bytes found = some t) : t.devSt ≤ 5 := by
  simp only [State.finishWrite] at h
  split at h
  · cases h
  split at h
  · cases h
    simp [hs]
  · cases h
    simp [hs]

theorem addSegment_known {who : Fin 16} {f : DictFrame} {index sub total : Nat} {buf : List Byte} {found : WriteFound} {t : State}
    (h : s.addSegment who f index sub total buf found = some t) : t.devSt ≤ 5 := by
  simp only [State.addSegment] at h
  split at h
  · split at h
    · cases h
      simp [hs]
    · cases h
      simp [hs]
  split at h
  · cases h
    simp [hs]
  · exact finishWrite_known hs h

theorem writeFrameOp_known {who : Fin 16} {f : DictFrame} {found : WriteFound} {t : State} (h : s.writeFrameOp who f found = some t) :
    t.devSt ≤ 5 := by
  simp only [State.writeFrameOp] at h
  split at h
  · cases h
    simp [hs]
  split at h
  · exact addSegment_known hs h
  · cases h
    simp [hs]
  · cases h
    simp [hs]

theorem segFrameOp_known {who : Fin 16} {f : DictFrame} {found : WriteFound} {t : State} (h : s.segFrameOp who f found = some t) :
    t.devSt ≤ 5 := by
  simp only [State.segFrameOp] at h
  split at h
  · split at h
    · exact addSegment_known hs h
    · cases h
      simp [hs]
  · cases h
    simp [hs]

theorem openingFrame_known {who : Fin 16} {f : DictFrame} {found : WriteFound} {t : State} (h : s.openingFrame who f found = some t) :
    t.devSt ≤ 5 := by
  simp only [State.openingFrame] at h
  split at h
  · cases h
    simp [hs]
  split at h
  · cases h
    simp [hs]
  split at h
  · cases h
    simp [hs]
  · exact writeFrameOp_known (by simp [hs]) h

theorem requestFrame_known {who : Fin 16} {f : DictFrame} {found : WriteFound} {t : State} (h : s.requestFrame who f found = some t) :
    t.devSt ≤ 5 := by
  simp only [State.requestFrame] at h
  split at h
  · cases h
    simp [hs]
  split at h
  · cases h
    simp [hs]
  split at h
  · cases h
    exact hs
  split at h
  · exact openingFrame_known hs h
  split at h
  · exact segFrameOp_known hs h
  · cases h
    simp [hs]

theorem dictFrame_known {op path source : Nat} {b : List Byte} {found : WriteFound} {t : State} (h : s.dictFrame op path source b found = some t) :
    t.devSt ≤ 5 := by
  simp only [State.dictFrame] at h
  split at h
  · cases h
    simp [hs]
  split at h
  · cases h
    simp [hs]
  split at h
  · exact requestFrame_known (by simp [hs]) h
  · cases h
    exact hs

theorem dictFrame_getD_known {u : State} (hu : u.devSt ≤ 5) (op path source : Nat) (b : List Byte) (found : WriteFound) :
    ((s.dictFrame op path source b found).getD u).devSt ≤ 5 := by
  cases h : s.dictFrame op path source b found with
  | none => exact hu
  | some t => exact dictFrame_known hs h

theorem inSession_known (n : Nat) (ok : Bool) {k : Session → State → State} (hk : ∀ x, (k x s).devSt ≤ 5) : (s.inSession n ok k).devSt ≤ 5 := by
  simp [State.inSession, hs, hk]

@[simp] theorem takeMessage_known (op : Nat) (src : FrameSrc) (b : List Byte) (found : WriteFound) : (s.takeMessage op src b found).devSt ≤ 5 := by
  simp only [State.takeMessage]
  split
  · exact inSession_known hs _ _ (fun x => dictFrame_getD_known (by simp [hs]) (by simp [hs]) ..)
  split
  · exact hs
  · exact dictFrame_getD_known hs (by simp [hs]) ..

@[simp] theorem frameIn_known (op : Nat) (src : FrameSrc) (bytes : List Byte) (found : WriteFound) : (s.frameIn op src bytes found).devSt ≤ 5 := by
  simp only [State.frameIn]
  split
  · exact hs
  split
  · split
    · exact dictFrame_getD_known (by simp [hs]) (by simp [hs]) ..
    · exact hs
  split
  · exact hs
  split
  · exact hs
  split
  · simp [hs]
  · exact takeMessage_known hs ..

@[simp] theorem execOdRead_known (src : FrameSrc) (bytes : List Byte) : KnownSt (execOdRead src bytes s) := frameIn_known hs ..

@[simp] theorem execOdWrite_known (src : FrameSrc) (bytes : List Byte) (found : WriteFound) : KnownSt (execOdWrite src bytes found s) :=
  frameIn_known hs ..

@[simp] theorem execOdSeg_known (src : FrameSrc) (bytes : List Byte) : KnownSt (execOdSeg src bytes s) := frameIn_known hs ..

@[simp] theorem execOdNext_known (src : FrameSrc) (bytes : List Byte) : KnownSt (execOdNext src bytes s) := frameIn_known hs ..

@[simp] theorem execOdAbort_known (src : FrameSrc) (bytes : List Byte) : KnownSt (execOdAbort src bytes s) := frameIn_known hs ..

@[simp] theorem securityBack_known : s.securityBack.devSt ≤ 5 :=
  foldl_known (fun _ _ hs => takeMessage_known hs ..) _ (by simp [hs])

@[simp] theorem execHealthy_known (proc : Fin 64) : KnownSt (execHealthy proc s) := by
  simp [execHealthy, hs]

/-! ## The invariant over every step -/

theorem exec_known (c : Instr) : KnownSt (exec c s) := by
  cases c
  all_goals simp [hs, knownSt_of_keepsSt hs]

theorem step_known : KnownSt (step s) := by
  rw [step]
  split
  · exact exec_known (by simp [hs]) _
  · simp [hs]

end
end

/-! ## DEVSTATE of BAR0 -/

theorem maskOf_lt (n : Nat) (p : Nat → Bool) : maskOf n p < 2 ^ n := by
  induction n with
  | zero => exact Nat.zero_lt_one
  | succ n ih =>
    rw [maskOf] at ih ⊢
    rw [List.range_succ, List.foldl_append, List.foldl_cons, List.foldl_nil]
    split <;> omega

theorem speedCode_lt (mts : Nat) : speedCode mts < 2 ^ 8 := by
  rw [speedCode]
  split_ifs <;> decide

/-- The fields of DEVSTATE do not meet. -/
theorem devstate_fields (s : State) (hs : s.devSt ≤ 5) : natBits 23 20 s.devstate = s.devSt ∧ natBits 31 24 s.devstate = 0x96 := by
  have hparts := maskOf_lt 4 s.partResetting
  have hspeed : (if s.host.lanes = 0 then 0 else speedCode s.host.speed) < 2 ^ 8 := by
    have := speedCode_lt s.host.speed
    split <;> omega
  simp only [natBits, State.devstate, dev_st]
  omega

/-- Settles O3: every command either keeps the device state or sets one of the six codes. -/
theorem deviceStates : Obligations.DeviceStates := by
  unfold Obligations.DeviceStates
  refine ⟨fun s t hs hstep => ?_, fun s hs => devstate_fields s hs, fun s who => rfl⟩
  have hknown := step_known hs
  rw [hstep] at hknown
  exact hknown

end Sys2Proof.Laws
end
